-- ==== Sys2Proof/Word.lean ====
section
/-! DEFINITION. The byte and word types of the QN7100 model and the sparse table type its state is built from. -/

namespace Sys2Proof

/-- A byte, as the manual counts them (R9, R10). -/
abbrev Byte := BitVec 8

/-- A run of bytes, the lowest address first. -/
abbrev Bytes := List Byte

/-- What the device gets when it reads host memory: the bytes, or `none` when the read failed (R492). -/
abbrev HostRead := Option Bytes

/-- A sparse table: pairs of index and entry, indexes strictly rising, no entry equal to the table's default. -/
abbrev Tab (α : Type) := List (Nat × α)

end Sys2Proof
end

