-- ==== Sys2Proof/Syntax.lean ====
section
/-! DEFINITION. The commands the QN7100 takes: one constructor of `Instr` for each row of spec/opcode_table.json, and the
types of their operands. What only the outside of the package decides (what a partner sent, what a sensor read, what a
parse of unstated graph gave) is an operand. -/

namespace Sys2Proof

/-- Where a WCP command was taken from: a submission ring, by its tag (R490), or a direct mailbox (R483). -/
inductive Src where
  | ring (tag : Nat)
  | mbox (m : Fin 8)
  deriving DecidableEq, Repr

/-- What MACsec finds on a received frame (R631). -/
structure MacsecRx where
  isProtected : Bool
  chan : Fin 4
  an : Fin 4
  pn : Nat
  icvOk : Bool
  deriving DecidableEq, Repr

/-- A frame as the MAC delivers it: its bytes from the destination address through the FCS, and the outcome of stage 2 that no
command configures (Table 4.1; log 44). -/
structure RxFrame where
  /-- Frame length, R8. -/
  len : Nat
  raw : Bytes
  fcsOk : Bool
  macsec : MacsecRx
  /-- MPLS label space of the interface (Table 5.1). -/
  labelSpace : Nat
  /-- Stage 2: VLAN admitted on the port, VRF, service instance, routed or bridged, flood group. -/
  vlanAdmit : Bool
  vrf : Nat
  svc : Nat
  routed : Bool
  flood : Nat
  /-- Table profile of the ingress logical interface (R185). -/
  profile : Nat
  /-- Search key of the ingress ACL, from the parsed fields. -/
  aclKey : Nat
  /-- Key of the FLOW table, from the parsed fields. -/
  flowKey : Nat
  /-- The policer selected by port, VLAN and class (R134). -/
  pol1 : Option Nat
  /-- Counter pairs of port and class, and of route or label (R135), when configured. -/
  cntPort : Option Nat
  cntRoute : Option Nat
  deriving DecidableEq, Repr

/-- What a function does to a frame's bytes (R209): at an offset, bytes removed and bytes put in. -/
structure FrameEdit where
  off : Nat
  removed : Nat
  insert : Bytes
  deriving DecidableEq, Repr

/-- An access a function makes besides its emits and posts (R208): a user trace record, writes and reads of its frame window, its
module's data SRAM and its HBM area, and lookups. -/
inductive Access where
  | user (data : Bytes)
  | window (off : Nat) (data : Bytes)
  | readWindow (off n : Nat)
  | data (off : Nat) (b : Bytes)
  | readData (off n : Nat)
  | area (off : Nat) (b : Bytes)
  | readArea (off n : Nat)
  | lpm (v6 : Bool) (vrf da : Nat)
  | em (table key : Nat)
  | ext (table key : Nat)
  deriving DecidableEq, Repr

/-- The two words a received training frame carries (Table 2.5): control and status. -/
structure TrainWords where
  control : BitVec 32
  status : BitVec 32
  deriving DecidableEq, Repr

/-- A lane's own receiver: what it wants of the partner's taps (requests in bits 7:0, the preset in bit 8) and whether it is ready. -/
structure LaneRx where
  adapt : BitVec 9
  ready : Bool
  deriving DecidableEq, Repr

/-- An entry of the MSI-X table as the host writes it: message address, message data and mask. -/
structure MsixWrite where
  addr : BitVec 64
  data : BitVec 32
  masked : Bool
  deriving DecidableEq, Repr

/-- What a channel's boot ROM and firmware find in a triad restart: its self-test passes (Table 18.3, step 2), and the controller swaps
of an activation went well (R597). -/
structure ChanReturn where
  pass : Bool
  swapOk : Bool
  deriving DecidableEq, Repr

/-- Where an emitted frame goes: a pipeline's emit queue, with a next hop (R210). -/
structure EmitTo where
  pl : Fin 32
  nh : Nat
  deriving DecidableEq, Repr

/-- The issue a thread is at: program offset, address, and issues spent (Table 6.7). -/
structure IssueAt where
  offset : Nat
  addr : Nat
  issues : Nat
  deriving DecidableEq, Repr

/-- A destination in a verdict (R112, R129): a global port or a multicast group. -/
inductive Dest where
  | port (g : Nat)
  | group (m : Nat)
  deriving DecidableEq, Repr

/-- A packet-engine verdict (R129, R213). -/
inductive Verdict where
  | cont (dest : Option Dest) (cls : Option (Fin 8)) (nh : Option Nat) (encap : Option Nat) (mirror : Option (Fin 32))
      (edit : FrameEdit)
  | punt (trap : Fin 256)
  | discard
  | endTrigger
  deriving DecidableEq, Repr

/-- How a thread ends: the accesses its invocation made, its verdict, and the issue it is at. -/
structure ThreadEnd where
  acts : List Access
  verdict : Verdict
  at_ : IssueAt
  deriving DecidableEq, Repr

/-- The reply of an extended lookup (R169, R172): both buckets read, both copies bad, or the entry found. -/
inductive ExtReply where
  | buckets
  | eccBoth
  deriving DecidableEq, Repr

/-- A register of the configuration space that Table 15.1 speaks of: the identifiers, the command register, the class code with the revision,
the halves of the two BARs, the other BARs, the expansion ROM, the interrupt pin, the MSI-X control, table and pending-bit words, the
power state, the device control, and any other. -/
inductive CfgReg where
  | ids | command | classRev
  | bar (two high : Bool)
  | otherBar | rom | intPin
  | msixControl | msixTable | msixPba
  | powerState | deviceControl
  | other
  deriving DecidableEq, Repr

/-- A PCIe configuration request (R477, R494, R501): a read of a register, or a write of a BAR, of memory enable, of the payload sizes, of
the MSI-X control or of another field. -/
inductive CfgReq where
  | read (r : CfgReg)
  | bar (two : Bool) (base : BitVec 64)
  | memEnable (on : Bool)
  | sizes (mps mrrs : BitVec 3)
  | msixControl (enable functionMask : Bool)
  | busMasterEnable
  | d0
  | other
  deriving DecidableEq, Repr

/-- SMBus protocols of the health set (Table 15.18). -/
inductive SmbProto where
  | byte | word | block
  deriving DecidableEq, Repr

/-- What the board and the dies present at bring-up (R582, R589, R592, R346). -/
structure BootEnv where
  bootSrc : Fin 4
  smbAddr : Fin 4
  railsValid : Bool
  romOk : Bool
  /-- Control channels A, B, C that pass phase 0x3. -/
  chanPass : Bool × Bool × Bool
  /-- HBM channels that fail training three times. -/
  trainFail : List (Fin 256)
  /-- Stacks whose warm-up ended after 20 s below +10 °C, with the temperature of each. -/
  cold : List (Nat × Int)
  /-- Fabric links whose optical engine has light. -/
  light : List (Fin 512)
  /-- Pipelines and engines that fail phase 0xA. -/
  pipeFail : List (Fin 32)
  engFail : List (Fin 64)
  /-- A tamper source that fires before READY, and the BOOT_PHASE then driven. -/
  tamper : Option (Fin 16 × Fin 16)
  /-- Milliseconds from PCIE_PERST_N deassertion to the end of bring-up. -/
  readyMs : Nat
  /-- Milliseconds spent in phases 0x9 and 0xA (R581). -/
  timeMs : Fin 3001
  /-- Configuration region of the booted slot holds a readable copy (R594). -/
  cfgReadable : Bool
  deriving DecidableEq, Repr

/-- One lane's measurement (Table 2.11). -/
structure LaneMeas where
  il : Nat
  /-- The reflections the receiver finds: delay from the main cursor in symbol times, amplitude in 0.1 dB. -/
  refl : List (Nat × Int)
  snr : Nat
  deriving DecidableEq, Repr

/-- The defects of Table 3.4. -/
inductive Defect where
  | los | lof | lom | ais | bdi | tim | loa | lf | rf
  deriving DecidableEq, Repr

/-- One received OTUC frame period: per-slice FAS and MFAS, and the overhead fields (R72-R75, R80). -/
structure OtucIn where
  fas : List Bool
  /-- Skew between the slices in ns (R72). -/
  skewNs : Nat
  mfas : Nat
  /-- BIP-8 violations and BEI of each slice. -/
  bip8 : List Nat
  bei : List Nat
  bdi : Bool
  stat : Nat
  tti : Byte
  deriving DecidableEq, Repr

/-- A die-bridge flit: its link sequence number, payload, and whether its CRC passes (R20). -/
structure Flit where
  seq : Nat
  crcOk : Bool
  ackSeq : Nat
  data : Bytes
  deriving DecidableEq, Repr

/-- Pipeline failure causes (Table 4.10). -/
inductive PipeCause where
  | uncorrectable | stall | selfTest
  deriving DecidableEq, Repr

/-- A structure that may hold an uncorrectable word, or a TCAM entry disabled after a false hit, until firmware rewrites it
from its shadow (R181, R184, R176, R274, R312). -/
inductive ShadowItem where
  | tcam (idx : Nat)
  | lpm (vrf : Nat)
  | em (table slot : Nat)
  | emOvf (table pos : Nat)
  | ext (table slot : Nat)
  | nh (i : Nat)
  | ecmp (g : Nat)
  | encap (i : Nat)
  | policer (i : Nat)
  | queueCfg (qid : Nat)
  | node (n : Nat)
  | word (addr : Nat)
  deriving DecidableEq, Repr

/-- The engine failure causes of R220. -/
inductive EngCause where
  | supervisor | programMemory | selfTest
  deriving DecidableEq, Repr

/-- Credit messages, Table 8.3. -/
structure CreditMsg where
  srcDev : Nat
  voq : Nat
  value : Nat
  seq : Nat
  deriving DecidableEq, Repr

/-- An HBM request as presented at its port (R334, R340): one 256-byte unit and a mask of its 32-byte granules. -/
structure HbmReq where
  port : Fin 8
  addr : Nat
  write : Bool
  granules : BitVec 8
  data : Bytes
  bank : Nat
  deriving DecidableEq, Repr

/-- What the DRAM access met, granule by granule (R342, R349): nothing, a correctable or uncorrectable error, poison; or a
command/address parity error. -/
inductive HbmMeet where
  | ok | ce | ue | poison | parity
  deriving DecidableEq, Repr

/-- Header and content of a fabric cell (Table 12.2). -/
structure FabCell where
  kind : Fin 4
  cls : Nat
  parity : Bool
  abort : Bool
  firstHdr : Option Nat
  ackValid : Bool
  resent : Bool
  payLen : Nat
  srcDev : Nat
  dstDev : Nat
  dstSlice : Fin 32
  srcSlice : Fin 32
  prio : Nat
  fabSeq : Nat
  linkSeq : Nat
  ackSeq : Nat
  /-- The hcs field; it is checked against the header bytes (R392). -/
  hcs : BitVec 16
  fecOk : Bool
  payload : Bytes
  deriving DecidableEq, Repr

/-- DISCOVER (R403). -/
structure DiscoverMsg where
  isDevice : Bool
  id : Nat
  plane : Nat
  port : Nat
  deriving DecidableEq, Repr

/-- Causes of a link going down (Table 12.10). -/
inductive LinkCause where
  | signal | replays | notice | duplicateId | qualification
  deriving DecidableEq, Repr

/-- EPOCH_PREPARE (Table 12.5). -/
structure PrepareMsg where
  src : Nat
  epoch : Nat
  kinds : Nat
  at_ns : Nat
  classMap : List Nat
  excluded : Nat
  term : Nat
  deriving DecidableEq, Repr

/-- OBSERVATION (Table 12.5). -/
structure ObservationMsg where
  src : Nat
  subjKind : Nat
  kind : Nat
  subj : Nat
  epoch : Nat
  time : Nat
  deriving DecidableEq, Repr

/-- A timestamp or time value: seconds, nanoseconds, 2^-16 ns (R422). -/
structure Ts where
  s : Nat
  ns : Nat
  frac : Nat
  deriving DecidableEq, Repr

/-- The data set an Announce carries (R432, R451). -/
structure AnnounceMsg where
  gm : Nat
  prio1 : Nat
  prio2 : Nat
  clockClass : Nat
  accuracy : Nat
  variance : Nat
  stepsRemoved : Nat
  srcId : Nat
  srcPort : Nat
  utcOffset : Option Int
  leap61 : Bool
  leap59 : Bool
  deriving DecidableEq, Repr

/-- A PTP event or general message as it arrives at a port; an event message is timestamped as it arrives (R30, R426, R432). -/
structure PtpMsg where
  domain : Nat
  seq : Nat
  twoStep : Bool
  /-- originTimestamp or the time the message carries, in ticks. -/
  origin : Int
  /-- correctionField, in ticks. -/
  corr : Int
  srcId : Nat
  srcPort : Nat
  deriving DecidableEq, Repr

/-- Peer-delay messages (R432). -/
inductive PdelayKind where
  | req | resp | respFollowUp
  deriving DecidableEq, Repr

/-- TIME_SYNC (Table 13.3); the receiver takes its arrival time from Transit (R30, R452). -/
structure TimeSyncMsg where
  root : Nat
  seq : Nat
  link : Fin 512
  resent : Bool
  origin : Int
  corr : Int
  utc : Int
  leap61 : Bool
  leap59 : Bool
  timeTraceable : Bool
  freqTraceable : Bool
  clockClass : Nat
  deriving DecidableEq, Repr

/-- TIME_CANDIDATE (Table 13.3). -/
structure CandidateMsg where
  src : Nat
  kind : Nat
  prio : Nat
  clockClass : Nat
  accuracy : Nat
  variance : Nat
  gm : Nat
  steps : Nat
  /-- It came in a cell with resent = 1 (R452). -/
  resent : Bool := false
  deriving DecidableEq, Repr

/-- Receive time and correction of a TIME_DELAY_RESP, in ticks (Table 13.3). -/
structure RespTime where
  rxTime : Int
  corr : Int
  deriving DecidableEq, Repr

/-- The root a TIME_ROOT names and its sequence number (Table 13.3). -/
structure RootName where
  root : Nat
  seq : Nat
  deriving DecidableEq, Repr

/-- TIME_STEP_NOTICE (Table 13.3). -/
structure StepNotice where
  src : Nat
  seq : Nat
  mode : Nat
  apply_ns : Nat
  sec : Int
  ns : Int
  frac : Nat
  /-- It came in a cell with resent = 1 (R452). -/
  resent : Bool := false
  deriving DecidableEq, Repr

/-- Phase and frequency sources (R437). -/
inductive TimeSource where
  | none | ptp (port : Nat) | pps | relay | freqIn
  deriving DecidableEq, Repr

/-- A reference that can be lost (R423, R652, Table 13.9). -/
inductive RefName where
  | sref (k : Fin 4) | pcie
  deriving DecidableEq, Repr

/-- Causes for which a bridge lane leaves service (R573, R580). -/
inductive BridgeCause where
  | lock | retries | eye
  deriving DecidableEq, Repr

/-- Tamper sources of Table 21.5, bits 3:0. -/
abbrev TamperSet := BitVec 4

/-- JTAG instructions (R655). -/
inductive JtagIr where
  | bypass | idcode | samplePreload | extest
  deriving DecidableEq, Repr

/-- A command of the block: one constructor for each row of the table, in the table's order. -/
inductive Instr where
  | bringUp (e : BootEnv)
  | deviceReset
  | recoveryReset
  | pcieConfigRequest (q : CfgReq)
  | flr
  | hotReset
  | pcieLinkDown
  | busMasterDisable
  | d3hotEntry
  | ifaceResetQuiesced
  | sqTailWrite (r : Fin 16) (v : BitVec 16)
  | cqHeadWrite (r : Fin 16) (v : BitVec 16)
  | puntHeadWrite (r : Fin 8) (v : BitVec 16)
  | injectTailWrite (r : Fin 8) (v : BitVec 16)
  | eventHeadWrite (v : BitVec 16)
  | mbCtrlWrite (m : Fin 8) (w : BitVec 32)
  | hifIntCauseWrite (v : BitVec 64)
  | hifAlarmWrite (v : BitVec 64)
  | bar0RegisterWrite (off size : Nat) (be : BitVec 8) (data : BitVec 64)
  | msixGapExpiry (v : Fin 64)
  | submissionTake (r : Fin 16) (entry : HostRead)
  | devGetInfo (src : Src)
  | hifRingCreate (src : Src)
  | hifRingDelete (src : Src)
  | hifIfaceReset (src : Src)
  | hifSetPunt (src : Src)
  | hifGetPktStatus (src : Src)
  | objGetState (src : Src)
  | injectSlotRead (r : Fin 8) (hdr : HostRead) (f : RxFrame)
  | smbusHealthRead (p : SmbProto) (code : BitVec 8)
  | smbRecoveryBegin (len crc : Nat) (pecOk : Bool)
  | smbRecoveryData (d : Bytes) (pecOk : Bool)
  | smbRecoveryFinish (pecOk : Bool)
  | smbRecoveryStatus
  | portSetMode (src : Src)
  | portEnable (src : Src)
  | portDisable (src : Src)
  | portSetAbilities (src : Src)
  | portGetStatus (src : Src)
  | laneMeasure (src : Src)
  | portMeasureRtt (src : Src)
  | portSetLimits (src : Src)
  | laneMeasureDone (p : Fin 256) (recs : List LaneMeas)
  | rttMeasureDone (p : Fin 256) (rtts : List Nat)
  | lanesReady (p : Fin 256)
  | portStopDone (p : Fin 256)
  | abilityFrame (l : Fin 256) (control status : BitVec 32)
  | trainFrame (l : Fin 256) (control status : BitVec 32) (adapt : BitVec 9) (rxReady : Bool)
  | readyFrame (l : Fin 256) (w : TrainWords) (rx : LaneRx)
  | abilityTimeout (p : Fin 256)
  | trainTimeout (p : Fin 256)
  | trainingRestartDelay (p : Fin 256)
  | autonegPage (p : Fin 256) (abilities : BitVec 3) (page : BitVec 48)
  | autonegTimeout (p : Fin 256)
  | partnerGoneTimeout (p : Fin 256)
  | laneSignalChange (l : Fin 256) (present : Bool)
  | codewordReceive (l : Fin 256) (errors erasures : Nat)
  | otucFrame (p : Fin 256) (o : OtucIn)
  | faultOrderedSet (p : Fin 256) (remote : Bool) (column : Nat)
  | defectDeclare (p : Fin 256) (d : Defect)
  | defectClear (p : Fin 256) (d : Defect)
  | linkDownPersist (p : Fin 256)
  | holdoffExpiry (p : Fin 256)
  | wtrExpiry (p : Fin 256)
  | pmSecond (p : Fin 256)
  | pmBinClose (day : Bool)
  | pmBinFinal (p : Fin 256) (day : Bool)
  | frmSetTti (src : Src) (pl : HostRead)
  | frmSetActions (src : Src)
  | frmGetDefects (src : Src)
  | pmGetBins (src : Src)
  | pmSetTca (src : Src)
  | frameReceive (p : Fin 256) (f : RxFrame) (overrun : Bool)
  | extLookupReply (pl : Fin 32) (fid : Nat) (r : ExtReply)
  | extLate (pl : Fin 32) (fid : Nat)
  | excursionReturn (pl : Fin 32) (fid : Nat)
  | frameHandoff (pl : Fin 32)
  | egressDelivery (pl : Fin 32) (aclKey : Nat) (profile : Nat) (cntPort : Option Nat) (steered : Bool) (fn : Nat)
  | frameTransmit (p : Fin 256) (underrun : Bool)
  | flitReceive (g : Fin 32) (toQueueing : Bool) (f : Flit)
  | batchCommit
  | viewRelease
  | ecmpGroupSwitch (g : Nat)
  | ecmpRebalance (g : Nat)
  | pipeFailure (pl : Fin 32) (c : PipeCause)
  | pipeSelfTestDone (pl : Fin 32) (ok : Bool)
  | pipeStopDone (pl : Fin 32)
  | pipeEnable (src : Src)
  | pipeDisable (src : Src)
  | pipeGetStatus (src : Src)
  | pipeSetHash (src : Src)
  | nhSet (src : Src)
  | ecmpSetGroup (src : Src) (pl : HostRead)
  | frrForce (src : Src)
  | dropGetCounters (src : Src)
  | tblCreate (src : Src)
  | tblDestroy (src : Src)
  | tblBatchApply (src : Src) (pl : HostRead)
  | tblGetStatus (src : Src)
  | tblRead (src : Src)
  | tblSetAgeing (src : Src)
  | vrfSet (src : Src)
  | tblSetExtRate (src : Src)
  | tblSetProfile (src : Src)
  | cntRead (src : Src)
  | learnRequestApply (t : Fin 32)
  | ageingSweep (t : Fin 32)
  | tcamScrub (idx : Nat)
  | shadowRebuild (r : ShadowItem)
  | peEnable (src : Src)
  | peDisable (src : Src)
  | peGetStatus (src : Src)
  | peModuleLoad (src : Src) (pl : HostRead)
  | fnSet (src : Src)
  | peSetSlots (src : Src)
  | pePatch (src : Src) (pl : HostRead)
  | peThreadRestore (src : Src)
  | peTraceRead (src : Src)
  | peTraceConfig (src : Src)
  | fnSetTrigger (src : Src)
  | triggerInvocation (t : Fin 1024)
  | startRegisterWrite (e : Fin 64) (t : Fin 16)
  | releaseMask (e : Fin 64) (mask : BitVec 16)
  | peFork (e : Fin 64) (t : Fin 16) (entry : Nat)
  | peJoin (e : Fin 64) (t child : Fin 16)
  | peEmit (e : Fin 64) (t : Fin 16) (dst : EmitTo) (f : RxFrame) (at_ : IssueAt)
  | mailboxPost (e : Fin 64) (t : Fin 16) (m : Fin 8)
  | threadVerdict (e : Fin 64) (t : Fin 16) (x : ThreadEnd)
  | threadFault (e : Fin 64) (t : Fin 16) (cause offset addr issues : Nat)
  | watchdog (e : Fin 64) (t : Fin 16) (offset issues : Nat)
  | supervisorHandle (e : Fin 64)
  | engineFailure (e : Fin 64) (c : EngCause)
  | engineReenable (e : Fin 64)
  | engineSelfTestDone (e : Fin 64) (ok : Bool)
  | engineStopDone (e : Fin 64)
  | idleGate (e : Fin 64)
  | patchEngineDrained (e : Fin 64) (crcOk : Bool)
  | voqAdmit (sl : Fin 32)
  | stripeCloseTimeout (sl : Fin 32)
  | voqDequeue (voq : Nat)
  | scarabPass (hbm : Bool)
  | queueAgeingSweep
  | bufSetPool (src : Src)
  | bufSetQuota (src : Src)
  | bufSetClass (src : Src)
  | bufSetSojourn (src : Src)
  | bufGetStatus (src : Src)
  | bufGetQuota (src : Src)
  | bufGetDrops (src : Src)
  | activationComplete (qid : Nat)
  | activeIdleTimeout (qid : Nat)
  | destFlushTimeout (dev : Nat)
  | reservationRelease (dev : Nat)
  | creditReqRefresh (voq : Nat)
  | grantIssue (p : Fin 256)
  | creditReq (m : CreditMsg)
  | creditGrant (m : CreditMsg)
  | creditReturn (m : CreditMsg)
  | queueStartDone (qid : Nat)
  | queueStopDone (qid : Nat)
  | qEnable (src : Src)
  | qDisable (src : Src)
  | qGetStatus (src : Src)
  | qSetActive (src : Src)
  | qPin (src : Src)
  | qSetEgressMap (src : Src)
  | qSetCredit (src : Src)
  | qGetCreditStatus (src : Src)
  | egressSelection (p : Fin 256)
  | watchedSample
  | hotQueueSweep
  | histogramAdd
  | acctBoundary (set : Fin 64)
  | acctExport (set : Fin 64)
  | schSet (src : Src)
  | schGet (src : Src)
  | polSetProfile (src : Src)
  | polSet (src : Src)
  | polGet (src : Src)
  | obsSetQueue (src : Src)
  | obsSetHistProfile (src : Src) (pl : HostRead)
  | obsGetHist (src : Src)
  | acctSet (src : Src)
  | acctGet (src : Src)
  | hbmRequest (r : HbmReq)
  | channelCommandSlot (ch : Fin 256) (parityError : Bool)
  | hbmRequestComplete (ch : Fin 256) (id : Nat) (meet : List HbmMeet)
  | refreshDeadline (ch : Fin 256)
  | selfRefreshEntry (st : Fin 8)
  | selfRefreshExit (st : Fin 8)
  | retrainPause (ch : Fin 256)
  | thawTrainingDone (ch : Fin 256) (ok : Bool)
  | rebuildDone (st : Fin 8) (ch : Fin 32) (bad : List Nat)
  | retireSalvageDone (ch : Fin 256) (bad : Option (List Nat))
  | channelStopDone (ch : Fin 256)
  | pressureWindow (st : Fin 8) (completed late : Nat)
  | shedRise
  | shedFall
  | memChEnable (src : Src)
  | memChDisable (src : Src)
  | memGetStatus (src : Src)
  | memSetPort (src : Src)
  | memSetPower (src : Src)
  | memSetTraining (src : Src) (pl : HostRead)
  | memGetSnapshot (src : Src)
  | memThaw (src : Src)
  | memRetire (src : Src)
  | switchPhase
  | xpointHoldExpiry (m j : Fin 64)
  | outputHeldTimeout (j : Fin 64)
  | egressStartTimeout (sl : Fin 32) (fid : Nat)
  | cswSetCut (src : Src)
  | cswGetStatus (src : Src)
  | fabricCellReceive (l : Fin 512) (c : FabCell)
  | linkRetry (l : Fin 512) (linkSeq : Nat)
  | ackIdleTimeout (l : Fin 512)
  | retryTimeout (l : Fin 512)
  | linkHcsTimeout (l : Fin 512)
  | linkDownNotice (l : Fin 512)
  | reseqHoldExpiry (sl : Fin 32) (dev cls : Nat)
  | lostCreditRelease (p : Fin 256) (dev cls : Nat)
  | discover (l : Fin 512) (m : DiscoverMsg)
  | qualificationEnd (l : Fin 512) (fecUncorrectable hcsFailed : Nat)
  | qualificationRetry (l : Fin 512)
  | reach (l : Fin 512) (map : List Nat)
  | reachDelta (l : Fin 512) (dev : Nat) (on : Bool)
  | linkDelayMeasure (l : Fin 512)
  | delayReq (l : Fin 512) (seq held : Nat)
  | delayResp (l : Fin 512) (seq : Nat) (peerRx peerTx : Int) (held : Nat)
  | fabricLinkStopDone (l : Fin 512)
  | portState (dev : Nat) (port : Fin 256) (down : Bool)
  | portVector (dev : Nat) (v : BitVec 256)
  | portVectorSend
  | heartbeatSend
  | heartbeat (dev term epoch pending : Nat)
  | heartbeatLoss
  | meridianClaim (dev term : Nat)
  | epochPrepare (m : PrepareMsg)
  | epochAck (dev epoch result : Nat)
  | epochDecision
  | epochActivate
  | epochRetentionEnd
  | epochCancel (dev epoch : Nat)
  | epochStatus (dev current staged : Nat)
  | epochStatusSend
  | quarantine (dev subject : Nat) (enter : Bool)
  | observation (m : ObservationMsg)
  | observationWindow (subjKind subj kind : Nat)
  | relayChunk (dev image idx count crc : Nat) (data : Bytes)
  | relayAck (dev image idx : Nat) (complete : Bool)
  | relayResend (idx : Nat)
  | relaySkipTimeout
  | fabLinkEnable (src : Src)
  | fabLinkDisable (src : Src)
  | fabGetLink (src : Src)
  | fabSetSystem (src : Src)
  | fabStage (src : Src) (pl : HostRead)
  | fabEpochPrepare (src : Src)
  | fabGetStatus (src : Src)
  | fabSetReseq (src : Src)
  | laserInputChange (oe : Fin 16) (m : Fin 4) (lost : Bool)
  | refLoss (r : RefName)
  | ptpSync (p : Fin 256) (m : PtpMsg)
  | ptpFollowUp (p : Fin 256) (m : PtpMsg)
  | ptpDelayReq (p : Fin 256) (m : PtpMsg)
  | ptpDelayResp (p : Fin 256) (m : PtpMsg) (reqId reqPort : Nat)
  | ptpPdelay (p : Fin 256) (k : PdelayKind) (m : PtpMsg)
  | ptpAnnounce (p : Fin 256) (domain : Nat) (m : AnnounceMsg)
  | ptpMessageSend (p : Fin 256) (kind : Fin 4)
  | sourceLostTimeout (t : TimeSource)
  | servoLock
  | holdoverLimit
  | timeStepApply
  | leapSecond (positive : Bool)
  | ppsIn (t : Int)
  | todIn (seconds : Nat) (utc : Int)
  | freqInEdgeLoss
  | ppsOutSecond
  | esmcPduSend (p : Fin 256)
  | esmcPdu (p : Fin 256) (ql : Nat)
  | timeSyncSend
  | timeSync (m : TimeSyncMsg)
  | timeDelayReqSend
  | timeDelayReq (dev seq : Nat) (resent : Bool)
  | timeDelayResp (seq : Nat) (r : RespTime) (resent : Bool)
  | timeStepNotice (m : StepNotice)
  | timeCandidate (m : CandidateMsg)
  | timeRoot (dev : Nat) (r : RootName) (resent : Bool)
  | timeSetInstance (src : Src)
  | timeSetPort (src : Src)
  | timeSetSource (src : Src)
  | timeSetIo (src : Src)
  | timeStep (src : Src)
  | timeGetStatus (src : Src)
  | timeGetPort (src : Src)
  | eventRecordWrite
  | coalesceClose
  | eventRingDeliver
  | eventWindowEnd (type : BitVec 16) (subject : BitVec 64)
  | evtSetFilter (src : Src)
  | evtGetStats (src : Src)
  | evtTest (src : Src) (pl : HostRead)
  | dmaLoad (src : Src) (pl : HostRead)
  | dmaEnable (src : Src)
  | dmaHalt (src : Src)
  | dmaGetStatus (src : Src)
  | dmaSetExport (src : Src)
  | dmaEnd (ch : Fin 16)
  | dmaMove (ch : Fin 16) (host : HostRead)
  | dmaLoop (ch : Fin 16)
  | dmaWait (ch : Fin 16)
  | dmaSignal (ch : Fin 16)
  | dmaShuffle (ch : Fin 16)
  | dmaRunBudgetExpiry (ch : Fin 16)
  | dmaChannelStartDone (ch : Fin 16)
  | dmaChannelStopDone (ch : Fin 16)
  | counterExport (stream : Fin 4)
  | telemetryExport
  | cvSegmentEnd (u : Fin 4) (host : HostRead)
  | scrubBlock
  | cvScan (src : Src)
  | cvGetStatus (src : Src)
  | outputCopy (ch : Fin 3) (number : Nat) (content : BitVec 64)
  | voteTimeout (ch : Fin 3)
  | checkpoint (digestA digestB digestC : BitVec 64)
  | channelUe (ch : Fin 3)
  | swapDue
  | selftestEnd (ch : Fin 3) (passed : Bool)
  | resyncDone (ch : Fin 3) (passed : Bool)
  | triadReturn (a b c : ChanReturn)
  | headlessTimeout
  | bridgeLaneFail (g : Fin 32) (lane : Fin 40) (c : BridgeCause)
  | spareSwapDone (g : Fin 32)
  | laneEyeCheck (g : Fin 32) (lane : Fin 40) (margin : Int) (below : Bool)
  | laneRetrain (g : Fin 32) (lane : Fin 40) (ok : Bool)
  | sramScrub (addr : Nat)
  | triadGetStatus (src : Src)
  | triadSetSwap (src : Src)
  | triadRestart (src : Src)
  | triadTraceRead (src : Src)
  | bridgeGetStatus (src : Src)
  | diagInject (src : Src)
  | confirmTimeout
  | parserBankSwap
  | fwGetStatus (src : Src)
  | fwWrite (src : Src) (pl : HostRead) (readBackOk1 readBackOk2 : Bool)
  | fwActivate (src : Src)
  | fwConfirm (src : Src)
  | fwRevert (src : Src)
  | fwRelay (src : Src) (pl : HostRead)
  | parserPatch (src : Src) (pl : HostRead)
  | fwRecoveryWrite (src : Src) (chunk : HostRead) (readBackOk : Bool)
  | fwRecoveryStatus (src : Src)
  | fwRecoveryBoot (src : Src)
  | governorLoop (fwd : Bool) (rates offered : List Nat)
  | avsTelemetryRead (fwd : Bool) (ack : Bool) (mv ma : Nat)
  | shortfallStart (fwd : Bool)
  | shortfallEnd (fwd : Bool)
  | railSample (rail : Fin 8) (mv : Nat)
  | supplyGlitch (rail : Fin 8) (mv : Nat)
  | temperatureSample (sites : List Int) (hbmTemps : List Int)
  | quietEntry
  | pwrGetStatus (src : Src)
  | govSet (src : Src)
  | pwrSetThermal (src : Src)
  | tamperDetect (sources : TamperSet)
  | secGetIdentity (src : Src)
  | secAttest (src : Src)
  | secRevokeKey (src : Src) (pl : HostRead)
  | secRaiseMin (src : Src)
  | secSetTamper (src : Src)
  | secGetTamper (src : Src)
  | secTamperClear (src : Src) (firing : TamperSet)
  | macsecSetPort (src : Src)
  | macsecKekAgree (src : Src) (pl : HostRead)
  | macsecSaInstall (src : Src) (pl : HostRead)
  | macsecSaDelete (src : Src)
  | macsecTxSelect (src : Src)
  | macsecGetStatus (src : Src)
  | jtagInstruction (r : JtagIr)
  | alignmentMarker (l : Fin 256) (inPlace blockLock calOk : Bool)
  | clause73LinkTraining (l : Fin 256) (req : BitVec 8) (complete : Bool)
  | freqInValid
  | unicastNegotiation (p : Fin 256) (peer : Nat) (msgType : Nat) (grant : Bool) (durationS : Nat)
  | ptpManagement (p : Fin 256) (id : Nat)
  | msixVectorMaskWrite (v : Fin 64) (w : MsixWrite)
  | shaperDebtEnd (kind : Fin 3) (idx : Nat)
  deriving DecidableEq, Repr

end Sys2Proof
end

