-- ==== Sys2Proof/Decode.lean ====
section
/-! DEFINITION. The table of the block gives its commands no bits, so no word spells a command. -/

namespace Sys2Proof

/-- The command a word spells by the bits of spec/opcode_table.json: its rows give none. -/
def decodeTableWord (_nbits _w : Nat) : Option Instr := none

end Sys2Proof
end

