-- ==== Sys2Proof/Config.lean ====
section
/-! DEFINITION. What the manual leaves open, as constants without a body: nothing can be proved about their values. -/

namespace Sys2Proof

/-- A fresh open value: the n-th value the model needed where the manual states none (log 4). -/
opaque Config.free : Nat → BitVec 64

/-- The Vendor ID of Seldanic Semiconductor (Table 15.1), which the manual does not print. -/
opaque Config.vendorId : BitVec 16

/-- SHA-384 (FIPS 180-4), which the manual names and does not restate (R587, R632). -/
opaque Config.sha384 : Bytes → Bytes

/-- ECDSA P-384 verification of a digest under a compressed public key (R587, R627). -/
opaque Config.ecdsaVerify : Bytes → Bytes → Bytes → Bool

/-- ECDSA P-384 signature by the identity key over a digest (R629). -/
opaque Config.identitySign : Bytes → Bytes

/-- ECDH P-384 with the identity key, then HKDF-SHA-384 with the info string of R632: the KEK a host key gives. -/
opaque Config.kekOf : Bytes → Bytes

/-- AES-256 key unwrap (RFC 3394) of a wrapped key under a KEK: `none` when the check fails (R633). -/
opaque Config.keyUnwrap : Bytes → Bytes → Option Bytes

/-- The fused verification keys 0 to 3 (Table 21.1). -/
opaque Config.verifyKey : Nat → Bytes

/-- The device serial, 8 bytes (Table 21.1). -/
opaque Config.serial : Bytes

/-- The uncompressed identity public key, 97 bytes (R629). -/
opaque Config.identityPub : Bytes

/-- The device certificate, at most 1,024 bytes (Table 21.1). -/
opaque Config.certificate : Bytes

/-- Plain AES-GCM is outside the manual; what a MACsec port sends for a frame under a key and packet number (R631). -/
opaque Config.macsecSeal : Bytes → Nat → Bytes → Bytes

/-- The ROM's version word of the controller firmware image (R487), where no slot image names it. -/
opaque Config.romVersion : BitVec 32

/-- The module or parser image that a verified delta makes of a base (R224, R601). -/
opaque Config.applyDelta : Bytes → Bytes → Bytes

/-- Whether a parser bank keeps the graph within R105 and R110. -/
opaque Config.parserGraphOk : Bytes → Bool

/-- What a module's image declares beyond Table 19.5: program, data, HBM bytes and the entry-point count (R203). -/
opaque Config.moduleDecl : Bytes → Nat × Nat × Nat × Nat

/-- Whether a transmit tap is at a limit of its range, in 1/64 steps from preset (R50, R51): the manual gives no range. -/
opaque Config.tapAtLimit : Nat → Int → Bool

/-- Symbol `k` of one period of PRBS13Q (IEEE 802.3), which the manual names and does not restate (R49). -/
opaque Config.prbs13q : Nat → Fin 4

/-- The WCP interface version (R487). -/
opaque Config.wcpVersion : BitVec 32

/-- The action of an MPLS label (Table 5.1), whose layout the manual does not give: operation 0 pop, 1 swap, 2 pop-and-continue, the new
label, and the route result. -/
opaque Config.labelAction : Nat → Nat × Nat × Nat

/-- The outer TTL or hop limit of an imposed header, from the inner one: the manual does not say which (R173; log 123). -/
opaque Config.outerTtl : Nat → Nat

/-- The function number in a FLOW result, whose layout the manual does not give (R127), and the result a FLOW table's miss has in the
forwarding configuration, which no command sets (R157). -/
opaque Config.flowFn : Nat → Option Nat
opaque Config.flowMiss : Nat → Nat

/-- The code of a tunnel type in the key of a TUNNEL table (Table 5.1), by the model's number of it: 0 VXLAN, 1 GRE, 2 IP-in-IP. -/
opaque Config.tunnelType : Nat → Nat

/-- The VRF in which a terminated tunnel's inner headers are looked up, from the termination action of Table 5.1, whose layout the
manual does not give, the VNI or key of the tunnel (Table 4.2), and the VRF before. -/
opaque Config.termVrf : Nat → Nat → Nat → Nat

/-- Whether a lookup reads the word at an address: of the longest-prefix structures, by VRF, family and destination; of the exact-match slots, by
table, overflow and place; of the ECMP buckets, by group and bucket. The manual gives no layout of them (R148, R154, R115; log 43). -/
opaque Config.lpmWord : Nat → Nat → Bool → Nat → Bool
opaque Config.emWord : Nat → Nat → Bool → Nat → Bool
opaque Config.ecmpWord : Nat → Nat → Nat → Bool

/-- The class of a frame that a function on an engine emits: the manual gives none (R210; log 126). -/
opaque Config.emitClass : Nat → Nat

/-- A mirror session, which no command sets (R112): directed to the host under a trap code, or to a global port. -/
opaque Config.mirror : Nat → Option (Bool × Nat)

/-- The global ports of a multicast group, which no command sets (R112). -/
opaque Config.members : Nat → List Nat

/-- Per-bank refresh interval of an HBM stack at a temperature in °C, in ticks (R343): JESD270-4 sets it, the manual does not. -/
opaque Config.refreshTicks : Int → Nat

/-- Bank of a unit, row and column of a 64-byte burst of a channel (Table 10.5): the manual gives no mapping. -/
opaque Config.dramBank : Nat → Nat
opaque Config.dramRow : Nat → Nat
opaque Config.dramCol : Nat → Nat

/-- Byte `k` of the `n`-th run of bytes whose contents the manual leaves open (log 4). -/
opaque Config.openByte : Nat → Nat → BitVec 8

/-- What field `k` of a record, report or event reads where what it names does not exist: the manual gives no code (log 42). -/
opaque Config.absent : Nat → Nat

/-- The code by which EV_ECC_UE names a structure, by the model's number of it: the manual lists none (R184; log 43). -/
opaque Config.eccCode : Nat → Nat

/-- The address of entry `i` of a structure within its window of Table 1.8: the manual gives no layout of it (log 43). -/
opaque Config.wordAddr : Nat → Nat → Nat

/-- Bytes of the flash the board fits (R583, R584). -/
opaque Config.flashBytes : Nat

end Sys2Proof
end

