-- ==== Sys2Proof/Machine/StateHost.lean ====
section
/-! DEFINITION. State shared by every part of the QN7100 and the state of the host interface: status codes, object states,
what leaves the package, events, rings, mailboxes, interrupts. Each field's docstring gives its width, its rule and its
reset value; "DC 5" marks a reset value the manual does not give (log 5). -/

namespace Sys2Proof.Machine

/-- Status codes of a completion (Table 16.4). -/
inductive Status where
  | ok | pending | deferred | notReady | refusedBusy | badArg | badHandle | noSpace | budgetExceeded | frozen
  | verifyFailed | tampered | cancelled | timeout
  deriving DecidableEq, Repr

/-- How a command answers: status, result, extra, an output record for the payload address, and bytes for a mailbox whose
DATA has its own layout. -/
structure Resp where
  status : Status := .ok
  result : Nat := 0
  extra : Nat := 0
  record : Option Bytes := none
  data : Option Bytes := none
  deriving DecidableEq, Repr

/-- States of a stoppable object (R519, Table 16.6). -/
inductive ObjSt where
  | stopped | starting | running | stopping | frozen | retired
  deriving DecidableEq, Repr

/-- A stoppable object (R519-R521). -/
structure Obj where
  /-- State. 6 values. R519. Reset STOPPED. -/
  st : ObjSt := .stopped
  /-- A held enable. 1 bit. R520. Reset 0. -/
  held : Bool := false
  /-- A held enable was cancelled during this stop. 1 bit. Table 16.6. Reset 0. -/
  cancelled : Bool := false
  /-- This stop was caused by failure. 1 bit. Table 16.6. Reset 0. -/
  failed : Bool := false
  /-- The settled state held before. R521. Reset STOPPED. -/
  prev : ObjSt := .stopped
  /-- NS64 at which the object left its settled state. 64 bits. R521. Reset 0. -/
  since : Nat := 0
  /-- When the bound of the stop elapses, in ticks. R519. Reset none. -/
  due : Option Nat := none
  deriving DecidableEq, Repr

/-- A token bucket: tokens in 2^-16 ns × kbit/s (524,288,000,000 of them are one byte) and the tick of the last refill
(R305, R310). -/
structure Bucket where
  tokens : Int := 0
  stamp : Nat := 0
  deriving DecidableEq, Repr

/-- A single-rate policer that holds its own profile (R497): applied CIR in kbit/s, CBS, the 20-byte flag, its bucket. -/
structure OwnPol where
  cir : Nat
  cbs : Nat
  add20 : Bool
  bucket : Bucket
  deriving DecidableEq, Repr

/-- What the device puts on its pins, links and buses. The model keeps them in `out`, newest first (log 3). -/
inductive Emission where
  /-- A PCIe memory write. -/
  | hostWrite (addr : Nat) (data : Bytes)
  /-- A configuration completion: Request Retry Status or normal, with the data of a read (R477). -/
  | cfgReply (rrs : Bool) (data : Option (BitVec 32))
  /-- An MSI-X message: the address and data of the vector's table entry (R476, R494). -/
  | msix (v : Nat) (addr : BitVec 64) (data : BitVec 32)
  /-- An SMBus answer, or `none` for a NACK; SCL held low for 25 ms first when `stretched` (R477, R502). -/
  | smbus (answer : Option Bytes) (stretched : Bool)
  /-- A frame on a line port: its length, its bytes where the model knows them, and whether it is sent with an error. -/
  | lineFrame (port : Nat) (len : Nat) (data : Bytes) (error : Bool)
  /-- The training frame a lane sends from now on, frame after frame, until it sends another or data: type, control and status words; its
  symbols are `trainingSymbols` (Table 2.4). -/
  | laneFrame (lane : Nat) (kind : Nat) (control status : BitVec 32)
  /-- The clause 73 pages a port sends from now on: its allowed modes among L100 (bit 0) and L200 (bit 1), its width, and the medium CR, which
  together name its technology abilities (R54). -/
  | page (port modes width : Nat) (cr : Bool)
  /-- An OTUC frame sent on a port: MFAS, trace byte, section and path BDI, BEI of each slice, and the GCC bytes (R71, R73, R80). -/
  | otuc (port mfas : Nat) (tti : Byte) (smBdi pmBdi : Bool) (bei : List Nat) (gcc : Nat)
  /-- A link-training status of an IEEE 802.3 lane (R54). -/
  | ltStatus (lane : Nat) (status : Nat)
  /-- What a port sends for its defects from now on (R80): 1 section BDI, 2 path BDI, 4 remote-fault sequences. -/
  | lineSignal (port : Nat) (kind : Nat)
  /-- Transmit light or drive of line lane 0 to 255, or of the lane of fabric link `lane - 256`, switched off or on. -/
  | laneDrive (lane : Nat) (on : Bool)
  /-- A flit, or a retry request, on the die bridge (R20). -/
  | flit (group : Nat) (toQueueing : Bool) (seq : Nat) (retry : Bool)
  /-- A fabric data cell sent on a link. -/
  | cell (link : Nat) (c : FabCell)
  /-- A link-control message on a fabric link: kind and fields. -/
  | linkMsg (link : Nat) (kind : Nat) (fields : List Nat)
  /-- A PTP message sent on a port: kind and fields. -/
  | ptp (port : Nat) (kind : Nat) (fields : List Int)
  /-- An ESMC PDU sent on a port (R446). -/
  | esmc (port : Nat) (ql : Nat) (event : Bool)
  /-- A pulse or edge on a timing output (R453). -/
  | timePin (kind : Nat) (value : Int)
  /-- An AVSBus write: rail and millivolts (R610). -/
  | avs (fwd : Bool) (mv : Nat)
  /-- The BOOT_PHASE balls take a value (R591). -/
  | bootPhase (v : Nat)
  /-- THERM_TRIP_N and other alarm balls. -/
  | pin (kind : Nat) (asserted : Bool)
  /-- An access to HBM or DRAM refresh command made by a channel (R341). -/
  | dram (channel : Nat) (kind : Nat) (addr : Nat)
  /-- What an HBM port answers its requester: the data read, or that the access failed (R342, R351, R352). -/
  | hbmDone (port id : Nat) (data : Bytes) (ok : Bool)
  deriving DecidableEq, Repr

/-- An event before it has a sequence number (Table 16.8). -/
structure Event where
  type : Nat
  sev : Nat
  flags : Nat
  subject : Nat
  /-- System time of detection, ticks of 2^-16 ns. -/
  time : Int
  detail : Bytes
  deriving DecidableEq, Repr

/-- The coalescing counter of one event type (R525). -/
structure Coal where
  count : Nat := 0
  maxSev : Nat := 0
  first : Nat := 0
  last : Nat := 0
  deriving DecidableEq, Repr

/-- An open one-second window of a counted event (R656): the event's type and subject key, its end, the occurrences counted
since it opened and the event of the first of them. -/
structure EvWindow where
  type : Nat
  key : Nat
  ends : Nat
  count : Nat
  first : Option Event
  /-- Byte offset of the 4-byte count within the detail. -/
  countAt : Nat
  deriving DecidableEq, Repr

/-- The event path (R523-R533). -/
structure Evt where
  /-- Event FIFO, oldest first, at most 256. R523. Reset empty. -/
  fifo : List Event := []
  /-- Undelivered records with their sequence numbers, oldest first, at most 65,536. R523, R526. Reset empty. -/
  store : List (Nat × Bytes) := []
  /-- Sequence number of the next record. 32 bits. R524. Reset 1. -/
  nextSeq : Nat := 1
  /-- Coalescing counters that are not 0, by type, in the order of their first coalescing. R525. Reset 0. -/
  coal : List (Nat × Coal) := []
  /-- Suppressed types. 1 bit each. R531. Reset none suppressed. -/
  suppress : List Nat := []
  /-- Events raised per type, saturating. 32 bits each. R532. Reset 0. -/
  counts : Tab Nat := []
  /-- Records written. 64 bits. R532. Reset 0. -/
  written : Nat := 0
  /-- Events coalesced. 64 bits. R532. Reset 0. -/
  coalesced : Nat := 0
  /-- Events suppressed. 64 bits. R532. Reset 0. -/
  suppressed : Nat := 0
  /-- Summaries written. 64 bits. R532. Reset 0. -/
  summaries : Nat := 0
  /-- Highest FIFO occupancy since it was last read. 16 bits. R532. Reset 0. -/
  hiFifo : Nat := 0
  /-- Open windows of counted events. R656. Reset none. -/
  windows : List EvWindow := []
  deriving DecidableEq, Repr

/-- A submission ring (R488). -/
structure Sq where
  size : Nat
  cq : Nat
  base : Nat
  /-- Next entry the device takes. -/
  head : Nat := 0
  tail : Nat := 0
  /-- A failed read stopped the ring (R492). -/
  stopped : Bool := false
  deriving DecidableEq, Repr

/-- A completion ring (R488, R489). -/
structure Cq where
  size : Nat
  base : Nat
  /-- Next entry the host reads. -/
  head : Nat := 0
  /-- Next entry the device writes. -/
  tail : Nat := 0
  phase : Bool := true
  reserved : Nat := 0
  deriving DecidableEq, Repr

/-- The event ring (R495). -/
structure EvRing where
  size : Nat
  base : Nat
  wb : Nat
  head : Nat := 0
  tail : Nat := 0
  deriving DecidableEq, Repr

/-- A punt ring (R496). -/
structure PuntRing where
  size : Nat
  slot : Nat
  base : Nat
  head : Nat := 0
  tail : Nat := 0
  phase : Bool := true
  /-- Sequence number of the next frame (Table 15.14). -/
  seq : Nat := 0
  deriving DecidableEq, Repr

/-- An inject ring (R498). -/
structure InjRing where
  size : Nat
  slot : Nat
  pipeline : Nat
  base : Nat
  wb : Nat
  head : Nat := 0
  tail : Nat := 0
  deriving DecidableEq, Repr

/-- Counts of a punt or inject ring that HIF_GET_PKT_STATUS returns (Table 15.19): frames, bytes, policer discards, full. -/
structure PktCount where
  frames : Nat := 0
  bytes : Nat := 0
  polDisc : Nat := 0
  fullDisc : Nat := 0
  deriving DecidableEq, Repr

/-- A direct mailbox (Table 15.8). -/
structure Mbox where
  opcode : Nat := 0
  go : Bool := false
  status : Nat := 0
  result : Nat := 0
  /-- The 240 bytes of DATA. -/
  data : Bytes := List.replicate 240 0
  /-- The command written with GO has its report still to come here: cleared when an interface reset cancels it (R501). -/
  attached : Bool := false
  deriving DecidableEq, Repr

/-- A WCP command that was taken in and has not completed (R490, R463). -/
structure Cmd where
  src : Src
  /-- Submission ring; 0 for a mailbox. -/
  ring : Nat
  /-- Intake number (R463). -/
  intake : Nat
  opcode : Nat
  fence : Bool
  noIrq : Bool
  handle : Nat
  payload : Nat
  /-- The 32 bytes of inline payload; for opcodes with a DATA layout of their own, the 240 bytes of DATA. -/
  inl : Bytes
  /-- Taken up by the executor and waiting on an action that goes on. -/
  started : Bool := false
  /-- Its report was withdrawn by an interface reset (R501). -/
  detached : Bool := false
  /-- It has ended, and its completion waits for the control channels (R518, R564). -/
  ended : Bool := false
  deriving DecidableEq, Repr

/-- What started an interface reset (R501, Table 15.21). -/
inductive ResetTrigger where
  | mailbox | flr | hotReset | linkDown | busMaster | d3hot
  deriving DecidableEq, Repr

/-- An interface reset in progress (Table 15.17): what started it, the mailboxes whose HIF_IFACE_RESET it serves, and the
completions that were due since it began. -/
structure IfaceReset where
  trigger : ResetTrigger
  mboxes : List (Fin 8)
  lost : Nat
  deriving DecidableEq, Repr

/-- The host interface. -/
structure Hif where
  /-- A device reset or bring-up has let the endpoint answer: R477. Reset 0. -/
  answers : Bool := false
  /-- Bring-up has completed since the last device reset. R479. Reset 0. -/
  up : Bool := false
  /-- The triad cannot act: STATE reads HEADLESS. R34, R518. Reset 0. -/
  headless : Bool := false
  /-- A compare pair is frozen: the executor does not run. R564. Reset 0. -/
  frozen : Bool := false
  /-- The ROM entered recovery. R479. Reset 0. -/
  chrysalis : Bool := false
  /-- BOOT_PHASE. 4 bits. Table 15.4, R591. Reset 0x0 (R581). -/
  bootPhase : Nat := 0
  /-- RESETS. 8 bits. Table 15.4. Reset 0. -/
  resets : Nat := 0
  /-- FW_SLOT. 1 bit. Table 15.4. Reset undefined until bring-up: DC 5 0. -/
  fwSlot : Bool := false
  /-- RESTART_MS. 32 bits. Table 15.5. Reset 0. -/
  restartMs : Nat := 0
  /-- READY_MS. 32 bits. Table 15.5. Reset undefined until bring-up: DC 5 0. -/
  readyMs : Nat := 0
  /-- Tick at which bring-up ended. R502 code 0x50. DC 5 0. -/
  readyAt : Nat := 0
  /-- HIF_ALARM. 9 bits. Table 15.7. Reset 0 (FW_FALLBACK, TAMPER undefined until bring-up: DC 5 0). -/
  alarm : BitVec 9 := 0
  /-- HIF_INT_CAUSE. 43 bits. Table 15.10. Reset 0. -/
  cause : BitVec 43 := 0
  /-- HIF_INT_MASK. 43 bits. Table 15.10. Reset 1s. -/
  mask : BitVec 43 := BitVec.allOnes 43
  /-- HIF_INT_VECTOR[i]. 6 bits each. Table 15.11. Reset i. -/
  vector : List (BitVec 6) := (List.range 43).map (BitVec.ofNat 6)
  /-- HIF_INT_MOD[v]. 16 bits each. Table 15.11. Reset 0. -/
  gap : Tab Nat := []
  /-- Vectors active with no further message owed. 64 bits. R494. Reset 0. -/
  active : List Nat := []
  /-- Tick of the previous message of each vector. R494. Reset none. -/
  lastMsg : Tab Nat := []
  /-- Vectors whose message waits for the end of GAP. 64 bits. R494. Reset 0. -/
  gapHeld : List Nat := []
  /-- MSI-X enable. 1 bit. R476 (PCIe). Reset PRESUMED 0 (log 5). -/
  msixEnable : Bool := false
  /-- MSI-X function mask. 1 bit. R494 (PCIe). Reset PRESUMED 0 (log 5). -/
  msixFuncMask : Bool := false
  /-- Message address and data of the vectors of the BAR2 table. 64 and 32 bits each. R476 (PCIe). Reset DC 5 0. -/
  msixEntry : Tab (BitVec 64 × BitVec 32) := []
  /-- Per-vector masks of the BAR2 table: the unmasked vectors. 64 bits. R494 (PCIe). Reset PRESUMED all masked (log 5). -/
  msixUnmasked : List Nat := []
  /-- Pending-bit array. 64 bits. R494. Reset 0. -/
  msixPending : List Nat := []
  /-- Bus Master Enable. 1 bit. R501 (PCIe). Reset PRESUMED 0 (log 5). -/
  busMaster : Bool := false
  /-- Memory Space Enable. 1 bit. R476 (PCIe). Reset PRESUMED 0 (log 5). -/
  memEnable : Bool := false
  /-- Base of BAR0, 4 MiB aligned. 64 bits. Table 15.1. Reset PRESUMED 0 (log 5). -/
  bar0 : BitVec 64 := 0
  /-- Base of BAR2, 64 KiB aligned. 64 bits. Table 15.1. Reset PRESUMED 0 (log 5). -/
  bar2 : BitVec 64 := 0
  /-- Max payload size, code 0 to 2 for 128 to 512 bytes. 3 bits. Table 15.1. Reset PRESUMED 0 (log 5). -/
  mps : BitVec 3 := 0
  /-- Max read request size, code 0 to 5 for 128 to 4,096 bytes. 3 bits. Table 15.1. Reset PRESUMED 2 (log 5). -/
  mrrs : BitVec 3 := 2
  /-- Power state D3hot. 1 bit. R476. Reset PRESUMED 0 (log 5). -/
  d3hot : Bool := false
  /-- SQ_TAIL of doorbell block r. 16 bits each. Table 15.6. Reset 0. -/
  dbSqTail : Tab Nat := []
  /-- CQ_HEAD of doorbell block r. 16 bits each. Table 15.6. Reset 0. -/
  dbCqHead : Tab Nat := []
  /-- AUX0 of doorbell block r. 16 bits each. Table 15.6. Reset 0. -/
  dbAux0 : Tab Nat := []
  /-- AUX1 of doorbell block 0. 16 bits. Table 15.6. Reset 0. -/
  dbAux1 : Nat := 0
  /-- Submission rings. R488. Reset none exists. -/
  sq : Tab Sq := []
  /-- Completion rings. R488. Reset none exists. -/
  cq : Tab Cq := []
  /-- The event ring. R495. Reset none. -/
  ev : Option EvRing := none
  /-- Punt rings. R496. Reset none exists. -/
  punt : Tab PuntRing := []
  /-- Inject rings. R498. Reset none exists. -/
  inj : Tab InjRing := []
  /-- Counts of the punt rings. 64 bits each. Table 15.19. Reset 0. -/
  puntCount : Tab PktCount := []
  /-- Counts of the inject rings. 64 bits each. Table 15.19. Reset 0. -/
  injCount : Tab PktCount := []
  /-- Mailboxes. Table 15.8. Reset 0. -/
  mbox : Tab Mbox := []
  /-- Commands taken and not completed, in intake order. R490. Reset empty. -/
  cmds : List Cmd := []
  /-- Completions that wait while the device is headless or a compare pair is frozen: intake number and answer. R518, R564. Reset empty. -/
  heldDone : List (Nat × Resp) := []
  /-- Next intake number. R463. Model's counter. Reset DC 5 0. -/
  intake : Nat := 0
  /-- Interface reset in progress. Table 15.17. Reset none. -/
  reset : Option IfaceReset := none
  /-- Trap code to punt ring. R497. Reset none mapped. -/
  trapRing : Tab Nat := []
  /-- Trap policers. R497. Reset unset. -/
  trapPol : Tab OwnPol := []
  /-- Ring policers. R497. Reset unset. -/
  ringPol : Tab OwnPol := []
  /-- Ring among 1 to 15 served last, and entries taken from ring 0 in this turn. R462. Reset DC 5 15 and 0. -/
  rrLast : Nat := 15
  rrZero : Nat := 0
  /-- Inject ring read last. R498. Reset DC 5 7. -/
  injLast : Nat := 7
  /-- Tick before which the 200 Gbit/s of R498 allow no further inject slot. R498. Reset 0. -/
  injPace : Nat := 0
  deriving DecidableEq, Repr

end Sys2Proof.Machine
end

