-- ==== Sys2Proof/Machine/StateTbl.lean ====
section
/-! DEFINITION. State of the lookup tables (chapter "Lookup tables") and of next hops and ECMP groups (R113-R119). -/

namespace Sys2Proof.Machine

/-- How an entry's place is held (R187): in use, reserved by a consistent batch before its commit, or an old copy after it. -/
inductive Hold where
  | live | reserved | old
  deriving DecidableEq, Repr

/-- An exact-match or extended entry (R154, R162). -/
structure EmEntry where
  key : Bytes
  result : Nat
  hold : Hold := .live
  static : Bool := false
  learned : Bool := false
  /-- Hit bit and 4-bit age counter (R162). -/
  hit : Bool := false
  age : Nat := 0
  deriving DecidableEq, Repr

/-- A learn or move request: the key and the source global port (R164). -/
structure LearnReq where
  key : Bytes
  gport : Nat
  deriving DecidableEq, Repr

/-- An on-die exact-match table (R154-R166) or an extended table (R167-R172, without overflow, learning and ageing). -/
structure EmTable where
  kind : Nat
  evict : Nat := 0
  keyBits : Nat
  resBits : Nat
  /-- Slots per entry (R154). -/
  w : Nat
  learn : Bool := false
  /-- Buckets (R155). -/
  n : Nat
  ageS : Nat := 0
  seed : Nat
  /-- Extended: the on-die table it backs, and the default action DISCARD (R169, R172). -/
  backs : Option Nat := none
  discard : Bool := false
  /-- Extended: the number of its first bucket in the area of Table 10.1. -/
  base : Nat := 0
  /-- Bucket entries by 4 × bucket + position, and the overflow store by position. -/
  slots : Tab EmEntry := []
  ovf : Tab EmEntry := []
  learnQ : List LearnReq := []
  /-- Tick of the last sweep (R162). -/
  swept : Nat := 0
  evictions : Nat := 0
  learns : Nat := 0
  moves : Nat := 0
  moveRefused : Nat := 0
  aged : Nat := 0
  learnOverflow : Nat := 0
  learnNoSpace : Nat := 0
  ecc : Nat := 0
  /-- Occupancy has reached 90% and not yet fallen below 85% (R196). -/
  nearFull : Bool := false
  deriving DecidableEq, Repr

/-- A TCAM entry: what was commanded (the shadow), the array, and the stored copy with its error state (R177-R182). -/
structure TcamEntry where
  key : Nat
  mask : Nat
  action : Nat
  hold : Hold := .live
  arrKey : Nat
  arrMask : Nat
  copyKey : Nat
  copyMask : Nat
  /-- The stored copy holds an uncorrectable error. -/
  copyUe : Bool := false
  /-- Disabled after a false hit, the rewrite pending (R181). -/
  disabled : Bool := false
  deriving DecidableEq, Repr

/-- A TCAM table (R177, R178). -/
structure TcamTable where
  egress : Bool
  /-- 0 = 160, 1 = 320, 2 = 640 bits. -/
  width : Nat
  deny : Bool
  blocks : List Nat
  ecc : Nat := 0
  nearFull : Bool := false
  deriving DecidableEq, Repr

/-- A route of the longest-prefix store: VRF, family, length, prefix (R148, R150). -/
structure Route where
  vrf : Nat
  v6 : Bool
  plen : Nat
  pfx : Nat
  result : Nat
  deriving DecidableEq, Repr

/-- What VRF_SET holds (R153, R194). -/
structure Vrf where
  quota : Nat := 0
  dflt : Option Nat := none
  host4 : Option Nat := none
  host6 : Option Nat := none
  deriving DecidableEq, Repr

/-- A table profile (Table 5.5); `none` for 0xFF. -/
structure Profile where
  mac : Option Nat := none
  mpls : Option Nat := none
  depth : Nat := 0
  tunnel : Option Nat := none
  flow : Option Nat := none
  ext : Option Nat := none
  aclIn : Option Nat := none
  aclOut : Option Nat := none
  deriving DecidableEq, Repr

/-- An encapsulation entry (R173). -/
structure Encap where
  big : Bool
  tmpl : Bytes
  pin : Bool
  deriving DecidableEq, Repr

/-- What a lookup reads: the tables one view sees (R138). -/
structure Tables where
  /-- Routes of the longest-prefix store. R148. Reset empty. -/
  lpm : List Route := []
  /-- VRFs. R153, R194. Reset no quota, no default, no host table. -/
  vrf : Tab Vrf := []
  /-- On-die exact-match tables. R155. Reset none exists. -/
  em : Tab EmTable := []
  /-- Extended tables. R167. Reset none exists. -/
  ext : Tab EmTable := []
  /-- TCAM tables. R177. Reset none exists. -/
  tcam : Tab TcamTable := []
  /-- TCAM entries by global index. R177. Reset none valid. -/
  acl : Tab TcamEntry := []
  /-- Table profiles. Table 5.5. Reset DC 5 every field none. -/
  profile : Tab Profile := []
  /-- Encapsulation store by first index. R173. Reset empty. -/
  encap : Tab Encap := []
  deriving DecidableEq, Repr

/-- A consistent batch that was checked and written and waits for its commit (R187). -/
structure PendingBatch where
  intake : Nat
  records : List Bytes
  /-- Commit no earlier than this tick, and than this NS64 of system time. -/
  notBefore : Nat
  commitNs : Nat
  /-- Routes whose units it holds, places of the exact-match tables reserved for it (table, overflow, place), and evictions made for them. -/
  routes : List Route := []
  mine : List (Nat × Bool × Nat) := []
  evicted : Nat := 0
  /-- The encapsulation store as it will be after the commit, and the indexes written. -/
  encap : Tab Encap := []
  wrote : List Nat := []
  deriving DecidableEq, Repr

/-- A next hop (Table 4.8). -/
structure NextHop where
  type : Nat := 1
  trap : Nat := 0
  target : Nat := 0
  encap : Nat := 0
  prot : Option Nat := none
  deriving DecidableEq, Repr

/-- An ECMP group (R115, R116, R119). -/
structure Ecmp where
  members : List (Nat × Nat)
  log2B : Nat
  auto : Bool
  /-- Member of each bucket. -/
  buckets : List Nat
  /-- Which members were live at the last assignment. -/
  live : List Bool
  /-- EV_ECMP_NO_LIVE raised since a member was live. -/
  noLive : Bool := false
  deriving DecidableEq, Repr

/-- A group change that waits for its switch instant (R137, R143): `none` deletes. -/
structure EcmpSwitch where
  group : Nat
  intake : Nat
  new : Option Ecmp
  deriving DecidableEq, Repr

/-- A class-map profile: the class of each PCP, DSCP and MPLS TC (R111). -/
structure ClassMap where
  pcp : Tab Nat := []
  dscp : Tab Nat := []
  tc : Tab Nat := []
  deriving DecidableEq, Repr

/-- The lookup tables and what changes them. -/
structure Fwd where
  /-- Current tables. R138. Reset empty. -/
  tbl : Tables := {}
  /-- The tables that frames of the old view see until they are released. R138. Reset none. -/
  oldTbl : Option Tables := none
  /-- Units held twice until the old copies are released. R187. Reset 0. -/
  oldUnits : Nat := 0
  /-- Table view tag of new frames. 1 bit. R138. Reset DC 5 0. -/
  view : Bool := false
  /-- Consistent batch before its commit. R187. Reset none. -/
  batch : Option PendingBatch := none
  /-- Uncorrectable-error lookups of the longest-prefix store. R184, Table 5.12. Reset 0. -/
  lpmUe : Nat := 0
  /-- Lines of the extended-table cache, most recently used first: buckets of extended tables and pairs of encapsulation indexes. R170. Reset
  DC 5 empty. -/
  cache : List Nat := []
  /-- Longest-prefix store near full. R196. Reset 0. -/
  lpmNear : Bool := false
  /-- Next hops. R113. Reset DISCARD, other fields 0. -/
  nh : Tab NextHop := []
  /-- ECMP groups. R115. Reset none exists. -/
  ecmp : Tab Ecmp := []
  /-- Group switches that wait. R143. Reset none. -/
  switches : List EcmpSwitch := []
  /-- Hash seed set by PIPE_SET_HASH; until then the default of R144. 32 bits. Reset default. -/
  seed : Option Nat := none
  /-- Hash field selection. 10 bits. R144. Reset 0x003F. -/
  hashFields : Nat := 0x003F
  /-- Inner flag. 1 bit. R144. Reset 1. -/
  hashInner : Bool := true
  /-- Port-state bits of other devices, protection-down ones listed. R120. Reset DC 5 none down. -/
  portDown : List Nat := []
  /-- Reachability bits of other devices, reachable ones listed. R120. Reset none (no link up). -/
  reachable : List Nat := []
  /-- Devices that became reachable and await their full port vector. R122. Reset none. -/
  awaitVector : List Nat := []
  /-- Class-map profiles, 64. R111. DC 5 every class TC0. -/
  classMap : Tab ClassMap := []
  /-- A VXLAN port beside 4789. Table 4.2. DC 5 none. -/
  vxlanPort : Option Nat := none
  /-- Micro-SIDs of this device: locator block, its bits (16 to 48), and the micro-SID. Table 4.2. DC 5 none. -/
  usid : List (Nat × Nat × Nat) := []
  /-- Structures with an uncorrectable word. R184. Reset none. -/
  ue : List ShadowItem := []
  /-- Addresses of the words of the SRAM windows that hold a correctable error. R40, R183, R570. Reset none. -/
  ce : List Nat := []
  deriving DecidableEq, Repr

end Sys2Proof.Machine
end

