-- ==== Sys2Proof/Machine/StatePkt.lean ====
section
/-! DEFINITION. State of the pipelines (chapter "The forwarding pipeline"), of the packet engines (chapter "Packet engines and
their threads") and of the counter store. -/

namespace Sys2Proof.Machine

/-- A counter pair: packets, bytes (R135, R136). -/
structure Pair where
  pkts : Nat := 0
  bytes : Nat := 0
  deriving DecidableEq, Repr

/-- An Ethernet header (R117). -/
structure EthHdr where
  dmac : Nat
  smac : Nat
  etype : Nat
  deriving DecidableEq, Repr, Inhabited

/-- An IPv4 or IPv6 header as the parser extracts it (R106, R117). -/
structure IpHdr where
  v6 : Bool
  sa : Nat
  da : Nat
  /-- TTL or hop limit. -/
  ttl : Nat
  /-- DSCP (R111). -/
  dscp : Nat
  /-- Protocol, or the next header that ends the headers of this layer. -/
  proto : Nat
  flow : Nat
  frag : Bool
  ihl : Nat
  csumOk : Bool
  /-- Offset of the header in the frame, bytes. -/
  off : Nat
  /-- IPv4 total length, or IPv6 payload length. -/
  total : Nat
  deriving DecidableEq, Repr

/-- One MPLS label stack entry (R117). -/
structure MplsHdr where
  label : Nat
  tc : Nat
  ttl : Nat
  deriving DecidableEq, Repr

/-- What a network header carries inside (Table 4.2). -/
inductive Inside where
  | vxlan (vni : Nat)
  | gre (key : Option Nat)
  | ip
  deriving DecidableEq, Repr

/-- One layer of headers: an IP header with what stands before and after it (R105, R106). The first layer is the outermost. -/
structure Layer where
  /-- Offset at which the layer begins, and its Ethernet header, when it is one of an inner frame. -/
  off : Nat
  eth : Option EthHdr := none
  ip : Option IpHdr := none
  /-- The IP header, or the L4 header, begins inside the window and does not end inside it (R106). -/
  ipCut : Bool := false
  l4 : Option (Nat × Nat) := none
  l4Cut : Bool := false
  /-- A segment routing header: its offset, the segments left and its containers, at most 5 (Table 4.2). -/
  srh : Option (Nat × Nat × List Nat) := none
  /-- The tunnel it carries, whose inner headers are the next layer. -/
  inside : Option Inside := none
  deriving DecidableEq, Repr

/-- What the parser finds in a frame (R105, R106). -/
structure Parsed where
  /-- Node visits. -/
  visits : Nat := 0
  /-- A header breaks its own protocol's rules. -/
  bad : Bool := false
  eth : EthHdr := { dmac := 0, smac := 0, etype := 0 }
  /-- VLAN tags, outermost first: their control information. -/
  tags : List Nat := []
  /-- Offset behind the Ethernet header and its tags. -/
  off : Nat := 14
  mpls : List MplsHdr := []
  entropy : Option Nat := none
  layers : List Layer := []
  /-- Offset of the header of a recognised PTP message, and whether it goes over UDP (R429). -/
  ptp : Option (Nat × Bool) := none
  deriving DecidableEq, Repr, Inhabited

/-- Where a frame entered the device: a line port, a function on an engine (R210), an inject ring (R498), or the
global port of another device it came from (Table 12.3). -/
inductive FrameSrc where
  | port (p : Nat)
  | engine (e : Nat)
  | inject (i p : Nat)
  | remote (g : Nat)
  deriving DecidableEq, Repr

/-- What the stages have decided for a frame so far (R112, R152). -/
inductive Decision where
  | undecided
  | unicast (gport : Nat)
  | multicast (g : Nat)
  | punt (trap : Nat) (acl : Bool)
  | nextHop (i : Nat)
  | ecmp (g : Nat)
  | discard
  deriving DecidableEq, Repr

/-- The answer of a frame's one extended lookup (R172). -/
inductive ExtAnswer where
  | none
  | found (result : Nat)
  deriving DecidableEq, Repr

/-- Where a frame in a pipeline is: passing its stages, in the extended-lookup store with a deadline (R104), away at a packet
engine (R128), or through stage 12 and waiting for its turn (R130). -/
inductive Place where
  | stages
  | ext (due : Nat)
  | away
  | ready
  deriving DecidableEq, Repr

/-- A frame in the device with its metadata. -/
structure Flight where
  /-- Number of the frame within the device: the model's own. -/
  fid : Nat
  src : FrameSrc
  /-- The frame as received. -/
  frame : RxFrame
  /-- Its bytes as they stand now. -/
  bytes : Bytes
  /-- Its headers, found by one version of each parser bank (R105). -/
  pkt : Parsed
  /-- Length now, and length as received. -/
  len : Nat
  rxLen : Nat
  /-- System time of arrival at the MAC, in ticks, and the elapsed tick at which the frame entered its pipeline (R139). -/
  arrived : Int
  entered : Nat := 0
  /-- Table view (R138). -/
  view : Bool
  cls : Nat
  vrf : Nat
  /-- The layer of headers the later stages use (stage 4). -/
  layer : Nat := 0
  /-- Labels popped, label lookups made (R110), and the new label of the top one (stage 6). -/
  popped : Nat := 0
  lookups : Nat := 0
  swap : Option Nat := none
  /-- The IP header is routed: its TTL or hop limit goes down by 1 (R114). -/
  routed : Bool := false
  /-- The destination after a micro-SID is shifted out, or a new container begins (Table 4.2). -/
  newDa : Option Nat := none
  newSid : Bool := false
  /-- The micro-SID at the top of its destination has been looked at (stage 4). -/
  sidDone : Bool := false
  /-- Tunnel layers terminated, and a third is needed (R109). -/
  layers : Nat := 0
  deep : Bool := false
  dec : Decision := .undecided
  nh : Option Nat := none
  encap : Option Nat := none
  /-- ECMP hash h1 (R117), once computed. -/
  hash : Option Nat := none
  /-- The header work of the stages is in the bytes already (log 123). -/
  built : Bool := false
  /-- The 32-byte metadata word of stage 12 (R100). -/
  word : Bytes := []
  mirror : Option Nat := none
  aclPol : Option Nat := none
  aclIdx : Option Nat := none
  fn : Option Nat := none
  /-- Answer of the extended lookup, once made. -/
  ext : Option ExtAnswer := none
  extTable : Nat := 0
  extKey : Bytes := []
  /-- Next stage to run. -/
  stage : Nat := 1
  place : Place := .stages
  /-- Verdict of the function, once given (R129). -/
  verdict : Option Verdict := none
  /-- Destination port of a frame in an egress pipeline. -/
  outPort : Nat := 0
  /-- Egress pass: ACL key, profile and counter of the pass that was interrupted by an excursion. -/
  egKey : Nat := 0
  egProfile : Nat := 0
  egCnt : Option Nat := none
  deriving DecidableEq, Repr

/-- A pipeline: ingress p and egress p. -/
structure Pipe where
  /-- Object state. Table 4.6. Reset RUNNING when bring-up ends (R140); before it DC 5 STOPPED. -/
  obj : Obj := {}
  /-- Last failure cause of Table 4.10. R141. DC 5 none. -/
  cause : Option Nat := none
  /-- Frames in the ingress stages in order of arrival: lookup places, extended-lookup store, excursions, ready. R103, R104, R128,
  R130. Reset empty. -/
  ingress : List Flight := []
  /-- Frames delivered over the die bridge, not yet through the egress stages, and those away at an engine. R131, R127. Reset
  empty. -/
  egress : List Flight := []
  /-- Emit queue, at most 1,024 frames. R210. Reset empty. -/
  emits : List Flight := []
  /-- Refused emits. R210. Reset 0. -/
  emitRefused : Nat := 0
  /-- Discards by reason: packets, bytes. 64 bits each. R136. Reset 0. -/
  drops : Tab Pair := []
  /-- Extended-lookup allowance: rate in 0.05 Gpps, tokens in 2^-16 ns × 0.05 Gpps (1,310,720 of them are a lookup), tick of the
  last refill. R171. Reset rate 25; tokens DC 5 1,024 lookups. -/
  extRate : Nat := 25
  extTok : Nat := 1342177280
  extStamp : Nat := 0
  /-- EXT_OVER_RATE, EXT_LATE, EXT_ECC, EXT_NOT_FOUND. 64 bits each. R172. Reset 0. -/
  extOver : Nat := 0
  extLate : Nat := 0
  extEcc : Nat := 0
  extMiss : Nat := 0
  /-- Tick of the last handoff. R139. DC 5 0. -/
  lastHandoff : Nat := 0
  deriving DecidableEq, Repr

/-- Thread states (Table 6.5). -/
inductive ThreadSt where
  | idle | claimed | running | faulted | retired
  deriving DecidableEq, Repr

/-- What an invocation works on: a frame of a pipeline's ingress or egress pass, a trigger's invocation, or a fork's sub-entry. -/
inductive Work where
  | frame (pl fid : Nat) (egress : Bool)
  | trigger (t idx : Nat)
  | fork (parent : Nat)
  deriving DecidableEq, Repr

/-- An invocation as dispatched (R205, R207). -/
structure Invocation where
  fn : Nat
  module : Nat
  version : Nat
  entry : Nat
  work : Work
  /-- Tick of dispatch, and the budgets (Table 6.3). -/
  start : Int
  timeNs : Nat
  issues : Nat
  userTrace : Bool
  /-- Overflow action DROP, and the placement (Table 6.3). -/
  drop : Bool
  placement : BitVec 64
  deriving DecidableEq, Repr

/-- What a thread's start registers hold (R207); `arg` is the index of a trigger invocation (R212). -/
structure StartRegs where
  fn : Nat := 0
  entry : Nat := 0
  word : Bytes := []
  len : Nat := 0
  egress : Bool := false
  pl : Nat := 0
  view : Bool := false
  arg : Nat := 0
  deriving DecidableEq, Repr

/-- How it stands with a forked thread (R215). -/
inductive Child where
  | runs
  | ended
  | faulted (cause : Nat)
  deriving DecidableEq, Repr

/-- What the hardware last answered a thread: to a fork, a join, an emit, or a write of start registers (R210, R215, R216). -/
inductive Answer where
  | none
  | noThread
  | forked (child : Nat)
  | joined (c : Child)
  | emitted
  | emitRefused
  | claimed (t : Nat)
  | writeRefused (t : Nat)
  deriving DecidableEq, Repr

/-- A hardware thread (R197). -/
structure Thread where
  st : ThreadSt := .idle
  inv : Option Invocation := none
  /-- Start registers and frame window of 640 bytes: the first 384 bytes of the frame are readable. R197, R207. DC 5 zeros. -/
  regs : StartRegs := {}
  window : Bytes := []
  /-- Threads it forked, by number. R215. -/
  kids : Tab Child := []
  /-- Last answer of the hardware. R210, R215, R216. DC 5 none. -/
  answer : Answer := .none
  /-- Child joined and waited for. R215. -/
  join : Option Nat := none
  /-- Ticks of its faults within the last second. R218. -/
  faults : List Nat := []
  deriving DecidableEq, Repr

/-- An exception record (Table 6.7) before its action is known. -/
structure ExcRec where
  thread : Nat
  cause : Nat
  fn : Nat
  offset : Nat
  addr : Nat
  frameRef : Nat
  issues : Nat
  time : Int
  deriving DecidableEq, Repr

/-- A module's code in an engine's program memory (R197, R224). -/
structure Placed where
  version : Nat
  code : Bytes
  deriving DecidableEq, Repr

/-- A packet engine. -/
structure Engine where
  /-- Object state. Table 6.8a. Reset RUNNING when bring-up ends (R220); before it DC 5 STOPPED. -/
  obj : Obj := {}
  /-- Slot table. 16 × 4 bits. R200, R202. Reset slot i names thread i. -/
  slots : List Nat := List.range 16
  /-- Next slot of the round, and the thread that last borrowed one. 4 bits each. R200. DC 5 0. -/
  slot : Nat := 0
  borrower : Nat := 0
  /-- Threads 0 to 15. Table 6.5. DC 5 IDLE. -/
  threads : List Thread := List.replicate 16 {}
  /-- Inbox, at most 32 descriptors. R197. Reset empty. -/
  inbox : List Invocation := []
  /-- Exception queue, at most 16 records, and records of FAULTED threads that wait for room. R217. Reset empty. -/
  excq : List ExcRec := []
  excWait : List ExcRec := []
  /-- Trace records by index, at most 512. 32 bytes each. R222. Reset empty. -/
  trace : Tab Bytes := []
  /-- Write index of the trace buffer. 9 bits. R223. DC 5 0. -/
  traceAt : Nat := 0
  /-- Records since the buffer was armed, STOP mode, stopped. R222. Reset 0, WRAP, 0. -/
  traceN : Nat := 0
  traceStop : Bool := false
  traceFull : Bool := false
  /-- Sampling of DISPATCH records: n, or none for off; invocations since the last. R223. Reset off. -/
  sample : Option Nat := none
  sampled : Nat := 0
  /-- Gated; since when; gated time in total. R221, R226. DC 5 0. -/
  gated : Bool := false
  gatedAt : Nat := 0
  gatedTime : Nat := 0
  /-- Tick since which the engine has had no work. R221. DC 5 0. -/
  idleSince : Nat := 0
  /-- Ticks of failures within 10 minutes, and when firmware re-enables it. R220. Reset none. -/
  fails : List Nat := []
  reenable : Option Nat := none
  /-- Excluded from a module's functions while it is patched, and its master applies the patch. R224, R214. Reset none. -/
  excluded : Option Nat := none
  patching : Bool := false
  /-- Program memory, 256 KiB: the code of each placed module. R197, R224. Reset none. -/
  image : Tab Placed := []
  /-- Data SRAM, 512 KiB, by module × 2^19 + offset in its share. R197. DC 5 zeros. -/
  data : Tab Byte := []
  /-- Poisoned 64-bit words of data SRAM, by the same number ÷ 8. R218. Reset none. -/
  dataUe : List Nat := []
  deriving DecidableEq, Repr

/-- A loaded module (R203): its image version, sizes and entry points. -/
structure Module where
  version : Nat
  image : Bytes
  prog : Nat
  data : Nat
  hbm : Nat
  entries : Nat
  /-- Its HBM area within the packet-engine memory, while a function names it (R204). -/
  area : Option Nat := none
  deriving DecidableEq, Repr

/-- A function (Table 6.3) and its counts (R226). -/
structure Func where
  module : Nat
  drop : Bool
  userTrace : Bool
  entry : Nat
  timeNs : Nat
  issues : Nat
  placement : BitVec 64
  invocations : Nat := 0
  bypasses : Nat := 0
  busy : Nat := 0
  fault : Nat := 0
  dropped : Nat := 0
  emitRefused : Nat := 0
  deriving DecidableEq, Repr

/-- A trigger (Table 6.4). -/
structure Trigger where
  fn : Nat
  k : Nat
  periodNs : Nat
  /-- System time of invocation 0 of the current period, in ticks, and the next index. -/
  start : Int
  idx : Nat := 0
  /-- Its first invocation has passed: from there on its spacing is elapsed time (R424). -/
  begun : Bool := false
  /-- Waiting invocation indexes, at most 4,096. R212. -/
  waiting : List Nat := []
  deriving DecidableEq, Repr

/-- A rollout of PE_PATCH (Table 6.10): the engines still to do, those done, and whether it goes back. -/
structure Rollout where
  intake : Nat
  module : Nat
  old : Module
  new : Module
  todo : List Nat
  done : List Nat
  back : Bool
  deriving DecidableEq, Repr

/-- The packet engines. -/
structure Pe where
  /-- Engines 0 to 63. R197. -/
  eng : Tab Engine := []
  /-- Modules 0 to 63. R203. Reset none loaded. -/
  module : Tab Module := []
  /-- Functions, at most 4,096. R204. Reset none defined. -/
  fn : Tab Func := []
  /-- Triggers, at most 1,024. R212. Reset none. -/
  trig : Tab Trigger := []
  /-- Rollout of a patch. R224. Reset none. -/
  roll : Option Rollout := none
  deriving DecidableEq, Repr

end Sys2Proof.Machine
end

