-- ==== Sys2Proof/Machine/StateBuf.lean ====
section
/-! DEFINITION. State of the buffer pools, queues, credits, schedulers, policers and observation (chapters "Buffer pools and
buffer ownership", "Queues, the active set and fabric credits", "Scheduling, shaping, policing and latency observation"). -/

namespace Sys2Proof.Machine

/-- A cell record (Table 7.3). -/
structure CellRec where
  head : Bool
  shared : Bool
  next : Nat
  owner : Nat
  refcnt : Nat
  /-- The record holds an uncorrectable error and is poisoned; words 0 to 31 of the cell's bytes that do (R252). -/
  bad : Bool := false
  dataBad : List Nat := []
  /-- Marked in the pass before the running one, and marked or allocated in the running one (R254). -/
  marked : Bool := true
  deriving DecidableEq, Repr

/-- A stripe of the HBM pool that is not free (R231, R232, R236): bits of the positions ever written, closed, parity written, the
records of its used positions. -/
structure Stripe where
  written : BitVec 7 := 0
  closed : Bool := false
  parity : Bool := false
  recs : Tab CellRec := []
  deriving DecidableEq, Repr

/-- An open stripe of a slice: its number, the next position, the tick of its last cell write (R232), and the cells written so far, which its
staging buffer keeps until the parity cell is written (R233). -/
structure OpenStripe where
  stripe : Nat
  pos : Nat
  last : Nat
  stage : List Bytes := []
  deriving DecidableEq, Repr

/-- A queued frame: the fields of its descriptor (Table 8.2). -/
structure QEntry where
  ptr : Nat
  shared : Bool
  cls : Nat
  len : Nat
  quota : Nat
  /-- System time of arrival in units of 64 ns. 32 bits. -/
  arrival : Nat
  deriving DecidableEq, Repr

/-- A frame held in cells: the frame, its cells' pointers in order, the quota it is charged to. -/
structure Stored where
  fl : Flight
  cells : List Nat
  quota : Nat
  deriving DecidableEq, Repr

/-- A quota (Table 7.8, Table 7.12). -/
structure Quota where
  ondFloor : Nat
  ondCeil : Nat
  hbmFloor : Nat
  hbmCeil : Nat
  ondUsed : Nat := 0
  hbmUsed : Nat := 0
  ondPeak : Nat := 0
  hbmPeak : Nat := 0
  refused : Nat := 0
  pushed : Nat := 0
  deriving DecidableEq, Repr

/-- What a queueing slice counts and holds. -/
structure Slice where
  /-- Frames handed over the die bridge, not yet admitted. R23. Reset empty. -/
  inbox : List Flight := []
  /-- Open stripe. R232. Reset none. -/
  stripe : Option OpenStripe := none
  /-- Discards by code 64 to 127: packets, bytes. 64 bits each. R259. Reset 0. -/
  drops : Tab Pair := []
  /-- Pushed-out frames, reclaimed cells, double frees, owner, pointer and free-list faults. R262. Reset 0. -/
  pushouts : Nat := 0
  leaked : Nat := 0
  doubleFrees : Nat := 0
  ownerFaults : Nat := 0
  ptrFaults : Nat := 0
  freelistFaults : Nat := 0
  deriving DecidableEq, Repr

/-- The buffer pools. -/
structure Buf where
  /-- Records of the used cells of the on-die pool by cell number. 64 bits each. R236. Reset none used. -/
  cell : Tab CellRec := []
  /-- Stripes of the HBM pool that are not on the free list. R232. Reset none. -/
  stripe : Tab Stripe := []
  /-- Frames by head pointer. R237. Reset none. -/
  frame : Tab Stored := []
  /-- Entries of the free lists that name used cells or stripes (R254 step 2). Reset none. -/
  badFree : List Nat := []
  /-- Slices 0 to 31. R259. -/
  slice : Tab Slice := []
  /-- Quotas by kind × 4,096 + number. R238. Reset the defaults of Table 7.4. -/
  quota : Tab Quota := []
  /-- HBM region in GiB, spill rate in 0.1 Tbit/s, audit age in ms. Table 7.7. Reset 96, 400, 100. -/
  hbmGib : Nat := 96
  spillRate : Nat := 400
  auditMs : Nat := 100
  /-- Spill bucket: 33,554,432 of its units are a cell of 2,048 bits, and a tick adds 25 times the rate; tick of the last refill.
  R244. DC 5 full, 65,536 cells. -/
  spillTok : Nat := 2199023255552
  spillStamp : Nat := 0
  /-- Classes that spill, may push out, may be pushed out. 8 bits each. Table 7.9. Reset 0x3F, 0xF0, 0x0F. -/
  spill : BitVec 8 := 0x3F
  mayPush : BitVec 8 := 0xF0
  pushable : BitVec 8 := 0x0F
  /-- Push-out stacks by class, newest first: head pointer and queue, at most 1,024. R247. Reset empty. -/
  pushStack : Tab (List (Nat × Nat)) := []
  /-- Discards of the queueing die by port × 128 + code. R259. Reset 0. -/
  portDrops : Tab Pair := []
  /-- Completed audit passes, on-die and HBM; tick at which the last on-die pass began. R254, R262. Reset 0. -/
  passesOnd : Nat := 0
  passesHbm : Nat := 0
  passAt : Nat := 0
  deriving DecidableEq, Repr

/-- Part of the active set an entry belongs to (R272). -/
inductive Part where
  | cold | shared | reserve
  deriving DecidableEq, Repr

/-- A queue (Table 8.8) and its configuration (R271, R320). -/
structure Queue where
  /-- Object state. 2 bits. Table 8.4. Reset RUNNING when bring-up ends (R288). -/
  obj : Obj := { st := .running, prev := .running }
  /-- Hot or cold, and since when a cold one has been activating. R271, R273. Reset cold. -/
  part : Part := .cold
  actSince : Option Nat := none
  /-- Frames, oldest first, and frames in the activation park. R270, R273. Reset empty. -/
  chain : List QEntry := []
  parked : List QEntry := []
  /-- Tick since which it is empty. R275. DC 5 0. -/
  emptyAt : Nat := 0
  /-- When its idle time ends, where it was set before a change of the idle time. R275, R290. Reset none. -/
  idleDue : Option Nat := none
  /-- Credit balance in cells, demand last sent, tick of the last CREDIT_REQ, grant sequence last received. 16 bits. R277, R278.
  Reset 0 (R271). -/
  balance : Nat := 0
  demand : Nat := 0
  reqAt : Nat := 0
  grantSeq : Nat := 0
  /-- Maximum sojourn in 10 µs. R257. Reset 0. -/
  sojourn : Nat := 0
  /-- Pinned by Q_PIN. R276. Reset 0. -/
  pinned : Bool := false
  /-- Frames discarded under codes 69 and 80 to 84. 64 bits. Table 8.8. Reset 0. -/
  dropped : Nat := 0
  /-- Histogram profile, watched, thresholds in bytes and 64 ns, admission limit in ns. Table 9.5. DC 5 0. -/
  hist : Nat := 0
  watched : Bool := false
  depthThr : Nat := 0
  delayThr : Nat := 0
  admitNs : Nat := 0
  /-- Thresholds that raised and have not fallen to 7/8. R318. Reset 0. -/
  depthHigh : Bool := false
  delayHigh : Bool := false
  /-- Both copies of its configuration were uncorrectable when it was activated: it runs with the default configuration until firmware has rewritten
  them. R274. Reset 0. -/
  cfgBad : Bool := false
  deriving DecidableEq, Repr

/-- The credit scheduler of a port (R281-R283). -/
structure CreditPort where
  /-- Window in cells, 0 for the default; cap; strict count; weights of children 0 to 7. Table 8.7. Reset 0, 4, 2, 1. -/
  window : Nat := 0
  cap : Nat := 4
  strict : Nat := 2
  weights : List Nat := List.replicate 8 1
  /-- Deficits in grants, fresh flags, current weighted child. R283. Reset 0; DC 5 the first weighted child. -/
  deficit : List Int := List.replicate 8 0
  fresh : List Bool := List.replicate 8 false
  cur : Nat := 2
  /-- Source device served last in each class. R283. DC 5 2,047. -/
  last : List Nat := List.replicate 8 2047
  /-- Tick before which pace allows no grant. R282. Reset 0. -/
  paceAt : Nat := 0
  /-- Grants issued, requests discarded for a full memory. R290. Reset 0. -/
  grants : Nat := 0
  flowFull : Nat := 0
  /-- Reserved cells of the egress quota. R281. Reset 0. -/
  reserved : Nat := 0
  deriving DecidableEq, Repr

/-- A credit flow (R280): demand, outstanding cells, grant sequence. -/
structure CFlow where
  demand : Nat
  outstanding : Nat
  seq : Nat
  deriving DecidableEq, Repr

/-- Queues, the active set and credits. -/
structure Qs where
  /-- Queues by ID. R264. -/
  q : Tab Queue := []
  /-- Egress queue maps by port × 8 + class: base and k. R266. Reset base 0x40_0000 + 8p + c, span 1. -/
  map : Tab (Nat × Nat) := []
  /-- Idle time in µs, egress reserve, flush time in ms. Table 8.7. Reset 100, 65,536, 10. -/
  idleUs : Nat := 100
  reserve : Nat := 65536
  flushMs : Nat := 10
  /-- Credit schedulers by port. R281. -/
  credit : Tab CreditPort := []
  /-- Credit flows by (port × 8 + class) × 2,048 + source device, at most 262,144. R280. Reset none. -/
  flow : Tab CFlow := []
  /-- Tick since which a device is unreachable. R285. Reset none. -/
  unreach : Tab Nat := []
  /-- When the flush time of an unreachable device ends, as set when it began; no entry for never. R285, R290. Reset none. -/
  flushDue : Tab Nat := []
  /-- Devices whose VOQs were flushed, and sources whose reservations were released, since they became unreachable. R285. -/
  flushed : List Nat := []
  released : List Nat := []
  deriving DecidableEq, Repr

/-- A shaper (R303-R305). -/
structure Shaper where
  on : Bool := false
  /-- Applied rate in kbit/s. -/
  rate : Nat := 0
  burst : Nat := 16384
  bucket : Bucket := { tokens := 16384 * 524288000000 }
  deriving DecidableEq, Repr

/-- An element of the egress hierarchy (R294-R305): a port, a node or an egress queue. -/
structure SchElem where
  /-- Parent: kind 1 port, 2 node, and its number; none for a port and for an unattached queue. -/
  parent : Option (Nat × Nat) := none
  pos : Nat := 0
  strict : Nat := 0
  weight : Nat := 1
  deficit : Int := 0
  fresh : Bool := false
  /-- Position of the current weighted child. R300. DC 5 0. -/
  cur : Nat := 0
  /-- Adjustment in bytes (ports). R301. Reset +20. -/
  adjust : Int := 20
  shaper : Shaper := {}
  /-- A frame has arrived while the queue had no parent. R297. Reset 0. -/
  unattached : Bool := false
  deriving DecidableEq, Repr

/-- A policer profile (R309). -/
structure PolProfile where
  cir : Nat
  cbs : Nat
  add20 : Bool
  deriving DecidableEq, Repr

/-- A policer (R309-R313). -/
structure Policer where
  /-- Profile. 16 bits. R309. Reset 0. -/
  profile : Nat := 0
  bucket : Bucket := {}
  /-- Counter base. 32 bits. R313. DC 5 0xFFFF_FFFF. -/
  base : Nat := 0xFFFFFFFF
  /-- The state word holds an uncorrectable error. R312. Reset 0. -/
  ue : Bool := false
  deriving DecidableEq, Repr

/-- A record of an accounting interval (Table 9.2) with its pairs. -/
structure AcctRec where
  flags : Nat
  seq : Nat
  start : Int
  durMs : Nat
  skipped : Nat
  pairs : List Pair
  deriving DecidableEq, Repr

/-- An accounting set (R321-R324). -/
structure Acct where
  base : Nat
  n : Nat
  mins : Nat
  /-- Sequence number of the open interval. 32 bits. R322. DC 5 0 on creation. -/
  seq : Nat := 0
  /-- Bank that counts now: 1 for the second. R321. -/
  bank : Bool := false
  /-- UTC second at which the open interval opened, tick of its opening, its flags. -/
  start : Int
  opened : Nat
  flags : Nat
  /-- UTC second of the boundary at which it closes. R321. -/
  ends : Int := 0
  /-- Closed intervals not yet exported: bank and record without its pairs, oldest first. R322. -/
  closed : List (Option Bool × AcctRec) := []
  /-- Export ring, newest first, at most 4; its byte offset in the export-ring area, and the records ever written. R322, Table 10.1. -/
  ring : List AcctRec := []
  ringAt : Nat := 0
  wrote : Nat := 0
  deriving DecidableEq, Repr

/-- Scheduling, policing, observation and accounting. -/
structure Sch where
  /-- Ports of the hierarchy. R296. Reset S 2, shaper off, adjustment +20. -/
  port : Tab SchElem := []
  /-- Nodes. R296. Reset none exists. -/
  node : Tab SchElem := []
  /-- Egress queues by ID. R296. Reset queue 0x40_0000 + 8p + c at position 7 − c of port p. -/
  q : Tab SchElem := []
  /-- Policer profiles. R309. Reset unset. -/
  prof : Tab PolProfile := []
  /-- Policers. R309. Reset profile 0. -/
  pol : Tab Policer := []
  /-- Histogram profiles: depth edges, delay edges. R316. Profile 0 as R316; the others DC 5 as profile 0. -/
  histProf : Tab (List Nat × List Nat) := []
  /-- Histograms by queue: 16 depth bins, 16 delay bins. 32 bits each. R316. DC 5 0. -/
  hist : Tab (List Nat) := []
  /-- Samples of watched queues summed on die. R316. Reset 0. -/
  sums : Tab (List Nat) := []
  /-- Ticks of the last watched sample, addition and hot sweep. R314, R317. DC 5 0. -/
  watchAt : Nat := 0
  addAt : Nat := 0
  sweepAt : Nat := 0
  /-- Tick of the last ageing sweep. R258. DC 5 0. -/
  ageAt : Nat := 0
  /-- Accounting sets. R321. Reset none. -/
  acct : Tab Acct := []
  deriving DecidableEq, Repr

end Sys2Proof.Machine
end

