-- ==== Sys2Proof/Machine/StateFab.lean ====
section
/-! DEFINITION. State of the in-package HBM (chapter "In-package HBM"), of the cell switch (chapter "The cell switch and packet
ordering") and of the fabric (chapter "Multi-device systems"). -/

namespace Sys2Proof.Machine

/-! ### HBM -/

/-- A requester port (Table 10.2): target in ns, reservation in GB/s (P0 and P1: derived, R338). -/
structure HbmPort where
  target : Nat
  reserve : Nat
  deriving DecidableEq, Repr

/-- The ports after reset (Table 10.2). -/
def hbmPortDefaults : List HbmPort :=
  [{ target := 2000, reserve := 0 }, { target := 800, reserve := 0 }, { target := 500, reserve := 200 },
   { target := 600, reserve := 800 }, { target := 10000, reserve := 200 }, { target := 1000, reserve := 200 },
   { target := 4000, reserve := 100 }, { target := 50000, reserve := 100 }]

/-- A request in the controller: its number, the tick it was presented at (R340), and whether it was issued (R341). -/
structure HbmWait where
  id : Nat
  req : HbmReq
  at_ : Nat
  issued : Bool := false
  deriving DecidableEq, Repr

/-- A command of the snapshot's log (Table 10.5). -/
structure HbmCmd where
  ns : Nat
  op : Nat
  bank : Nat
  port : Nat
  flags : Nat
  row : Nat
  col : Nat
  deriving DecidableEq, Repr

/-- A freeze snapshot (Table 10.5) as far as the device determines it. -/
structure Snapshot where
  cause : Nat
  discarded : Nat
  addr : Option Nat
  time : Int
  /-- Syndrome of each granule: the open value of log 4. -/
  syndrome : List Nat
  cmds : List HbmCmd
  deriving DecidableEq, Repr

/-- Steps of a return to service (Table 10.6): training, then the rebuild. -/
inductive Thaw where
  | none | training | rebuild
  deriving DecidableEq, Repr

/-- What a channel that is not in service holds for a single-copy area (Table 10.4): a port's write, a count of a pair of the counter store, or samples for the
eight bins of one granule of a queue's histogram. -/
inductive HeldWrite where
  | req (r : HbmReq)
  | count (i len : Nat)
  | bins (q g : Nat) (add : List Nat)
  deriving DecidableEq, Repr

/-- An HBM channel (Table 10.7). -/
structure HbmCh where
  /-- Object state. Table 10.7. Reset RUNNING when bring-up ends (R359); before it DC 5 STOPPED. -/
  obj : Obj := {}
  /-- Requests in the per-bank queues and in flight, oldest first. R341. Reset empty. -/
  reqs : List HbmWait := []
  /-- Bank activated last. R341. DC 5 0. -/
  bank : Nat := 0
  /-- Tick at which the next refresh is due; refreshes postponed, at most 8. R343. DC 5 0. -/
  refAt : Nat := 0
  refLate : Nat := 0
  /-- Writes in the running group, at most 16. R341. DC 5 0. -/
  group : Nat := 0
  /-- System time of the last retrain, ns. Tick of the next. R347. DC 5 0. -/
  retrained : Nat := 0
  retrainAt : Nat := 0
  /-- Forced retrains, correctable, uncorrectable errors, lost updates. R347, R350, R352. Reset 0. -/
  forced : Nat := 0
  ce : Nat := 0
  ue : Nat := 0
  lost : Nat := 0
  /-- Snapshot, and whether it has been read. R353, R356. Reset none. -/
  snap : Option Snapshot := none
  snapRead : Bool := false
  /-- Last 64 commands, oldest first. Table 10.5. DC 5 empty. -/
  log : List HbmCmd := []
  /-- Held single-copy writes, granules of them, and writes discarded since the buffer filled. R354. Reset none. -/
  held : List HeldWrite := []
  heldLost : Nat := 0
  /-- Units of duplicated areas marked for rebuild; units written since the rebuild began. R354, R357. Reset none. -/
  marked : List Nat := []
  written : List Nat := []
  /-- Step of a return to service, and the command that waits. Table 10.6. Reset none. -/
  thaw : Thaw := .none
  /-- Spare slot used, 0 to 2. R358. Reset none. -/
  slot : Option Nat := none
  /-- Spare slot being filled by a salvage. R358. Reset none. -/
  salvage : Option Nat := none
  /-- Delay record loaded, in legacy mode; a mode change waits for the next pause. R348. Reset native. -/
  legacy : Option Bytes := none
  pendMode : Option (Option Bytes) := none
  deriving DecidableEq, Repr

/-- Self-refresh of a stack (R344, R345). -/
inductive SelfRef where
  | awake | asleep | leaving
  deriving DecidableEq, Repr

/-- An HBM stack. -/
structure HbmStack where
  sr : SelfRef := .awake
  /-- Tick of the last work, and of the last exit. R344, R345. DC 5 0. -/
  workAt : Nat := 0
  exitAt : Nat := 0
  /-- Temperature, °C. R343. DC 5 0. -/
  temp : Int := 0
  /-- Temperature when the delays were loaded, and EV_HBM_DRIFT raised since. R348. DC 5 0. -/
  loadTemp : Int := 0
  drift : Bool := false
  /-- Consecutive windows under pressure. R362. Reset 0. -/
  press : Nat := 0
  /-- Tick at which the last window ended. R362. DC 5 0. -/
  winAt : Nat := 0
  /-- Requests that could not enter: held at their ports by handshake. R339. Reset empty. -/
  wait : List HbmWait := []
  deriving DecidableEq, Repr

/-- In-package HBM. -/
structure Hbm where
  port : List HbmPort := hbmPortDefaults
  /-- Channels by stack × 32 + channel. R333. -/
  ch : Tab HbmCh := []
  stack : Tab HbmStack := []
  /-- Number of the next request: the model's own. DC 5 0. -/
  ids : Nat := 0
  /-- Idle time in µs. R344. Reset 1,000. -/
  idleUs : Nat := 1000
  /-- Shedding level, tick of its last change, tick since which no stack is under pressure. R362. Reset 0. -/
  level : Nat := 0
  levelAt : Nat := 0
  calmAt : Nat := 0
  /-- EV_HBM_BUDGET raised while C is below the reservations. R361. Reset 0. -/
  short : Bool := false
  /-- Bytes of the stacks by stack × 2^34 + offset; unlisted bytes are 0 (log 6). R336. -/
  mem : List Host.Cell := []
  /-- Poisoned granules, by address ÷ 32. R349. Reset none. -/
  poison : List Nat := []
  /-- Latencies of completed requests in ns by port, newest first, and target misses by port. R363. Reset none. -/
  lat : Tab (List Nat) := []
  miss : Tab Nat := []
  /-- Legacy mode asked for. R348. Reset native. -/
  mode : Bool := false
  deriving DecidableEq, Repr

/-! ### Cell switch -/

/-- What a cell of the switch carries: the k-th of n cells of a frame on the local path, the first with its frame, its destination
port and class and its cut-through mark; or a fabric cell and its link (R370). -/
inductive SwLoad where
  | piece (f : Option Flight) (port cls n k : Nat) (mark abort : Bool)
  | fab (link : Nat) (c : FabCell)
  deriving DecidableEq, Repr

/-- A cell in the switch. -/
structure SwCell where
  input : Nat
  /-- Stream class: 0 to 7, or 8 for FC. -/
  cls : Nat
  /-- Internal sequence number. 16 bits. R376. -/
  seq : Nat
  load : SwLoad
  /-- Marked bad (R377). -/
  bad : Bool := false
  deriving DecidableEq, Repr

/-- A crosspoint (R372, R373): its data FIFO, its FC slot, freed places that are held (input and phase since), and the input that last
filled a place. -/
structure Xp where
  data : List SwCell := []
  fc : Option SwCell := none
  holds : List (Nat × Nat) := []
  last : Nat := 63
  deriving DecidableEq, Repr

/-- An output: its resequencer (R376) and its hold (R374). -/
structure SwOut where
  /-- Next number by input × 16 + class. 16 bits. -/
  expect : Tab Nat := []
  held : List SwCell := []
  /-- Tick since which it is held; EV_CSW_OUTPUT_HELD raised. -/
  since : Option Nat := none
  raised : Bool := false
  /-- A fabric cell taken and not yet on a link. -/
  wait : List (Nat × FabCell) := []
  deriving DecidableEq, Repr

/-- A frame in reassembly at an egress slice, or started before its last cell (R379, R382). -/
structure Asm where
  /-- Stream it belongs to: source device (2,048 for the local path), source slice or input, class. -/
  dev : Nat
  srcSlice : Nat
  cls : Nat
  fl : Flight
  /-- Egress queue and its head pointer. -/
  q : Nat
  cells : List Nat
  n : Nat
  /-- Cells in, or for the fabric path bytes in. -/
  got : Nat
  mark : Bool
  /-- Input port rate, Gbit/s. -/
  rate : Nat
  firstAt : Nat
  whole : Bool := false
  joined : Bool := false
  failed : Bool := false
  /-- Ended on the line before it was whole (R382). -/
  starved : Bool := false
  deriving DecidableEq, Repr

/-- The cell switch. -/
structure Csw where
  /-- Phases completed. 64 bits; the phase counter t is its low part. R367, R387. Reset 0. -/
  phases : Nat := 0
  /-- Staging by input × 64 + output, oldest first. R369. Reset empty. -/
  stage : Tab (List SwCell) := []
  /-- Output served last at each intermediate, by input × 64 + intermediate. R371. DC 5 63. -/
  rr : Tab Nat := []
  /-- Crosspoints by intermediate × 64 + output. R372. Reset empty. -/
  xp : Tab Xp := []
  out : Tab SwOut := []
  /-- Next internal number by (input × 64 + output) × 16 + class. R376. DC 5 0. -/
  seq : Tab Nat := []
  /-- Frames in reassembly by egress slice, in the order of their first cells. R379. Reset none. -/
  asm : Tab (List Asm) := []
  /-- Cut-through classes by port. 8 bits. Table 11.4. Reset 0. -/
  cut : Tab Nat := []
  /-- Table 11.5. Reset 0. -/
  ctIn : Nat := 0
  ctOut : Nat := 0
  ctAbort : Nat := 0
  peak : Nat := 0
  badCells : Nat := 0
  deriving DecidableEq, Repr

/-! ### Fabric -/

/-- Phases of a STARTING link (R403): training, waiting for DISCOVER, qualifying, waiting to start again. -/
inductive LinkPhase where
  | idle | discover | qualify | retry
  deriving DecidableEq, Repr

/-- An entry of a retry buffer (R394). -/
structure RetryCell where
  cell : FabCell
  sentAt : Nat
  replays : Nat
  deriving DecidableEq, Repr

/-- A fabric link (R391-R405). -/
structure FLink where
  /-- Object state. Table 12.4. Reset STOPPED until bring-up (R405). -/
  obj : Obj := {}
  phase : LinkPhase := .idle
  /-- Tick at which the phase ends. R403. Reset none. -/
  phaseDue : Option Nat := none
  /-- Peer: device, ID, plane, port. R403. Reset none. -/
  peer : Option (Bool × Nat × Nat × Nat) := none
  /-- One-way delay in ticks. R402. Reset none. -/
  delay : Option Nat := none
  /-- Reach map, 2,048 bits: reachable devices. R404. Reset none. -/
  reach : List Nat := []
  /-- Next link_seq to send, next expected. 16 bits. R394. DC 5 0. -/
  txSeq : Nat := 0
  rxSeq : Nat := 0
  /-- Cells are discarded until the missing one arrives. R394. Reset 0. -/
  gap : Bool := false
  /-- Retry buffer, at most 512, oldest first. R394. Reset empty. -/
  retry : List RetryCell := []
  /-- Ticks of the last acknowledgement sent and of the last cell that passed its hcs. R394, R396. DC 5 0. -/
  ackAt : Nat := 0
  goodAt : Nat := 0
  /-- Replays, resends, hcs and FEC failures. R418. Reset 0. -/
  replays : Nat := 0
  resends : Nat := 0
  hcsBad : Nat := 0
  fecBad : Nat := 0
  /-- Data cells sent since the last FC cell, at most 7. R393. Reset 7. -/
  dataRun : Nat := 7
  /-- Outstanding DELAY_REQ: number and send time. Number of the next. Tick of the next measurement. R402. DC 5 0. -/
  dreq : Option (Nat × Int) := none
  dseq : Nat := 0
  measAt : Nat := 0
  deriving DecidableEq, Repr

/-- Tables that change by epoch (R411). -/
structure EpochTab where
  epoch : Nat := 0
  /-- Rows of the ephemeris that differ from R407. -/
  rows : Tab (List Nat) := []
  /-- Class map. 8 bytes. Table 12.6. Reset TCc ÷ 2 and c. -/
  cmap : List Nat := (List.range 8).map fun c => c / 2 * 8 + c
  /-- Excluded planes. 32 bits. Reset 0. -/
  planes : Nat := 0
  deriving DecidableEq, Repr

/-- A prepared epoch at a member (Table 12.7). -/
structure Prepared where
  src : Nat
  kinds : Nat
  at_ : Int
  tab : EpochTab
  deriving DecidableEq, Repr

/-- An FC message on its way to a device (R408, R467): its type, its bytes that have not left yet, whether its first bytes have left, and the
link it must take. -/
structure FcMsg where
  kind : Nat
  bytes : Bytes
  begun : Bool := false
  link : Option Nat := none
  deriving DecidableEq, Repr

/-- EPOCH_CANCEL messages still to send (Table 12.7 step 5): epoch, members, how many times, when next. -/
structure CancelRun where
  epoch : Nat
  members : List Nat
  left : Nat
  due : Nat
  deriving DecidableEq, Repr

/-- The coordination of an epoch change at the meridian (Table 12.7), or at the backup, which records the acknowledgements. -/
structure Coord where
  /-- Command of the meridian's host; none at the backup. -/
  intake : Option Nat
  epoch : Nat
  at_ : Int
  members : List Nat
  acks : Tab Nat := []
  decided : Bool := false
  deriving DecidableEq, Repr

/-- A resequencer (R399, R400): next expected number, held cells with the ticks of their arrival. -/
structure Reseq where
  next : Nat := 0
  held : List (Nat × FabCell) := []
  deriving DecidableEq, Repr

/-- A reassembly context (R401): whether it is in step, and the bytes since the last frame's end. -/
structure FabCtx where
  sync : Bool := true
  buf : Bytes := []
  deriving DecidableEq, Repr

/-- Bytes of a stream that wait for a full cell (R397), and the offset of the first frame header among them, in 8-byte units. -/
structure Partial where
  bytes : Bytes
  first : Option Nat
  dev : Nat
  slice : Nat
  cls : Nat
  deriving DecidableEq, Repr

/-- What the meridian collects about one subject (R416). -/
structure ObsWin where
  subjKind : Nat
  subj : Nat
  kind : Nat
  epoch : Nat
  observers : List Nat
  first : Nat
  last : Nat
  opened : Nat
  closed : Bool := false
  /-- Observations stored; those after the event, counted only. -/
  stored : Nat := 1
  later : Nat := 0
  deriving DecidableEq, Repr

/-- A relay as a device takes part in it (R417, R602). -/
structure Relay where
  image : Nat
  count : Nat
  /-- Command of the meridian's host; none elsewhere. -/
  intake : Option Nat := none
  /-- Store locally (flag bit 0). -/
  keep : Bool := true
  /-- Chunks held, with their CRC. -/
  chunks : Tab Bytes := []
  /-- Device it forwards to, if one is left. -/
  succ : Option Nat := none
  /-- Chunks sent to it and not acknowledged, with the tick of sending; next chunk to send; tick of its last acknowledgement. -/
  sent : Tab Nat := []
  nextIdx : Nat := 0
  heard : Nat := 0
  skipped : List Nat := []
  /-- Devices reached, as far as the meridian knows. -/
  finished : Bool := false
  deriving DecidableEq, Repr

/-- The fabric. -/
structure Fab where
  /-- Device ID; meridian and backup of FAB_SET_SYSTEM. 11 bits each. R409. DC 5 0, 0, 1. -/
  id : Nat := 0
  meridian : Nat := 0
  backup : Nat := 1
  /-- Device that holds the role, term. 32 bits. R410. DC 5 0, 0. -/
  holder : Nat := 0
  term : Nat := 0
  /-- FAB_SET_SYSTEM has been given. DC 5 0. -/
  configured : Bool := false
  /-- Links 0 to 511. R366. -/
  link : Tab FLink := []
  /-- Links whose optical engine has light. R405, R646. DC 5 none. -/
  light : List Nat := []
  /-- Next stream number by (device × 32 + slice) × 16 + class. 16 bits. R397. DC 5 0. -/
  seq : Tab Nat := []
  /-- Pointer into the row of device d of slice p, by p × 2,048 + d. R406. Reset (p × L_d) ÷ 32, listed once moved. -/
  ptr : Tab Nat := []
  cur : EpochTab := {}
  /-- Tables of the previous epoch and the system time until which they are kept. R411. Reset none. -/
  old : Option (EpochTab × Int) := none
  /-- Staged rows. R420. Reset none. -/
  staged : Option (Nat × Tab (List Nat)) := none
  prep : Option Prepared := none
  coord : Option Coord := none
  /-- Quarantined devices, and senders reported stale with the epoch. R413. Reset none. -/
  quar : List Nat := []
  stale : List (Nat × Nat) := []
  /-- Epoch for which EV_FAB_EPOCH_BEHIND was raised. R414. Reset none. -/
  behind : Option Nat := none
  /-- Streams at the egress slices by (slice × 2,048 + device) × 16 + class. R399. Reset none. -/
  reseq : Tab Reseq := []
  /-- Reassembly contexts by ((slice × 2,048 + device) × 32 + source slice) × 16 + class. R401. Reset none. -/
  ctx : Tab FabCtx := []
  /-- Partly filled cells by source slice × 2^20 + stream. R397. Reset none. -/
  part : Tab Partial := []
  /-- Outgoing FC queues by destination device: the first 256 messages of a list are the queue, those behind them wait in the state they come
  from. R467. Reset empty. -/
  fcq : Tab (List FcMsg) := []
  /-- Tick from which the next RELAY_CHUNK may leave. R417. Reset 0. -/
  relayPace : Nat := 0
  /-- EPOCH_CANCEL messages to repeat. Table 12.7. Reset none. -/
  cancel : Option CancelRun := none
  /-- H in µs, 0 for the default. R400. Reset 0. -/
  h : Nat := 0
  /-- Duplicates, SEQ_LOSS, stale cells. R418. Reset 0. -/
  dupes : Nat := 0
  seqLoss : Nat := 0
  staleCells : Nat := 0
  /-- Ticks of the next HEARTBEAT and EPOCH_STATUS to send, of the last HEARTBEAT received. R409, R410, R413. DC 5 0. -/
  hbAt : Nat := 0
  stAt : Nat := 0
  hbSeen : Nat := 0
  /-- Tick of the next PORT_VECTOR. R122. DC 5 0. -/
  pvAt : Nat := 0
  /-- Observations sent: subject kind, kind, subject, epoch. R415. Reset none. -/
  told : List (Nat × Nat × Nat × Nat) := []
  /-- Observations stored at the meridian, those counted only, subjects. R416. Reset 0. -/
  obsN : Nat := 0
  obsLost : Nat := 0
  obs : List ObsWin := []
  /-- Ticks of the last change of a flow's outstanding count. R400. DC 5 0. -/
  flowAt : Tab Nat := []
  relay : Option Relay := none
  deriving DecidableEq, Repr

end Sys2Proof.Machine
end

