-- ==== Sys2Proof/Machine/StateLine.lean ====
section
/-! DEFINITION. State of the line lanes and ports (chapters "Line lanes, ports and link measurement" and "Line framing,
defects and performance monitoring"). -/

namespace Sys2Proof.Machine

/-- Link state (R62). -/
inductive Link where
  | down | training | up
  deriving DecidableEq, Repr

/-- Where a RUNNING port stands in the detection cycle (R52-R54): not in it; step 1; step 3; step 4; auto-negotiation;
IEEE link training; the 100 ms wait. -/
inductive Cycle where
  | none | ability | train | ready | autoneg | linkTrain | restartWait
  deriving DecidableEq, Repr

/-- A line lane. -/
structure Lane where
  /-- Transmitter and receiver powered. 1 bit. R45. Reset 0. -/
  power : Bool := false
  /-- Signal detected. 1 bit. R76. DC 5 0 (powered down, R45). -/
  signal : Bool := false
  /-- Tick of the last change of signal. R76. DC 5 0. -/
  sigSince : Nat := 0
  /-- Block lock. 1 bit. Table 3.4. DC 5 0. -/
  blockLock : Bool := false
  /-- Timestamp calibration of the last lock failed. 1 bit. R427. Reset 0. -/
  calBad : Bool := false
  /-- Alignment-marker lock, or L400 group lock. 1 bit. R48, Table 3.4. DC 5 0. -/
  amLock : Bool := false
  /-- Markers found in place, and missed, in a row. R48. DC 5 0. -/
  amHits : Nat := 0
  amMiss : Nat := 0
  /-- Tick since which lock is as it is. Table 3.4. DC 5 0. -/
  lockSince : Nat := 0
  /-- Tick since which every codeword is uncorrectable. R77. DC 5 none. -/
  uncorrSince : Option Nat := none
  /-- Tick at which the fast codeword trigger last ended. R77. DC 5 none. -/
  fastEnd : Option Nat := none
  /-- RS corrected symbols, uncorrectable codewords, erasures. 32 bits each. R68. DC 5 0. -/
  rsCorr : Nat := 0
  rsUncorr : Nat := 0
  erasures : Nat := 0
  /-- Training step of Table 2.6, 0 outside training. R68. DC 5 0. -/
  step : Nat := 0
  /-- ABILITY frames valid in a row. Table 2.6. DC 5 0. -/
  abCount : Nat := 0
  /-- Control word of the last valid ABILITY frame. 32 bits. R53. DC 5 0. -/
  abControl : Nat := 0
  /-- Link identity of the last valid ABILITY frame. 31 bits. R53. DC 5 none. -/
  abId : Option Nat := none
  /-- Transmit taps pre2, pre1, main, post1, in 1/64 steps from preset. R50, R68. DC 5 0. -/
  taps : List Int := [0, 0, 0, 0]
  /-- Tap requests being sent, 2 bits each in the order of `taps`. R51. DC 5 hold. -/
  tapReq : List Nat := [0, 0, 0, 0]
  /-- Tap statuses being sent. R51. DC 5 not updated. -/
  tapStatus : List Nat := [0, 0, 0, 0]
  /-- Local receiver ready; partner's receiver ready; countdown being sent. R50, R52. DC 5 0, 0, 7. -/
  rxReady : Bool := false
  peerReady : Bool := false
  countdown : Nat := 7
  /-- Frames discarded on the receive and transmit FIFOs of Table 1.4. R31. Reset 0. -/
  rxOverrun : Nat := 0
  txUnderrun : Nat := 0
  deriving DecidableEq, Repr

/-- One second as R88 may move it: the sequence numbers of its two bins, and whether it was ES, SES and its BBE. -/
structure PmSec where
  seq15 : Nat
  seqDay : Nat
  es : Bool
  ses : Bool
  bbe : Nat
  deriving DecidableEq, Repr

/-- Availability of one end (R88): unavailable, and the seconds of the run that may change it, newest first. -/
structure PmEnd where
  unavail : Bool := false
  run : List PmSec := []
  deriving DecidableEq, Repr

/-- A performance bin (Table 3.12). -/
structure Bin where
  flags : Nat := 0x28
  seq : Nat := 0
  start : Int := 0
  duration : Nat := 0
  neEs : Nat := 0
  neSes : Nat := 0
  neUas : Nat := 0
  neBbe : Nat := 0
  feEs : Nat := 0
  feSes : Nat := 0
  feUas : Nat := 0
  feBbe : Nat := 0
  skipped : Nat := 0
  deriving DecidableEq, Repr

/-- Thresholds of one bin type, and the (counter, end) pairs already raised in the current bin (R93). -/
structure Tca where
  es : Nat := 0
  ses : Nat := 0
  uas : Nat := 0
  bbe : Nat := 0
  raised : List (Nat × Nat) := []
  deriving DecidableEq, Repr

/-- A port. -/
structure Port where
  /-- Width in lanes, 0 for an undefined port. R65. Reset 0. -/
  width : Nat := 0
  /-- Lane mode 0 L100, 1 L200, 2 L400. R65. DC 5 0. -/
  laneMode : Nat := 0
  /-- Framing: OTUCn. 1 bit. R65. Reset 0 Ethernet. -/
  otucn : Bool := false
  /-- Medium: CR. 1 bit. R65. DC 5 0. -/
  cr : Bool := false
  /-- Class-map profile, 0 to 63. R111. DC 5 0. -/
  classProfile : Nat := 0
  /-- Object state. Table 2.7. Reset STOPPED. -/
  obj : Obj := {}
  /-- Link state. R62. Reset down. -/
  link : Link := .down
  /-- Resolved mode. R54. Reset none. -/
  resolved : Option Nat := none
  /-- Phase of the detection cycle. R54. Reset none. -/
  cycle : Cycle := .none
  /-- Data flows in the resolved mode: no training is pending. R52. Reset 0. -/
  trained : Bool := false
  /-- A valid ABILITY frame arrived in this step 1. R53. Reset 0. -/
  anyAbility : Bool := false
  /-- EV_PORT_LOOPBACK was raised in this step 1 (log 15). Reset 0. -/
  loopRaised : Bool := false
  /-- Deadline of the phase, in ticks. Table 2.6, R53, R54. Reset none. -/
  stepDue : Option Nat := none
  /-- Allowed modes, bits as Table 2.10. 3 bits. R54. DC 5 0. -/
  allowed : Nat := 0
  /-- Negotiation on. 1 bit. R54. Reset 0. -/
  negotiate : Bool := false
  /-- Own link identity. 31 bits. Table 2.5. DC 5 0, drawn on entering STARTING. -/
  identity : Nat := 0
  /-- Partner abilities, identity and last pages. R57, R68. Reset none. -/
  partnerAb : Option Nat := none
  partnerId : Option Nat := none
  lastPage : Option Nat := none
  /-- Partner abilities and allowed set for which EV_PORT_NO_COMMON_MODE was raised last. R57. Reset none. -/
  ncRaised : Option (Nat × Nat) := none
  /-- EV_PORT_PARTNER_GONE raised and signal not yet back. R58. Reset 0. -/
  gone : Bool := false
  /-- Tick at which the running round-trip measurement began. R60. Reset none. -/
  rttAt : Option Nat := none
  /-- Receive and transmit limits. 16 bits each. R657. Reset 16,383. -/
  rxLimit : Nat := 16383
  txLimit : Nat := 16383
  /-- Raw defects, bits 8:0 of Table 3.11. R79. Reset 0. -/
  raw : BitVec 9 := 0
  /-- Defects whose declaration was raised. R79. Reset 0. -/
  declared : BitVec 9 := 0
  /-- Out of frame, and since when frame alignment is as it is. Table 3.2. Reset 0 (Table 3.11), DC 5 0. -/
  oof : Bool := false
  oofSince : Nat := 0
  /-- Out of multiframe, and since when. Table 3.2. Reset 0 (Table 3.11), DC 5 0. -/
  oom : Bool := false
  oomSince : Nat := 0
  /-- Frames in a row with the FAS absent, and present, per slice. Table 3.2. DC 5 0. -/
  fasMiss : List Nat := []
  fasOk : List Nat := []
  /-- Frames in a row with an unexpected, and the expected, MFAS; the last MFAS. Table 3.2. DC 5 0. -/
  mfasBad : Nat := 0
  mfasOk : Nat := 0
  lastMfas : Nat := 0
  /-- Frames in a row with STAT 0b111, without it, with BDI, without it. Table 3.4. DC 5 0. -/
  aisRun : Nat := 0
  aisOff : Nat := 0
  bdiRun : Nat := 0
  bdiOff : Nat := 0
  /-- MFAS of the last OTUC frame sent. 8 bits. R73. DC 5 0. -/
  txMfas : Nat := 0
  /-- Columns of the last local-fault and remote-fault sequences, newest first, and the tick of the newest. Table 3.4.
  DC 5 none. -/
  lfCols : List Nat := []
  rfCols : List Nat := []
  lfTick : Nat := 0
  rfTick : Nat := 0
  /-- TTI to send, expected, accepted. 64 bytes each. R73-R75. Reset: tx 0 (R73); others DC 5 0. -/
  txTti : Bytes := List.replicate 64 0
  expTti : Bytes := List.replicate 64 0
  accTti : Bytes := List.replicate 64 0
  /-- Comparison mode, tim_action. R75, R95. DC 5 0. -/
  ttiMode : Nat := 0
  timAction : Bool := false
  /-- The TTI being received, the last whole one, and how often in a row it came. R74. DC 5 empty. -/
  ttiBuf : Bytes := []
  ttiLast : Bytes := []
  ttiSame : Nat := 0
  /-- Hold-off and wait-to-restore in ms. R84, R85. Reset 0 and 10,000. -/
  holdoffMs : Nat := 0
  wtrMs : Nat := 10000
  /-- Hold-off timers, each with its defect's bit, and the wait-to-restore timer. R84, R85. Reset not running. -/
  holdoffDue : List (Nat × Nat) := []
  wtrDue : Option Nat := none
  /-- Protection-down, and since when. R83, Table 3.11. Reset: PROT_DOWN reads 0 in Table 3.11, a port that is not RUNNING is
  protection-down (R83): 1 (log 16). -/
  protDown : Bool := true
  /-- Forced protection-down by FRR_FORCE. R126. DC 5 0. -/
  forced : Bool := false
  protSince : Nat := 0
  /-- The port entered RUNNING and has not yet left protection-down. R85. Reset 0. -/
  firstUp : Bool := false
  /-- A link-cutting defect lasts until this tick before the cycle restarts. R82. Reset none. -/
  persistDue : Option Nat := none
  /-- The second being counted: its UTC number, the sequence numbers of its bins, RUNNING throughout, defects seen, blocks,
  near-end and far-end errored blocks. R87. DC 5 0. -/
  secUtc : Int := 0
  secSeq15 : Nat := 0
  secSeqDay : Nat := 0
  secRun : Bool := false
  secRaw : BitVec 9 := 0
  secBlocks : Nat := 0
  secNe : Nat := 0
  secFe : Nat := 0
  /-- The part of a second after a time step, which is not classified. 1 bit. R92. Reset 0. -/
  secPart : Bool := false
  /-- Availability of the near and far end. R88. Reset available. -/
  near : PmEnd := {}
  far : PmEnd := {}
  /-- 15-minute and 24-hour bins, the current one first. R89. Reset empty current bins. -/
  bins15 : List Bin := [{}]
  binsDay : List Bin := [{}]
  /-- Thresholds per bin type. R93. DC 5 0. -/
  tca15 : Tca := {}
  tcaDay : Tca := {}
  deriving DecidableEq, Repr

end Sys2Proof.Machine
end

