-- ==== Sys2Proof/Machine/StateNv.lean ====
section
/-! DEFINITION. What a device reset leaves as it was (R581): the fuses of Table 21.1, the flash of Table 19.2 and the latched
tamper status. The manual gives none of them a content at manufacture; the model's are DC 5. -/

namespace Sys2Proof.Machine

/-- Slot states (Table 19.4). -/
inductive SlotSt where
  | empty | writing | written | trial | good | bad
  deriving DecidableEq, Repr

/-- A firmware slot with its fields of the directory (Table 19.3). -/
structure FwSlot where
  st : SlotSt := .empty
  /-- Last BAD cause: 1 signature, 2 digest, 3 security version, 4 tries. 8 bits. -/
  cause : Nat := 0
  /-- Configuration format of the slot's control firmware. 16 bits. -/
  fmt : Nat := 0
  len : Nat := 0
  crc : Nat := 0
  image : Bytes := []
  deriving DecidableEq, Repr

/-- The persisted configuration (R594). -/
structure Persist where
  /-- Retired HBM channels, by stack × 32 + channel (R358). -/
  retired : List Nat := []
  /-- Delay records of MEM_SET_TRAINING, by channel. -/
  legacy : Tab Bytes := []
  /-- Tamper responses: bit k set means alarm only (R635). 4 bits. -/
  alarmOnly : BitVec 4 := 0
  deriving DecidableEq, Repr

/-- What survives a device reset. -/
structure Nv where
  /-- Revocation bits of keys 0 to 3. 4 bits. R626. DC 5 0. -/
  revoked : BitVec 4 := 0
  /-- Fused minimum security version, 0 to 64. R626. DC 5 0. -/
  minVer : Nat := 0
  /-- Tamper log, at most 32 entries of 2 bytes, oldest first. R641. DC 5 empty. -/
  tamperLog : List Nat := []
  /-- Tamper latch. 32 bits (Table 21.5), without LOG_USED. DC 5 0. -/
  latch : BitVec 32 := 0
  /-- Directory: generation. 32 bits. Table 19.3. DC 5 0. -/
  generation : Nat := 0
  /-- Directory: slot last confirmed. R585. DC 5 A. -/
  current : Nat := 0
  /-- Directory: slot on trial. R585. DC 5 none. -/
  trial : Option Nat := none
  /-- Directory: tries. 8 bits. R585. DC 5 0. -/
  tries : Nat := 0
  /-- Directory: ignore BOOT_SRC 0b11 once. R604. DC 5 0. -/
  ignoreSrc : Bool := false
  /-- Directory: confirmation time in minutes. 16 bits. R585. DC 5 0. -/
  confirmMin : Nat := 0
  /-- Slots A and B. Table 19.4. DC 5 EMPTY. -/
  slotA : FwSlot := {}
  slotB : FwSlot := {}
  /-- Configuration regions of slots A and B: format and contents of the newest readable copy. R594. DC 5 none. -/
  regionA : Option (Nat × Persist) := none
  regionB : Option (Nat × Persist) := none
  deriving DecidableEq, Repr

end Sys2Proof.Machine
end

