-- ==== Sys2Proof/Machine/StateSys.lean ====
section
/-! DEFINITION. State of Transit and PTP (chapter "Transit"), of the DMA engine and the check-value units, of the triad and the die
bridge, of firmware and its images, of power and sensing, of keys, MACsec and tamper, of the test port. -/

namespace Sys2Proof.Machine

/-! ### Time -/

/-- Servo states (Table 13.2). -/
inductive Servo where
  | freerun | acquiring | locked | holdover | expired
  deriving DecidableEq, Repr

/-- PTP port states (IEEE 1588-2019; R432). -/
inductive PtpSt where
  | off | listening | master | passive | slave
  deriving DecidableEq, Repr

/-- A unicast session granted in master role: port, peer, message type, tick of its end (R432, R433). -/
structure Session where
  port : Nat
  peer : Nat
  msg : Nat
  ends : Nat
  deriving DecidableEq, Repr

/-- A PTP instance (R430, R456). -/
structure PtpInst where
  profile : Nat
  domain : Nat
  prio1 : Nat
  prio2 : Nat
  localPrio : Nat
  slaveOnly : Bool
  clockId : Nat
  sessions : List Session := []
  deriving DecidableEq, Repr

/-- A port's part in PTP and ESMC (R431-R435, R446-R450, Table 13.6). -/
structure TPort where
  /-- Settings. Table 13.6. Reset: role off; the others DC 5 0, no instance. -/
  inst : Option Nat := none
  role : Nat := 0
  oneStep : Bool := false
  esmc : Bool := false
  logSync : Int := 0
  logDelay : Int := 0
  logAnn : Int := 0
  portNo : Nat := 0
  asym : Int := 0
  ingress : Int := 0
  egress : Int := 0
  ql : Nat := 0
  thr : Nat := 0
  /-- PTP state. R432. DC 5 off. -/
  st : PtpSt := .off
  /-- Data set of the last Announce and the tick it came. R432. DC 5 none. -/
  foreign : Option (AnnounceMsg × Nat) := none
  /-- Tick of entry to SLAVE, of the last usable Sync, Syncs and delay responses since the entry. R438. DC 5 0. -/
  slaveAt : Nat := 0
  syncAt : Nat := 0
  syncs : Nat := 0
  resps : Nat := 0
  /-- A two-step Sync that waits for its Follow_Up: sequence, receive time, correction, source. R434. Reset none. -/
  two : Option (Nat × Int × Int × Nat × Nat) := none
  /-- Master-to-slave time of the last Sync. R448. Reset none. -/
  t12 : Option Int := none
  /-- Delay_Req sent and not answered: sequence, transmit time; the same for Pdelay_Req. R448. Reset none. -/
  dreq : Option (Nat × Int) := none
  preq : Option (Nat × Int) := none
  /-- A two-step Pdelay_Resp: sequence, receipt of the request there, receive time here. R448. Reset none. -/
  presp : Option (Nat × Int × Int) := none
  /-- Delays of the last 16 exchanges, newest first. R448. Reset none. -/
  delays : List Int := []
  /-- Passive offset, and EV_TIME_ASYM raised. R450. Reset none. -/
  passive : Option Int := none
  asymRaised : Bool := false
  /-- Next sequence numbers and due ticks of Sync, delay, peer delay, Announce. R433. DC 5 0. -/
  seq : List Nat := [0, 0, 0, 0]
  dueAt : List Nat := [0, 0, 0, 0]
  /-- Received quality level. R446. Reset none. -/
  rxQl : Option Nat := none
  /-- Tick of the next ESMC information PDU; the level changed since the last PDU. R446. DC 5 0. -/
  esmcAt : Nat := 0
  esmcNew : Bool := false
  /-- TC_NO_TRAILER. R434. Reset 0. -/
  noTrailer : Nat := 0
  /-- Residence times that wait for the Follow_Up of a two-step message: source, sequence, ticks. R435. Reset none. -/
  tcRes : List (Nat × Nat × Int) := []
  deriving DecidableEq, Repr

/-- A step that was accepted and not applied (R442, R443): mode 1 absolute, its apply time in ns of system time, its value in ticks, the
command that waits for it. -/
structure PendStep where
  seq : Nat
  absolute : Bool
  applyNs : Nat
  value : Int
  intake : Option Nat
  deriving DecidableEq, Repr

/-- Transit. -/
structure TimeSt where
  /-- System time less elapsed time, in ticks: the sum of all steps. R424. Reset 0 (R581). -/
  off : Int := 0
  /-- Step history, newest first, at most 8: tick and size; older ones were dropped. R424. Reset empty. -/
  hist : List (Nat × Int) := []
  cut : Bool := false
  /-- UTC offset in seconds and leap-second flags. 16 bits, 1 bit each. R422. Reset 0. -/
  utc : Int := 0
  leap61 : Bool := false
  leap59 : Bool := false
  /-- Servo state, selected source, valid sources, last offset. R437, R440. Reset FREERUN, none. -/
  servo : Servo := .freerun
  source : TimeSource := .none
  valid : List TimeSource := []
  offset : Int := 0
  /-- Last offset of each phase source. R437. Reset none. -/
  samples : List (TimeSource × Int) := []
  /-- Settings of TIME_SET_SOURCE. Table 13.7. Reset its defaults. -/
  prioPtp : Nat := 1
  prioPps : Nat := 2
  classPps : Nat := 6
  autoStep : Bool := true
  useFreq : Bool := true
  bw : Nat := 100
  slew : Nat := 100
  holdNs : Nat := 1000
  window : Nat := 100
  classHold : Nat := 135
  classExp : Nat := 165
  /-- SyncE outputs: lane and frequency code; squelched outputs. R445. Reset off. -/
  synce : List (Option Nat × Nat) := List.replicate 4 (none, 0)
  squelch : List Nat := []
  /-- PPS_OUT width in µs, cable compensations in ps, ToD enables. R447, R458. Reset 100; DC 5 0, 0, on. -/
  ppsWidth : Nat := 100
  ppsInPs : Int := 0
  ppsOutPs : Int := 0
  todIn : Bool := true
  todOut : Bool := true
  /-- Instances 0 to 3, ports. R430, R457. Reset none. -/
  inst : Tab PtpInst := []
  port : Tab TPort := []
  /-- Time root and its sequence. R451. DC 5 device 0, 0. -/
  root : Nat := 0
  rootSeq : Nat := 0
  /-- Candidates the meridian holds, by device; the candidate last sent. R451. Reset none. -/
  cands : Tab CandidateMsg := []
  told : Option CandidateMsg := none
  /-- Step that waits, number of the next step, last step applied on a root's notice, automatic step that waits for an epoch change.
  8 bits. R442, R443. Reset none; DC 5 0. -/
  step : Option PendStep := none
  stepSeq : Nat := 0
  doneStep : Option (Nat × Nat) := none
  autoWait : Option Int := none
  /-- HEARTBEAT showed a pending epoch. R442. Reset 0. -/
  pendEpoch : Bool := false
  /-- Relay: link, tick since which, last sequence number, clockClass of the root, TIME_SYNC in a row, tick of the last, exchanges on the
  link, path delay, last request sent, difference of the last TIME_SYNC, next request number, due ticks. R452, R453. Reset none. -/
  rLink : Option Nat := none
  rSince : Nat := 0
  rLast : Nat := 0
  rClass : Nat := 248
  rRun : Nat := 0
  rAt : Nat := 0
  rExch : Nat := 0
  rDelay : Option Int := none
  rReq : Option (Nat × Int) := none
  rDiff : Option Int := none
  rSeq : Nat := 0
  reqAt : Nat := 0
  syncSeq : Nat := 0
  syncAt : Nat := 0
  /-- 1PPS: time of the last pulse, tick of it, good pulses in a row, seconds of its ToD message, ToD messages in a row that disagree.
  Table 13.1. Reset none. -/
  ppsLast : Option Int := none
  ppsAt : Nat := 0
  ppsGood : Nat := 0
  todSec : Option Nat := none
  todBad : Nat := 0
  /-- FREQ_IN is a valid frequency source. R438. Reset 0. -/
  freqOk : Bool := false
  /-- Last whole second for which PPS_OUT rose. R447. Reset 0. -/
  ppsOut : Int := 0
  /-- SerDes references present, PCIe reference present, the reference Transit runs from. R423, R652. DC 5 all present, 0. -/
  sref : List Bool := [true, true, true, true]
  pcieRef : Bool := true
  transit : Nat := 0
  deriving DecidableEq, Repr

/-! ### DMA and check values -/

/-- A DMA channel (R534-R549, Table 17.5). -/
structure DmaCh where
  /-- Object state. Table 17.5. Reset STOPPED. -/
  obj : Obj := {}
  /-- Program, at most 256 instructions of 32 bytes; run budget in µs. R535, R544. Reset none, 100. -/
  prog : List Bytes := []
  budget : Nat := 100
  /-- Instruction index, pointers, their area codes, loop counters by instruction, reshuffling. R537-R542. Reset 0, fresh, off. -/
  pc : Nat := 0
  src : Nat := 0
  dst : Nat := 0
  srcArea : Nat := 0
  dstArea : Nat := 0
  loops : Tab Nat := []
  mode : Nat := 0
  planes : Nat := 0
  elem : Nat := 0
  stride : Nat := 0
  /-- Line it waits on. R541. Reset none. -/
  waits : Option Nat := none
  /-- Last stop status and instruction, faulting address. DC 5 OK, 0, 0. -/
  last : Status := .ok
  lastPc : Nat := 0
  fault : Nat := 0
  /-- Bytes moved, turns. Table 17.8. DC 5 0. -/
  moved : Nat := 0
  turns : Nat := 0
  deriving DecidableEq, Repr

/-- An export stream (R547, R548): clear flag, period in ms, first pair, count; tick of the next period; periods skipped, records written. -/
structure XStream where
  clear : Bool
  period : Nat
  base : Nat
  count : Nat
  next : Nat
  skipped : Nat := 0
  done : Nat := 0
  deriving DecidableEq, Repr

/-- A check-value scan (R552, Table 17.7): its command, range, what is done, running value, uncorrectable words, segments served. -/
structure Scan where
  intake : Nat
  addr : Nat
  len : Nat
  poly : Nat
  flags : Nat
  expected : Nat
  done : Nat := 0
  run : Nat
  ue : Nat := 0
  segs : Nat := 0
  deriving DecidableEq, Repr

/-- A check-value unit: the scan it serves, scans done, mismatches. R466, Table 17.8. Reset none, DC 5 0. -/
structure CvUnit where
  scan : Option Scan := none
  done : Nat := 0
  bad : Nat := 0
  deriving DecidableEq, Repr

/-- DMA and check values. -/
structure DmaSt where
  ch : Tab DmaCh := []
  /-- Pending counts of the request lines. 16 bits each. R546. DC 5 0. -/
  lines : Tab Nat := []
  /-- Channel that holds the engine, and the one that held it last. R464. Reset none; DC 5 15. -/
  holder : Option Nat := none
  lastHeld : Nat := 15
  /-- Tick at which the turn of the holder began. R544. DC 5 0. -/
  turnAt : Nat := 0
  /-- Export streams 0 to 4. R547, R548. Reset off. -/
  exp : Tab XStream := []
  /-- Check-value units, scans that wait, next block of unit 0's scrub. R466, R551. Reset none, 0. -/
  cv : Tab CvUnit := []
  queue : List Scan := []
  scrub : Nat := 0
  deriving DecidableEq, Repr

/-! ### Triad and bridge -/

/-- Roles of a control channel (Table 18.1). -/
inductive Role where
  | voter | selftest | resync | standby | failed
  deriving DecidableEq, Repr

/-- A record of a control-channel trace (R568, Table 6.9): type, time, two arguments. -/
structure TriTrace where
  type : Nat
  time : Int
  a : Nat
  b : Nat
  deriving DecidableEq, Repr

/-- A control channel. -/
structure TriCh where
  /-- Role. Table 18.1. Reset (before bring-up) DC 5 FAILED. -/
  role : Role := .failed
  /-- Ticks at which it was outvoted, newest first. Table 18.1. Reset none. -/
  outvoted : List Nat := []
  /-- Self-tests passed and failed, NS64 of the last swap. Table 18.7. Reset 0. -/
  stOk : Nat := 0
  stBad : Nat := 0
  swapAt : Nat := 0
  /-- Tick at which it entered its role. Table 18.1. DC 5 0. -/
  at_ : Nat := 0
  /-- Trace, newest first, at most 512; newest record not yet read. R568. Reset empty. -/
  trace : List TriTrace := []
  /-- Write index of the trace buffer. 9 bits. R568. DC 5 0. -/
  traceAt : Nat := 0
  deriving DecidableEq, Repr

/-- What started a triad restart (Table 18.9). -/
inductive RestartCause where
  | doubleFault | command | activation
  deriving DecidableEq, Repr

/-- Which restart of firmware it is: same slot, a new trial, a return to the current slot (R597, R599) with its cause (Table 19.14). -/
inductive RestartKind where
  | same | trial | revert (cause : Nat)
  deriving DecidableEq, Repr

/-- A triad restart in progress (R566, R567). -/
structure Restart where
  cause : RestartCause
  kind : RestartKind
  /-- Command that waits for it. -/
  intake : Option Nat
  /-- Tick of the first restart of the sequence. -/
  began : Nat
  /-- Attempts at step 2. -/
  tries : Nat := 1
  deriving DecidableEq, Repr

/-- An input of the control channels: a WCP entry as taken, a mailbox command, an FC message to firmware by source, type and length (R556). -/
inductive LogKind where
  | wcp (ring : Nat) (entry : Bytes)
  | mbox (m : Nat) (opcode : Nat) (data : Bytes)
  | fc (src type len : Nat)
  deriving DecidableEq, Repr

/-- An entry of the input log and the tick at which the distributor handed it out (R556, R558). -/
structure LogIn where
  at_ : Nat
  kind : LogKind
  deriving DecidableEq, Repr

/-- What a released data-path write replaced, by the structure it wrote (R560; log 104): a queue's configuration and entry, an ECMP group, the tables a
consistent batch is written beside, a channel's training record that waits, its state, or its spare slot. -/
inductive JWord where
  | queue (q : Nat) (old : Option Queue)
  | group (g : Nat) (old : Option Ecmp)
  | batch
  | training (ch : Nat) (old : Option (Option Bytes))
  | chan (ch : Nat) (old : HbmCh)
  | slot (ch : Nat) (old : Option Nat)
  deriving DecidableEq, Repr

/-- An entry of the undo journal: the intake number that stands for its command's tag, and what the write replaced (R560). -/
structure JEntry where
  intake : Nat
  word : JWord
  deriving DecidableEq, Repr

/-- The triad. -/
structure Triad where
  ch : Tab TriCh := []
  /-- Copies of an output not yet released, by number: channel and content. Reset none. R557. -/
  copies : Tab (List (Nat × BitVec 64)) := []
  /-- Released outputs whose copies are not all in: content, tick, channels still due. R557. Reset none. -/
  released : Tab (BitVec 64 × Nat × List Nat) := []
  /-- Tick and NS64 of the last checkpoint; tick of the last two. R558. DC 5 0. -/
  cpAt : Nat := 0
  cpNs : Nat := 0
  /-- Attempts at re-execution of a frozen compare pair, and the tick at which it froze. R564. Reset none. -/
  attempt : Nat := 0
  frozenAt : Nat := 0
  /-- Every vote of a recalled channel counts at once. R564. Reset 0. -/
  recalled : Bool := false
  /-- Swap period in minutes, tick the next swap is due, next channel, tick since which all three vote. R563. Reset 15; DC 5. -/
  swapMin : Nat := 15
  swapDue : Nat := 900000 * 65536000000
  swapNext : Nat := 0
  allSince : Nat := 0
  /-- Checkpoints committed, rollbacks, recalls, restarts. Table 18.7. Reset 0. -/
  commits : Nat := 0
  rollbacks : Nat := 0
  recalls : Nat := 0
  restarts : Nat := 0
  /-- Tick of the older of the last two committed checkpoints. R558. DC 5 0. -/
  cpOld : Nat := 0
  /-- Every input since that checkpoint, oldest first. R558. Reset empty. -/
  log : List LogIn := []
  /-- The undo journal, oldest entry first, at most 65,536. R560. Reset empty. -/
  journal : List JEntry := []
  /-- Checkpoints since the last CHECKPOINT record of the traces. R568. DC 5 0. -/
  cpCount : Nat := 0
  /-- Restart in progress; headless beyond 120 s. R36, R566. Reset none. -/
  restart : Option Restart := none
  overrun : Bool := false
  deriving DecidableEq, Repr

/-- State of a bridge lane (Table 18.7). -/
inductive LaneSt where
  | service | spare | failed
  deriving DecidableEq, Repr

/-- A bridge lane: state, retries, last eye margin, tick since which a failed one retrains without error (R573, R574). -/
structure BLane where
  st : LaneSt
  retries : Nat := 0
  margin : Int := 0
  goodAt : Option Nat := none
  triedAt : Nat := 0
  /-- Ticks of its flit retries within the last millisecond (R573). -/
  recent : List Nat := []
  deriving DecidableEq, Repr

/-- A bridge group (R18-R22): lanes 0 to 39, of which 38 are in service after reset; whether it is being remapped; the retry links of both
directions, toward the forwarding die first: next number to send and to receive, retry asked, and the retry buffer, the numbers sent and not
yet acknowledged. -/
structure BGroup where
  lane : List BLane := List.replicate 38 { st := .service } ++ List.replicate 2 { st := .spare }
  stalled : Bool := false
  txSeq : List Nat := [0, 0]
  rxSeq : List Nat := [0, 0]
  asked : List Bool := [false, false]
  held : List (List Nat) := [[], []]
  deriving DecidableEq, Repr

/-! ### Firmware -/

/-- A parser patch being swapped in: bank, new version, image, tick of the last write, command (R601). -/
structure ParserPatch where
  bank : Nat
  version : Nat
  image : Bytes
  at_ : Nat
  intake : Nat
  deriving DecidableEq, Repr

/-- A recovery download (R604, R605): over SMBus, bytes written, length and CRC it announced, state of 0xE3. -/
structure Recovery where
  smbus : Bool := false
  /-- A download holds slot A. R605. Reset 0. -/
  busy : Bool := false
  bytes : Nat := 0
  len : Nat := 0
  crc : Nat := 0
  code : Nat := 0
  deriving DecidableEq, Repr

/-- Firmware as it runs. -/
structure FwSt where
  /-- Running slot image: version and component entries by type. R597, Table 19.6. Reset none. -/
  image : Bytes := []
  comps : Tab Nat := []
  /-- Parser bank versions and images. R601. Reset those of the booted slot; DC 5 0. -/
  bankVer : List Nat := List.replicate 8 0
  banks : List Bytes := List.replicate 8 []
  patch : Option ParserPatch := none
  /-- Tick at which the confirmation time expires. R599. Reset none. -/
  confirmDue : Option Nat := none
  /-- Host boot: slots A and B in staging. R593. Reset none. -/
  hostBoot : Bool := false
  hbA : FwSlot := {}
  hbB : FwSlot := {}
  /-- Bytes of the host-boot buffer. R593. Reset empty. -/
  buffer : Bytes := []
  /-- Causes of recovery: bits 0 strap, 1 both slots failed, 2 tamper, 3 host boot. Table 19.11. Reset 0. -/
  causes : Nat := 0
  recov : Recovery := {}
  /-- FW_ACTIVATE accepts defaults: flag bit 0 (R598). Reset 0. -/
  accept : Bool := false
  /-- What the board presents to a bring-up that waits for the host's image (R593). Reset none. -/
  env : Option BootEnv := none
  /-- Tick at which a recovery boot resets the device. R604. Reset none. -/
  resetDue : Option Nat := none
  /-- Straps: boot source, SMBus address. 2 bits each. R582. DC 5 0. -/
  bootSrc : Nat := 0
  smbAddr : Nat := 0
  /-- Format of the running control firmware. R594. DC 5 0. -/
  fmt : Nat := 0
  deriving DecidableEq, Repr

/-! ### Power -/

/-- A governor loop (R611-R615): setpoint in mV wanted and last acknowledged, relative rate, need and target in 1/10,000; ticks since which
the rate is below target at 800 mV, is 0.03 above target, is at or above target; shortfall; failed transactions in a row. -/
structure Loop where
  v : Nat := 750
  sent : Nat := 750
  acked : Nat := 750
  rate : Nat := 0
  need : Nat := 0
  target : Nat := 0
  lowAt : Option Nat := none
  highAt : Option Nat := none
  okAt : Option Nat := none
  short : Bool := false
  nacks : Nat := 0
  faulted : Bool := false
  /-- Telemetry of the regulator. mV and mA. R613. DC 5 0. -/
  tmv : Nat := 0
  tma : Nat := 0
  /-- Tick of the last setpoint, and the lower of the old and the new one. R617. DC 5 0, 750. -/
  setAt : Nat := 0
  lower : Nat := 750
  deriving DecidableEq, Repr

/-- A rail monitor (R617): last sample in mV, ticks since which it is outside and back within tolerance, EV_PWR_RAIL raised. -/
structure Rail where
  mv : Nat := 0
  outAt : Option Nat := none
  inAt : Option Nat := none
  raised : Bool := false
  deriving DecidableEq, Repr

/-- Power and sensing. -/
structure Pwr where
  loopF : Loop := {}
  loopQ : Loop := {}
  /-- Relative rates of the 128 crickets, in 1/10,000: 0 to 63 on the forwarding die, 64 to 127 on the queueing die. R32. DC 5 0. -/
  crickets : List Nat := List.replicate 128 0
  rail : List Rail := List.replicate 8 {}
  /-- Governor settings: fixed mode, margin in %, floor in mV, boost in hundredths, quiet time in ms. Table 20.7. Reset its defaults. -/
  fixed : Bool := false
  margin : Nat := 5
  floor : Nat := 620
  boost : Nat := 120
  quietMs : Nat := 10
  /-- Junction sites 0 to 63, in 0.25 °C. R618. DC 5 0. -/
  sites : List Int := List.replicate 64 0
  /-- Warning threshold, warning raised. R619. Reset 100, 0. -/
  warn : Nat := 100
  warned : Bool := false
  /-- THERMTRIP_N asserted. R619. Reset 0. -/
  trip : Bool := false
  /-- Device quiet; tick of the last traffic or command. R621. Reset 0. -/
  quiet : Bool := false
  busyAt : Nat := 0
  /-- Tick at which the quiet state was entered. R569. DC 5 0. -/
  quietAt : Nat := 0
  /-- Engines whose inbox holds 8 descriptors or more, with the tick since which. R612. Reset none. -/
  backlog : Tab Nat := []
  deriving DecidableEq, Repr

/-! ### Security -/

/-- A secure association (Table 21.4): key and salt, next or lowest PN, SSCI, usable. -/
structure Sa where
  key : Bytes
  salt : Bytes
  pn : Nat
  ssci : Nat
  /-- EV_MACSEC_PN_THRESHOLD raised. R633. -/
  warned : Bool := false
  exhausted : Bool := false
  /-- Lowest PN accepted of a receive SA. R633. -/
  low : Nat := 0
  deriving DecidableEq, Repr

/-- A port's MACsec (R630-R634, Table 21.3). -/
structure Mac where
  /-- Settings. Table 21.3. Reset off; the others DC 5 0. -/
  on : Bool := false
  xpn : Bool := false
  validate : Nat := 0
  flags : Nat := 0
  conf : Nat := 0
  sci : Nat := 0
  window : Nat := 0
  bypass : List Nat := List.replicate 6 0
  /-- SAs by channel × 4 + AN, peer SCI of the receive channels, transmit AN. R633. Reset none. -/
  sa : Tab Sa := []
  peer : Tab Nat := []
  txAn : Option Nat := none
  /-- Fail-closed. R634. Reset 0. -/
  closed : Bool := false
  /-- MACSEC_RX by cause: ICV, replay, unprotected, no SA, fail-closed. Table 21.6. Reset 0. -/
  rx : List Nat := List.replicate 5 0
  deriving DecidableEq, Repr

/-- Keys and tamper. -/
structure Sec where
  /-- The key register holds the identity key. R628. Reset 0. -/
  idKey : Bool := false
  /-- Key-encryption key. 32 bytes. R632. Reset none. -/
  kek : Option Bytes := none
  mac : Tab Mac := []
  /-- Sources that fire. 4 bits. R636. Reset 0. -/
  firing : BitVec 4 := 0
  /-- Responses: alarm only. 4 bits. R635. Reset 0. -/
  alarmOnly : BitVec 4 := 0
  deriving DecidableEq, Repr

/-- The test port: instruction in force (R655). -/
structure Jtag where
  ir : JtagIr := .idcode
  deriving DecidableEq, Repr

end Sys2Proof.Machine
end

