-- ==== Sys2Proof/Machine/State.lean ====
section
/-! DEFINITION. The state of the QN7100: the commands that wait, what survives a device reset, and everything else. -/

namespace Sys2Proof.Machine

/-- Why the machine stops. -/
inductive Fault where
  /-- Raised by no meaning: the manual gives every command an effect. Safe. -/
  | unreachable
  deriving DecidableEq, Repr

/-- Why a command has no meaning here. -/
inductive Refusal where
  /-- Raised by an arm of `exec` whose command has no meaning yet, under its mnemonic. Safe. -/
  | notModelled (mnemonic : String)
  deriving DecidableEq, Repr

/-- Everything a device reset resets. -/
structure Dev where
  /-- Elapsed time in 2^-16 ns (R422). Reset DC 2 0. -/
  now : Nat := 0
  /-- Open values used so far: the model's own counter (log 4). Reset DC 4 0. -/
  fresh : Nat := 0
  /-- What left the package, newest first: the model's own trace (log 3). Reset DC 3 empty. -/
  out : List Emission := []
  hif : Hif := {}
  evt : Evt := {}
  /-- Ports 0 to 255. R65. Reset undefined ports. -/
  port : Tab Port := []
  /-- Line lanes 0 to 255. R41. Reset powered down. -/
  lane : Tab Lane := []
  /-- Interval sequence numbers of the 15-minute and 24-hour bins. 32 bits each. R90. DC 5 0. -/
  pmSeq15 : Nat := 0
  pmSeqDay : Nat := 0
  fwd : Fwd := {}
  /-- Pipelines 0 to 31. R140. Reset STOPPED until bring-up. -/
  pipe : Tab Pipe := []
  /-- Number of the next frame: the model's own. DC 5 0. -/
  fids : Nat := 0
  /-- Frames between the egress pipelines and the line, by port. R25 stage 7. Reset empty. -/
  tx : Tab (List Flight) := []
  /-- Discards of the forwarding die by port × 64 + code and by lane × 64 + code: packets, bytes. 64 bits each. R136. Reset 0. -/
  portDrops : Tab Pair := []
  laneDrops : Tab Pair := []
  /-- Counter store, 67,108,864 pairs. 64 bits each. R135, R511. DC 5 0. -/
  cnt : Tab Pair := []
  /-- Counter pairs of ACL entries and of next hops. R135. DC 5 0. -/
  aclCnt : Tab Pair := []
  nhCnt : Tab Pair := []
  pe : Pe := {}
  buf : Buf := {}
  qs : Qs := {}
  sch : Sch := {}
  hbm : Hbm := {}
  csw : Csw := {}
  fab : Fab := {}
  time : TimeSt := {}
  dma : DmaSt := {}
  tri : Triad := {}
  /-- Bridge groups 0 to 31. R18. Reset 38 lanes in service, 2 spares. -/
  bridge : Tab BGroup := []
  fw : FwSt := {}
  pwr : Pwr := {}
  sec : Sec := {}
  jtag : Jtag := {}
  deriving DecidableEq, Repr

/-- System time in ticks (R422, R424). -/
def Dev.sysTicks (d : Dev) : Int := d.now + d.time.off

/-- The machine. -/
structure State where
  /-- Commands that wait, first in first out (the block's queue). Reset empty. -/
  pending : List Instr := []
  nv : Nv := {}
  dev : Dev := {}
  deriving DecidableEq, Repr

/-- The machine in device reset (R581). -/
def State.reset : State := {}

/-- The outcome of a command. -/
abbrev Out := Host.Outcome State Fault Refusal

/-- What a handler answers: the command completes now, or is taken up and completes later. -/
inductive Reply where
  | done (d : Dev) (r : Resp)
  | pend (d : Dev)

/-- What an enable or disable does to an object (Table 16.5): the object after it, the status, and whether a start-up or a
stop begins. -/
structure ObjStep where
  obj : Obj
  status : Status
  begins : Bool

end Sys2Proof.Machine
end

