-- ==== Sys2Proof/Machine/Operands.lean ====
section
/-! DEFINITION. Operand forms: bytes and integers, tables, packed details and records, times, the fields of a command, and
the codes of statuses, opcodes and events. -/

namespace Sys2Proof.Machine

/-! ### Bytes -/

/-- The `w` bytes of `n`, least significant first (R10). -/
def le : Nat → Nat → Bytes
  | 0, _ => []
  | w + 1, n => BitVec.ofNat 8 n :: le w (n / 256)

/-- The unsigned integer of a run of bytes, least significant first (R10). -/
def unLe : Bytes → Nat
  | [] => 0
  | b :: bs => b.toNat + 256 * unLe bs

/-- The `w` bytes of `n`, most significant first (R10). -/
def be (w n : Nat) : Bytes := (le w n).reverse

/-- The `w` bytes of a signed number, most significant first. -/
def beI (w : Nat) (x : Int) : Bytes := be w (x.emod (2 ^ (8 * w) : Nat)).toNat

/-- A system time in ticks as seconds (6 bytes), ns (4) and 2^-16 ns (2), big-endian (R422, Table 13.3). -/
def beTime (t : Int) : Bytes :=
  let ns := t / 65536
  be 6 (ns / 1000000000).toNat ++ be 4 (ns % 1000000000).toNat ++ be 2 (t % 65536).toNat

/-- The unsigned integer of a run of bytes, most significant first (R10). -/
def unBe (bs : Bytes) : Nat := unLe bs.reverse

/-- `w` bytes of `bs` from `off`, missing bytes read as 0. -/
def slice (bs : Bytes) (off w : Nat) : Bytes :=
  let t := (bs.drop off).take w
  t ++ List.replicate (w - t.length) 0

/-- The little-endian field of `w` bytes at `off`. -/
def field (bs : Bytes) (off w : Nat) : Nat := unLe (slice bs off w)

/-- Whether `w` bytes at `off` are 0 (R508). -/
def isZero (bs : Bytes) (off w : Nat) : Bool := (slice bs off w).all (· == 0)

/-- `bs` with the bytes `v` put at `off`; its length does not change. -/
def patch (bs : Bytes) (off : Nat) (v : Bytes) : Bytes :=
  (bs.take off ++ v ++ bs.drop (off + v.length)).take bs.length

/-- Two's complement of `w` bytes read as a signed integer (R509). -/
def signed (w n : Nat) : Int := if n < 2 ^ (8 * w - 1) then n else (n : Int) - 2 ^ (8 * w)

/-- A signed integer as `w` bytes (R509). -/
def leInt (w : Nat) (i : Int) : Bytes := le w (i % (2 ^ (8 * w) : Nat)).toNat

/-- The largest count of 4 bytes (Table 16.9). -/
def sat32 (n : Nat) : Nat := min n 0xFFFFFFFF

/-- Bit `i` of `n`. -/
def bit (n i : Nat) : Bool := n / 2 ^ i % 2 == 1

/-- `n` with bit `i` set to `b`. -/
def putBit (n i : Nat) (b : Bool) : Nat :=
  if bit n i then (if b then n else n - 2 ^ i) else (if b then n + 2 ^ i else n)

/-- 1 for true. -/
def b2n (b : Bool) : Nat := if b then 1 else 0

/-- The bits that are set of a list, bit 0 first. -/
def bitsOf (l : List Bool) : Nat := l.foldr (fun b n => b2n b + 2 * n) 0

/-! ### Tables -/

/-- The entry at `k`, if one is listed. -/
def tget {α : Type} (t : Tab α) (k : Nat) : Option α :=
  match t with
  | [] => none
  | (j, v) :: r => if j = k then some v else tget r k

/-- `t` with entry `k` made `v`, indexes kept rising. -/
def tput {α : Type} (t : Tab α) (k : Nat) (v : α) : Tab α :=
  match t with
  | [] => [(k, v)]
  | (j, u) :: r => if k < j then (k, v) :: (j, u) :: r else if j = k then (k, v) :: r else (j, u) :: tput r k v

/-- `t` without entry `k`. -/
def tdel {α : Type} (t : Tab α) (k : Nat) : Tab α :=
  match t with
  | [] => []
  | (j, u) :: r => if j = k then tdel r k else (j, u) :: tdel r k

/-- The entry at `k` of a table whose unlisted entries are `d`. -/
def tgetD {α : Type} (t : Tab α) (d : α) (k : Nat) : α := (tget t k).getD d

/-- A table whose unlisted entries are `d`, with entry `k` made `v`: an entry equal to `d` is not listed. -/
def tset {α : Type} [DecidableEq α] (t : Tab α) (d : α) (k : Nat) (v : α) : Tab α :=
  if v = d then tdel t k else tput t k v

/-- Whether the indexes of a table rise strictly. -/
def tabRising {α : Type} : Tab α → Bool
  | [] => true
  | [_] => true
  | (i, _) :: (j, v) :: r => decide (i < j) && tabRising ((j, v) :: r)

/-! ### Packed records and details (R514, R529, Table 16.9) -/

/-- A field: an unsigned or signed integer of `w` bytes aligned to `w`, or bytes aligned to `al`. -/
inductive Fld where
  | u (w n : Nat)
  | i (w : Nat) (n : Int)
  | raw (al : Nat) (b : Bytes)
  deriving DecidableEq, Repr

/-- Padding that brings `n` to a multiple of `al`. -/
def padTo (al n : Nat) : Bytes := List.replicate ((al - n % al) % al) 0

/-- Fields packed after `acc`, each aligned from the start. -/
def packFrom (acc : Bytes) : List Fld → Bytes
  | [] => acc
  | .u w n :: r => packFrom (acc ++ padTo w acc.length ++ le w n) r
  | .i w n :: r => packFrom (acc ++ padTo w acc.length ++ leInt w n) r
  | .raw al b :: r => packFrom (acc ++ padTo al acc.length ++ b) r

/-- Fields packed from offset 0. -/
def pack (l : List Fld) : Bytes := packFrom [] l

/-- An index or number (4 bytes), a count (4, saturating), a choice, class or flag (1), an address, time or other quantity
(8): the widths of Table 16.9. -/
def fIdx (n : Nat) : Fld := .u 4 n
def fCnt (n : Nat) : Fld := .u 4 (sat32 n)
def fByte (n : Nat) : Fld := .u 1 n
def fFlag (b : Bool) : Fld := .u 1 (b2n b)
def f8 (n : Nat) : Fld := .u 8 n
def f8i (n : Int) : Fld := .i 8 n

/-- One element of an array of R514, padded to a multiple of 8 bytes. -/
def packElem (l : List Fld) : Bytes := let b := pack l; b ++ padTo 8 b.length

/-- An array of R514: the 4-byte count, then the elements from an 8-byte boundary (log 11). -/
def fArr (l : List (List Fld)) : List Fld := [.u 4 l.length, .raw 8 ((l.map packElem).flatten)]

/-- A bitmap over `n` indexes, padded to a multiple of 8 bytes (R514). -/
def fBitmap (n : Nat) (mem : Nat → Bool) : Fld :=
  let b := (List.range ((n + 7) / 8)).map fun k =>
    BitVec.ofNat 8 (bitsOf ((List.range 8).map fun i => decide (8 * k + i < n) && mem (8 * k + i)))
  .raw 8 (b ++ padTo 8 b.length)

/-! ### Time -/

/-- Ticks of 2^-16 ns in a nanosecond, microsecond, millisecond and second (R422). -/
def nsT (n : Nat) : Nat := n * 65536
def usT (n : Nat) : Nat := nsT (n * 1000)
def msT (n : Nat) : Nat := usT (n * 1000)
def secT (n : Nat) : Nat := msT (n * 1000)

/-- Whether the deadline `t` has come at tick `now`. -/
def due (now : Nat) (t : Option Nat) : Bool :=
  match t with
  | some d => decide (d ≤ now)
  | none => false

/-- A system time in ticks as TS12 (Table 16.2): seconds 6 bytes, nanoseconds 4, fraction 2. -/
def ts12 (t : Int) : Bytes :=
  let ns := t / 65536
  leInt 6 (ns / 1000000000) ++ leInt 4 (ns % 1000000000) ++ leInt 2 (t % 65536)

/-- A system time in ticks as NS64 (Table 16.2). -/
def ns64 (t : Int) : Nat := (t / 65536).toNat

/-! ### Rates (R304) -/

/-- Floor of the binary logarithm, for a number below 2^64. -/
def log2 (n : Nat) : Nat := n.log2

/-- The applied rate in kbit/s: the largest (1,024 + f) × 2^e ÷ 1,024 that does not exceed the rate given (R304). -/
def applied (r : Nat) : Nat :=
  let e := min (log2 r) 31
  (r * 1024 / 2 ^ e) * 2 ^ e / 1024

/-- Token units of one byte (`Bucket`). -/
def byteTok : Int := 524288000000

/-- A bucket refilled at `rate` kbit/s up to `cap` bytes (R305, R310). -/
def Bucket.refill (b : Bucket) (rate cap now : Nat) : Bucket :=
  { tokens := min (cap * byteTok) (b.tokens + (rate * (now - b.stamp) : Nat)), stamp := now }

/-- A full bucket of `cap` bytes. -/
def Bucket.full (cap now : Nat) : Bucket := { tokens := cap * byteTok, stamp := now }

/-- One frame of `len` bytes offered to a bucket (R310): it passes and is charged, or is refused and nothing changes. -/
def Bucket.offer (b : Bucket) (rate cap now len : Nat) : Bool × Bucket :=
  let f := b.refill rate cap now
  if (len : Int) * byteTok ≤ f.tokens then (true, { f with tokens := f.tokens - len * byteTok }) else (false, f)

/-- One frame offered to a policer that holds its own profile (R310, R497). -/
def OwnPol.offer (p : OwnPol) (now len : Nat) : Bool × OwnPol :=
  let r := p.bucket.offer p.cir p.cbs now (if p.add20 then len + 20 else len)
  (r.1, { p with bucket := r.2 })

/-! ### Codes -/

/-- The code of a status (Table 16.4). -/
def Status.code : Status → Nat
  | .ok => 0 | .pending => 1 | .deferred => 2 | .notReady => 3 | .refusedBusy => 4 | .badArg => 5 | .badHandle => 6
  | .noSpace => 7 | .budgetExceeded => 8 | .frozen => 9 | .verifyFailed => 10 | .tampered => 11 | .cancelled => 12
  | .timeout => 13

/-- The code of an object state (Table 16.6). -/
def ObjSt.code : ObjSt → Nat
  | .stopped => 0 | .starting => 1 | .running => 2 | .stopping => 3 | .frozen => 4 | .retired => 5

/-- The number of objects of a handle type, 0 where the type is not assigned (Table 16.1). -/
def handleRange : Nat → Nat
  | 0x00 => 1 | 0x01 => 256 | 0x02 => 256 | 0x03 => 32 | 0x04 => 2097152 | 0x05 => 262144 | 0x06 => 32 | 0x07 => 8
  | 0x08 => 32 | 0x09 => 65536 | 0x0A => 64 | 0x0B => 65536 | 0x0C => 64 | 0x0D => 1024 | 0x0E => 16384
  | 0x0F => 8388608 | 0x10 => 1048576 | 0x11 => 2097152 | 0x12 => 65536 | 0x13 => 64 | 0x14 => 16 | 0x15 => 256
  | 0x16 => 512 | 0x17 => 4 | 0x18 => 16 | 0x19 => 4 | 0x1A => 3 | 0x1B => 1024
  | _ => 0

/-- The handle of object `i` of type `t` (R507). -/
def handle (t i : Nat) : Nat := t * 2 ^ 56 + i

/-- The opcodes of Table 16.3 and of the chapters it names. -/
def isOpcode (o : Nat) : Bool :=
  decide (o ≤ 0x0006) || (decide (0x0100 ≤ o) && decide (o ≤ 0x010C)) || (decide (0x0200 ≤ o) && decide (o ≤ 0x0211)) ||
  (decide (0x0300 ≤ o) && decide (o ≤ 0x030A)) || (decide (0x0400 ≤ o) && decide (o ≤ 0x0418)) ||
  (decide (0x0500 ≤ o) && decide (o ≤ 0x0508)) || (decide (0x0600 ≤ o) && decide (o ≤ 0x0609)) ||
  (decide (0x0700 ≤ o) && decide (o ≤ 0x0706)) || (decide (0x0800 ≤ o) && decide (o ≤ 0x0804)) || o == 0x0808 || o == 0x0809 ||
  (decide (0x0900 ≤ o) && decide (o ≤ 0x0902)) || (decide (0x0910 ≤ o) && decide (o ≤ 0x0915)) ||
  (decide (0x0A00 ≤ o) && decide (o ≤ 0x0A06)) || (decide (0x0A10 ≤ o) && decide (o ≤ 0x0A12)) ||
  (decide (0x0B00 ≤ o) && decide (o ≤ 0x0B0C)) || (decide (0x0C00 ≤ o) && decide (o ≤ 0x0C02))

/-- The recovery opcodes (Table 19.11). -/
def isRecoveryOp (o : Nat) : Bool := decide (0x0A10 ≤ o) && decide (o ≤ 0x0A12)

/-- The opcodes whose mailbox DATA has a layout of its own (R484). -/
def ownLayout (o : Nat) : Bool := (decide (1 ≤ o) && decide (o ≤ 3)) || isRecoveryOp o

/-- The event types this manual assigns (Table 16.10 and the chapters R530 names). -/
def isEventType (t : Nat) : Bool :=
  (decide (0x0001 ≤ t) && decide (t ≤ 0x0007)) || (decide (0x0100 ≤ t) && decide (t ≤ 0x010B)) ||
  (decide (0x0200 ≤ t) && decide (t ≤ 0x0207)) || (decide (0x0300 ≤ t) && decide (t ≤ 0x0305)) ||
  (decide (0x0400 ≤ t) && decide (t ≤ 0x040C)) || (decide (0x0500 ≤ t) && decide (t ≤ 0x0508)) ||
  (decide (0x0600 ≤ t) && decide (t ≤ 0x060B)) || (decide (0x0700 ≤ t) && decide (t ≤ 0x0708)) ||
  (decide (0x0800 ≤ t) && decide (t ≤ 0x0803)) || (decide (0x0900 ≤ t) && decide (t ≤ 0x0903)) ||
  (decide (0x0910 ≤ t) && decide (t ≤ 0x0912)) || (decide (0x0A00 ≤ t) && decide (t ≤ 0x0A06)) ||
  (decide (0x0B00 ≤ t) && decide (t ≤ 0x0B03)) || (decide (0x0C00 ≤ t) && decide (t ≤ 0x0C04))

/-- Severities (Table 16.8). -/
def sevInfo : Nat := 0
def sevMinor : Nat := 1
def sevMajor : Nat := 2
def sevCritical : Nat := 3

/-! ### The fields of a command (Table 15.12) -/

def Cmd.hType (c : Cmd) : Nat := c.handle / 2 ^ 56
def Cmd.hIdx (c : Cmd) : Nat := c.handle % 2 ^ 56
/-- The little-endian field of `w` bytes at offset `off` of the inline payload. -/
def Cmd.f (c : Cmd) (off w : Nat) : Nat := field c.inl off w
/-- The inline bytes from `off` on are not all 0 (R508, R513). -/
def Cmd.dirty (c : Cmd) (off w : Nat) : Bool := !isZero c.inl off w
/-- The handle is not one of type `t` within its range (R507). -/
def Cmd.bad (c : Cmd) (t : Nat) : Bool := !(c.hType == t && decide (c.hIdx < handleRange t))

end Sys2Proof.Machine
end

