-- ==== Sys2Proof/Machine/Ops.lean ====
section
/-! DEFINITION. Operations every part shares: time, what leaves the package, open values, interrupts and alarms, events,
commands and their completions, stoppable objects. -/

namespace Sys2Proof.Machine

/-- A meaning that touches only what a device reset resets. -/
def State.onDev (s : State) (f : Dev → Dev) : Out := .next { s with dev := f s.dev }

namespace Dev

/-! ### Time, output, open values -/

/-- System time as NS64 (R422, R509). -/
def nowNs (d : Dev) : Nat := ns64 d.sysTicks

/-- What a line lane or a fabric lane carries. -/
def onLane : Emission → Bool
  | .lineFrame .. | .laneFrame .. | .page .. | .ltStatus .. | .lineSignal .. | .otuc .. | .cell .. | .linkMsg .. | .ptp .. | .esmc .. => true
  | .hostWrite .. | .cfgReply .. | .msix .. | .smbus .. | .laneDrive .. | .flit .. | .timePin .. | .avs .. | .bootPhase .. | .pin .. |
    .dram .. | .hbmDone .. => false

/-- The port whose transmitter `e` needs, if it names one. -/
def onPort : Emission → Option Nat
  | .lineFrame p .. | .lineSignal p .. | .otuc p .. | .page p .. | .ptp p .. | .esmc p .. => some p
  | _ => none

/-- `e` needs a transmitter that is powered down: that of a STOPPED port (R45). -/
def txOff (d : Dev) (e : Emission) : Bool :=
  match onPort e with | some p => (tgetD d.port {} p).obj.st == .stopped | none => false

/-- `d` after putting `e` on its pins (log 3). After a thermal trip no line lane and no fabric lane is driven (R619), and a port whose
transmitters are powered down sends nothing (R45). -/
def emit (d : Dev) (e : Emission) : Dev :=
  if (d.pwr.trip && onLane e) || d.txOff e then d else { d with out := e :: d.out }

/-- An open value of the manual, and the device with the counter advanced (log 4). -/
def openVal (d : Dev) : BitVec 64 × Dev := (Config.free d.fresh, { d with fresh := d.fresh + 1 })

/-- `w` bytes the manual leaves open (log 4). -/
def openBytes (d : Dev) (w : Nat) : Bytes × Dev :=
  ((List.range w).map (Config.openByte d.fresh), { d with fresh := d.fresh + 1 })

/-! ### Interrupts (R494) -/

/-- Some unmasked cause bit is mapped to vector `v`. -/
def vecWanted (h : Hif) (v : Nat) : Bool :=
  (List.range 43).any fun i => h.cause.getLsbD i && !h.mask.getLsbD i && (h.vector.getD i 0).toNat == v

/-- The message of vector `v` goes out, or waits in the pending-bit array while a mask or the clear MSI-X enable holds it. -/
def vecSend (d : Dev) (v : Nat) : Dev :=
  if d.hif.msixEnable && !d.hif.msixFuncMask && d.hif.msixUnmasked.contains v then
    { d with hif := { d.hif with lastMsg := tput d.hif.lastMsg v d.now }
             out := .msix v (tgetD d.hif.msixEntry (0, 0) v).1 (tgetD d.hif.msixEntry (0, 0) v).2 :: d.out }
  else { d with hif := { d.hif with msixPending := if d.hif.msixPending.contains v then d.hif.msixPending
                                                  else v :: d.hif.msixPending } }

/-- Less than GAP has passed since the previous message of `v`. -/
def vecInGap (d : Dev) (v : Nat) : Bool :=
  match tget d.hif.lastMsg v with
  | some t => decide (d.now < t + usT (tgetD d.hif.gap 0 v))
  | none => false

/-- Vector `v` after a change of cause, mask or mapping: it becomes active and sends, stays active and sends nothing, or
goes inactive. -/
def vecUpdate (d : Dev) (v : Nat) : Dev :=
  if vecWanted d.hif v then
    if d.hif.active.contains v then d
    else
      let d1 := { d with hif := { d.hif with active := v :: d.hif.active } }
      if d1.vecInGap v then { d1 with hif := { d1.hif with gapHeld := v :: d1.hif.gapHeld } } else d1.vecSend v
  else { d with hif := { d.hif with active := d.hif.active.filter (· != v), gapHeld := d.hif.gapHeld.filter (· != v) } }

/-- Every vector after a change of several causes, masks or mappings, the lowest first. -/
def vecUpdateAll (d : Dev) : Dev := (List.range 64).foldl vecUpdate d

/-- Cause bit `i` becomes 1 (R494). -/
def setCause (d : Dev) (i : Nat) : Dev :=
  ({ d with hif := { d.hif with cause := d.hif.cause ||| BitVec.ofNat 43 (2 ^ i) } }).vecUpdate (d.hif.vector.getD i 0).toNat

/-- Alarm bit `i` becomes 1 (Table 15.7); a bit that was 0 raises the ALARM cause (Table 15.10). -/
def setAlarm (d : Dev) (i : Nat) : Dev :=
  if d.hif.alarm.getLsbD i then d
  else ({ d with hif := { d.hif with alarm := d.hif.alarm ||| BitVec.ofNat 9 (2 ^ i) } }).setCause 41

/-! ### Events (R523-R533, R656) -/

/-- General entries of the FIFO in use: critical events take their 16 entries first, a summary its kept entry first
(R523, R525; log 13). -/
def evGeneral (l : List Event) : Nat :=
  let crit := (l.filter fun e => e.sev == 3 && e.type != 2).length
  let sums := (l.filter fun e => e.type == 2).length
  (l.length - crit - sums) + (crit - 16) + (sums - 1)

/-- The FIFO has an entry this event may use (R523). -/
def evFits (l : List Event) (e : Event) : Bool :=
  decide (evGeneral l < 239) || (e.sev == 3 && decide ((l.filter fun x => x.sev == 3 && x.type != 2).length < 16))

/-- `e` counted by the counter of its type (R525); the first one after all counters were 0 sets EVT_FLOOD. -/
def evCoalesce (d : Dev) (e : Event) : Dev :=
  let t := ns64 e.time
  let l := if d.evt.coal.any (·.1 == e.type) then
      d.evt.coal.map fun p => if p.1 == e.type then
        (p.1, { p.2 with count := sat32 (p.2.count + 1), maxSev := max p.2.maxSev e.sev, last := t }) else p
    else d.evt.coal ++ [(e.type, { count := 1, maxSev := e.sev, first := t, last := t })]
  let d1 := { d with evt := { d.evt with coal := l, coalesced := d.evt.coalesced + 1 } }
  if d.evt.coal.isEmpty then d1.setAlarm 6 else d1

/-- `e` enters the FIFO, is coalesced, or is suppressed; it is counted in each case (R523, R525, R531, R532). -/
def evPut (d : Dev) (e : Event) : Dev :=
  let v := d.evt
  let n := tset v.counts 0 e.type (sat32 (tgetD v.counts 0 e.type + 1))
  if e.sev != 3 && v.suppress.contains e.type then
    { d with evt := { v with counts := n, suppressed := v.suppressed + 1 } }
  else if v.coal.any (·.1 == e.type) || !evFits v.fifo e then
    ({ d with evt := { v with counts := n } }).evCoalesce e
  else
    { d with evt := { v with counts := n, fifo := v.fifo ++ [e], hiFifo := max v.hiFifo (v.fifo.length + 1) } }

/-- The event of a type, severity, subject and detail, detected now (Table 16.8). -/
def mkEvent (d : Dev) (type sev subject : Nat) (detail : List Fld) : Event :=
  { type := type, sev := sev, flags := if d.hif.headless then 4 else 0, subject := subject, time := d.sysTicks,
    detail := (pack detail).take 64 }

/-- Raise an event (R523). -/
def raise (d : Dev) (type sev subject : Nat) (detail : List Fld) : Dev := d.evPut (d.mkEvent type sev subject detail)

/-- The window of a counted event of `type` for `key`, if one is open (R656). -/
def evWindow (d : Dev) (type key : Nat) : Option EvWindow := d.evt.windows.find? fun w => w.type == type && w.key == key

/-- `d` with a new window of one second of elapsed time (R656). -/
def openWindow (d : Dev) (type key countAt : Nat) : Dev :=
  let w : EvWindow := { type := type, key := key, ends := d.now + secT 1, count := 0, first := none, countAt := countAt }
  { d with evt := { d.evt with windows := d.evt.windows ++ [w] } }

/-- `d` with `f` done to the window of `type` and `key`. -/
def mapWindow (d : Dev) (type key : Nat) (f : EvWindow → EvWindow) : Dev :=
  { d with evt := { d.evt with windows := d.evt.windows.map fun (w : EvWindow) =>
      if w.type == type && w.key == key then f w else w } }

/-- An event raised at most once per second for `key` with a count, held in 4 bytes at `countAt` of its detail (R656). -/
def raiseCounted (d : Dev) (type sev key subject countAt : Nat) (detail : List Fld) : Dev :=
  let e := d.mkEvent type sev subject detail
  match d.evWindow type key with
  | none => (d.openWindow type key countAt).evPut { e with detail := patch e.detail countAt (le 4 1) }
  | some _ => d.mapWindow type key fun w =>
      { w with count := w.count + 1, first := if w.count = 0 then some e else w.first }

/-- An event raised at most once per second for `key` without a count, while its condition holds (R656). -/
def raiseLimited (d : Dev) (type sev key subject : Nat) (detail : List Fld) : Dev :=
  match d.evWindow type key with
  | none => (d.openWindow type key 0).raise type sev subject detail
  | some w =>
    if w.ends ≤ d.now then
      (d.mapWindow type key fun x => { x with ends := d.now + secT 1 }).raise type sev subject detail
    else d

/-! ### Commands (R483-R493, R517, R518) -/

/-- Which object a command names, for R463: its handle, where its layout has one. -/
def cmdObj (c : Cmd) : Option Nat := if ownLayout c.opcode then none else some c.handle

/-- An earlier command that R491 or R463 puts before `c`: one of its ring when `c` has FENCE, or one not yet taken up that
names the same object. -/
def cmdBehind (d : Dev) (c : Cmd) : Bool :=
  d.hif.cmds.any fun e => decide (e.intake < c.intake) &&
    ((c.fence && !e.detached && (match e.src, c.src with | .ring _, .ring _ => e.ring == c.ring | _, _ => false)) ||
     (!e.started && cmdObj e == cmdObj c && (cmdObj c).isSome))

/-- A ring-0 command that the executor could take up goes before any other (R463). -/
def cmdYields (d : Dev) (c : Cmd) : Bool :=
  !(match c.src with | .ring _ => c.ring == 0 | .mbox _ => false) &&
  d.hif.cmds.any fun e => (match e.src with | .ring _ => e.ring == 0 | .mbox _ => false) && !e.started && !d.cmdBehind e

/-- The command that a row with this opcode and source takes up: taken in, not yet taken up, and not held back. While the
triad is headless or a compare pair is frozen no command is executed (R518, Table 1.6), but HIF_IFACE_RESET, which runs in
hardware (R501). -/
def nextCmd (d : Dev) (op : Nat) (src : Src) : Option Cmd :=
  match d.hif.cmds.find? fun c => c.src == src && c.opcode == op && !c.started with
  | none => none
  | some c =>
    if op == 3 then some c
    else if d.hif.headless || d.hif.frozen || d.cmdBehind c || d.cmdYields c then none else some c

/-- The commands but the one with intake number `k`, whose entries of the undo journal are dropped (R560); until now a command was outstanding (R621). -/
def dropCmd (d : Dev) (k : Nat) : Dev :=
  { d with
    hif := { d.hif with cmds := d.hif.cmds.filter (·.intake != k) }, pwr := { d.pwr with busyAt := d.now }
    tri := { d.tri with journal := d.tri.journal.filter (·.intake != k) } }

/-- A released data-path write of the command of intake `k` enters the undo journal with what it replaced (R560). -/
def noteWrite (k : Nat) (w : JWord) (d : Dev) : Dev :=
  { d with tri := { d.tri with journal := if d.tri.journal.length < 65536 then d.tri.journal ++ [{ intake := k, word := w }] else d.tri.journal } }

/-- Fresh DATA of a mailbox after a command (R483, R484, Table 15.22). -/
def mboxData (old : Bytes) (c : Cmd) (r : Resp) : Bytes :=
  match r.data with
  | some b => patch old 0 b
  | none =>
    if ownLayout c.opcode then old
    else
      let out := match r.record with
        | some b => if c.payload = 0 && b.length ≤ 176 || c.opcode == 0 then b else []
        | none => []
      patch old 48 (le 16 r.extra ++ slice out 0 176)

/-- Command `c` completes now (R483, R489, R491, R493, R501): its record goes to host memory first, then its completion entry
with the ring's phase, then the cause bit; a mailbox takes status, result and output and clears GO. A command whose report
an interface reset withdrew only ends; during an interface reset nothing goes to host memory. -/
def completeNow (d : Dev) (c : Cmd) (r : Resp) : Dev :=
  let d0 := d.dropCmd c.intake
  let live := match d.hif.cmds.find? (·.intake == c.intake) with | some e => !e.detached | none => false
  if !live then d0
  else
    match c.src with
    | .mbox m =>
      let mb := tgetD d0.hif.mbox {} m
      let d1 := match r.record with
        | some b => if (c.payload = 0 && b.length ≤ 176) || c.opcode == 0 || d.hif.reset.isSome then d0
                    else d0.emit (.hostWrite c.payload b)
        | none => d0
      let mb' := { mb with go := false, attached := false, status := r.status.code, result := r.result % 2 ^ 64,
                           data := mboxData mb.data c r }
      ({ d1 with hif := { d1.hif with mbox := tset d1.hif.mbox {} m mb' } }).setCause (33 + m)
    | .ring tag =>
      match tget d.hif.sq c.ring with
      | none => d0
      | some q =>
        match tget d.hif.cq q.cq with
        | none => d0
        | some k =>
          match d0.hif.reset with
          | some i => { d0 with hif := { d0.hif with reset := some { i with lost := i.lost + 1 } } }
          | none =>
            let d1 := match r.record with
              | some b => d0.emit (.hostWrite c.payload b)
              | none => d0
            let entry := le 2 tag ++ le 2 r.status.code ++ le 2 q.head ++ le 1 c.ring ++ le 1 (b2n k.phase) ++
              le 8 r.result ++ le 16 r.extra
            let wrap := decide (k.tail + 1 = k.size)
            let k' := { k with tail := if wrap then 0 else k.tail + 1, phase := if wrap then !k.phase else k.phase,
                               reserved := k.reserved - 1 }
            let d2 := (d1.emit (.hostWrite (k.base + 32 * k.tail) entry))
            let d3 := { d2 with hif := { d2.hif with cq := tput d2.hif.cq q.cq k' } }
            if c.noIrq then d3 else d3.setCause q.cq

/-- Command `c` completes. A completion is an output of the control channels: while the device is headless or a compare pair is frozen it
waits (R518, R557, R564), but for that of HIF_IFACE_RESET, which runs in hardware. -/
def complete (d : Dev) (c : Cmd) (r : Resp) : Dev :=
  if (d.hif.headless || d.hif.frozen) && c.opcode != 3 then
    if d.hif.heldDone.any (·.1 == c.intake) then d
    else { d with hif := { d.hif with
      heldDone := d.hif.heldDone ++ [(c.intake, r)]
      cmds := d.hif.cmds.map fun x => if x.intake = c.intake then { x with started := true, ended := true } else x } }
  else d.completeNow c r

/-- The completions that waited are released in the order in which the commands ended. -/
def releaseDone (d : Dev) : Dev :=
  d.hif.heldDone.foldl (fun (x : Dev) p => match x.hif.cmds.find? (·.intake == p.1) with | some c => x.completeNow c p.2 | none => x)
    { d with hif := { d.hif with heldDone := [] } }

/-- Mark the command of intake `k` as taken up. -/
def startCmd (d : Dev) (k : Nat) : Dev :=
  { d with hif := { d.hif with cmds := d.hif.cmds.map fun c => if c.intake = k then { c with started := true } else c } }

/-- The answer of a handler put into effect. -/
def settle (c : Cmd) : Reply → Dev
  | .done d r => d.complete c r
  | .pend d => d.startCmd c.intake

/-- In CHRYSALIS only DEV_GET_INFO and the recovery mailbox commands are accepted (R479); opcodes 0x0001 to 0x0003 and the
recovery opcodes only through a mailbox (R485, R606). -/
def gateCmd (d : Dev) (c : Cmd) : Option Status :=
  let viaRing := match c.src with | .ring _ => true | .mbox _ => false
  if viaRing && ownLayout c.opcode then some .badArg
  else if (d.hif.chrysalis || !d.hif.up) && c.opcode != 0 && !isRecoveryOp c.opcode then some .notReady
  else none

/-- Execute the command that waits under this opcode and source with handler `h`; with none that can run, nothing happens
(log 9). -/
def runCmd (op : Nat) (src : Src) (h : Cmd → Dev → Reply) (d : Dev) : Dev :=
  match d.nextCmd op src with
  | none => d
  | some c =>
    match d.gateCmd c with
    | some st => d.complete c { status := st }
    | none => settle c (h c d)

/-- The first of a list of conditions, in the order of R517, that applies decides the status and nothing changes; with none,
`go`. -/
def check (d : Dev) (tests : List (Bool × Status)) (go : Reply) : Reply :=
  match tests.find? (·.1) with
  | some t => .done d { status := t.2 }
  | none => go

/-- The status record of R514 with the header of Table 16.12. -/
def statusRecord (d : Dev) (opcode : Nat) (body : List Fld) : Bytes :=
  let b := pack body
  le 4 (16 + b.length) ++ le 2 opcode ++ le 2 1 ++ le 8 d.nowNs ++ b

/-- A status command: it writes its record, or completes NO_SPACE with the size needed (R514); `f` is what the read itself
changes. -/
def statusReply (c : Cmd) (d : Dev) (body : List Fld) (f : Dev → Dev := id) : Reply :=
  let rec' := d.statusRecord c.opcode body
  if c.f 28 4 < rec'.length then .done d { status := .noSpace, result := rec'.length }
  else .done (f d) { record := some rec' }

/-- The command taken up under this opcode for which `p` holds, oldest first. -/
def startedCmd (d : Dev) (op : Nat) (p : Cmd → Bool) : Option Cmd :=
  d.hif.cmds.find? fun c => c.opcode == op && c.started && !c.ended && p c

/-- Complete the command taken up under `op` that names `h`, if one is. -/
def finish (d : Dev) (op h : Nat) (r : Resp) : Dev :=
  match d.startedCmd op (·.handle == h) with
  | some c => d.complete c r
  | none => d

/-! ### Stoppable objects (R519-R521) -/

/-- EV_OBJ_STATE for the object of handle `h` entering settled state `st` (Table 16.6). -/
def raiseObj (d : Dev) (h : Nat) (o : Obj) (st : ObjSt) (bound : Bool) (discarded : Nat) : Dev :=
  d.raise 0x0001 sevInfo h
    [.u 1 st.code, .u 1 o.prev.code, .u 1 (b2n o.held + 2 * b2n o.cancelled + 4 * b2n o.failed + 8 * b2n bound), .u 1 0,
     .u 4 (sat32 discarded), .u 8 o.since, .raw 1 (List.replicate 16 0)]

end Dev

/-- Enable (Table 16.5). -/
def Obj.enable (o : Obj) (ns : Nat) : ObjStep :=
  match o.st with
  | .stopped => { obj := { o with st := .starting, prev := .stopped, since := ns, failed := false, cancelled := false },
                  status := .ok, begins := true }
  | .starting => { obj := o, status := .refusedBusy, begins := false }
  | .running => { obj := o, status := .ok, begins := false }
  | .stopping => { obj := { o with held := true }, status := .deferred, begins := false }
  | _ => { obj := o, status := .refusedBusy, begins := false }

/-- The stop of an object begins at NS64 `ns`; its bound elapses at tick `bound`. -/
def Obj.beginStop (o : Obj) (ns bound : Nat) (failed : Bool) : Obj :=
  { o with st := .stopping, held := false, cancelled := false, failed := failed, due := some bound,
           prev := if o.st = .running then .running else o.prev, since := if o.st = .running then ns else o.since }

/-- Disable (Table 16.5). -/
def Obj.disable (o : Obj) (ns bound : Nat) : ObjStep :=
  match o.st with
  | .stopped => { obj := o, status := .ok, begins := false }
  | .starting => { obj := o.beginStop ns bound false, status := .ok, begins := true }
  | .running => { obj := o.beginStop ns bound false, status := .ok, begins := true }
  | .stopping => { obj := { o with held := false, cancelled := o.cancelled || o.held }, status := .ok, begins := false }
  | _ => { obj := o, status := .refusedBusy, begins := false }

/-- The object after its stop ended: STARTING when an enable is held, otherwise STOPPED (Table 16.5). -/
def Obj.stopped (o : Obj) (ns : Nat) : Obj :=
  if o.held then { o with st := .starting, held := false, cancelled := false, failed := false, due := none, prev := .stopped,
                          since := ns }
  else { o with st := .stopped, held := false, cancelled := false, failed := false, due := none, prev := .stopped, since := ns }

/-- The object after its start-up ended (Table 16.5). -/
def Obj.started (o : Obj) (ns : Nat) : Obj := { o with st := .running, prev := .running, since := ns, failed := false }

/-- The object after its start-up failed (Table 16.5). -/
def Obj.startFailed (o : Obj) (ns : Nat) : Obj := { o with st := .stopped, prev := .stopped, since := ns, failed := false }

end Sys2Proof.Machine
end

