-- ==== Sys2Proof/Machine/Events.lean ====
section
/-! DEFINITION. The event path and its commands (R523-R533, R656). -/

namespace Sys2Proof.Machine
namespace Dev

/-- The records of an event with sequence number `n`: one, or a pair when the detail exceeds 32 bytes (R527, R528). -/
def evRecords (e : Event) (n : Nat) : List Bytes :=
  let hdr (fl : Nat) := le 2 e.type ++ le 1 e.sev ++ le 1 (e.flags + fl) ++ le 4 n ++ le 8 e.subject ++ ts12 e.time ++ le 4 0
  if e.detail.length ≤ 32 then [hdr 0 ++ slice e.detail 0 32]
  else [hdr 1 ++ slice e.detail 0 32, hdr 2 ++ slice e.detail 32 32]

/-- The record writer takes one event (R523, R524, R526). -/
def eventRecordWrite (d : Dev) : Dev :=
  match d.evt.fifo with
  | [] => d
  | e :: rest =>
    let rs := evRecords e d.evt.nextSeq
    if d.evt.store.length + rs.length ≤ 65536 then
      { d with evt := { d.evt with
          fifo := rest, store := d.evt.store ++ rs.map fun b => (d.evt.nextSeq, b)
          nextSeq := (d.evt.nextSeq + 1) % 2 ^ 32, written := d.evt.written + rs.length
          summaries := d.evt.summaries + b2n (e.type == 2) } }
    else d

/-- The first coalescing counter closes into EV_SUMMARY (R525, Table 16.7). -/
def coalesceClose (d : Dev) : Dev :=
  match d.evt.coal with
  | [] => d
  | (t, c) :: rest =>
    if d.evt.fifo.length ≤ 64 then
      let e := d.mkEvent 2 c.maxSev 0 [.u 2 t, .u 1 c.maxSev, .u 1 0, .u 4 c.count, .u 8 c.first, .u 8 c.last, .u 8 0]
      { d with evt := { d.evt with
          coal := rest, fifo := d.evt.fifo ++ [e], hiFifo := max d.evt.hiFifo (d.evt.fifo.length + 1)
          counts := tset d.evt.counts 0 2 (sat32 (tgetD d.evt.counts 0 2 + 1)) } }
    else d

/-- How many of the first records go together into `free` slots: a pair is never separated (R528). -/
def evBatch : List (Nat × Bytes) → Nat → Nat
  | (n, _) :: (m, b) :: r, free =>
    if n = m then (if 2 ≤ free then 2 + evBatch r (free - 2) else 0)
    else if 1 ≤ free then 1 + evBatch ((m, b) :: r) (free - 1) else 0
  | [_], free => if 1 ≤ free then 1 else 0
  | [], _ => 0

/-- Records written to consecutive slots of the event ring from `i`. -/
def evWriteSlots (base size : Nat) : Nat → List (Nat × Bytes) → List Emission
  | _, [] => []
  | i, (_, b) :: r => .hostWrite (base + 64 * i) b :: evWriteSlots base size ((i + 1) % size) r

/-- The store delivers the records that fit: records in order, then the index, then the cause (R495). -/
def eventRingDeliver (d : Dev) : Dev :=
  match d.hif.ev with
  | none => d
  | some q =>
    let n := evBatch d.evt.store (q.size - 1 - (q.tail + q.size - q.head) % q.size)
    if d.hif.reset.isSome || n = 0 then d
    else
      let tail := (q.tail + n) % q.size
      let ws := evWriteSlots q.base q.size q.tail (d.evt.store.take n)
      ({ d with
          out := Emission.hostWrite q.wb (le 8 tail) :: ws.reverse ++ d.out
          evt := { d.evt with store := d.evt.store.drop n }
          hif := { d.hif with ev := some { q with tail := tail } } }).setCause 16

/-- The one-second window of a counted event ends (R656). -/
def eventWindowEnd (type key : Nat) (d : Dev) : Dev :=
  match d.evWindow type key with
  | none => d
  | some w =>
    if w.ends ≤ d.now then
      match w.first with
      | some e => (d.mapWindow type key fun x => { x with ends := d.now + secT 1, count := 0, first := none }).evPut
          { e with detail := patch e.detail w.countAt (le 4 (sat32 w.count)) }
      | none => { d with evt := { d.evt with windows := d.evt.windows.filter fun x => !(x.type == type && x.key == key) } }
    else d

/-- The event types a filter of `type` with `flags` names (R531): one, or those of a group; EV_SUMMARY is never among them. -/
def filterTypes (type flags : Nat) : List Nat :=
  if bit flags 1 then ((List.range 256).map fun k => type / 256 * 256 + k).filter fun t => isEventType t && t != 2
  else if isEventType type && type != 2 then [type] else []

/-- EVT_SET_FILTER (R531). -/
def evtSetFilter (c : Cmd) (d : Dev) : Reply :=
  let ts := filterTypes (c.f 0 2) (c.f 2 1)
  let old := d.evt.suppress.filter fun t => !ts.contains t
  check d [(c.bad 0x00, .badHandle), (ts.isEmpty || decide (4 ≤ c.f 2 1) || c.dirty 3 29, .badArg)]
    (.done { d with evt := { d.evt with suppress := if bit (c.f 2 1) 0 then old ++ ts else old } } {})

/-- EVT_GET_STATS (R532): the 64-byte header, then 13 × 256 counts. -/
def evtGetStats (c : Cmd) (d : Dev) : Reply :=
  let v := d.evt
  let hdr := le 8 v.written ++ le 8 v.coalesced ++ le 8 v.suppressed ++ le 8 v.summaries ++ le 4 v.store.length ++
    le 2 v.hiFifo ++ le 2 0 ++ le 4 v.nextSeq ++ List.replicate 20 0
  check d [(c.bad 0x00, .badHandle)]
    (.done { d with evt := { v with hiFifo := v.fifo.length } }
      { record := some (hdr ++ ((List.range 3328).map fun t => le 4 (tgetD v.counts 0 t)).flatten) })

/-- EVT_TEST (R533). -/
def evtTest (pl : HostRead) (c : Cmd) (d : Dev) : Reply :=
  let detail := if c.payload = 0 then List.replicate 32 0 else slice (pl.getD []) 0 32
  check d [(!decide (c.hIdx < handleRange c.hType), .badHandle),
      (decide (3 < c.f 0 1) || c.dirty 1 31 || (c.payload != 0 && pl.isNone), .badArg)]
    (let e := d.mkEvent 7 (c.f 0 1) c.handle [.raw 1 detail]
     .done (d.evPut { e with flags := e.flags + 8 }) {})

end Dev

/-- EVENT_RECORD_WRITE. -/
def execEventRecordWrite (s : State) : Out := s.onDev Dev.eventRecordWrite
/-- COALESCE_CLOSE. -/
def execCoalesceClose (s : State) : Out := s.onDev Dev.coalesceClose
/-- EVENT_RING_DELIVER. -/
def execEventRingDeliver (s : State) : Out := s.onDev Dev.eventRingDeliver
/-- EVENT_WINDOW_END. -/
def execEventWindowEnd (type : BitVec 16) (key : BitVec 64) (s : State) : Out :=
  s.onDev (Dev.eventWindowEnd type.toNat key.toNat)
/-- EVT_SET_FILTER, opcode 0x0900. -/
def execEvtSetFilter (src : Src) (s : State) : Out := s.onDev (Dev.runCmd 0x0900 src Dev.evtSetFilter)
/-- EVT_GET_STATS, opcode 0x0901. -/
def execEvtGetStats (src : Src) (s : State) : Out := s.onDev (Dev.runCmd 0x0901 src Dev.evtGetStats)
/-- EVT_TEST, opcode 0x0902. -/
def execEvtTest (src : Src) (pl : HostRead) (s : State) : Out := s.onDev (Dev.runCmd 0x0902 src (Dev.evtTest pl))

end Sys2Proof.Machine
end

