-- ==== Sys2Proof/Machine/Headers.lean ====
section
/-! DEFINITION. Headers: what the parser finds in the first 384 bytes of a frame (R105, R106, R429), and how the pipelines write
headers: terminated ones off, labels and TTLs, the encapsulation entry and the FCS (R108, R114, R131, R173). The formats are those of
the standards that Table 4.2 names (log 123). -/

namespace Sys2Proof.Machine

/-- The big-endian number of `w` bytes at `o`. -/
def net (b : Bytes) (o w : Nat) : Nat := unBe (slice b o w)

/-- The bytes of a frame the parser may read: the first 384, short of the FCS (R105). -/
def window (len : Nat) : Nat := min 384 (len - 4)

/-- The Internet checksum of an even run of bytes, as written in a header that holds 0 in its place. -/
def inetSum (b : Bytes) : Nat :=
  let s := ((List.range (b.length / 2)).map fun k => net b (2 * k) 2).sum
  let f := s % 65536 + s / 65536
  65535 - (f % 65536 + f / 65536)

/-- An IPv4 header at `o` with its checksum made right. -/
def fixSum (b : Bytes) (o : Nat) : Bytes :=
  let z := patch b (o + 10) [0, 0]
  patch z (o + 10) (be 2 (inetSum (slice z o (net b o 1 % 16 * 4))))

/-- The IPv6 headers between the fixed header and the payload: the next header, its offset, a fragment, the segment routing header, nodes
visited, and whether one does not end inside the window. -/
def v6Exts (b : Bytes) (lim : Nat) : Nat → Nat → Nat → Bool → Option (Nat × Nat × List Nat) → Nat →
    Nat × Nat × Bool × Option (Nat × Nat × List Nat) × Nat × Bool
  | 0, nh, o, fr, sr, v => (nh, o, fr, sr, v, false)
  | n + 1, nh, o, fr, sr, v =>
    let size := if nh = 44 then 8 else 8 + 8 * net b (o + 1) 1
    if !(nh == 0 || nh == 43 || nh == 44 || nh == 60) then (nh, o, fr, sr, v, false)
    else if lim < o + 8 || lim < o + size then (nh, o, fr, sr, v + 1, true)
    else
      let k := (size - 8) / 16
      let srh := if nh = 43 && net b (o + 2) 1 = 4 && k ≤ 5 then some (o, net b (o + 3) 1, (List.range k).map fun i => net b (o + 8 + 16 * i) 16)
        else sr
      v6Exts b lim n (net b o 1) (o + size) (fr || nh == 44) srh (v + 1)

/-- An Ethernet header with up to two tags at `o`: the header, its tags, the offset behind them, and the nodes visited. -/
def parseEth (b : Bytes) (o : Nat) : EthHdr × List Nat × Nat × Nat :=
  let hdr (t : Nat) : EthHdr := { dmac := net b o 6, smac := net b (o + 6) 6, etype := t }
  let t0 := net b (o + 12) 2
  if t0 = 0x8100 || t0 = 0x88A8 then
    let t1 := net b (o + 16) 2
    if t1 = 0x8100 then (hdr (net b (o + 20) 2), [net b (o + 14) 2, net b (o + 18) 2], o + 22, 3)
    else (hdr t1, [net b (o + 14) 2], o + 18, 2)
  else (hdr t0, [], o + 14, 1)

/-- The size of an L4 header whose ports the hash may use; 0 for a protocol without ports. -/
def l4Size (b : Bytes) (proto o : Nat) : Nat :=
  if proto = 6 then 4 * max 5 (net b (o + 12) 1 / 16) else if proto = 17 then 8 else if proto = 132 then 12 else 0

/-- The parser from a network header of type `et` at `o` on (R105, R106). `et` = 0 takes the type from the version field, behind a label
stack. A layer begins at `lo` with the Ethernet header `eth`, if it is an inner one. `vx` is the further VXLAN port that may be set. -/
def parseNet (b : Bytes) (lim len : Nat) (vx : Option Nat) : Nat → Nat → Nat → Nat → Option EthHdr → Parsed → Parsed
  | 0, _, _, _, _, p => p
  | n + 1, et, o, lo, eth, p =>
    let q : Parsed := { p with visits := p.visits + 1 }
    if et = 0x8847 || et = 0x8848 then
      if !p.layers.isEmpty then p
      else if lim < o + 4 || 12 ≤ p.mpls.length then q
      else
        let e := net b o 4
        let m : MplsHdr := { label := e / 4096, tc := e / 512 % 8, ttl := e % 256 }
        let ent := match q.mpls.getLast?, q.entropy with
          | some x, none => if x.label = 7 then some m.label else none
          | _, x => x
        parseNet b lim len vx n (if bit e 8 then 0 else et) (o + 4) (if bit e 8 then o + 4 else lo) eth { q with mpls := q.mpls ++ [m], entropy := ent }
    else
      let ver := net b o 1 / 16
      if !(et == 0x0800 || et == 0x86DD || (et == 0 && (ver == 4 || ver == 6))) then p
      else
        let v6 := et == 0x86DD || (et == 0 && ver == 6)
        let ihl := net b o 1 % 16
        let size := if v6 then 40 else 4 * max 5 ihl
        let cut : Layer := { off := lo, eth := eth, ipCut := true }
        if lim < o + size then { q with layers := q.layers ++ [cut] }
        else
          let total := if v6 then net b (o + 4) 2 else net b (o + 2) 2
          let sumOk := v6 || inetSum (slice b o (4 * ihl)) == 0
          let x := if v6 then v6Exts b lim 8 (net b (o + 6) 1) (o + 40) false none q.visits
            else (net b (o + 9) 1, o + size, net b (o + 6) 2 % 16384 != 0, none, q.visits, false)
          let proto := x.1; let o4 := x.2.1; let frag := x.2.2.1
          let h : IpHdr := {
            v6 := v6, sa := if v6 then net b (o + 8) 16 else net b (o + 12) 4, da := if v6 then net b (o + 24) 16 else net b (o + 16) 4
            ttl := if v6 then net b (o + 7) 1 else net b (o + 8) 1
            dscp := if v6 then net b o 2 / 64 % 64 else net b (o + 1) 1 / 4, proto := proto
            flow := if v6 then net b o 4 % 2 ^ 20 else 0, frag := frag, ihl := ihl, csumOk := sumOk, off := o, total := total }
          let badIp := (if v6 then ver != 6 || decide (len - 4 - o < total + 40)
            else ver != 4 || decide (ihl < 5) || !sumOk || decide (len - 4 - o < total))
          let s4 := if frag || x.2.2.2.2.2 then 0 else l4Size b proto o4
          let has4 := s4 != 0 && decide (o4 + s4 ≤ lim)
          let l : Layer := { off := lo, eth := eth, ip := some h, l4 := if has4 then some (net b o4 2, net b (o4 + 2) 2) else none
                             l4Cut := (s4 != 0 && !has4) || x.2.2.2.2.2, srh := x.2.2.2.1 }
          let first := q.layers.isEmpty
          let r : Parsed := { q with bad := q.bad || badIp, visits := x.2.2.2.2.1 + b2n (s4 != 0) }
          let port := net b (o4 + 2) 2
          let done (l : Layer) : Parsed := { r with layers := r.layers ++ [l] }
          if badIp || frag || x.2.2.2.2.2 then done l
          else if proto = 17 && has4 && (port == 4789 || vx == some port) then
            if lim < o4 + 30 then { done { l with inside := some (.vxlan (net b (o4 + 12) 3)) } with layers :=
              r.layers ++ [{ l with inside := some (.vxlan (net b (o4 + 12) 3)) }, { off := o4 + 16, ipCut := true }] }
            else
              let e := parseEth b (o4 + 16)
              let d := done { l with inside := some (.vxlan (net b (o4 + 12) 3)) }
              let y := parseNet b lim len vx n e.1.etype e.2.2.1 (o4 + 16) (some e.1) { d with visits := d.visits + 1 + e.2.2.2 }
              if y.layers.length = d.layers.length then { y with layers := y.layers ++ [{ off := o4 + 16, eth := some e.1 }] } else y
          else if proto = 47 then
            let fl := net b o4 2
            let gs := 4 + 4 * b2n (bit fl 15) + 4 * b2n (bit fl 13) + 4 * b2n (bit fl 12)
            let ty := net b (o4 + 2) 2
            if lim < o4 + gs || !(ty == 0x0800 || ty == 0x86DD || ty == 0x6558) then done l
            else
              let d := done { l with inside := some (.gre (if bit fl 13 then some (net b (o4 + 4 + 4 * b2n (bit fl 15)) 4) else none)) }
              let d1 : Parsed := { d with visits := d.visits + 1 }
              if ty = 0x6558 then
                if lim < o4 + gs + 14 then { d1 with layers := d1.layers ++ [{ off := o4 + gs, ipCut := true }] }
                else
                  let e := parseEth b (o4 + gs)
                  let y := parseNet b lim len vx n e.1.etype e.2.2.1 (o4 + gs) (some e.1) { d1 with visits := d1.visits + e.2.2.2 }
                  if y.layers.length = d1.layers.length then { y with layers := y.layers ++ [{ off := o4 + gs, eth := some e.1 }] } else y
              else parseNet b lim len vx n ty (o4 + gs) (o4 + gs) none d1
          else if proto = 4 || proto = 41 then
            parseNet b lim len vx n (if proto = 4 then 0x0800 else 0x86DD) o4 o4 none (done { l with inside := some .ip })
          else if proto = 17 && has4 && first && q.mpls.length ≤ 3 && (port == 319 || port == 320) && decide (o4 + 42 ≤ lim) then
            { done l with ptp := some (o4 + 8, true) }
          else done l

/-- What the parser with the graph of Table 4.2 finds in a frame of `len` bytes. -/
def stdParse (vx : Option Nat) (len : Nat) (b : Bytes) : Parsed :=
  let w := b.take 384
  let lim := window len
  let e := parseEth w 0
  let p : Parsed := { visits := e.2.2.2, eth := e.1, tags := e.2.1, off := e.2.2.1 }
  let q := parseNet w lim len vx 34 e.1.etype e.2.2.1 e.2.2.1 none p
  if e.1.etype = 0x88F7 && e.2.2.1 + 34 ≤ lim then { q with ptp := some (e.2.2.1, false) } else q

/-! ### Writing headers -/

/-- A frame's Ethernet addresses with a new EtherType, in front of `b`. -/
def underEth (f : Bytes) (et : Nat) (b : Bytes) : Bytes := f.take 12 ++ be 2 et ++ b

/-- The EtherType of the header that begins `b`. -/
def etOf (b : Bytes) : Nat := if net b 0 1 / 16 = 6 then 0x86DD else 0x0800

/-- The TTL or hop limit of the IP header at `o` lowered by 1 (R114). -/
def lowerTtl (b : Bytes) (o : Nat) : Bytes :=
  if net b o 1 / 16 = 6 then patch b (o + 7) (be 1 (net b (o + 7) 1 - 1))
  else fixSum (patch b (o + 8) (be 1 (net b (o + 8) 1 - 1))) o

/-- A frame as ingress leaves it at stage 12: terminated headers and popped labels are off, a swapped label, a lowered TTL and a new
micro-SID destination are in (R100, R108, R114). Its FCS is written when it leaves (`sealFcs`). -/
def rebuild (f : Flight) : Bytes :=
  let b := f.bytes
  let l := f.pkt.layers[f.layer]?
  let ipOff : Nat := match l with | some x => (match x.ip with | some h => h.off | none => 0) | none => 0
  let b1 := match f.newDa with | some a => patch b (ipOff + 24) (be 16 a) | none => b
  let b2 := match f.newSid, l.bind (·.srh) with
    | true, some s => patch b1 (s.1 + 3) (be 1 (s.2.1 - 1))
    | _, _ => b1
  let b3 := if f.routed && ipOff != 0 then lowerTtl b2 ipOff else b2
  if f.layer != 0 then
    match l with
    | some x => if x.eth.isSome then b3.drop x.off else underEth b (etOf (b3.drop x.off)) (b3.drop x.off)
    | none => b3
  else
    let rest := b3.drop (f.pkt.off + 4 * f.popped)
    let b4 : Bytes := match f.swap with
      | some n => let e := net rest 0 4; be 4 (n % 2 ^ 20 * 4096 + e / 256 % 16 * 256 + (e % 256 - 1)) ++ rest.drop 4
      | none => rest
    if f.popped = 0 && f.swap.isNone then b3
    else underEth b (if f.popped < f.pkt.mpls.length then f.pkt.eth.etype else etOf b4) b4

/-- The fields of a template that egress completes (R173): lengths, IPv4 checksum, TTLs, and the VXLAN source port from the ECMP hash. `n` is
the length of what follows the template and `ttl` the inner TTL. -/
def fillNet (n ttl hash : Nat) : Nat → Nat → Nat → Bytes → Bytes
  | 0, _, _, t => t
  | k + 1, et, o, t =>
    if et = 0x8847 || et = 0x8848 then
      if t.length < o + 4 then t
      else fillNet n ttl hash k (if bit (net t o 4) 8 then 0 else et) (o + 4) (patch t (o + 3) (be 1 (Config.outerTtl ttl)))
    else if et = 0x0800 && o + 20 ≤ t.length then
      let t1 := patch (patch t (o + 2) (be 2 (t.length - o + n))) (o + 8) (be 1 (Config.outerTtl ttl))
      let o4 := o + net t o 1 % 16 * 4
      fixSum (match net t (o + 9) 1 with
        | 17 => fillUdp (patch t1 (o4 + 4) (be 2 (t.length - o4 + n))) o4
        | 4 => fillNet n ttl hash k 0x0800 o4 t1
        | 41 => fillNet n ttl hash k 0x86DD o4 t1
        | _ => t1) o
    else if et = 0x86DD && o + 40 ≤ t.length then
      let t1 := patch (patch t (o + 4) (be 2 (t.length - o - 40 + n))) (o + 7) (be 1 (Config.outerTtl ttl))
      match net t (o + 6) 1 with
      | 17 => fillUdp (patch t1 (o + 44) (be 2 (t.length - o - 40 + n))) (o + 40)
      | 4 => fillNet n ttl hash k 0x0800 (o + 40) t1
      | 41 => fillNet n ttl hash k 0x86DD (o + 40) t1
      | _ => t1
    else t
where
  /-- The source port of a UDP header in front of VXLAN. -/
  fillUdp (t : Bytes) (o4 : Nat) : Bytes := patch t o4 (be 2 (hash % 65536 ||| 0xC000))

/-- A template ends in a header that carries an Ethernet frame: VXLAN over UDP, or GRE of type 0x6558. -/
def carriesEth (t : Bytes) : Bool :=
  let e := parseEth t 0
  let o := e.2.2.1
  let p := if e.1.etype = 0x86DD then (net t (o + 6) 1, o + 40) else (net t (o + 9) 1, o + net t o 1 % 16 * 4)
  (e.1.etype == 0x0800 || e.1.etype == 0x86DD) && (p.1 == 17 || (p.1 == 47 && net t (p.2 + 2) 2 == 0x6558))

/-- A frame with the encapsulation entry `t` of its next hop imposed (R131, R173): the entry begins with the outer Ethernet header, which takes the
place of the frame's own, or stands in front of the whole frame where the entry carries Ethernet (log 123). -/
def impose (t : Bytes) (hash : Nat) (b : Bytes) : Bytes :=
  let e := parseEth b 0
  let o := e.2.2.1
  let inner := if carriesEth t then b.take (b.length - 4) else (b.drop o).take (b.length - 4 - o)
  let ttl := if e.1.etype = 0x8847 then net b (o + 3) 1 else if e.1.etype = 0x86DD then net b (o + 7) 1 else net b (o + 8) 1
  let te := parseEth t 0
  fillNet inner.length ttl hash 12 te.1.etype te.2.2.1 t ++ inner ++ slice b (b.length - 4) 4

/-- One step of the reflected CRC-32 of IEEE 802.3. -/
def crc32Step : Nat → BitVec 32 → BitVec 32
  | 0, c => c
  | k + 1, c => crc32Step k (if c.getLsbD 0 then (c >>> 1) ^^^ 0xEDB88320#32 else c >>> 1)

/-- The frame check sequence of the bytes before it, as IEEE 802.3 sends it (log 123). -/
def fcs (b : Bytes) : Bytes :=
  le 4 (~~~(b.foldl (fun c x => crc32Step 8 (c ^^^ x.setWidth 32)) 0xFFFFFFFF#32)).toNat

/-- A frame with its FCS, inverted where it must not be taken for whole (R25, R31). -/
def sealFcs (inverted : Bool) (b : Bytes) : Bytes :=
  let p := b.take (b.length - 4)
  p ++ (fcs p).map fun x => if inverted then ~~~x else x

end Sys2Proof.Machine

/-- What a graph with patched banks finds: the manual gives no format of the graph, so it is a function of the banks' images and of the
384 bytes, with no value (R105; log 123). -/
opaque Sys2Proof.Config.parse : List Sys2Proof.Bytes → Nat → Sys2Proof.Bytes → Sys2Proof.Machine.Parsed

/-- The metadata word of a frame: the manual gives its size and what it carries, not its layout (R100, R207, R436; log 123). -/
opaque Sys2Proof.Config.metadata : Sys2Proof.Machine.Flight → Sys2Proof.Bytes
end

