-- ==== Sys2Proof/Machine/Hooks.lean ====
section
/-! DEFINITION. Small readings and effects that several parts share across chapters: the device's number, counts of discards and
frames, punts. -/

namespace Sys2Proof.Machine

/-- Picoseconds in ticks of 2^-16 ns. -/
def psT (ps : Int) : Int := ps * 65536 / 1000

namespace Dev

def setTime (d : Dev) (f : TimeSt → TimeSt) : Dev := { d with time := f d.time }
def getT (d : Dev) (p : Nat) : TPort := tgetD d.time.port {} p
def putT (d : Dev) (p : Nat) (t : TPort) : Dev := d.setTime fun x => { x with port := tset x.port {} p t }
def modT (d : Dev) (p : Nat) (f : TPort → TPort) : Dev := d.putT p (f (d.getT p))

/-- Firmware runs and its outputs take effect (Table 1.6, R564). -/
def fwHeld (d : Dev) : Bool := d.hif.headless || d.hif.frozen

/-- The egress queue map of a port and class: base and k (R266). -/
def mapOf (d : Dev) (p c : Nat) : Nat × Nat := tgetD d.qs.map (0x400000 + 8 * p + c, 0) (p * 8 + c)

/-- Queue `q` belongs to a map of port `p` (R266). -/
def mapHolds (d : Dev) (p q : Nat) : Bool :=
  (List.range 8).any fun c => decide ((d.mapOf p c).1 ≤ q) && decide (q < (d.mapOf p c).1 + 2 ^ (d.mapOf p c).2)

/-- Port `p` has frames in its egress queues or on their way to the line (R62, R520). -/
def portQueued (d : Dev) (p : Nat) : Bool :=
  !(tgetD d.tx [] p).isEmpty || ((tgetD d.pipe {} (p / 8)).egress.any fun f => f.outPort == p) ||
  d.qs.q.any fun x => !(x.2.chain.isEmpty && x.2.parked.isEmpty) && d.mapHolds p x.1

/-- The device's number in the system (R403). -/
def devId (d : Dev) : Nat := d.fab.id

/-- An FC message joins the outgoing queue of its device: when the queue's 256 places are taken, a reply that restates state (EPOCH_ACK,
EPOCH_STATUS, RELAY_ACK, PORT_VECTOR, HEARTBEAT) takes the place of the oldest of its kind, and any other waits (R467). -/
def fcQueue (q : List FcMsg) (m : FcMsg) : List FcMsg :=
  let same (x : FcMsg) : Bool := x.kind == m.kind && !x.begun
  if 256 ≤ q.length && [0x41, 0x43, 0x61, 0x21, 0x30].contains m.kind then
    match (q.take 256).findIdx? same with
    | some k => q.set k m
    | none => q ++ [m]
  else q ++ [m]

/-- An FC message to device `dev`, big-endian: type, a reserved byte, this device, the rest (R10, R408); nothing goes to a device that is not
reachable. -/
def sendFc (d : Dev) (dev kind : Nat) (body : Bytes) (link : Option Nat := none) : Dev :=
  if d.fwd.reachable.contains dev then
    let m : FcMsg := { kind := kind, bytes := be 1 kind ++ be 1 0 ++ be 2 d.devId ++ body, link := link }
    { d with fab := { d.fab with fcq := tput d.fab.fcq dev (fcQueue (tgetD d.fab.fcq [] dev) m) } }
  else d

/-- The same to every reachable device. -/
def sendFcAll (d : Dev) (kind : Nat) (body : Bytes) : Dev :=
  d.fwd.reachable.foldl (fun (x : Dev) n => x.sendFc n kind body) d

/-- PORT_STATE to every reachable device (R121). -/
def announcePort (d : Dev) (p : Nat) (down : Bool) : Dev := d.sendFcAll 0x20 (be 1 p ++ be 1 (b2n down) ++ be 2 0)

/-- SyncE output `k` is squelched: its lane has no signal or no lock (R445). -/
def synceBad (d : Dev) (k : Nat) : Bool :=
  match (d.time.synce.getD k (none, 0)).1 with
  | some l => let x := tgetD d.lane {} l; !(x.signal && x.blockLock && x.amLock)
  | none => false

/-- The squelch of every SyncE output brought up to date (R445). -/
def synceSquelch (d : Dev) : Dev :=
  (List.range 4).foldl (fun (x : Dev) k =>
    let was := x.time.squelch.contains k
    if x.synceBad k = was then x
    else ({ x with time := { x.time with squelch := if was then x.time.squelch.filter (· != k) else k :: x.time.squelch } }).emit
      (.timePin 2 (2 * k + b2n (!was)))) d

/-- The UTC offset in seconds (R422). -/
def utcOffset (d : Dev) : Int := d.time.utc
/-- Bridge group `g` is being remapped and carries nothing (R21). -/
def bridgeStalled (d : Dev) (g : Nat) : Bool := (tgetD d.bridge {} g).stalled
/-- Reads through P3 are stretched under the shedding order (R171, R362). -/
def p3Stretched (d : Dev) : Bool := decide (3 ≤ d.hbm.level)

/-- A governor loop is in shortfall (R615, R362). -/
def shortfallOn (d : Dev) : Bool := d.pwr.loopF.short || d.pwr.loopQ.short

/-- A lane FIFO of port `l`'s first lane overran or ran dry: a rate shortfall by loss (R31, R616; log 31). -/
def rateShort (d : Dev) (l : Nat) : Dev :=
  let d1 := d.raiseCounted 0x0C00 sevMajor l 0 28
    [fByte 0, fByte 1, fIdx l, f8 (d.pwr.loopF.rate / 100), f8 (d.pwr.loopF.target / 100), fFlag false, fCnt 0]
  if d.shortfallOn then d1.setAlarm 3 else d1

/-- EV_PWR_QUIET on entry and exit, at most once per second, with the entries since the last event (R622, R656). -/
def quietEvent (d : Dev) (entered : Bool) : Dev :=
  let e := d.mkEvent 0x0C04 sevInfo 0 [fByte (b2n (!entered)), fCnt (b2n entered)]
  match d.evWindow 0x0C04 0 with
  | none => (d.openWindow 0x0C04 0 4).evPut e
  | some _ => d.mapWindow 0x0C04 0 fun w =>
      { w with count := w.count + b2n entered, first := match w.first with | some x => some x | none => some e }

def getTri (d : Dev) (k : Nat) : TriCh := tgetD d.tri.ch {} k
def modTri (d : Dev) (k : Nat) (f : TriCh → TriCh) : Dev := { d with tri := { d.tri with ch := tset d.tri.ch {} k (f (d.getTri k)) } }

/-- A record in the trace of control channel `k` (R568). -/
def triTrace (type a b k : Nat) (d : Dev) : Dev :=
  let t : TriTrace := { type := type, time := d.sysTicks, a := a, b := b }
  d.modTri k fun c => { c with trace := (t :: c.trace).take 512, traceAt := (c.traceAt + 1) % 512 }

/-- Channels that run: all but those FAILED. -/
def triRunning (d : Dev) : List Nat := (List.range 3).filter fun k => (d.getTri k).role != .failed

/-- Traffic or a command: the quiet time begins anew and the quiet state ends; the control channels write LP_EXIT, the next checkpoint is
10 ms away and the swap timer goes on (R569, R621, R622). -/
def quietExit (d : Dev) : Dev :=
  let d1 : Dev := { d with pwr := { d.pwr with quiet := false, busyAt := d.now } }
  if d.pwr.quiet then
    let d2 := (d.triRunning.foldl (fun (x : Dev) k => x.triTrace 0x02 0 0 k) d1).quietEvent false
    { d2 with tri := { d2.tri with cpAt := d.now, swapDue := d.tri.swapDue + (d.now - d.pwr.quietAt), allSince := d.tri.allSince + (d.now - d.pwr.quietAt) } }
  else d1

/-- DMA_HALT of channel `k`, and what an interface reset does to it (R549, Table 17.5). -/
def dmaHaltCh (k : Nat) (d : Dev) : ObjStep × Dev :=
  let c := tgetD d.dma.ch {} k
  let r := c.obj.disable d.nowNs (d.now + usT 2)
  let c1 := { c with obj := r.obj, last := if r.begins then .cancelled else c.last, lastPc := if r.begins then c.pc else c.lastPc
                     fault := if r.begins then 0 else c.fault }
  (r, { d with dma := { d.dma with ch := tset d.dma.ch {} k c1 } })

/-- A request added to a DMA request line (R546). -/
def dmaRequest (d : Dev) (line : Nat) : Dev :=
  let n := tgetD d.dma.lines 0 line
  if n < 65535 then { d with dma := { d.dma with lines := tset d.dma.lines 0 line (n + 1) } }
  else d.raiseCounted 0x0802 sevMinor line 0 4 [fIdx line, fCnt 0]

/-! ### Slots (R585, R593) -/

/-- Slot A (`false`) or B (`true`): in the staging buffer under host boot, otherwise in flash (R593). -/
def slot (nv : Nv) (d : Dev) (b : Bool) : FwSlot :=
  match b, d.fw.hostBoot with
  | false, false => nv.slotA
  | true, false => nv.slotB
  | false, true => d.fw.hbA
  | true, true => d.fw.hbB

/-- Both with slot `b` made `x`. -/
def putSlot (nv : Nv) (d : Dev) (b : Bool) (x : FwSlot) : Nv × Dev :=
  match b, d.fw.hostBoot with
  | false, false => ({ nv with slotA := x }, d)
  | true, false => ({ nv with slotB := x }, d)
  | false, true => (nv, { d with fw := { d.fw with hbA := x } })
  | true, true => (nv, { d with fw := { d.fw with hbB := x } })

/-- The persisted configuration changed by the running control firmware: both regions are written, each in its slot's format while a trial
runs and that format is the running one or the one before it, otherwise in the running format (R594). -/
def persist (d : Dev) (nv : Nv) (f : Persist → Persist) : Nv :=
  let run := d.fw.fmt
  let p := f (((if d.hif.fwSlot then nv.regionB else nv.regionA).map (·.2)).getD {})
  let fmt (s : FwSlot) : Nat := if nv.trial.isSome && (s.fmt == run || s.fmt + 1 == run) then s.fmt else run
  { nv with regionA := some (fmt (slot nv d false), p), regionB := some (fmt (slot nv d true), p) }

/-! ### MACsec on the frame path (R630-R634) -/

def getMac (d : Dev) (p : Nat) : Mac := tgetD d.sec.mac {} p
def putMac (d : Dev) (p : Nat) (m : Mac) : Dev := { d with sec := { d.sec with mac := tset d.sec.mac {} p m } }

/-- The EtherType a frame begins with: that of its outermost tag where it has one (log 32). -/
def firstType (b : Bytes) : Nat := net b 12 2

/-- A frame that a port with MACsec on leaves unprotected (R631). -/
def macPlain (m : Mac) (b : Bytes) : Bool :=
  let t := firstType b
  t == 0x888E || (t != 0 && m.bypass.contains t) || ((parseEth b 0).1.etype == 0x88F7 && !bit m.flags 1)

/-- The first PN that is not used any more, and the PN of the threshold event (R633). -/
def pnEnd (m : Mac) : Nat := if m.xpn then 2 ^ 64 else 2 ^ 32
def pnWarn (m : Mac) : Nat := pnEnd m - 2 ^ 24

/-- The port is fail-closed (R634). -/
def macsecTxClosed (d : Dev) (p : Nat) : Bool := (d.getMac p).closed

/-- MACsec of a port protects PTP messages, those over UDP whenever it is on (R435, R631). -/
def ptpProtected (d : Dev) (p : Nat) (udp : Bool) : Bool := let m := d.getMac p; m.on && (udp || bit m.flags 1)

/-- A discard under MACSEC_RX counted by its cause (Table 21.6). -/
def macRx (d : Dev) (p cause : Nat) : Bool × Dev :=
  let m := d.getMac p
  (false, d.putMac p { m with rx := m.rx.set cause (m.rx.getD cause 0 + 1) })

/-- MACsec checks of a received frame: whether it passes (R631, R633, R634). A protected frame for which the port holds no SA cannot pass
the ICV check (log 32); channel 0 is the transmit channel and receives nothing (R630). -/
def macsecReceive (d : Dev) (p : Nat) (f : RxFrame) : Bool × Dev :=
  let m := d.getMac p
  if !m.on || firstType f.raw == 0x888E then (true, d)
  else if m.closed then d.macRx p 4
  else if !f.macsec.isProtected then (if m.validate = 2 && !macPlain m f.raw then d.macRx p 2 else (true, d))
  else
    let k := f.macsec.chan.val * 4 + f.macsec.an.val
    match if f.macsec.chan.val = 0 then none else tget m.sa k with
    | none => if m.validate = 0 then (true, d) else d.macRx p 3
    | some a =>
      if a.exhausted && m.validate != 0 then d.macRx p 3
      else if m.validate != 0 && !f.macsec.icvOk then d.macRx p 0
      else if bit m.flags 2 && decide (f.macsec.pn < max a.low (a.pn - m.window)) then d.macRx p 1
      else
        let pn := max a.pn (f.macsec.pn + 1)
        (true, d.putMac p { m with sa := tput m.sa k { a with pn := pn, exhausted := a.exhausted || decide (pnEnd m ≤ pn) } })

/-- The transmit SA in use. -/
def txSa (m : Mac) : Option (Nat × Sa) :=
  match m.txAn with
  | some an => match tget m.sa an with | some a => if a.exhausted then none else some (an, a) | none => none
  | none => none

/-- A frame as it is sent: length and bytes, or nothing when the port may not send it (R631, R633, R634). Without a selected, usable SA no
frame can be protected (log 32). The FCS is that of the bytes sent, inverted at an underrun (R31). -/
def macsecSend (d : Dev) (p : Nat) (inverted : Bool) (f : Flight) : Option (Nat × Bytes) × Dev :=
  let m := d.getMac p
  if !m.on then (some (f.len, sealFcs inverted f.bytes), d)
  else if m.closed && firstType f.bytes != 0x888E then (none, d)
  else if macPlain m f.bytes then (some (f.len, sealFcs inverted f.bytes), d)
  else
    match txSa m with
    | none => (none, d)
    | some (an, a) =>
      let pn := a.pn + 1
      let warn := decide (pnWarn m ≤ pn) && !a.warned
      let d1 := d.putMac p { m with sa := tput m.sa an { a with pn := pn, warned := a.warned || warn, exhausted := decide (pnEnd m ≤ pn) } }
      let d2 := if warn then d1.raise 0x0B02 sevMinor (handle 0x1B (p * 4)) [fIdx an, f8 pn] else d1
      (some (f.len + (if bit m.flags 0 then 16 else 8) + 16, Config.macsecSeal (a.key ++ a.salt) a.pn f.bytes), d2)

/-- A class is barred from HBM by the shedding order (R253, Table 10.8). -/
def hbmBars (d : Dev) (c : Nat) : Bool := (decide (2 ≤ d.hbm.level) && decide (c < 4)) || decide (4 ≤ d.hbm.level)

/-- Channels RUNNING (R335). -/
def hbmRunning (d : Dev) : Nat := (d.hbm.ch.filter fun c => c.2.obj.st == .running).length

/-- Reservations of the ports in units of 0.01 GB/s (R338): 1.20 × S and 1.08 × S for P0 and P1, where S is the spill rate of 0.1 Tbit/s,
12.5 GB/s each. -/
def hbmReserve (d : Dev) (p : Nat) : Nat :=
  match p with
  | 0 => 1500 * d.buf.spillRate
  | 1 => 1350 * d.buf.spillRate
  | k => 100 * (d.hbm.port.getD k { target := 0, reserve := 0 }).reserve

/-- The reservations fit the budget of R360; from level 1 on those of P4 and P7 do not count (Table 10.8). -/
def hbmBudgetOk (d : Dev) : Bool :=
  let counted (p : Nat) : Bool := !(decide (1 ≤ d.hbm.level) && (p == 4 || p == 7))
  let sum (l : List Nat) : Nat := ((l.filter counted).map d.hbmReserve).sum
  let c := 5625 * d.hbmRunning
  decide (sum (List.range 8) ≤ c) &&
  decide (10 * sum ((List.range 8).filter fun p => decide ((d.hbm.port.getD p { target := 0, reserve := 0 }).target < 2000)) ≤ 6 * c)

/-- Head pointers of frames in flight inside the queueing die (R254): those in reassembly. -/
def inSwitch (d : Dev) : List Nat := d.csw.asm.flatMap fun s => s.2.flatMap fun a => a.cells

/-- Bytes an input takes of the log (log 104). -/
def LogKind.size : LogKind → Nat
  | .wcp _ e => e.length
  | .mbox _ _ b => b.length
  | .fc _ _ n => n

/-- The distributor hands an input to the control channels and records it (R556, R558). -/
def logIn (k : LogKind) (d : Dev) : Dev := if d.hif.headless then d else { d with tri := { d.tri with log := d.tri.log ++ [{ at_ := d.now, kind := k }] } }

/-- The input log holds its 16 MiB (R558). -/
def logFull (d : Dev) : Bool := decide (16777216 ≤ (d.tri.log.map fun x => LogKind.size x.kind).sum)

/-- A firmware repair list with one more item. -/
def shadowNeed (i : ShadowItem) (d : Dev) : Dev :=
  { d with fwd := { d.fwd with ue := if d.fwd.ue.contains i then d.fwd.ue else d.fwd.ue ++ [i] } }

/-! ### Which next hops are down (R113, R120-R122, R147) -/

/-- A global port is down: protection-down, or on an unreachable device (R120). -/
def gportDown (d : Dev) (g : Nat) : Bool :=
  if g / 256 = d.devId then (tgetD d.port {} (g % 256)).protDown
  else !d.fwd.reachable.contains (g / 256) || d.fwd.awaitVector.contains (g / 256) || d.fwd.portDown.contains g

def getNh (d : Dev) (i : Nat) : NextHop := tgetD d.fwd.nh {} i

/-- A next hop's record is uncorrectable (Table 5.4). -/
def nhUe (d : Dev) (i : Nat) : Bool := d.fwd.ue.contains (.nh i)

/-- A next hop is down (R120), or its record is uncorrectable (Table 5.4). -/
def nhDown (d : Dev) (i : Nat) : Bool := d.nhUe i || ((d.getNh i).type == 0 && d.gportDown (d.getNh i).target)

/-- Which members of a group are live (R119). -/
def liveMembers (d : Dev) (g : Ecmp) : List Bool := g.members.map fun m => !d.nhDown m.1

/-- The groups after a change of what is down: EV_ECMP_NO_LIVE for each whose last live member went down (R147). -/
def liveCheck (d : Dev) : Dev :=
  let none' (g : Ecmp) : Bool := !(d.liveMembers g).contains true
  let lost := d.fwd.ecmp.filter fun p => none' p.2 && !p.2.noLive
  lost.foldl (fun (x : Dev) p => x.raise 0x0202 sevMajor (handle 0x05 p.1) [])
    { d with fwd := { d.fwd with ecmp := d.fwd.ecmp.map fun p => (p.1, { p.2 with noLive := none' p.2 }) } }

end Dev
end Sys2Proof.Machine
end

