-- ==== Sys2Proof/Machine/HbmPorts.lean ====
section
/-! DEFINITION. HBM as its requester ports see it: layout, bytes, degraded service and the requests that enter the controllers (R336-R342,
R352-R355). -/

namespace Sys2Proof.Machine

/-! ### Layout (R336-R338) -/

/-- What lies at a stack offset (R336, Table 10.1): a packet cell of a stripe, a unit of a duplicated or a single-copy area, the spare
area, or nothing. -/
inductive HbmArea where
  | packet (stripe : Nat)
  | dup (partner : Nat)
  | single
  | spare
  | unmapped
  deriving DecidableEq, Repr

/-- The areas of Table 10.1: stack offset, size per stack, stored twice. -/
def hbmAreas : List (Nat × Nat × Bool) :=
  [(0x300000000, 768 * 2 ^ 20, true), (0x330000000, 1344 * 2 ^ 20, true), (0x384000000, 40 * 2 ^ 20, true),
   (0x386800000, 256 * 2 ^ 20, true), (0x396800000, 16 * 2 ^ 20, true), (0x397800000, 80 * 2 ^ 20, false),
   (0x39C800000, 128 * 2 ^ 20, false), (0x3A4800000, 512 * 2 ^ 20, false), (0x3C4800000, 512 * 2 ^ 20, false),
   (0x3E4800000, 32 * 2 ^ 20, false)]

/-- Stack, channel of the device and unit of an HBM address (R38). -/
def hbmStackOf (a : Nat) : Nat := a / 2 ^ 34 % 8
def hbmChOf (a : Nat) : Nat := hbmStackOf a * 32 + a / 256 % 32
def hbmUnit (a : Nat) : Nat := a / 256 * 256

/-- The address of byte `x` of a single-copy area of per-stack base `b` (R337). -/
def hbmPrim (b x : Nat) : Nat := 0x400000000 * (x / 256 % 8) + b + x / 256 / 8 * 256 + x % 256

/-- The byte offset in its area of an address whose area begins at stack offset `b` (R337). -/
def hbmOffset (b a : Nat) : Nat := ((a % 2 ^ 34 - b) / 256 * 8 + hbmStackOf a) * 256 + a % 256

/-- The area at an address, with a packet region of `gib` GiB (R336, R337, R38): in a duplicated area, the address of the other copy. -/
def hbmAreaAt (gib a : Nat) : HbmArea :=
  let o := a % 2 ^ 34
  if 2 ^ 37 ≤ a then .unmapped
  else if o < gib / 8 * 2 ^ 30 then .packet (o / 256)
  else if 0x3E6800000 ≤ o then .spare
  else
    match hbmAreas.find? fun r => decide (r.1 ≤ o) && decide (o < r.1 + r.2.1) with
    | none => .unmapped
    | some (b, n, twice) =>
      if !twice then .single
      else
        let h := n / 2
        let k := (hbmStackOf a + 4) % 8
        .dup (0x400000000 * k + (if o < b + h then o + h else o - h))

/-- Port defaults of Table 10.2: least and most target in ns, in-flight floor. -/
def hbmPortRange (p : Nat) : Nat × Nat × Nat :=
  [(1000, 20000, 256), (500, 20000, 256), (300, 5000, 96), (400, 1000, 128), (1000, 1000000, 64), (500, 100000, 64),
   (1000, 100000, 32), (10000, 1000000, 32)].getD p (0, 0, 0)

namespace Dev

/-! ### Access -/

def setHbm (d : Dev) (f : Hbm → Hbm) : Dev := { d with hbm := f d.hbm }
def getCh (d : Dev) (k : Nat) : HbmCh := tgetD d.hbm.ch {} k
def modCh (d : Dev) (k : Nat) (f : HbmCh → HbmCh) : Dev := d.setHbm fun h => { h with ch := tset h.ch {} k (f (d.getCh k)) }
def getStack (d : Dev) (k : Nat) : HbmStack := tgetD d.hbm.stack {} k
def modStack (d : Dev) (k : Nat) (f : HbmStack → HbmStack) : Dev := d.setHbm fun h => { h with stack := tset h.stack {} k (f (d.getStack k)) }
def chHandle (k : Nat) : Nat := handle 0x15 k
def areaAt (d : Dev) (a : Nat) : HbmArea := hbmAreaAt d.buf.hbmGib a

/-- One byte of HBM as it is stored: the counter store and the histograms are the tables of R135 and R316. -/
def hbmByte (d : Dev) (a : Nat) : Byte :=
  let o := a % 2 ^ 34
  if 0x39C800000 ≤ o ∧ o < 0x3A4800000 then
    let x := hbmOffset 0x39C800000 a
    let p := tgetD d.cnt {} (x / 16)
    (le 8 p.pkts ++ le 8 p.bytes).getD (x % 16) 0
  else if 0x397800000 ≤ o ∧ o < 0x39C800000 then
    let x := hbmOffset 0x397800000 a
    ((tgetD d.sch.hist [] (x / 128)).flatMap (le 4)).getD (x % 128) 0
  else tgetD d.hbm.mem 0 a

/-- One byte of HBM written. -/
def hbmPutByte (d : Dev) (a : Nat) (v : Byte) : Dev :=
  let o := a % 2 ^ 34
  if 0x39C800000 ≤ o ∧ o < 0x3A4800000 then
    let x := hbmOffset 0x39C800000 a
    let p := tgetD d.cnt {} (x / 16)
    let b := patch (le 8 p.pkts ++ le 8 p.bytes) (x % 16) [v]
    { d with cnt := tset d.cnt {} (x / 16) { pkts := field b 0 8, bytes := field b 8 8 } }
  else if 0x397800000 ≤ o ∧ o < 0x39C800000 then
    let x := hbmOffset 0x397800000 a
    let old := (tgetD d.sch.hist [] (x / 128)).flatMap (le 4)
    let b := patch (slice old 0 128) (x % 128) [v]
    { d with sch := { d.sch with hist := tset d.sch.hist [] (x / 128) ((List.range 32).map fun k => field b (4 * k) 4) } }
  else d.setHbm fun h => { h with mem := tset h.mem 0 a v }

def hbmRead (d : Dev) (a n : Nat) : Bytes := (List.range n).map fun k => d.hbmByte (a + k)
def hbmWrite (a : Nat) (bs : Bytes) (d : Dev) : Dev := bs.zipIdx.foldl (fun (x : Dev) p => x.hbmPutByte (a + p.2) p.1) d

def poisoned (d : Dev) (g : Nat) : Bool := d.hbm.poison.contains g
def setPoison (g : Nat) (on : Bool) (d : Dev) : Dev :=
  d.setHbm fun h => { h with poison := if on then (if h.poison.contains g then h.poison else g :: h.poison) else h.poison.filter (· != g) }

/-! ### Urgency (R340, Table 10.8) -/

/-- The target of port `p` in force, ns: stretched for P4 and P7 from level 1. -/
def portTarget (d : Dev) (p : Nat) : Nat :=
  let t := (d.hbm.port.getD p { target := 0, reserve := 0 }).target
  if decide (1 ≤ d.hbm.level) && (p == 4 || p == 7) then 16 * t else t

/-- The urgency of a request presented at tick `at_` (R340). -/
def urgency (d : Dev) (p at_ : Nat) : Nat :=
  let age := d.now - at_
  let t := nsT (d.portTarget p)
  let u := if 90 * t ≤ 100 * age then 3 else if 75 * t ≤ 100 * age then 2 else if 50 * t ≤ 100 * age then 1 else 0
  if decide (1 ≤ d.hbm.level) && (p == 4 || p == 7) then min u 1 else u

/-! ### Answers (R342, R362, R363) -/

/-- The answer to a request: its latency and a missed target are counted for its port. -/
def hbmAnswer (w : HbmWait) (data : Bytes) (ok : Bool) (d : Dev) : Dev :=
  let p := w.req.port.val
  let ns := (d.now - w.at_) / 65536
  let late := decide (d.portTarget p < ns)
  (d.setHbm fun h => { h with
    lat := tput h.lat p (ns :: tgetD h.lat [] p)
    miss := if late then tset h.miss 0 p (tgetD h.miss 0 p + 1) else h.miss }).emit (.hbmDone p w.id data ok)

/-- The granules a request names, as addresses. -/
def granulesOf (r : HbmReq) : List Nat :=
  ((List.range 8).filter fun k => r.granules.getLsbD k).map fun k => hbmUnit r.addr + 32 * k

/-- The bytes a write puts into granule `g`: pairs of address and byte; its data run from its address on, within its unit. -/
def granuleBytes (r : HbmReq) (g : Nat) : List (Nat × Byte) :=
  (r.data.zipIdx.map fun p => (r.addr + p.2, p.1)).filter fun p => decide (g ≤ p.1) && decide (p.1 < g + 32)

/-! ### Degraded service (R354, R355, Table 10.4) -/

/-- Two channels of one number are not RUNNING (R355, Table 15.7). -/
def raiseDouble (d : Dev) (c : Nat × Nat) : Dev := (d.raise 0x0503 sevCritical 0 [fIdx c.1, fIdx c.2]).setAlarm 4

/-- Two channels of one number are not RUNNING: the event and the alarm (R355). -/
def otherDown (d : Dev) (k : Nat) : Option Nat :=
  ((List.range 8).map fun s => s * 32 + k % 32).find? fun j => j != k && (d.getCh j).obj.st != .running

/-- Channel `k` serves its unit `u` itself: RUNNING, or written since a rebuild began, or from its spare slot (R357, R358). -/
def serves (d : Dev) (k u : Nat) : Bool :=
  let c := d.getCh k
  c.obj.st == .running || (c.obj.st == .starting && c.thaw == .rebuild && c.written.contains u) ||
  (c.slot.isSome && decide (0x300000000 ≤ u % 2 ^ 34))

/-- The bytewise XOR of two cells. -/
def xorBytes (a b : Bytes) : Bytes := List.zipWith (· ^^^ ·) a b

/-- The cell of stack `k` counts in the parity of stripe `s`: it is the parity cell, or its position has been written (R231). -/
def inParity (d : Dev) (s k : Nat) : Bool :=
  k == s % 8 || (match tget d.buf.stripe s with | some x => x.written.getLsbD ((k + 16 - s % 8 - 1) % 8) | none => true)

/-- A packet cell rebuilt as the XOR of the seven other cells of its stripe, on the same channel of the other stacks; a position never written
counts as zero bytes (R231, R354). -/
def rebuilt (d : Dev) (u : Nat) : Bytes :=
  let o := u % 2 ^ 34
  ((List.range 8).filter fun k => k != hbmStackOf u && d.inParity (o / 256) k).foldl (fun (b : Bytes) k => xorBytes b (d.hbmRead (k * 2 ^ 34 + o) 256))
    (List.replicate 256 0)

/-- The bytes of the named granules out of a unit. -/
def pickGranules (r : HbmReq) (unit : Bytes) : Bytes := (granulesOf r).flatMap fun g => slice unit (g - hbmUnit r.addr) 32

/-- Mark a unit of channel `k` for rebuild. -/
def markUnit (u : Nat) (d : Dev) : Dev :=
  d.modCh (hbmChOf u) fun c => { c with marked := if c.marked.contains u then c.marked else u :: c.marked }

/-- The bytes a write puts into memory, granule by granule; a granule written whole is no longer poisoned. -/
def applyWrite (r : HbmReq) (shift : Nat → Nat) (d : Dev) : Dev :=
  (granulesOf r).foldl (fun (x : Dev) g =>
    let bs := granuleBytes r g
    let y := bs.foldl (fun (y : Dev) p => y.hbmPutByte (shift p.1) p.2) x
    if bs.length = 32 then setPoison (shift g / 32) false y else y) d

/-- A read whose granules cannot come from their channel is served from elsewhere, or fails (Table 10.4, R352): the bytes of the unit. -/
def elsewhere (d : Dev) (u : Nat) : Option Bytes × Dev :=
  match d.areaAt u with
  | .packet s =>
    let closed := match tget d.buf.stripe s with | some x => x.closed | none => true
    let parity := match tget d.buf.stripe s with | some x => x.parity | none => true
    if !closed then (some (d.hbmRead u 256), d)
    else match d.otherDown (hbmChOf u) with
      | some j => (none, d.raiseDouble (hbmChOf u, j))
      | none => (if parity then some (d.rebuilt u) else none, d)
  | .dup q => (if d.serves (hbmChOf q) q then some (d.hbmRead q 256) else none, d)
  | _ => (none, d)

/-- EV_HBM_WRITE_LOST once per freeze (R354). -/
def writeLost (k n : Nat) (d : Dev) : Dev :=
  let c := d.getCh k
  let d1 := d.modCh k fun c => { c with heldLost := c.heldLost + n }
  if c.heldLost = 0 then d1.raise 0x0504 sevMajor (chHandle k) [fCnt n] else d1

/-- P4 skips a counter whose granule cannot be read (R352). -/
def lostUpdate (k port : Nat) (d : Dev) : Dev := if port = 4 then d.modCh k fun c => { c with lost := c.lost + 1 } else d

/-- Granules a held write takes of the channel's buffer. -/
def heldSize : HeldWrite → Nat
  | .req r => (granulesOf r).length
  | _ => 1

/-- A write held in the channel's buffer of 4,096 granules; whether it has room (Table 10.4). -/
def holdWrite (k : Nat) (h : HeldWrite) (d : Dev) : Bool × Dev :=
  if ((d.getCh k).held.map heldSize).sum + heldSize h ≤ 4096 then (true, d.modCh k fun c => { c with held := c.held ++ [h] })
  else (false, writeLost k (heldSize h) d)

/-- A request to a channel that does not serve it (Table 10.4). -/
def serveElsewhere (w : HbmWait) (d : Dev) : Dev :=
  let r := w.req
  let u := hbmUnit r.addr
  let k := hbmChOf u
  if !r.write then
    match d.elsewhere u with
    | (some b, d1) => hbmAnswer w (pickGranules r b) true d1
    | (none, d1) => hbmAnswer w [] false (lostUpdate k r.port.val d1)
  else
    match d.areaAt u with
    | .dup q =>
      if d.serves (hbmChOf q) q then hbmAnswer w [] true (markUnit u (applyWrite r (fun a => a - u + q) d))
      else hbmAnswer w [] false d
    | .single => hbmAnswer w [] true (holdWrite k (.req r) d).2
    | _ => hbmAnswer w [] true d

/-! ### Requests (R339-R342) -/

/-- Channel `k` takes requests into its bank queues. -/
def chOpen (d : Dev) (k : Nat) : Bool :=
  let c := d.getCh k
  c.obj.st == .running || (c.obj.st == .starting && c.thaw == .rebuild)

/-- Requests of port `p` in flight in stack `s` (R339). -/
def inFlight (d : Dev) (s p : Nat) : Nat :=
  ((d.hbm.ch.filter fun c => decide (c.1 / 32 = s)).map fun c => (c.2.reqs.filter fun w => w.req.port.val == p).length).sum

/-- Port `p` may bring one more request into stack `s`: within its floor, or among the 96 shared entries (R339). -/
def portRoom (d : Dev) (s p : Nat) : Bool :=
  let over' (q : Nat) : Nat := d.inFlight s q - (hbmPortRange q).2.2
  decide (d.inFlight s p < (hbmPortRange p).2.2) || decide (((List.range 8).map over').sum < 96)

/-- A request enters its channel, or is served elsewhere. -/
def enterCh (w : HbmWait) (d : Dev) : Dev :=
  let u := hbmUnit w.req.addr
  let k := hbmChOf u
  if d.chOpen k && (w.req.write || d.serves k u) then d.modCh k fun c => { c with reqs := c.reqs ++ [w] }
  else if d.serves k u then
    (if w.req.write then hbmAnswer w [] true (applyWrite w.req id d) else hbmAnswer w (pickGranules w.req (d.hbmRead u 256)) true d)
  else serveElsewhere w d

/-- A request of the forwarding die: extended tables and the encapsulation store, packet-engine memory, and the counter store. It crosses the
die bridge in the group that its 256-byte address names (R18; log 124). -/
def crossesBridge (r : HbmReq) : Bool :=
  r.port.val == 3 || r.port.val == 5 || (r.port.val == 4 && decide (0x39C800000 ≤ r.addr % 2 ^ 34) && decide (r.addr % 2 ^ 34 < 0x3A4800000))

/-- The bridge group of a request carries nothing at the moment (R18, R21). -/
def bridgeHolds (d : Dev) (r : HbmReq) : Bool := crossesBridge r && d.bridgeStalled (r.addr / 256 % 32)

/-- Requests held at the ports enter as their limits and their bridge groups allow, first come first served (R339, R18). -/
def portsDrain (s : Nat) : List HbmWait → Dev → Dev
  | [], d => d
  | w :: r, d =>
    if d.portRoom s w.req.port.val && !d.bridgeHolds w.req then portsDrain s r (enterCh w d)
    else portsDrain s r (d.modStack s fun x => { x with wait := x.wait ++ [w] })

def drainStack (s : Nat) (d : Dev) : Dev :=
  if (d.getStack s).sr != .awake then d
  else portsDrain s (d.getStack s).wait (d.modStack s fun x => { x with wait := [] })

/-- The requests waiting at a stack in self-refresh end it: any of another port, 64 of P4 and P7, or one of them at urgency 3 (R344). -/
def mustWake (d : Dev) (s : Nat) : Bool :=
  let w := (d.getStack s).wait
  let slow (x : HbmWait) : Bool := x.req.port.val == 4 || x.req.port.val == 7
  w.any (fun x => !slow x || d.urgency x.req.port.val x.at_ == 3) || decide (64 ≤ (w.filter slow).length)

/-- HBM_REQUEST: a request is presented at its port (R334, R339, R340, R344, R345). An unmapped address fails (R37). -/
def hbmRequest (r : HbmReq) (d0 : Dev) : Dev :=
  let w : HbmWait := { id := d0.hbm.ids, req := r, at_ := d0.now }
  let d := d0.setHbm fun h => { h with ids := h.ids + 1 }
  let s := hbmStackOf r.addr
  if d.areaAt r.addr == .unmapped || r.granules == 0 then hbmAnswer w [] false d
  else
    let d1 := d.modStack s fun x => { x with wait := x.wait ++ [w], workAt := if x.sr == .awake then d.now else x.workAt }
    match (d.getStack s).sr with
    | .awake => drainStack s d1
    | .asleep => if d1.mustWake s then d1.modStack s fun x => { x with sr := .leaving, workAt := d.now } else d1
    | .leaving => d1

/-- Granules `a` to `a + n` can be read at that address (R352, R358). -/
def copyGood (d : Dev) (a n : Nat) : Bool :=
  d.serves (hbmChOf a) (hbmUnit a) && (List.range (n / 32)).all fun k => !d.poisoned (a / 32 + k)

/-! ### Counters and histograms (R135, R316, R352) -/

/-- Where the accounting interval of pair `i` counts: its set's open bank (R321). -/
def pairAt (d : Dev) (i : Nat) : Nat :=
  match d.sch.acct.find? fun s => decide (s.2.base ≤ i) && decide (i < s.2.base + s.2.n) with
  | some s => if s.2.bank then i + s.2.n else i
  | none => i

/-- The address of pair `i`, and of granule `g` of the histogram of queue `q` (Table 10.1). -/
def pairAddr (i : Nat) : Nat := hbmPrim 0x39C800000 (16 * i)
def binAddr (q g : Nat) : Nat := hbmPrim 0x397800000 (128 * q + 32 * g)

/-- A poisoned granule: P4 skips the update and counts it as lost (R352). -/
def p4Skips (a : Nat) (put : Dev → Dev) (d : Dev) : Dev := if d.poisoned (a / 32) then lostUpdate (hbmChOf a) 4 d else put d

/-- One frame of `len` bytes counted in pair `i` as it stands in the store. -/
def addPair (i len : Nat) (d : Dev) : Dev :=
  p4Skips (pairAddr i) (fun x => { x with cnt := tset x.cnt {} i { pkts := (tgetD x.cnt {} i).pkts + 1, bytes := (tgetD x.cnt {} i).bytes + len } }) d

/-- Samples added to the bins of granule `g` of the histogram of queue `q`, each of which stops at its top (R316). -/
def addBins (q g : Nat) (l : List Nat) (d : Dev) : Dev :=
  p4Skips (binAddr q g) (fun x =>
    let h := (tgetD x.sch.hist (List.replicate 32 0) q).zipIdx.map fun p => if p.2 / 8 = g then sat32 (p.1 + l.getD (p.2 % 8) 0) else p.1
    { x with sch := { x.sch with hist := tset x.sch.hist (List.replicate 32 0) q h } }) d

/-- A held write applied (Table 10.6 step 3). -/
def applyHeld (d : Dev) : HeldWrite → Dev
  | .req r => applyWrite r id d
  | .count i len => addPair i len d
  | .bins q g l => addBins q g l d

/-- The set whose interval counts in pair `j` of the store is incomplete (R323). -/
def setIncomplete (j : Nat) (d : Dev) : Dev :=
  { d with sch := { d.sch with acct := d.sch.acct.map fun (s : Nat × Acct) =>
      if s.2.base ≤ j ∧ j < s.2.base + 2 * s.2.n then (s.1, { s.2 with flags := s.2.flags ||| 8 }) else s } }

/-- One frame counted in pair `i` of the counter store (R135, R321); indexes beyond it name no pair. While the pair's channel is not in service the count is
held, or lost, and then the interval is incomplete (Table 10.4, R323). -/
def countPair (d : Dev) (i len : Nat) : Dev :=
  let j := d.pairAt i
  let a := pairAddr j
  if 67108864 ≤ i then d
  else if d.serves (hbmChOf a) (hbmUnit a) then addPair j len d
  else match holdWrite (hbmChOf a) (.count j len) d with
    | (true, e) => e
    | (false, e) => setIncomplete j e

/-- The samples of a queue added to its histogram, granule by granule (R316, Table 10.4). -/
def countBins (q : Nat) (l : List Nat) (d : Dev) : Dev :=
  (List.range 4).foldl (fun (x : Dev) g =>
    let b := (l.drop (8 * g)).take 8
    let a := binAddr q g
    if b.all (· == 0) then x
    else if x.serves (hbmChOf a) (hbmUnit a) then addBins q g b x
    else (holdWrite (hbmChOf a) (.bins q g b) x).2) d

/-- The two addresses of byte `x` of the duplicated area of per-stack base `b` and half size `h` (R337). -/
def copies (b h x : Nat) : Nat × Nat :=
  let a := hbmPrim b x
  (a, (a + 0x1000000000) % 2 ^ 37 + h)

/-- What `n` bytes of a duplicated area read as: the address of a good copy, an uncorrectable error in each, or no answer where neither copy's
channel serves (R168, R176). -/
def readCopies (d : Dev) (c : Nat × Nat) (n : Nat) : Option (Option Nat) :=
  if d.copyGood c.1 n then some (some c.1)
  else if d.copyGood c.2 n then some (some c.2)
  else if d.serves (hbmChOf c.1) (hbmUnit c.1) || d.serves (hbmChOf c.2) (hbmUnit c.2) then some none else none

/-- `n` bytes at `a` of a duplicated area written whole: no granule of them is poisoned any more (R352); where the channel does not serve, the unit
is marked for rebuild (Table 10.4). -/
def clearPoison (a n : Nat) (d : Dev) : Dev :=
  if d.serves (hbmChOf a) (hbmUnit a) then (List.range (n / 32)).foldl (fun (x : Dev) k => setPoison (a / 32 + k) false x) d
  else markUnit (hbmUnit a) d

/-- Both copies of `n` bytes written (R168, R271). -/
def writeCopies (c : Nat × Nat) (n : Nat) (d : Dev) : Dev := clearPoison c.1 n (clearPoison c.2 n d)

/-- A read of `n` bytes at `a` presented at a port (R340). -/
def readPort (p : Fin 8) (a n : Nat) (d : Dev) : Dev :=
  d.hbmRequest { write := false, port := p, addr := a, granules := BitVec.ofNat 8 (2 ^ (n / 32) - 1) <<< (a / 32 % 8), data := []
                 bank := Config.dramBank (a / 256) % 256 }

/-- A read of `n` bytes at `a` presented at port P3 (R170). -/
def readP3 (a n : Nat) (d : Dev) : Dev := d.readPort 3 a n

/-- The copies of a queue's configuration (R271, Table 10.1). -/
def queueCopies (q : Nat) : Nat × Nat := copies 0x384000000 (20 * 2 ^ 20) (32 * q)

/-- The copy of a queue's configuration that an activation reads through P2: one on a stack that is not in self-refresh when either is awake, otherwise
the primary; the other one where that cannot be read (R273 step 3). -/
def queueCfgRead (q : Nat) (d : Dev) : Dev :=
  let c := queueCopies q
  let awake (a : Nat) : Bool := (d.getStack (hbmStackOf a)).sr == .awake
  let first := if !awake c.1 && awake c.2 then (c.2, c.1) else c
  d.readPort 2 (if d.copyGood first.1 32 then first.1 else if d.copyGood first.2 32 then first.2 else first.1) 32

end Dev
end Sys2Proof.Machine
end

