-- ==== Sys2Proof/Machine/Tables.lean ====
section
/-! DEFINITION. Lookup tables: longest-prefix, exact-match, extended and TCAM lookups and updates, batches, ageing, learning
and the table commands (R148-R196). -/

namespace Sys2Proof.Machine

/-! ### Hashes (R117, R156) -/

/-- Eight steps of the reflected CRC-32C polynomial. -/
def crcStep : Nat → BitVec 32 → BitVec 32
  | 0, c => c
  | k + 1, c => crcStep k (if c.getLsbD 0 then (c >>> 1) ^^^ 0x82F63B78#32 else c >>> 1)

/-- The CRC-32C register after `bs`, from `init`, before the final XOR. -/
def crc32cReg (init : BitVec 32) (bs : Bytes) : BitVec 32 :=
  bs.foldl (fun c b => crcStep 8 (c ^^^ b.setWidth 32)) init

/-- CRC-32C with the register initialised to `init` and a final XOR of all ones (R117, R156). -/
def crc32c (init : BitVec 32) (bs : Bytes) : Nat := (~~~(crc32cReg init bs)).toNat

/-- `bits` bits of `v`, first bit in bit 7 of byte 0, zeros after the last (R156). -/
def keyBytes (bits v : Nat) : Bytes := let n := (bits + 7) / 8; be n (v % 2 ^ bits * 2 ^ (8 * n - bits))

/-- The number of bits set of a number below 2^`n`. -/
def popcount (n v : Nat) : Nat := ((List.range n).filter (bit v)).length

namespace EmTable

/-- The two candidate buckets of a key (R156). -/
def buckets (t : EmTable) (k : Bytes) : Nat × Nat :=
  let s := BitVec.ofNat 32 t.seed
  let b1 := crc32c s k * t.n / 2 ^ 32
  let b2 := crc32c (s.rotateLeft 16) k * t.n / 2 ^ 32
  (b1, if b2 = b1 then (b1 + 1) % t.n else b2)

/-- The places of a bucket: 4 × bucket + position. -/
def places (b : Nat) : List Nat := (List.range 4).map (4 * b + ·)

/-- Where a live key stands: in a bucket (`false`) or in the overflow store, its place and entry (R157). -/
def find (t : EmTable) (k : Bytes) : Option (Bool × Nat × EmEntry) :=
  let b := t.buckets k
  let inB := (places b.1 ++ places b.2).findSome? fun i => match tget t.slots i with
    | some e => if e.key == k && e.hold == .live then some (false, i, e) else none
    | none => none
  match inB with
  | some r => some r
  | none => (t.ovf.find? fun p => p.2.key == k && p.2.hold == .live).map fun p => (true, p.1, p.2)

/-- An entry put at a place. -/
def put (t : EmTable) (inOvf : Bool) (i : Nat) (e : EmEntry) : EmTable :=
  if inOvf then { t with ovf := tput t.ovf i e } else { t with slots := tput t.slots i e }

/-- The lowest free place of the bucket of R158 step 2. -/
def freePlace (t : EmTable) (k : Bytes) : Option Nat :=
  let b := t.buckets k
  let free (x : Nat) := (places x).filter fun i => (tget t.slots i).isNone
  let f1 := free b.1
  let f2 := free b.2
  if f1.length < f2.length then f2.head? else if f1.isEmpty then f2.head? else f1.head?

/-- The lowest free place of the overflow store of 16,384 (R155). -/
def freeOvf (t : EmTable) : Option Nat :=
  if t.ovf.length < 16384 then (List.range (t.ovf.length + 1)).find? fun i => (tget t.ovf i).isNone else none

/-- The non-static live entries of b1 and b2, b1 first, lower positions first (R158, R159). -/
def victims (t : EmTable) (k : Bytes) : List (Nat × EmEntry) :=
  let b := t.buckets k
  (places b.1 ++ places b.2).filterMap fun i => match tget t.slots i with
    | some e => if e.static || e.hold != .live || e.key == k then none else some (i, e)
    | none => none

/-- The victim of OLDEST: the highest age counter, the first on equal ones (R159). -/
def oldest : List (Nat × EmEntry) → Option Nat
  | [] => none
  | (i, e) :: r => match r.foldl (fun (m : Nat × Nat) x => if m.2 < x.2.age then (x.1, x.2.age) else m) (i, e.age) with
    | m => some m.1

/-- Where an insertion of a key that is not present goes (R158 steps 2 to 5): overflow or bucket, place, and whether it evicts.
`pick` chooses among the victims of RANDOM. -/
def place (t : EmTable) (isExt : Bool) (pick : Nat) (k : Bytes) : Option (Bool × Nat × Bool) :=
  match t.freePlace k with
  | some i => some (false, i, false)
  | none =>
    match (if isExt then none else t.freeOvf) with
    | some i => some (true, i, false)
    | none =>
      let v := t.victims k
      if t.evict = 1 then (v[pick % v.length]?).map fun x => (false, x.1, true)
      else if t.evict = 2 then (oldest v).map fun i => (false, i, true)
      else none

/-- A bucket place was freed: the key at the lowest overflow place that may stand there moves back (R160). -/
def moveBack (t : EmTable) (i : Nat) : EmTable :=
  match t.ovf.find? fun p => p.2.hold == .live && !p.2.static && ((t.buckets p.2.key).1 == i / 4 || (t.buckets p.2.key).2 == i / 4) with
  | some p => { t with slots := tput t.slots i p.2, ovf := tdel t.ovf p.1 }
  | none => t

/-- The entry at a place removed (R160). -/
def remove (t : EmTable) (inOvf : Bool) (i : Nat) : EmTable :=
  if inOvf then { t with ovf := tdel t.ovf i } else ({ t with slots := tdel t.slots i }).moveBack i

/-- Entries a table holds (R155, R167). -/
def capacity (t : EmTable) (isExt : Bool) : Nat := 4 * t.n + (if isExt then 0 else 16384)

/-- Entries in use. -/
def used (t : EmTable) : Nat := t.slots.length + t.ovf.length

/-- One entry at a sweep (R162): its counter after it. -/
def aged1 (e : EmEntry) : EmEntry := if e.hit then { e with hit := false, age := 0 } else { e with age := min 15 (e.age + 1) }

/-- A sweep (R162, R163): counters step, and with an age time the non-static entries whose counter reaches 8 go. -/
def sweep (t : EmTable) : EmTable :=
  let goes (e : EmEntry) : Bool := t.ageS != 0 && !e.static && e.hold == .live && decide (8 ≤ e.age)
  let s := t.slots.map fun p => (p.1, aged1 p.2)
  let o := t.ovf.map fun p => (p.1, aged1 p.2)
  let gone := (s.filter fun p => goes p.2).map (·.1)
  let goneO := (o.filter fun p => goes p.2).length
  let t1 := { t with slots := s.filter fun p => !goes p.2, ovf := o.filter fun p => !goes p.2
                     aged := t.aged + gone.length + goneO }
  gone.foldl (fun x i => x.moveBack i) t1

end EmTable

/-! ### Widths of kinds (Table 5.1) -/

/-- Key and result bits of a fixed kind. -/
def kindBits : Nat → Option (Nat × Nat)
  | 0 => some (64, 24) | 1 => some (48, 24) | 2 => some (144, 24) | 3 => some (28, 40) | 4 => some (88, 24)
  | 5 => some (280, 24) | _ => none

/-- Slots of an on-die entry (R154). -/
def slotsOf (bits : Nat) : Nat := if bits + 8 ≤ 96 then 1 else if bits + 8 ≤ 192 then 2 else 4

/-- A route result keeps the unused bits 0 (R152). -/
def routeOk (r : Nat) : Bool :=
  decide (r < 2 ^ 24) && (match r / 2 ^ 22 with
    | 0 => r / 2 ^ 21 % 2 == 0
    | 1 => r / 2 ^ 18 % 16 == 0
    | 2 => r % 2 ^ 22 == 0
    | _ => decide (r % 2 ^ 22 < 256))

/-- A MAC destination is valid (R658). -/
def macOk (r : Nat) : Bool :=
  decide (r < 2 ^ 24) && (match r / 2 ^ 22 with
    | 0 => r / 2 ^ 19 % 8 == 0
    | 1 => r / 2 ^ 16 % 64 == 0
    | 2 => r % 2 ^ 22 == 0
    | _ => false)

/-- A result that fits its kind. -/
def resultOk (t : EmTable) (r : Nat) : Bool :=
  match t.kind with
  | 0 => macOk r
  | 1 | 2 => routeOk r
  | _ => decide (r < 2 ^ t.resBits)

/-! ### Longest-prefix match (R148-R153) -/

/-- Prefix units of a route (R148). -/
def routeUnits (v6 : Bool) (plen : Nat) : Nat := if !v6 then 1 else if plen ≤ 64 then 2 else 4

/-- Units a VRF uses, and all VRFs. -/
def vrfUnits (t : Tables) (v : Nat) : Nat := ((t.lpm.filter (·.vrf == v)).map fun r => routeUnits r.v6 r.plen).sum
def allUnits (t : Tables) : Nat := (t.lpm.map fun r => routeUnits r.v6 r.plen).sum

/-- Address bits of a family. -/
def famBits (v6 : Bool) : Nat := if v6 then 128 else 32

/-- The longest matching prefix in a VRF (R150, R151 step 2). -/
def lpmFind (t : Tables) (vrf : Nat) (v6 : Bool) (a : Nat) : Option Route :=
  (t.lpm.filter fun r => r.vrf == vrf && r.v6 == v6 && r.pfx / 2 ^ (famBits v6 - r.plen) == a / 2 ^ (famBits v6 - r.plen)).foldl
    (fun (m : Option Route) r => match m with
      | some x => if x.plen < r.plen then some r else m
      | none => some r) none

/-! ### TCAM (R177-R181) -/

/-- Entries joined by a width code. -/
def tcamJoin (w : Nat) : Nat := 2 ^ w

/-- A valid entry matches a key: it is searched as the array holds it. -/
def tcamHits (e : TcamEntry) (key : Nat) : Bool := e.hold == .live && !e.disabled && (e.arrKey ^^^ key) &&& e.arrMask == 0

/-- The winning entry of a table (R178): most mask bits, then the lower index. -/
def tcamBest (t : Tables) (tab : TcamTable) (key : Nat) : Option (Nat × TcamEntry) :=
  let w := 160 * tcamJoin tab.width
  (t.acl.filter fun p => tab.blocks.contains (p.1 / 3072) && tcamHits p.2 key).foldl
    (fun (m : Option (Nat × TcamEntry)) p => match m with
      | some x => if popcount w x.2.arrMask < popcount w p.2.arrMask then some p else m
      | none => some p) none

/-- The stored copy confirms a hit (R181). -/
def copyOk (e : TcamEntry) (key : Nat) : Bool := !e.copyUe && (e.copyKey ^^^ key) &&& e.copyMask == 0

namespace Dev

def getEm (d : Dev) (i : Nat) : Option EmTable := tget d.fwd.tbl.em i
def setFwd (d : Dev) (f : Fwd → Fwd) : Dev := { d with fwd := f d.fwd }
def setTbl (d : Dev) (f : Tables → Tables) : Dev := d.setFwd fun x => { x with tbl := f x.tbl }
def setEm (d : Dev) (isExt : Bool) (i : Nat) (t : EmTable) : Dev :=
  d.setTbl fun x => if isExt then { x with ext := tput x.ext i t } else { x with em := tput x.em i t }

/-- `f` done to TCAM entry `i`, which both views share (R138, R177). -/
def modAcl (d : Dev) (i : Nat) (f : TcamEntry → TcamEntry) : Dev :=
  let g (t : Tables) : Tables := match tget t.acl i with | some e => { t with acl := tput t.acl i (f e) } | none => t
  d.setFwd fun x => { x with tbl := g x.tbl, oldTbl := x.oldTbl.map g }

/-- The tables of the current or of the old view (R138). -/
def viewTbl (d : Dev) (old : Bool) : Tables := if old then d.fwd.oldTbl.getD d.fwd.tbl else d.fwd.tbl

/-- Words with a correctable error that a lookup reads: corrected for it, and reported (R183). -/
def ceRead (reads : Nat → Bool) (d : Dev) : Dev := (d.fwd.ce.filter reads).foldl (fun (x : Dev) w => x.raise 0x0900 sevInfo 0 [f8 w]) d

/-- The address of entry `i` among the TCAM copies: 40 bytes each (log 125). -/
def aclWord (i : Nat) : Nat := 0x400300000000 + 40 * i

/-- One search of a view's table (R178, R181, R183): false hits disable their entry, are reported, and the search repeats without it. A copy
with an uncorrectable error is reported as such as well (R184). -/
def tcamSearch (old : Bool) (tab tabIdx key : Nat) (tt : TcamTable) : Nat → Dev → Option (Nat × TcamEntry) × Dev
  | 0, d => (none, d)
  | fuel + 1, d =>
    match tcamBest (d.viewTbl old) tt key with
    | none => (none, d)
    | some (i, e) =>
      let n := 40 * tcamJoin tt.width
      let d0 := d.ceRead fun w => decide (aclWord i ≤ w + 7) && decide (w < aclWord i + n)
      if copyOk e key then (some (i, e), d0)
      else
        let d1 := (d0.modAcl i fun x => { x with disabled := true }).raise 0x0205 sevMinor (handle 0x08 tabIdx) [fIdx i, fByte 1]
        let d2 := match e.copyUe, tget d1.fwd.tbl.tcam tabIdx with
          | true, some t => (d1.setTbl fun x => { x with tcam := tput x.tcam tabIdx { t with ecc := t.ecc + 1 } }).raise 0x0901 sevMajor 0
              [f8 (aclWord i / 8 * 8), fByte (Config.eccCode 3)]
          | _, _ => d1
        tcamSearch old tab tabIdx key tt fuel d2

/-- EV_TBL_NEAR_FULL when occupancy first reaches 90%, and again after falling below 85% (R196). -/
def nearFullCheck (h : Nat) (was : Bool) (usedN cap : Nat) (d : Dev) : Bool × Dev :=
  if was then (!decide (usedN * 100 < cap * 85), d)
  else if cap * 90 ≤ usedN * 100 then (true, d.raise 0x0207 sevMinor h []) else (false, d)

/-- Near-full state of an exact-match or extended table after a change. -/
def emNear (isExt : Bool) (i : Nat) (d : Dev) : Dev :=
  match tget (if isExt then d.fwd.tbl.ext else d.fwd.tbl.em) i with
  | none => d
  | some t =>
    let r := d.nearFullCheck (handle (if isExt then 0x07 else 0x06) i) t.nearFull t.used (t.capacity isExt)
    if r.1 = t.nearFull then d else r.2.setEm isExt i { t with nearFull := r.1 }

/-- The same prefix (R153). -/
def sameRoute (a b : Route) : Bool := a.vrf == b.vrf && a.v6 == b.v6 && a.plen == b.plen && a.pfx == b.pfx

/-- Units held beyond the routes in force (R187): each unit that a consistent batch adds or replaces counts twice until its old copies are
released. Before the commit an added route counts its units twice here, a replaced one once more. -/
def unitsTwice (d : Dev) : Nat :=
  d.fwd.oldUnits + (match d.fwd.batch with
    | some b => (b.routes.map fun r => (if d.fwd.tbl.lpm.any (sameRoute r) then 1 else 2) * routeUnits r.v6 r.plen).sum
    | none => 0)

/-- Near-full state of the longest-prefix store after a change. -/
def lpmNear (d : Dev) : Dev :=
  let r := d.nearFullCheck 0 d.fwd.lpmNear (allUnits d.fwd.tbl + d.unitsTwice) 16777216
  if r.1 = d.fwd.lpmNear then d else r.2.setFwd fun x => { x with lpmNear := r.1 }

/-- The handle of an exact-match or extended table. -/
def emHandle (isExt : Bool) (i : Nat) : Nat := handle (if isExt then 0x07 else 0x06) i

/-- What an insertion came to: where an entry was replaced, placed, placed with an eviction, or refused. -/
inductive Insert where
  | replaced | placed | evicted | refused
  deriving DecidableEq, Repr

/-- Insertion of a key (R158-R161), as a reserved entry of a consistent batch when `hold` says so: such an insertion passes step
1 over (R187). -/
def emInsert (isExt : Bool) (i : Nat) (e : EmEntry) (d : Dev) : Insert × Dev :=
  match tget (if isExt then d.fwd.tbl.ext else d.fwd.tbl.em) i with
  | none => (.refused, d)
  | some t =>
    match (if e.hold == .reserved then none else t.find e.key) with
    | some (o, j, old) =>
      (.replaced, d.setEm isExt i (t.put o j { old with result := e.result, static := e.static, learned := e.learned }))
    | none =>
      let v := d.openVal
      match t.place isExt v.1.toNat e.key with
      | none => (.refused, d)
      | some (o, j, ev) =>
        let d1 := if ev && t.evict = 1 then v.2 else d
        let t1 := t.put o j e
        if ev then
          (.evicted, ((d1.setEm isExt i { t1 with evictions := t.evictions + 1 }).raiseCounted 0x0203 sevInfo (emHandle isExt i)
            (emHandle isExt i) 0 [fCnt 0]).emNear isExt i)
        else (.placed, (d1.setEm isExt i t1).emNear isExt i)

/-! ### Records of a batch (R186-R190, Tables 5.7 and 5.8) -/

/-- The structure of an ACL action word is valid for its table (Table 5.3). -/
def actionOk (egress : Bool) (a : Nat) : Bool :=
  let k := a / 2 ^ 60
  if egress then decide (k ≤ 1) && !bit a 55 else decide (k ≤ 5)

/-- Whether a record keeps Tables 5.7 and 5.8 (R190): the failing status otherwise. -/
def recCheck (d : Dev) (r : Bytes) : Option Status :=
  let op := field r 0 1; let sp := field r 1 1; let fl := field r 2 1; let len := field r 4 2; let tg := field r 6 2
  let t := d.fwd.tbl
  let emT := if sp = 1 then tget t.em tg else tget t.ext tg
  let missing := (sp == 1 && (tget t.em tg).isNone) || (sp == 2 && (tget t.ext tg).isNone) || (sp == 3 && (tget t.tcam tg).isNone)
  let add := op == 1
  if missing then some .badHandle
  else
    let flagsBad := fl / 16 != 0 || bit fl 2 || (bit fl 0 && !(sp == 1 || sp == 2)) || (bit fl 1 && sp != 4)
    let bodyOk : Bool := match sp with
      | 0 =>
        let v6 := field r 8 1 == 6
        let pl := field r 9 1
        let w := famBits v6
        let p := unLe (slice r 16 (w / 8))
        len == 32 && (v6 || field r 8 1 == 4) && decide (pl ≤ w) && isZero r 10 2 && (!add || routeOk (field r 12 4)) &&
          p % 2 ^ (w - pl) == 0 && (v6 || isZero r 20 12)
      | 1 | 2 => match emT with
        | some e =>
          let nb := (e.keyBits + 7) / 8
          let k := (nb + 7) / 8 * 8
          len == (if add then 16 + k else 8 + k) && isZero r (8 + nb) (k - nb) &&
            unBe (slice r 8 nb) % 2 ^ (8 * nb - e.keyBits) == 0 && (!add || resultOk e (field r (8 + k) 8))
        | none => false
      | 3 => match tget t.tcam tg with
        | some e =>
          let idx := field r 8 4
          let n := 20 * tcamJoin e.width
          decide (idx < 98304) && e.blocks.contains (idx / 3072) && idx % tcamJoin e.width == 0 && isZero r 12 4 &&
            (if add then len == 24 + (2 * n + 7) / 8 * 8 && actionOk e.egress (field r 16 8) else decide (16 ≤ len))
        | none => false
      | 4 =>
        let idx := field r 8 4; let big := field r 12 1 == 1; let hl := field r 13 1
        tg == 0 && decide (idx < 1048576) &&
          (if add then decide (field r 12 1 ≤ 1) && (!big || idx % 4 == 0) && decide (hl ≤ (if big then 248 else 56)) && isZero r 14 2 &&
             len == 16 + (hl + 7) / 8 * 8 && isZero r (16 + hl) ((hl + 7) / 8 * 8 - hl)
           else isZero r 14 2)
      | _ => false
    if (op != 1 && op != 2) || flagsBad || len % 8 != 0 || len < 16 || 264 < len || r.length != len || !bodyOk then some .badArg else none

/-- What a record did: the device, its failure, and whether it replaced, found nothing to delete, or evicted. -/
structure RecRes where
  d : Dev
  fail : Option Status := none
  replaced : Nat := 0
  absent : Nat := 0
  evicted : Nat := 0

/-- The route a record of space 0 spells: its prefix is a value in host memory, little-endian (R10). -/
def recRoute (r : Bytes) : Route :=
  let v6 := field r 8 1 == 6
  { vrf := field r 6 2, v6 := v6, plen := field r 9 1, pfx := unLe (slice r 16 (famBits v6 / 8)), result := field r 12 4 % 2 ^ 24 }

/-- A route's ADD or DELETE (R153, R188). -/
def recLpm (add : Bool) (x : Route) (d : Dev) : RecRes :=
  let t := d.fwd.tbl
  let rest := t.lpm.filter fun y => !sameRoute x y
  let present := decide (rest.length < t.lpm.length)
  if !add then { d := (d.setTbl fun y => { y with lpm := rest }).lpmNear, absent := b2n (!present) }
  else
    let u := routeUnits x.v6 x.plen
    let q := (tgetD t.vrf {} x.vrf).quota
    if !present && ((q != 0 && decide (q < vrfUnits t x.vrf + u)) || decide (16777216 < allUnits t + d.unitsTwice + u)) then
      { d := d, fail := some .noSpace }
    else { d := (d.setTbl fun y => { y with lpm := rest ++ [x] }).lpmNear, replaced := b2n present }

/-- The key of a record of space 1 or 2 for a table. -/
def recKey (t : EmTable) (r : Bytes) : Bytes := slice r 8 ((t.keyBits + 7) / 8)

/-- The entry an ADD of space 1 or 2 spells. -/
def recEntry (t : EmTable) (r : Bytes) (hold : Hold) : EmEntry :=
  { key := recKey t r, result := field r (8 + (((t.keyBits + 7) / 8) + 7) / 8 * 8) 8, static := bit (field r 2 1) 0, hold := hold }

/-- Both HBM copies of place `j` of an extended table's buckets: 32 bytes each (R167, R168, Table 10.1). -/
def extPlaceCopies (t : EmTable) (j : Nat) : Nat × Nat := copies 0x386800000 (128 * 2 ^ 20) (128 * t.base + 32 * j)

/-- A write of a place of an extended table updates both copies (R168, R170). -/
def extStored (isExt : Bool) (t : EmTable) (j : Nat) (d : Dev) : Dev := if isExt then d.writeCopies (extPlaceCopies t j) 32 else d

/-- Where a key stands in a table after a write, for its copies. -/
def extWrote (isExt : Bool) (i : Nat) (k : Bytes) (d : Dev) : Dev :=
  match if isExt then tget d.fwd.tbl.ext i else none with
  | some t => (match t.find k with | some (_, j, _) => d.extStored true t j | none => d)
  | none => d

/-- An exact-match or extended ADD or DELETE (R158, R188). -/
def recEm (isExt add : Bool) (i : Nat) (r : Bytes) (d : Dev) : RecRes :=
  match tget (if isExt then d.fwd.tbl.ext else d.fwd.tbl.em) i with
  | none => { d := d, fail := some .badHandle }
  | some t =>
    if add then
      match d.emInsert isExt i (recEntry t r .live) with
      | (.replaced, x) => { d := x.extWrote isExt i (recKey t r), replaced := 1 }
      | (.placed, x) => { d := x.extWrote isExt i (recKey t r) }
      | (.evicted, x) => { d := x.extWrote isExt i (recKey t r), evicted := 1 }
      | (.refused, _) => { d := d, fail := some .noSpace }
    else
      match t.find (recKey t r) with
      | some (o, j, _) => { d := ((d.setEm isExt i (t.remove o j)).emNear isExt i).extStored isExt t j }
      | none => { d := d, absent := 1 }

/-- The TCAM entry an ADD of space 3 spells: key and mask little-endian (log 19). -/
def recTcam (w : Nat) (r : Bytes) (hold : Hold) : TcamEntry :=
  let n := 20 * tcamJoin w
  let k := unLe (slice r 24 n); let m := unLe (slice r (24 + n) n)
  { key := k, mask := m, action := field r 16 8, hold := hold, arrKey := k, arrMask := m, copyKey := k, copyMask := m }

/-- Near-full state of a TCAM table. -/
def tcamNear (i : Nat) (d : Dev) : Dev :=
  match tget d.fwd.tbl.tcam i with
  | none => d
  | some t =>
    let n := (d.fwd.tbl.acl.filter fun p => t.blocks.contains (p.1 / 3072)).length
    let r := d.nearFullCheck (handle 0x08 i) t.nearFull n (t.blocks.length * 3072 / tcamJoin t.width)
    if r.1 = t.nearFull then d else r.2.setTbl fun x => { x with tcam := tput x.tcam i { t with nearFull := r.1 } }

/-- A TCAM ADD or DELETE (R180, R188). A place that still holds an old copy is not free and holds nothing to delete (R187; log 125). -/
def recAcl (add : Bool) (i : Nat) (r : Bytes) (d : Dev) : RecRes :=
  match tget d.fwd.tbl.tcam i with
  | none => { d := d, fail := some .badHandle }
  | some t =>
    let idx := field r 8 4
    let held (h : Hold) : Bool := match tget d.fwd.tbl.acl idx with | some e => e.hold == h | none => false
    if held .old then (if add then { d := d, fail := some .noSpace } else { d := d, absent := 1 })
    else if add then
      { d := (d.setTbl fun x => { x with acl := tput x.acl idx (recTcam t.width r .live) }).tcamNear i, replaced := b2n (held .live) }
    else { d := (d.setTbl fun x => { x with acl := tdel x.acl idx }).tcamNear i, absent := b2n (!held .live) }

/-- 64-byte units of pinned entries but that at `i` (R175). -/
def pinned (t : Tab Encap) (i : Nat) : Nat := ((t.filter fun p => p.2.pin && p.1 != i).map fun p => if p.2.big then 4 else 1).sum

/-- The first index of the 256-byte entry that `i` lies inside, past its first index (R173). -/
def insideBig (t : Tab Encap) (i : Nat) : Bool :=
  i % 4 != 0 && (match tget t (i - i % 4) with | some e => e.big | none => false)

/-- The encapsulation entry an ADD of space 4 spells. -/
def recEntryOf (r : Bytes) : Encap :=
  { big := field r 12 1 == 1, tmpl := slice r 16 (field r 13 1), pin := bit (field r 2 1) 1 }

/-- An encapsulation ADD or DELETE on a store (R173, R175), with `held` units pinned beside it: the failure, or the store after it and
whether an entry was there. -/
def encapPut (add : Bool) (r : Bytes) (held : Nat) (t : Tab Encap) : Except Status (Tab Encap × Bool) :=
  let i := field r 8 4
  let e := recEntryOf r
  let old := tget t i
  if insideBig t i then .error .badArg
  else if !add then .ok (tdel t i, old.isSome)
  else if (match old with | some o => o.big != e.big | none => false) || (e.big && [1, 2, 3].any fun k => (tget t (i + k)).isSome) then
    .error .badArg
  else if e.pin && decide (16384 < held + pinned t i + (if e.big then 4 else 1)) then .error .noSpace
  else .ok (tput t i e, old.isSome)

/-- The cache line of encapsulation index `i`, and the lines of an entry (R170). -/
def encapLines (i : Nat) (big : Bool) : List Nat := if big then [i / 2, i / 2 + 1] else [i / 2]

/-- Lines that are never replaced: those of pinned entries (R175), and those a slice holds for a frame until egress stage 1 has read its
entry (R174). -/
def lineKept (d : Dev) (l : Nat) : Bool :=
  (d.fwd.tbl.encap.any fun p => p.2.pin && (encapLines p.1 p.2.big).contains l) ||
  d.pipe.any fun x => x.2.egress.any fun f => f.place == .stages && (match f.encap with | some i => decide (i / 2 ≤ l) && decide (l ≤ i / 2 + 1) | none => false)

/-- The least recently used line that may be replaced dropped, from the end. -/
def dropLine (keep : Nat → Bool) : List Nat → List Nat
  | [] => []
  | l :: r => if (dropLine keep r).length < r.length then l :: dropLine keep r else if keep l then l :: r else r

/-- The cache of 32,768 lines with lines `ls` used most recently (R170). -/
def touchLines (d : Dev) (ls : List Nat) : Dev :=
  d.setFwd fun x =>
    let all := ls ++ x.cache.filter fun l => !ls.contains l
    { x with cache := (List.range (all.length - 32768)).foldl (fun l _ => dropLine (fun k => ls.contains k || d.lineKept k) l) all }

/-- Both HBM copies of encapsulation index `i` (R173, Table 10.1). -/
def encapCopies (i : Nat) : Nat × Nat := copies 0x396800000 (8 * 2 ^ 20) (64 * i)

/-- What a write of an encapsulation entry does to the store in HBM and to the cache (R173-R175): both copies and a resident line take the
entry as one step; a pinned entry is resident. -/
def encapStored (add : Bool) (i : Nat) (big pin : Bool) (d : Dev) : Dev :=
  let d1 := (d.setFwd fun f => { f with ue := f.ue.filter (· != .encap i) }).writeCopies (encapCopies i) (if big then 256 else 64)
  if add && pin then d1.touchLines (encapLines i big) else d1

/-- An encapsulation ADD or DELETE (R173, R175). -/
def recEncap (add : Bool) (r : Bytes) (d : Dev) : RecRes :=
  match encapPut add r 0 d.fwd.tbl.encap with
  | .error st => { d := d, fail := some st }
  | .ok (t, was) =>
    let e := recEntryOf r
    { d := (d.setTbl fun x => { x with encap := t }).encapStored add (field r 8 4) e.big e.pin, replaced := b2n (add && was), absent := b2n (!add && !was) }

/-- One record applied (R187, R190). -/
def recApply (d : Dev) (r : Bytes) : RecRes :=
  match d.recCheck r with
  | some st => { d := d, fail := some st }
  | none =>
    let add := field r 0 1 == 1
    match field r 1 1 with
    | 0 => d.recLpm add (recRoute r)
    | 1 => d.recEm false add (field r 6 2) r
    | 2 => d.recEm true add (field r 6 2) r
    | 3 => d.recAcl add (field r 6 2) r
    | _ => d.recEncap add r

/-- The records a batch holds, cut by their lengths, and whether they end where the batch does. A record whose length is out of range or reaches
past the end is the last one cut: it fails when it is reached (R187, R190). -/
def cutRecords : Nat → Bytes → List Bytes × Bool
  | 0, bs => ([], bs.isEmpty)
  | k + 1, bs =>
    let n := field bs 4 2
    if n < 16 || bs.length < n then ([slice bs 0 8], true)
    else let x := cutRecords k (bs.drop n); (bs.take n :: x.1, x.2)

/-- What a run of records did: counts, and the first failure. -/
structure BatchRes where
  d : Dev
  applied : Nat := 0
  fail : Option Status := none
  replaced : Nat := 0
  absent : Nat := 0
  evicted : Nat := 0

/-- Records applied in order up to the first that fails (R187). -/
def runRecords (f : Dev → Bytes → RecRes) : BatchRes → List Bytes → BatchRes
  | b, [] => b
  | b, r :: rest =>
    let x := f b.d r
    match x.fail with
    | some st => { b with fail := some st }
    | none => runRecords f { d := x.d, applied := b.applied + 1, replaced := b.replaced + x.replaced, absent := b.absent + x.absent
                             evicted := b.evicted + x.evicted } rest

/-- The result and extra of a batch (R192). -/
def batchResp (b : BatchRes) (total : Nat) : Resp :=
  { status := b.fail.getD .ok
    result := b.applied + (if b.fail.isSome && b.applied < total then b.applied else 0xFFFFFFFF) * 2 ^ 32
    extra := b.replaced + b.absent * 2 ^ 32 + b.evicted * 2 ^ 64 }

/-- `f` done to the consistent batch that is being checked or waits. -/
def modBatch (d : Dev) (f : PendingBatch → PendingBatch) : Dev := d.setFwd fun x => { x with batch := x.batch.map f }

/-- The place reserved for a key of table `i` by the batch. -/
def myPlace (d : Dev) (i : Nat) (k : Bytes) : Option (Bool × Nat × EmEntry) :=
  match d.fwd.batch, tget d.fwd.tbl.em i with
  | some b, some t => (b.mine.filter (·.1 == i)).findSome? fun m =>
      match tget (if m.2.1 then t.ovf else t.slots) m.2.2 with
      | some e => if e.key == k then some (m.2.1, m.2.2, e) else none
      | none => none
  | _, _ => none

/-- A record of a consistent batch takes its reserved places (R187). One place serves all the batch's records of a key, one hold of units
those of a route. -/
def recReserve (d : Dev) (r : Bytes) : RecRes :=
  match d.recCheck r with
  | some st => { d := d, fail := some st }
  | none =>
    let add := field r 0 1 == 1
    let i := field r 6 2
    let b := d.fwd.batch.getD { intake := 0, records := [], notBefore := 0, commitNs := 0 }
    match field r 1 1 with
    | 0 =>
      let x := recRoute r
      let t := d.fwd.tbl
      let new := !t.lpm.any (sameRoute x)
      let newHeld := ((b.routes.filter fun y => y.vrf == x.vrf && !t.lpm.any (sameRoute y)).map fun y => routeUnits y.v6 y.plen).sum
      let q := (tgetD t.vrf {} x.vrf).quota
      if !add || b.routes.any (sameRoute x) then { d := d }
      else
        let d1 := d.modBatch fun b => { b with routes := x :: b.routes }
        if decide (16777216 < allUnits t + d1.unitsTwice) ||
            (new && q != 0 && decide (q < vrfUnits t x.vrf + newHeld + routeUnits x.v6 x.plen)) then { d := d, fail := some .noSpace }
        else { d := d1.lpmNear }
    | 1 => match tget d.fwd.tbl.em i with
      | none => { d := d, fail := some .badHandle }
      | some t =>
        if !add || (d.myPlace i (recKey t r)).isSome then { d := d }
        else
          let mark (x : Dev) : Dev := match tget x.fwd.tbl.em i with
            | none => x
            | some u =>
              let at' (o : Bool) (l : Tab EmEntry) : List (Nat × Bool × Nat) :=
                (l.filter fun p => p.2.key == recKey t r && p.2.hold == .reserved).map fun p => (i, o, p.1)
              x.modBatch fun b => { b with mine := at' false u.slots ++ at' true u.ovf ++ b.mine }
          match d.emInsert false i (recEntry t r .reserved) with
          | (.refused, _) => { d := d, fail := some .noSpace }
          | (.evicted, x) => { d := mark (x.modBatch fun b => { b with evicted := b.evicted + 1 }) }
          | (_, x) => { d := mark x }
    | 2 => { d := d, fail := some .badArg }
    | 3 => match tget d.fwd.tbl.tcam i with
      | none => { d := d, fail := some .badHandle }
      | some t =>
        let idx := field r 8 4
        match add, tget d.fwd.tbl.acl idx with
        | true, none => { d := (d.setTbl fun x => { x with acl := tput x.acl idx (recTcam t.width r .reserved) }).tcamNear i }
        | true, some e => if e.hold == .reserved then { d := d } else { d := d, fail := some .badArg }
        | false, _ => { d := d }
    | _ =>
      let held := ((b.wrote.filterMap fun k => tget d.fwd.tbl.encap k).filter (·.pin)).map fun e => if e.big then 4 else 1
      match encapPut add r held.sum b.encap with
      | .error st => { d := d, fail := some st }
      | .ok (t, _) => { d := d.modBatch fun b => { b with encap := t, wrote := if b.wrote.contains (field r 8 4) then b.wrote else field r 8 4 :: b.wrote } }

/-- A record of a consistent batch at the commit (R138, R187, R188): what it replaces or deletes stays as an old copy, and what it adds stands
at its reserved place. -/
def recCommit (d : Dev) (r : Bytes) : RecRes :=
  let add := field r 0 1 == 1
  let i := field r 6 2
  match field r 1 1 with
  | 0 =>
    let x := recRoute r
    let rest := d.fwd.tbl.lpm.filter fun y => !sameRoute x y
    let present := decide (rest.length < d.fwd.tbl.lpm.length)
    { d := d.setTbl fun y => { y with lpm := if add then rest ++ [x] else rest }
      replaced := b2n (add && present), absent := b2n (!add && !present) }
  | 1 => match tget d.fwd.tbl.em i with
    | none => { d := d }
    | some t =>
      let k := recKey t r
      let cur := t.find k
      let ours := d.myPlace i k
      let same : Bool := match cur, ours with | some (o, j, _), some (o', j', _) => o == o' && j == j' | _, _ => false
      let t1 := match cur with
        | some (o, j, e) => t.put o j { e with hold := if same then .reserved else .old }
        | none => t
      let t2 := match add, ours with | true, some (o, j, _) => t1.put o j (recEntry t r .live) | _, _ => t1
      { d := d.setEm false i t2, replaced := b2n (add && cur.isSome), absent := b2n (!add && cur.isNone) }
  | 3 =>
    let idx := field r 8 4
    match tget d.fwd.tbl.acl idx, tget d.fwd.tbl.tcam i with
    | some e, some t =>
      let live := e.hold == .live
      { d := d.setTbl fun x => { x with acl := tput x.acl idx (if add then recTcam t.width r .live else { e with hold := if live then .old else e.hold }) }
        replaced := b2n (add && live), absent := b2n (!add && !live) }
    | _, _ => { d := d, absent := b2n (!add) }
  | _ => d.recEncap add r

/-- Reserved places that the commit left without an entry are free again. -/
def freeReserved (b : PendingBatch) (d : Dev) : Dev :=
  let d1 := b.mine.foldl (fun (x : Dev) m => match tget x.fwd.tbl.em m.1 with
    | none => x
    | some t => match tget (if m.2.1 then t.ovf else t.slots) m.2.2 with
      | some e => if e.hold == .reserved then x.setEm false m.1 (t.remove m.2.1 m.2.2) else x
      | none => x) d
  d1.setTbl fun x => { x with acl := x.acl.filter fun p => p.2.hold != .reserved }

/-- Near-full states brought up to date (R196). -/
def allNear (d : Dev) : Dev :=
  let d1 := d.fwd.tbl.em.foldl (fun (x : Dev) p => x.emNear false p.1) d.lpmNear
  d.fwd.tbl.tcam.foldl (fun (x : Dev) p => x.tcamNear p.1) d1

/-- A record breaks R189: it is of an extended table, or a TCAM ADD at an index that is valid before the commit. -/
def breaksR189 (d : Dev) (r : Bytes) : Bool :=
  field r 1 1 == 2 || (field r 1 1 == 3 && field r 0 1 == 1 && (match tget d.fwd.tbl.acl (field r 8 4) with | some e => e.hold == .live | none => false))

/-- TBL_BATCH_APPLY (R186-R192). A batch waits while another is applied, a consistent one also until the old view is released
(R138). -/
def tblBatchApply (pl : HostRead) (c : Cmd) (d : Dev) : Reply :=
  let b := pl.getD []
  let count := field b 0 4; let len := field b 4 4; let fl := field b 8 4; let ct := field b 16 8
  let cons := bit fl 0
  let recs := cutRecords count ((b.drop 64).take len)
  let bad := pl.isNone || count == 0 || decide (65536 < count) || decide (16777216 < 64 + len) || decide (2 ≤ fl) || !isZero b 12 4 ||
    !isZero b 24 40 || (!cons && ct != 0) || !recs.2 || decide (b.length < 64 + len)
  let none' : Nat := 0xFFFFFFFF * 2 ^ 32
  if c.bad 0x00 then .done d { status := .badHandle, result := none' }
  else if bad then .done d { status := .badArg, result := none' }
  else if !cons then
    let r := runRecords recApply { d := d } recs.1
    .done r.d (batchResp r recs.1.length)
  else
    match recs.1.findIdx? d.breaksR189 with
    | some k => .done d { status := .badArg, result := k * 2 ^ 32 }
    | none =>
      let d0 := d.setFwd fun f => { f with batch := some { intake := c.intake, records := recs.1, notBefore := d.now + usT 100, commitNs := ct
                                                           encap := f.tbl.encap } }
      let r := runRecords recReserve { d := d0 } recs.1
      match r.fail with
      | some st => .done d { status := st, result := r.applied * 2 ^ 32 }
      | none => .pend (r.d.noteWrite c.intake .batch)

/-- The hold of R138 and R186 on a batch. -/
def batchWaits (pl : HostRead) (d : Dev) : Bool :=
  d.fwd.batch.isSome || (bit (field (pl.getD []) 8 4) 0 && d.fwd.oldTbl.isSome)

/-- BATCH_COMMIT (R138, R187). -/
def batchCommit (d : Dev) : Dev :=
  match d.fwd.batch with
  | none => d
  | some b =>
    if d.now < b.notBefore || d.nowNs < b.commitNs then d
    else
      let r := runRecords recCommit { d := d } b.records
      let resp := batchResp { r with evicted := b.evicted } b.records.length
      let d1 := (freeReserved b r.d).setFwd fun f => { f with
        batch := none, oldTbl := some d.fwd.tbl, oldUnits := (b.routes.map fun x => routeUnits x.v6 x.plen).sum, view := !f.view }
      let d2 := d1.allNear
      match d2.hif.cmds.find? (·.intake == b.intake) with
        | some c => d2.complete c resp
        | none => d2

/-- The old copies of a committed batch are freed (R138, R187). -/
def releaseOld (d : Dev) : Dev :=
  let free (t : EmTable) : EmTable :=
    let gone := (t.slots.filter fun p => p.2.hold == .old).map (·.1)
    gone.foldl (fun x i => x.moveBack i)
      { t with slots := t.slots.filter fun p => p.2.hold != .old, ovf := t.ovf.filter fun p => p.2.hold != .old }
  (d.setFwd fun f => { f with
    oldTbl := none, oldUnits := 0
    tbl := { f.tbl with em := f.tbl.em.map fun p => (p.1, free p.2), acl := f.tbl.acl.filter fun p => p.2.hold != .old } }).allNear

/-! ### Table commands (Table 5.10) -/

/-- Slots an on-die table takes (R155). -/
def tableSlots (t : EmTable) : Nat := 4 * t.n * t.w + 16384 * t.w

/-- The first `n` free TCAM blocks, lowest first (R194). -/
def freeBlocks (t : Tables) (n : Nat) : List Nat :=
  ((List.range 32).filter fun b => !(t.tcam.any fun p => p.2.blocks.contains b)).take n

/-- The first bucket number from `x` on where `n` buckets are free in the extended-table area (Table 10.1; log 125). -/
def extBase (t : Tables) (n : Nat) : Nat → Nat → Nat
  | 0, x => x
  | k + 1, x =>
    match t.ext.find? fun p => decide (p.2.base < x + n) && decide (x < p.2.base + p.2.n) with
    | some p => extBase t n k (p.2.base + p.2.n)
    | none => x

/-- A table exists at a handle. -/
def tblExists (d : Dev) (ty i : Nat) : Bool :=
  match ty with
  | 0x06 => (tget d.fwd.tbl.em i).isSome
  | 0x07 => (tget d.fwd.tbl.ext i).isSome
  | 0x08 => (tget d.fwd.tbl.tcam i).isSome
  | _ => false

/-- TBL_CREATE (R154, R155, R167, R193, R194). -/
def tblCreate (c : Cmd) (d : Dev) : Reply :=
  let ty := c.hType; let i := c.hIdx
  let kind := c.f 0 1; let ev := c.f 1 1; let kb := c.f 2 2; let rb := c.f 4 1; let tw := c.f 5 1; let fl := c.f 6 1
  let backs := c.f 7 1; let size := c.f 8 4; let age := c.f 12 4; let seed := c.f 16 4
  let t := d.fwd.tbl
  let isExt := ty == 0x07
  let flow := kind == 6
  let bits := if flow then (kb, rb) else (kindBits kind).getD (0, 0)
  let w := slotsOf (bits.1 + bits.2)
  let sd := if seed = 0 then (d.devId * 256 + i) * 0x9E3779B9 % 2 ^ 32 else seed
  let badH := !([0x06, 0x07, 0x08].contains ty && decide (i < handleRange ty))
  let emBad := decide (6 < kind) || decide (2 < ev) || tw != 0 || size == 0 || size % 4096 != 0 || (!isExt && decide (1048576 < size)) ||
    (if flow then decide (kb < 8) || decide (320 < kb) || decide (rb < 8) || decide (64 < rb) else kb != 0 || rb != 0) ||
    decide ((if isExt then 248 else 376) < bits.1 + bits.2) || bit fl 1 || decide (8 ≤ fl) ||
    (bit fl 0 && (isExt || kind != 0)) || (bit fl 2 && !isExt) || (isExt && age != 0) || decide (86400 < age) ||
    (if isExt then backs != 0xFF && !(match tget t.em backs with | some x => x.kind == kind | none => false) else backs != 0)
  let tcBad := !(kind == 16 || kind == 17) || ev != 0 || kb != 0 || rb != 0 || decide (2 < tw) || fl != 0 && fl != 2 || backs != 0 ||
    size == 0 || decide (32 < size) || age != 0 || seed != 0
  let full := if ty = 0x08 then decide ((freeBlocks t size).length < size)
    else if isExt then decide (33554432 < 4 * size + (t.ext.map fun p => 4 * p.2.n).sum)
    else decide (4194304 < 4 * size * w + 16384 * w + (t.em.map fun p => tableSlots p.2).sum)
  let new : EmTable := { kind := kind, evict := ev, keyBits := bits.1, resBits := bits.2, w := w, learn := bit fl 0, n := size, ageS := age
                         seed := sd, backs := if isExt && backs != 0xFF then some backs else none, discard := bit fl 2, swept := d.now
                         base := if isExt then extBase t size 9 0 else 0 }
  check d [(badH, .badHandle), ((if ty = 0x08 then tcBad else emBad) || c.dirty 20 12, .badArg), (d.tblExists ty i, .refusedBusy),
      (full, .noSpace)]
    (.done (if ty = 0x08 then
        d.setTbl fun x => { x with tcam := tput x.tcam i { egress := kind == 17, width := tw, deny := bit fl 1
                                                           blocks := freeBlocks t size } }
      else d.setEm isExt i new) {})

/-- A profile or VRF names a table (R193). -/
def tblNamed (t : Tables) (ty i : Nat) : Bool :=
  let is (o : Option Nat) : Bool := o == some i
  match ty with
  | 0x06 => (t.profile.any fun p => is p.2.mac || is p.2.mpls || is p.2.tunnel || is p.2.flow) ||
      t.vrf.any fun v => is v.2.host4 || is v.2.host6
  | 0x07 => t.profile.any fun p => is p.2.ext
  | _ => t.profile.any fun p => is p.2.aclIn || is p.2.aclOut

/-- The lines of an extended table's bucket in the cache, one number for each bucket (R170). -/
def extLine (table bucket : Nat) : Nat := 2 ^ 40 + table * 2 ^ 32 + bucket

/-- TBL_DESTROY (R193): an extended table's lines leave the cache with it. -/
def tblDestroy (c : Cmd) (d : Dev) : Reply :=
  let ty := c.hType; let i := c.hIdx; let t := d.fwd.tbl
  check d [(!d.tblExists ty i, .badHandle), (tblNamed t ty i, .refusedBusy)]
    (.done ((d.setFwd fun f => { f with cache := f.cache.filter fun l => !(ty == 0x07 && l / 2 ^ 32 == 2 ^ 8 + i) }).setTbl fun x => match ty with
      | 0x06 => { x with em := tdel x.em i }
      | 0x07 => { x with ext := tdel x.ext i }
      | _ => { x with tcam := tdel x.tcam i
                      acl := x.acl.filter fun p => !(match tget t.tcam i with | some k => k.blocks.contains (p.1 / 3072) | none => false) }) {})

/-- TBL_SET_AGEING (R162). -/
def tblSetAgeing (c : Cmd) (d : Dev) : Reply :=
  match tget d.fwd.tbl.em c.hIdx with
  | none => .done d { status := .badHandle }
  | some t => check d [(c.hType != 0x06, .badHandle), (decide (86400 < c.f 0 4) || c.dirty 4 28, .badArg)]
      (.done (d.setEm false c.hIdx { t with ageS := c.f 0 4 }) {})

/-- Exact-match lookups a profile counts (R185). -/
def profileCount (anyHost : Bool) (p : Profile) : Nat :=
  2 * b2n p.mac.isSome + b2n p.tunnel.isSome + b2n p.flow.isSome + (if p.mpls.isSome then p.depth else 0) + b2n anyHost

/-- Some VRF has a host table bound (R185). -/
def anyHost (t : Tables) : Bool := t.vrf.any fun v => v.2.host4.isSome || v.2.host6.isSome

/-- A table index field: 0xFF is none. -/
def optIdx (n : Nat) : Option Nat := if n = 0xFF then none else some n

/-- A field names no table, or an exact-match table of one of these kinds. -/
def kindIs (t : Tab EmTable) (o : Option Nat) (ks : List Nat) : Bool :=
  match o with
  | none => true
  | some i => match tget t i with | some x => ks.contains x.kind | none => false

/-- VRF_SET (R153, R185, R194). -/
def vrfSet (c : Cmd) (d : Dev) : Reply :=
  let t := d.fwd.tbl
  let df := c.f 4 4
  let h4 := optIdx (c.f 8 1); let h6 := optIdx (c.f 9 1)
  let v : Vrf := { quota := c.f 0 4, dflt := if bit df 31 then some (df % 2 ^ 24) else none, host4 := h4, host6 := h6 }
  let nv := tset t.vrf {} c.hIdx v
  let over4 := anyHost { t with vrf := nv } && t.profile.any fun p => decide (4 < profileCount true p.2)
  check d [(c.bad 0x09, .badHandle),
      (decide (16777216 < v.quota) || df / 2 ^ 24 % 128 != 0 || !routeOk (df % 2 ^ 24) || !kindIs t.em h4 [1] || !kindIs t.em h6 [2] ||
        over4 || c.dirty 10 22, .badArg)]
    (.done (d.setTbl fun x => { x with vrf := nv }) {})

/-- TBL_SET_PROFILE (R185, Table 5.5). -/
def tblSetProfile (c : Cmd) (d : Dev) : Reply :=
  let t := d.fwd.tbl
  let p : Profile := { mac := optIdx (c.f 2 1), mpls := optIdx (c.f 3 1), depth := c.f 4 1, tunnel := optIdx (c.f 5 1)
                       flow := optIdx (c.f 6 1), ext := optIdx (c.f 7 1), aclIn := optIdx (c.f 8 1), aclOut := optIdx (c.f 9 1) }
  let tc (o : Option Nat) (eg : Bool) : Bool := match o with
    | none => true
    | some i => match tget t.tcam i with | some x => x.egress == eg | none => false
  let bad := decide (1023 < c.f 0 2) || decide (3 < p.depth) || (decide (0 < p.depth) && p.mpls.isNone) || !kindIs t.em p.mac [0] ||
    !kindIs t.em p.mpls [3] || !kindIs t.em p.tunnel [4, 5] || !kindIs t.em p.flow [6] ||
    !kindIs t.ext p.ext [0, 1, 2, 3, 4, 5, 6] || !tc p.aclIn false || !tc p.aclOut true ||
    decide (4 < profileCount (anyHost t) p) || c.dirty 10 22
  check d [(c.bad 0x00, .badHandle), (bad, .badArg)]
    (.done (d.setTbl fun x => { x with profile := tset x.profile {} (c.f 0 2) p }) {})

/-- An ADD record of an entry of space 1 or 2 (R195, Table 5.7). -/
def emRecord (sp i : Nat) (t : EmTable) (e : EmEntry) : Bytes :=
  let nb := (t.keyBits + 7) / 8
  let k := (nb + 7) / 8 * 8
  le 1 1 ++ le 1 sp ++ le 1 (b2n e.static + 8 * b2n e.learned) ++ le 1 e.age ++ le 2 (16 + k) ++ le 2 i ++ slice e.key 0 k ++ le 8 e.result

/-- An ADD record of a TCAM entry. -/
def aclRecord (i w : Nat) (p : Nat × TcamEntry) : Bytes :=
  let n := 20 * tcamJoin w
  let pad := (8 - 2 * n % 8) % 8
  le 1 1 ++ le 1 3 ++ le 2 0 ++ le 2 (24 + 2 * n + pad) ++ le 2 i ++ le 4 p.1 ++ le 4 0 ++ le 8 p.2.action ++ le n p.2.key ++
  le n p.2.mask ++ List.replicate pad 0

/-- An ADD record of a route. -/
def routeRecord (r : Route) : Bytes :=
  le 1 1 ++ le 1 0 ++ le 2 0 ++ le 2 32 ++ le 2 r.vrf ++ le 1 (if r.v6 then 6 else 4) ++ le 1 r.plen ++ le 2 0 ++ le 4 r.result ++
  (if r.v6 then le 16 r.pfx else le 4 r.pfx ++ List.replicate 12 0)

/-- TBL_READ (R195). -/
def tblRead (c : Cmd) (d : Dev) : Reply :=
  let t := d.fwd.tbl
  let i := c.hIdx
  let em (sp : Nat) (o : Option EmTable) : Bytes := match o with
    | some x => ((x.slots ++ x.ovf).filter fun p => p.2.hold != .reserved && p.2.hold != .old).flatMap fun p => emRecord sp i x p.2
    | none => []
  let ok := d.tblExists c.hType i || (c.hType == 0x09 && decide (i < 65536))
  check d [(!ok, .badHandle)]
    (.done d { record := some (match c.hType with
      | 0x06 => em 1 (tget t.em i)
      | 0x07 => em 2 (tget t.ext i)
      | 0x08 => match tget t.tcam i with
        | some x => (t.acl.filter fun p => p.2.hold == .live && x.blocks.contains (p.1 / 3072)).flatMap (aclRecord i x.width)
        | none => []
      | _ => (t.lpm.filter (·.vrf == i)).flatMap routeRecord) })

/-! ### Learning, ageing, scrubbing (R162-R166, R181-R184) -/

/-- LEARN_REQUEST_APPLY (R164-R166). -/
def learnApply (i : Nat) (d : Dev) : Dev :=
  match tget d.fwd.tbl.em i with
  | none => d
  | some t =>
    match t.learnQ with
    | [] => d
    | q :: rest =>
      let t1 := { t with learnQ := rest }
      match t.find q.key with
      | none =>
        let r := (d.setEm false i t1).emInsert false i { key := q.key, result := q.gport, learned := true, hit := true }
        (match tget r.2.fwd.tbl.em i with
        | some x => r.2.setEm false i (if r.1 = .refused then { x with learnNoSpace := x.learnNoSpace + 1 }
                                        else { x with learns := x.learns + 1 })
        | none => r.2)
      | some (o, j, e) =>
        if e.result = q.gport then d.setEm false i t1
        else if e.static then d.setEm false i { t1 with moveRefused := t.moveRefused + 1 }
        else
          (d.setEm false i { (t1.put o j { e with result := q.gport, static := false, age := 0 }) with moves := t.moves + 1 }).raise
            0x0204 sevInfo (handle 0x06 i) [.raw 4 (slice q.key 0 8), fIdx (e.result % 2 ^ 19), fIdx q.gport]

/-- AGEING_SWEEP (R162): every A ÷ 8, or every second with A = 0. -/
def ageingSweep (i : Nat) (d : Dev) : Dev :=
  match tget d.fwd.tbl.em i with
  | none => d
  | some t =>
    if t.swept + (if t.ageS = 0 then secT 1 else secT t.ageS / 8) ≤ d.now then
      (d.setEm false i { t.sweep with swept := d.now }).emNear false i
    else d

/-- The TCAM table whose blocks hold an entry. -/
def tcamOwner (t : Tables) (idx : Nat) : Nat :=
  match t.tcam.find? fun p => p.2.blocks.contains (idx / 3072) with | some p => p.1 | none => 0

/-- TCAM_SCRUB (R182). A rewrite from the shadow is firmware's and waits while the device is headless. -/
def tcamScrub (idx : Nat) (d : Dev) : Dev :=
  match tget d.fwd.tbl.acl idx with
  | none => d
  | some e =>
    let differs := e.arrKey != e.copyKey || e.arrMask != e.copyMask || e.copyUe
    if e.hold == .reserved || e.disabled || !differs || (e.copyUe && d.hif.headless) then d
    else
      let fix (e : TcamEntry) : TcamEntry :=
        if e.copyUe then { e with arrKey := e.key, arrMask := e.mask, copyKey := e.key, copyMask := e.mask, copyUe := false }
        else { e with arrKey := e.copyKey, arrMask := e.copyMask }
      (d.modAcl idx fix).raise 0x0206 sevMinor (handle 0x08 (tcamOwner d.fwd.tbl idx)) [fIdx idx]

/-- SHADOW_REBUILD (R176, R181, R184, R274): firmware rewrites from its shadow; it waits while the device is headless. -/
def shadowRebuild (x : ShadowItem) (d : Dev) : Dev :=
  if d.hif.headless || d.hif.frozen then d
  else
    let d1 := d.setFwd fun f => { f with ue := f.ue.filter (· != x) }
    match x with
    | .tcam idx => d1.modAcl idx fun e =>
        { e with arrKey := e.key, arrMask := e.mask, copyKey := e.key, copyMask := e.mask, copyUe := false, disabled := false }
    | .encap i => (match tget d1.fwd.tbl.encap i with
      | some e => d1.writeCopies (encapCopies i) (if e.big then 256 else 64)
      | none => d1)
    | .queueCfg q => { d1 with qs := { d1.qs with q := d1.qs.q.map fun (p : Nat × Queue) => if p.1 = q then (p.1, { p.2 with cfgBad := false }) else p } }.writeCopies (queueCopies q) 32
    | .policer i =>
      let p := tgetD d1.sch.pol {} i
      let cbs := match tget d1.sch.prof p.profile with | some f => f.cbs | none => 0
      { d1 with sch := { d1.sch with pol := tset d1.sch.pol {} i { p with ue := false, bucket := if p.ue then Bucket.full cbs d.now else p.bucket } } }
    | .ext i j => (match tget d1.fwd.tbl.ext i with | some t => d1.writeCopies (extPlaceCopies t j) 32 | none => d1)
    | _ => d1

end Dev

/-- BATCH_COMMIT. -/
def execBatchCommit (s : State) : Out := s.onDev Dev.batchCommit
/-- TBL_CREATE, opcode 0x0208. -/
def execTblCreate (src : Src) (s : State) : Out := s.onDev (Dev.runCmd 0x0208 src Dev.tblCreate)
/-- TBL_DESTROY, opcode 0x0209. -/
def execTblDestroy (src : Src) (s : State) : Out := s.onDev (Dev.runCmd 0x0209 src Dev.tblDestroy)
/-- TBL_BATCH_APPLY, opcode 0x020A. -/
def execTblBatchApply (src : Src) (pl : HostRead) (s : State) : Out :=
  s.onDev fun d => if d.batchWaits pl then d else d.runCmd 0x020A src (Dev.tblBatchApply pl)
/-- TBL_READ, opcode 0x020C. -/
def execTblRead (src : Src) (s : State) : Out := s.onDev (Dev.runCmd 0x020C src Dev.tblRead)
/-- TBL_SET_AGEING, opcode 0x020D. -/
def execTblSetAgeing (src : Src) (s : State) : Out := s.onDev (Dev.runCmd 0x020D src Dev.tblSetAgeing)
/-- VRF_SET, opcode 0x020E. -/
def execVrfSet (src : Src) (s : State) : Out := s.onDev (Dev.runCmd 0x020E src Dev.vrfSet)
/-- TBL_SET_PROFILE, opcode 0x0210. -/
def execTblSetProfile (src : Src) (s : State) : Out := s.onDev (Dev.runCmd 0x0210 src Dev.tblSetProfile)
/-- LEARN_REQUEST_APPLY. -/
def execLearnRequestApply (t : Fin 32) (s : State) : Out := s.onDev (Dev.learnApply t)
/-- AGEING_SWEEP. -/
def execAgeingSweep (t : Fin 32) (s : State) : Out := s.onDev (Dev.ageingSweep t)
/-- TCAM_SCRUB. -/
def execTcamScrub (idx : Nat) (s : State) : Out := s.onDev (Dev.tcamScrub idx)
/-- SHADOW_REBUILD. -/
def execShadowRebuild (i : ShadowItem) (s : State) : Out := s.onDev (Dev.shadowRebuild i)

end Sys2Proof.Machine
end

