-- ==== Sys2Proof/Machine/Images.lean ====
section
/-! DEFINITION. The image container: header, entries, shape and verification (R587, R588, R596, Tables 19.5 to 19.7). -/

namespace Sys2Proof.Machine

/-- A component entry (Table 19.6). -/
structure Comp where
  type : Nat
  arg : Nat
  fmt : Nat
  off : Nat
  len : Nat
  version : Nat
  digest : Bytes
  deriving DecidableEq, Repr

/-- An image header with its entries (Table 19.5). -/
structure Img where
  magic : Nat
  format : Nat
  count : Nat
  key : Nat
  length : Nat
  id : Nat
  version : Nat
  base : Nat
  sec : Nat
  comps : List Comp
  sig : Bytes
  deriving DecidableEq, Repr

/-- The header an image begins with. -/
def imgHeader (b : Bytes) : Img :=
  let n := field b 6 1
  { magic := field b 0 4, format := field b 4 2, count := n, key := field b 7 1, length := field b 8 4, id := field b 12 4
    version := field b 16 4, base := field b 20 4, sec := field b 24 4
    comps := (List.range n).map fun k =>
      let o := 64 + 64 * k
      { type := field b o 1, arg := field b (o + 1) 1, fmt := field b (o + 2) 2, off := field b (o + 4) 4
        len := field b (o + 8) 4, version := field b (o + 12) 4, digest := slice b (o + 16) 48 }
    sig := slice b (64 + 64 * n) 96 }

/-- The container's shape (R596): magic, format, count, offsets and lengths within length. -/
def imgShape (i : Img) (size : Nat) : Bool :=
  i.magic == 0x57464E51 && i.format == 1 && decide (1 ≤ i.count) && decide (i.count ≤ 8) && decide (i.key < 4) &&
  decide (i.length ≤ size) && decide (64 + 64 * i.count + 96 ≤ i.length) &&
  i.comps.all fun c => c.off % 256 == 0 && decide (64 + 64 * i.count + 96 ≤ c.off) && decide (c.off + c.len ≤ i.length)

/-- A slot image holds each of types 1 to 6 exactly once; every other image one component (R587). -/
def slotShape (i : Img) : Bool :=
  i.count == 6 && (List.range 6).all fun k => (i.comps.filter fun c => c.type == k + 1).length == 1

/-- The bytes of a component. -/
def compBytes (b : Bytes) (c : Comp) : Bytes := slice b c.off c.len

/-- Why an image does not verify (R588): 1 signature, 2 digest, 3 security version, as Table 19.3 codes them. -/
def verifyImg (nv : Nv) (b : Bytes) : Option Nat :=
  let i := imgHeader b
  if !imgShape i b.length || nv.revoked.getLsbD i.key ||
      !Config.ecdsaVerify (Config.verifyKey i.key) (Config.sha384 (slice b 0 (64 + 64 * i.count))) i.sig then some 1
  else if !i.comps.all fun c => Config.sha384 (compBytes b c) == c.digest then some 2
  else if i.sec < nv.minVer then some 3
  else none

/-- An image of one component of a type (R587). -/
def oneComp (b : Bytes) (type : Nat) : Option (Img × Comp) :=
  let i := imgHeader b
  match i.comps with
  | [c] => if c.type = type then some (i, c) else none
  | _ => none

end Sys2Proof.Machine
end

