-- ==== Sys2Proof/Machine/Counts.lean ====
section
/-! DEFINITION. Counters of the forwarding die: discards (R136), the counter store (R135, R313, R321, R511), policers (R309-R313)
and punts to the host (R496, R497). -/

namespace Sys2Proof.Machine

/-- One frame of `len` bytes counted. -/
def Pair.add (p : Pair) (len : Nat) : Pair := { pkts := p.pkts + 1, bytes := p.bytes + len }

/-- One frame counted in entry `k` of a table of pairs. -/
def countIn (t : Tab Pair) (k len : Nat) : Tab Pair := tset t {} k ((tgetD t {} k).add len)

namespace Dev

def getPipe (d : Dev) (i : Nat) : Pipe := tgetD d.pipe {} i
def setPipe (d : Dev) (i : Nat) (x : Pipe) : Dev := { d with pipe := tset d.pipe {} i x }
def modPipe (d : Dev) (i : Nat) (f : Pipe → Pipe) : Dev := d.setPipe i (f (d.getPipe i))

/-- The pipeline of port `p` is RUNNING (R24, R124). -/
def pipeUp (d : Dev) (p : Nat) : Bool := (d.getPipe (p / 8)).obj.st = .running

/-- One discard in pipeline `pl` under a code of Table 4.4 or 15.16 (R136, R499). -/
def dropPipe (d : Dev) (pl code len : Nat) : Dev := d.modPipe pl fun x => { x with drops := countIn x.drops code len }

/-- The same with port scope, and with lane scope. -/
def dropPort (d : Dev) (p code len : Nat) : Dev :=
  ({ d with portDrops := countIn d.portDrops (p * 64 + code) len }).dropPipe (p / 8) code len
def dropLane (d : Dev) (l code len : Nat) : Dev :=
  ({ d with laneDrops := countIn d.laneDrops (l * 64 + code) len }).dropPipe (l / 8) code len

/-! ### Policers (R309-R313) -/

/-- A frame of `len` bytes charged to policer `i`: whether it passes. Profile 0 passes everything. -/
def police (d : Dev) (i len : Nat) : Bool × Dev :=
  let p := tgetD d.sch.pol {} i
  let set (q : Policer) (d : Dev) : Dev := { d with sch := { d.sch with pol := tset d.sch.pol {} i q } }
  match if p.profile = 0 then none else tget d.sch.prof p.profile with
  | none =>
    let d1 := if p.ue then (set { p with ue := false } d).raise 0x0901 sevMajor 0 [f8 (0x400400000000 + 8 * i), fByte (Config.eccCode 5)] else d
    (true, if p.base = 0xFFFFFFFF then d1 else d1.countPair p.base len)
  | some f =>
    let r : Bool × Dev :=
      if p.ue then
        (true, (set { p with ue := false, bucket := Bucket.full f.cbs d.now } d).raise 0x0901 sevMajor 0
          [f8 (0x400400000000 + 8 * i), fByte (Config.eccCode 5)])
      else
        let o := p.bucket.offer f.cir f.cbs d.now (if f.add20 then len + 20 else len)
        (o.1, set { p with bucket := o.2 } d)
    (r.1, if p.base = 0xFFFFFFFF then r.2 else r.2.countPair (if r.1 then p.base else p.base + 1) len)

/-! ### Punts (R496, R497) -/

/-- What Table 15.14 says of a punted frame. -/
structure PuntInfo where
  trap : Nat
  reason : Nat
  cls : Nat
  gport : Nat
  len : Nat
  data : Bytes
  pipeline : Nat
  egress : Bool
  vrf : Nat
  arrived : Int
  nh : Nat
  /-- Most bytes stored (256 for an MTU copy). -/
  most : Nat

/-- The slot header of Table 15.14. -/
def puntHeader (i : PuntInfo) (phase : Bool) (stored seq : Nat) : Bytes :=
  le 1 (b2n phase + 2 * b2n (decide (stored < i.len))) ++ le 1 i.trap ++ le 1 i.reason ++ le 1 i.cls ++ le 4 i.gport ++
  le 2 i.len ++ le 2 stored ++ le 1 i.pipeline ++ le 1 (b2n i.egress) ++ le 2 i.vrf ++ ts12 i.arrived ++ le 4 i.nh ++ le 4 seq ++
  List.replicate 28 0

/-- A count of punt ring `r` (Table 15.19). -/
def puntCounted (d : Dev) (r : Nat) (f : PktCount → PktCount) : Dev :=
  { d with hif := { d.hif with puntCount := tset d.hif.puntCount {} r (f (tgetD d.hif.puntCount {} r)) } }

/-- A frame is punted: trap policer, ring policer, slot (R496, R497). -/
def punt (d : Dev) (i : PuntInfo) : Dev :=
  match tget d.hif.trapRing i.trap, tget d.hif.trapPol i.trap with
  | some r, some tp =>
    let o := tp.offer d.now i.len
    let d1 : Dev := { d with hif := { d.hif with trapPol := tput d.hif.trapPol i.trap o.2 } }
    let refuse (x : Dev) : Dev := (x.puntCounted r fun c => { c with polDisc := c.polDisc + 1 }).dropPipe i.pipeline 40 i.len
    if !o.1 then refuse d1
    else
      match tget d.hif.ringPol r with
      | none => refuse d1
      | some rp =>
        let o2 := rp.offer d.now i.len
        let d2 : Dev := { d1 with hif := { d1.hif with ringPol := tput d1.hif.ringPol r o2.2 } }
        if !o2.1 then refuse d2
        else
          match if d.hif.reset.isSome then none else tget d.hif.punt r with
          | none => (d2.puntCounted r fun c => { c with fullDisc := c.fullDisc + 1 }).dropPipe i.pipeline 41 i.len
          | some q =>
            if (q.tail + 1) % q.size = q.head then
              (d2.puntCounted r fun c => { c with fullDisc := c.fullDisc + 1 }).dropPipe i.pipeline 41 i.len
            else
              let stored := min (min i.len (q.slot - 64)) i.most
              let a := q.base + q.slot * q.tail
              let wrap := decide (q.tail + 1 = q.size)
              let q' : PuntRing := { q with
                tail := if wrap then 0 else q.tail + 1, phase := if wrap then !q.phase else q.phase, seq := (q.seq + 1) % 2 ^ 32 }
              let d3 := (d2.emit (.hostWrite (a + 64) (slice i.data 0 stored))).emit
                (.hostWrite a (puntHeader i q.phase stored q.seq))
              let d4 := d3.puntCounted r fun c => { c with frames := c.frames + 1, bytes := c.bytes + i.len }
              ({ d4 with hif := { d4.hif with punt := tput d4.hif.punt r q' } }).setCause (17 + r)
  | _, _ => d.dropPipe i.pipeline 40 i.len

/-! ### CNT_READ (R511) -/

/-- CNT_READ: pairs of 16 bytes, packets then bytes, read and, with the flag, zeroed in one step. -/
def cntRead (c : Cmd) (d : Dev) : Reply :=
  let base := c.f 0 4; let n := c.f 4 4; let fl := c.f 8 1
  let bad := decide (67108863 < base) || n == 0 || decide (1048576 < n) || decide (67108864 < base + n) || decide (1 < fl) ||
    c.dirty 9 23
  check d [(c.bad 0x00, .badHandle), (bad, .badArg)]
    (.done (if fl = 1 then { d with cnt := d.cnt.filter fun p => decide (p.1 < base) || decide (base + n ≤ p.1) } else d)
      { record := some ((List.range n).flatMap fun k =>
          let p := tgetD d.cnt {} (base + k)
          le 8 p.pkts ++ le 8 p.bytes) })

end Dev

/-- CNT_READ, opcode 0x0211. -/
def execCntRead (src : Src) (s : State) : Out := s.onDev (Dev.runCmd 0x0211 src Dev.cntRead)

end Sys2Proof.Machine
end

