-- ==== Sys2Proof/Machine/LineCoding.lean ====
section
/-! DEFINITION. What a lane carries symbol by symbol: the L400 transmit chain and its reverse (R46, Table 2.3), the L400 training frame (R49,
Table 2.4), and the dealing of the Seldanic 3.2T PCS (R44). -/

namespace Sys2Proof.Machine

/-- A codeword of RS(544,514): 544 symbols of 10 bits. -/
abbrev Codeword := List (BitVec 10)

/-- A PAM4 level. -/
abbrev Level := Fin 4

/-! ### The 3.2T PCS (R44) -/

/-- Blocks dealt alternately to PCS instances 0 and 1, starting with instance 0. -/
def deal3200 {α : Type} : List α → List α × List α
  | [] => ([], [])
  | [a] => ([a], [])
  | a :: b :: r => let x := deal3200 r; (a :: x.1, b :: x.2)

/-- The blocks of the two instances back in their order. -/
def merge3200 {α : Type} : List α → List α → List α
  | a :: r, b :: s => a :: b :: merge3200 r s
  | r, [] => r
  | [], s => s

/-- The lanes of PCS instance `i` of the 3.2T port on lane `n`. -/
def lanes3200 (n i : Nat) : List Nat := (List.range 4).map fun k => n + 4 * i + k

/-- The skew that a receiver tolerates between the instances of a 3.2T port, between the lanes of an L400 port and between OTUC slices, in
ns (R44, R48, R72). -/
def skewOk (ns : Nat) : Bool := decide (ns ≤ 100)

/-! ### The L400 transmit chain (Table 2.3) -/

/-- Step 1: groups of four consecutive codewords; codewords that do not fill a group wait. -/
def groups4 {α : Type} : List α → List (List α)
  | a :: b :: c :: d :: r => [a, b, c, d] :: groups4 r
  | _ => []

/-- The lane of group `g` of the port on lane `n` of width `w`. -/
def groupLane (n w g : Nat) : Nat := n + g % w

/-- The groups of a port's codewords that go to its lane of index `k`. -/
def laneGroups (w k : Nat) (cs : List Codeword) : List (List Codeword) :=
  let gs := groups4 cs
  ((List.range gs.length).filter fun g => g % w == k).map fun g => gs.getD g []

/-- Step 2: the symbols of a group, c0 s0, c1 s0, c2 s0, c3 s0, c0 s1 and so on. -/
def interleave (g : List Codeword) : List (BitVec 10) := (List.range 544).flatMap fun i => g.map fun c => c.getD i 0

/-- A symbol's bits, the most significant first. -/
def symBits (s : BitVec 10) : List Bool := (List.range 10).map fun k => s.getLsbD (9 - k)

/-- Step 3: a pair of bits as a Gray-coded level. -/
def grayLevel (hi lo : Bool) : Level := match hi, lo with | false, false => 0 | false, true => 1 | true, true => 2 | true, false => 3

/-- The levels of a run of bits. -/
def grayLevels : List Bool → List Level
  | a :: b :: r => grayLevel a b :: grayLevels r
  | _ => []

/-- Step 4, the inner code: y(k) = (x(k) + y(k−1)) mod 4, from y(−1) = `y`. -/
def accumulate (y : Level) : List Level → List Level
  | [] => []
  | x :: r => (x + y) :: accumulate (x + y) r

/-- What a lane of index `k` of a port of width `w` sends from its first data symbol after training on (R46). -/
def l400Send (w k : Nat) (cs : List Codeword) : List Level :=
  accumulate 0 (grayLevels ((laneGroups w k cs).flatMap fun g => (interleave g).flatMap symBits))

/-! ### The reverse (R46) -/

/-- The inner code undone: x(k) = (y(k) − y(k−1)) mod 4. -/
def differences (y : Level) : List Level → List Level
  | [] => []
  | z :: r => (z - y) :: differences z r

/-- The bits of a level. -/
def grayBits (x : Level) : List Bool := match x with | 0 => [false, false] | 1 => [false, true] | 2 => [true, true] | 3 => [true, false]

/-- A symbol from ten bits, the most significant first. -/
def bitsSym (l : List Bool) : BitVec 10 := BitVec.ofNat 10 (l.foldl (fun n b => 2 * n + b2n b) 0)

/-- Ten bits at a time. -/
def bitsSyms (n : Nat) (l : List Bool) : List (BitVec 10) := (List.range n).map fun i => bitsSym ((l.drop (10 * i)).take 10)

/-- The four codewords of a group from its 2,176 symbols. -/
def deinterleave (l : List (BitVec 10)) : List Codeword :=
  (List.range 4).map fun j => (List.range 544).map fun i => l.getD (4 * i + j) 0

/-- The groups that a lane's levels hold, `n` of them. -/
def l400Receive (n : Nat) (l : List Level) : List (List Codeword) :=
  let bits := (differences 0 l).flatMap grayBits
  (List.range n).map fun g => deinterleave (bitsSyms 2176 (bits.drop (21760 * g)))

/-- A codeword with `e` symbol errors and `f` erasures is corrected (R47). -/
def rsCorrects (e f : Nat) : Bool := decide (2 * e + f ≤ 30)

/-! ### The L400 training frame (Table 2.4) -/

namespace Dev

/-- Even parity of a 32-bit field over bits 31:1 in bit 0 (R49). -/
def parityOk (w : BitVec 32) : Bool := ((List.range 32).filter w.getLsbD).length % 2 == 0

/-- A word with even parity in bit 0 (R49). -/
def withParity (n : Nat) : BitVec 32 :=
  let w := BitVec.ofNat 32 (n - n % 2)
  if parityOk w then w else w ||| 1

end Dev

/-- The 8 symbols of a control or status bit. -/
def bitLevels (b : Bool) : List Level := if b then [3, 3, 3, 3, 0, 0, 0, 0] else [0, 0, 0, 0, 3, 3, 3, 3]

/-- The 256 symbols of a field, bit 31 first. -/
def fieldLevels (w : BitVec 32) : List Level := (List.range 32).flatMap fun k => bitLevels (w.getLsbD (31 - k))

/-- Symbols of the pattern in a frame, and the period of PRBS13Q. -/
def patternLen : Nat := 7616
def prbsPeriod : Nat := 8191

/-- The 8,192 symbols of a training frame whose pattern begins at symbol `phase` of PRBS13Q. -/
def trainingSymbols (control status : BitVec 32) (phase : Nat) : List Level :=
  List.replicate 32 3 ++ List.replicate 32 0 ++ fieldLevels control ++ fieldLevels status ++
    (List.range patternLen).map fun k => Config.prbs13q ((phase + k) % prbsPeriod)

/-- A run of frames, each pattern continuing from the previous frame's. -/
def trainingRun (phase : Nat) : List (BitVec 32 × BitVec 32) → List Level
  | [] => []
  | f :: r => trainingSymbols f.1 f.2 phase ++ trainingRun ((phase + patternLen) % prbsPeriod) r

/-- The field that 256 received symbols spell. -/
def levelsField (l : List Level) : BitVec 32 :=
  BitVec.ofNat 32 ((List.range 32).foldl (fun n k => 2 * n + b2n (decide (2 ≤ (l.getD (8 * k) 0).val))) 0)

/-- The control and status fields of a received frame; a field whose parity fails is discarded. -/
def frameFields (l : List Level) : Option (BitVec 32) × Option (BitVec 32) :=
  let get (off : Nat) : Option (BitVec 32) :=
    let w := levelsField ((l.drop off).take 256)
    if Dev.parityOk w then some w else none
  (get 64, get 320)

end Sys2Proof.Machine
end

