-- ==== Sys2Proof/Machine/Ports.lean ====
section
/-! DEFINITION. Ports and lanes: object states, L400 training, negotiation, measurement, defects and protection
(R41-R69, R657, R70-R86). -/

namespace Sys2Proof.Machine
namespace Dev

/-! ### Access -/

def getPort (d : Dev) (p : Nat) : Port := tgetD d.port {} p
def setPort (d : Dev) (p : Nat) (q : Port) : Dev := { d with port := tset d.port {} p q }
def modPort (d : Dev) (p : Nat) (f : Port → Port) : Dev := d.setPort p (f (d.getPort p))
def getLane (d : Dev) (l : Nat) : Lane := tgetD d.lane {} l
def setLane (d : Dev) (l : Nat) (x : Lane) : Dev := { d with lane := tset d.lane {} l x }
def modLane (d : Dev) (l : Nat) (f : Lane → Lane) : Dev := d.setLane l (f (d.getLane l))

/-- The lanes of port `p` (R43). -/
def lanesOf (d : Dev) (p : Nat) : List Nat := (List.range (d.getPort p).width).map (p + ·)

/-- The port that lane `l` belongs to, if any (R43). -/
def portOf (d : Dev) (l : Nat) : Option Nat :=
  [1, 2, 4, 8].findSome? fun w => if (d.getPort (l - l % w)).width = w then some (l - l % w) else none

/-- `f` done to every lane of port `p`. -/
def modLanes (d : Dev) (p : Nat) (f : Lane → Lane) : Dev := (d.lanesOf p).foldl (fun x l => x.modLane l f) d

def portHandle (p : Nat) : Nat := handle 0x01 p

/-- Raise a port event (R69, R99). -/
def raisePort (d : Dev) (p type sev : Nat) (detail : List Fld) : Dev := d.raise type sev (portHandle p) detail

/-- The mode a port runs: the resolved one, else the one PORT_SET_MODE named. -/
def portMode (q : Port) : Nat := q.resolved.getD q.laneMode

/-- Rate of a port in Gbit/s (Table 2.2). -/
def portRate (q : Port) : Nat := q.width * (100 * 2 ^ portMode q)

def bLos : Nat := 0
def bLof : Nat := 1
def bLom : Nat := 2
def bAis : Nat := 3
def bBdi : Nat := 4
def bTim : Nat := 5
def bLoa : Nat := 6
def bLf : Nat := 7
def bRf : Nat := 8

/-- The bit of a defect in Table 3.11. -/
def defectBit : Defect → Nat
  | .los => 0 | .lof => 1 | .lom => 2 | .ais => 3 | .bdi => 4 | .tim => 5 | .loa => 6 | .lf => 7 | .rf => 8

/-! ### Masks and switching defects (R79, Table 3.5, Table 3.4) -/

/-- The defects a present defect masks (Table 3.5). -/
def maskOf (raw : BitVec 9) : BitVec 9 :=
  (if raw.getLsbD 0 then 0x1FE else 0) ||| (if raw.getLsbD 1 then 0x03C else 0) ||| (if raw.getLsbD 2 then 0x020 else 0) |||
  (if raw.getLsbD 3 then 0x030 else 0) ||| (if raw.getLsbD 6 then 0x180 else 0) ||| (if raw.getLsbD 7 then 0x100 else 0)

/-- The reported defect word, bits 8:0 (R79). -/
def reported (q : Port) : BitVec 9 := q.raw &&& ~~~(maskOf q.raw)

/-- The switching defects of a port (Table 3.4): all, TIM only with tim_action = 1. -/
def switchMask (q : Port) : BitVec 9 := if q.timAction then 0x1FF else 0x1DF

/-- A switching defect is present. -/
def switching (q : Port) : Bool := q.raw &&& switchMask q != 0

/-- The raw defects as the second's classification counts them: TIM only with comparison on (Table 3.6). -/
def counted (q : Port) : BitVec 9 := if q.ttiMode = 0 then q.raw &&& 0x1DF else q.raw

/-- The defects that take the link down (R82): LOS, LOF, loss of alignment. -/
def cutting (raw : BitVec 9) : Bool := raw &&& 0x043 != 0

/-! ### Raw states that feed the defects (R72, R77) -/

/-- The fast codeword trigger of one lane (R77). -/
def laneFast (x : Lane) (now : Nat) : Bool :=
  match x.uncorrSince with
  | some t => decide (t + usT 10 ≤ now)
  | none => false

/-- The fast codeword trigger of a port (R77). -/
def fastCw (d : Dev) (p : Nat) : Bool := (d.lanesOf p).any fun l => laneFast (d.getLane l) d.now

/-- No fast codeword trigger for the last `t` ticks. -/
def noFastFor (d : Dev) (p t : Nat) : Bool :=
  !d.fastCw p && (d.lanesOf p).all fun l => match (d.getLane l).fastEnd with
    | some e => decide (e + t ≤ d.now) | none => true

/-- Whether two strings of 64 bytes agree on the compared part (R75). -/
def ttiMatch (mode : Nat) (a b : Bytes) : Bool :=
  match mode with
  | 0 => true
  | 1 => a.take 16 == b.take 16
  | 2 => (a.drop 16).take 16 == (b.drop 16).take 16
  | _ => a.take 32 == b.take 32

/-- The time of 128 columns of 32 bits at the port's rate (Table 3.4). -/
def columns128 (q : Port) : Nat := nsT 4096 / portRate q

/-- The entry criterion of a defect holds (Table 3.4). -/
def defectEntry (d : Dev) (p : Nat) (x : Defect) : Bool :=
  let q := d.getPort p
  match x with
  | .los => (d.lanesOf p).any fun l => !(d.getLane l).signal && decide ((d.getLane l).sigSince + usT 10 ≤ d.now)
  | .lof => q.otucn && ((q.oof && decide (q.oofSince + usT 10 ≤ d.now)) || d.fastCw p)
  | .lom => q.otucn && q.oom && decide (q.oomSince + usT 10 ≤ d.now)
  | .ais => q.otucn && decide (3 ≤ q.aisRun)
  | .bdi => q.otucn && decide (5 ≤ q.bdiRun)
  | .tim => q.otucn && !ttiMatch q.ttiMode q.accTti q.expTti
  | .loa => !q.otucn && (((d.lanesOf p).any fun l => !(d.getLane l).blockLock || !(d.getLane l).amLock) || d.fastCw p)
  | .lf => !q.otucn && decide (4 ≤ q.lfCols.length) && decide (d.now < q.lfTick + columns128 q)
  | .rf => !q.otucn && decide (4 ≤ q.rfCols.length) && decide (d.now < q.rfTick + columns128 q)

/-- The exit criterion of a defect holds (Table 3.4). -/
def defectExit (d : Dev) (p : Nat) (x : Defect) : Bool :=
  let q := d.getPort p
  let cols := columns128 q
  match x with
  | .los => (d.lanesOf p).all fun l => (d.getLane l).signal && decide ((d.getLane l).sigSince + msT 1 ≤ d.now)
  | .lof => !q.oof && decide (q.oofSince + msT 3 ≤ d.now) && d.noFastFor p (msT 3)
  | .lom => !q.oom && decide (q.oomSince + msT 3 ≤ d.now)
  | .ais => decide (3 ≤ q.aisOff)
  | .bdi => decide (5 ≤ q.bdiOff)
  | .tim => ttiMatch q.ttiMode q.accTti q.expTti
  | .loa => ((d.lanesOf p).all fun l => (d.getLane l).blockLock && (d.getLane l).amLock &&
      decide ((d.getLane l).lockSince + msT 1 ≤ d.now)) && d.noFastFor p (msT 1)
  | .lf => decide (q.lfTick + cols ≤ d.now)
  | .rf => decide (q.rfTick + cols ≤ d.now)

/-! ### Protection (R83-R86) -/

/-- The port becomes protection-down now, for a defect bit, its port state or its pipeline's (15), or a command (16) (R83, R124,
R126; log 20). -/
def protect (d : Dev) (p cause : Nat) : Dev :=
  let q := d.getPort p
  if q.protDown then d
  else (((d.setPort p { q with protDown := true, protSince := d.now }).raisePort p 0x0108 sevMajor [fByte cause]).announcePort p true).liveCheck

/-- The port leaves protection-down now (R85). -/
def unprotect (d : Dev) (p : Nat) : Dev :=
  let q := d.getPort p
  if q.protDown then
    (((d.setPort p { q with protDown := false, protSince := d.now, wtrDue := none, firstUp := false }).raisePort p 0x0109 sevInfo
      [f8 ((d.now - q.protSince) / 65536)]).announcePort p false).liveCheck
  else d

/-- Nothing but a defect holds the port protection-down: its pipeline is RUNNING and no command forces it (R124, R126). -/
def mayRelease (d : Dev) (p : Nat) : Bool := d.pipeUp p && !(d.getPort p).forced && !(d.getMac p).closed

/-- After a port, or its pipeline, entered RUNNING, it leaves protection-down with the link up and no switching defect (R85,
R124). -/
def firstRelease (d : Dev) (p : Nat) : Dev :=
  let q := d.getPort p
  if q.firstUp && q.link = .up && !switching q && d.mayRelease p then d.unprotect p else d

/-- The port holds a usable transmit SA and a usable receive SA (R633, R634). -/
def macHolds (m : Mac) : Bool :=
  (m.sa.any fun x => decide (x.1 < 4) && !x.2.exhausted) && (m.sa.any fun x => decide (4 ≤ x.1) && !x.2.exhausted)

/-- Fail-closed brought up to date (R634): entered with protection-down under cause code 17 (log 20), left at once where nothing else holds
the port; `cause` 0 no SA, 1 zeroised. -/
def macEval (d : Dev) (p cause : Nat) : Dev :=
  let m := d.getMac p
  let c := m.on && !macHolds m
  if c = m.closed then d
  else
    let d1 := d.putMac p { m with closed := c }
    if c then (d1.protect p 17).raisePort p 0x0B01 sevMajor [fByte 0, fByte cause]
    else
      let q := d1.getPort p
      let d2 := d1.raisePort p 0x0B01 sevInfo [fByte 1, fByte cause]
      if q.obj.st = .running && q.link = .up && !switching q && q.wtrDue.isNone && d2.mayRelease p then d2.unprotect p else d2

/-! ### Link and detection cycle (R52-R58, R82) -/

/-- What LOS, LOF and loss of alignment would look at is whole: signal on every lane, no fast codeword trigger, and the port in frame or every
lane in lock (Table 3.4, R77). -/
def aligned (d : Dev) (p : Nat) : Bool :=
  let q := d.getPort p
  ((d.lanesOf p).all fun l => let x := d.getLane l; x.signal && (q.otucn || (x.blockLock && x.amLock))) && !(q.otucn && q.oof) && !d.fastCw p

/-- The link comes up when data flows and no link-cutting defect is present, declared or about to be (R82). -/
def tryLinkUp (d : Dev) (p : Nat) : Dev :=
  let q := d.getPort p
  if q.obj.st = .running && q.trained && q.link != .up && !cutting q.raw && d.aligned p then
    ((d.setPort p { q with link := .up }).raisePort p 0x0100 sevInfo
      [fByte (portMode q), fByte (q.partnerAb.getD 0)]).firstRelease p
  else d

/-- The measurements of port `p` that run end with CANCELLED (R61). -/
def cancelMeasures (d : Dev) (p : Nat) : Dev :=
  (d.finish 0x0105 (portHandle p) { status := .cancelled }).finish 0x0106 (portHandle p) { status := .cancelled }

/-- A link that is up goes down with a cause of Table 2.12. -/
def linkDown (d : Dev) (p cause : Nat) : Dev :=
  if (d.getPort p).link = .up then
    ((d.modPort p fun q => { q with link := .down }).raisePort p 0x0101 sevMajor [fByte cause]).cancelMeasures p
  else d.modPort p fun q => { q with link := .down }

/-- The code of a width in a training frame (Table 2.5). -/
def widthCode (w : Nat) : Nat := match w with | 1 => 0 | 2 => 1 | 4 => 2 | _ => 3

/-- Training of a lane begun anew: nothing received, taps at preset; a lane that decodes no codeword has no lock (R77). -/
def laneFresh (step : Nat) (now : Nat) (x : Lane) : Lane :=
  { x with step := step, abCount := 0, abId := none, taps := [0, 0, 0, 0], tapReq := [0, 0, 0, 0], tapStatus := [0, 0, 0, 0]
           rxReady := false, peerReady := false, countdown := 7, blockLock := false, amLock := false, amHits := 0, amMiss := 0
           lockSince := if x.blockLock || x.amLock then now else x.lockSince, uncorrSince := some (x.uncorrSince.getD now) }

/-- A lane of the port decodes no codeword: an OTUCn port is out of frame (R72, R77). -/
def outOfFrame (now : Nat) (q : Port) : Port := if q.otucn && !q.oof then { q with oof := true, oofSince := now } else q

/-- The ABILITY frames of a port on its lane of index `i` (Table 2.5): every width is supported (R43; log 119). -/
def abilityControl (i w : Nat) : BitVec 32 := withParity (i * 2 ^ 27 + widthCode w * 2 ^ 25 + 7 * 2)
def abilityStatus (id : Nat) : BitVec 32 := withParity (2 * id)

/-- Step 1 of Table 2.6 begins: every lane sends ABILITY frames. -/
def startAbility (d : Dev) (p : Nat) : Dev :=
  let q := d.getPort p
  let d1 := (d.setPort p (outOfFrame d.now { q with
    cycle := .ability, trained := false, anyAbility := false, loopRaised := false, stepDue := some (d.now + msT 20) })).modLanes p
    (laneFresh 1 d.now)
  (d.lanesOf p).foldl (fun (x : Dev) l => x.emit (.laneFrame l 0 (abilityControl (l - p) q.width) (abilityStatus q.identity))) d1

/-- Clause 73 auto-negotiation begins, with the technology abilities of the allowed modes at the port's width and medium (R54). -/
def startAutoneg (d : Dev) (p : Nat) : Dev :=
  let q := d.getPort p
  ((d.setPort p (outOfFrame d.now { q with
    cycle := .autoneg, trained := false, resolved := none, stepDue := some (d.now + msT 500) })).modLanes p (laneFresh 0 d.now)).emit
    (.page p (q.allowed % 4) q.width q.cr)

/-- The detection cycle of a RUNNING port begins (R54): with negotiation off the named mode alone runs, and L100 and L200 send
data at once. -/
def startCycle (d : Dev) (p : Nat) : Dev :=
  let q := d.getPort p
  if q.obj.st != .running then d
  else if !q.negotiate then
    if q.laneMode = 2 then (d.setPort p { q with resolved := some 2 }).startAbility p
    else (d.setPort p { q with cycle := .none, trained := true, resolved := some q.laneMode, stepDue := none }).tryLinkUp p
  else if bit q.allowed 2 then d.startAbility p else d.startAutoneg p

/-- EV_PORT_NO_COMMON_MODE, once for a combination of partner abilities and allowed set (R57). -/
def noCommonMode (d : Dev) (p ab : Nat) : Dev :=
  let q := d.getPort p
  if q.ncRaised = some (ab, q.allowed) then d
  else (d.setPort p { q with ncRaised := some (ab, q.allowed) }).raisePort p 0x0104 sevMinor [fByte ab, fByte q.allowed]

/-- The 100 ms wait before step 1 again (R53). The link state is left as it was: it reads training from step 3, or from clause 73 link training,
until the link comes up or goes down (DESIGN CHOICE, log 120). -/
def restartWait (d : Dev) (p : Nat) : Dev :=
  d.modPort p fun q => { q with cycle := .restartWait, stepDue := some (d.now + msT 100) }

/-- The lane index and width of a control word match lane `i` of a port of width `w` (Table 2.5). -/
def abMatches (control i w : Nat) : Bool := control / 2 ^ 27 % 8 == i && control / 2 ^ 25 % 4 == widthCode w

/-- Two bits per tap packed from pre2 down. -/
def tapWord (l : List Nat) : Nat := l.foldl (fun n b => 4 * n + b) 0

/-- The partner abilities that the control word of an ABILITY frame gives: L400 in bit 2 as Table 2.10 has it, its widths 2, 4 and 8 in bits
3 to 5 (Table 2.5; log 119). -/
def l400Abilities (control : Nat) : Nat := 4 + 8 * (control / 2 % 8)

/-- The TRAIN or READY frame a lane sends (Table 2.5); `preset` asks for the preset of all taps. -/
def sendTrain (d : Dev) (p l : Nat) (preset : Bool) : Dev :=
  let x := d.getLane l
  let ready := 4 ≤ x.step
  let control := (if ready then 2 else 1) * 2 ^ 30 + (l - p) * 2 ^ 27 + widthCode (d.getPort p).width * 2 ^ 25 + b2n preset * 2 ^ 24 +
    tapWord x.tapReq * 2 ^ 16
  let status := b2n x.rxReady * 2 ^ 31 + (if ready then x.countdown else 7) * 2 ^ 28 + tapWord x.tapStatus * 2 ^ 20
  d.emit (.laneFrame l (if ready then 2 else 1) (withParity control) (withParity status))

/-- Step 2 of Table 2.6, once every lane has its three frames (R52, R53, R57). -/
def abilityCheck (d : Dev) (p : Nat) : Dev :=
  let q := d.getPort p
  let ls := d.lanesOf p
  if !(ls.all fun l => decide (3 ≤ (d.getLane l).abCount)) then d
  else
    match ls.find? fun l => (d.getLane l).abId == some q.identity with
    | some l =>
      let d1 := (d.setPort p { q with loopRaised := true }).modLanes p fun x => { x with abCount := 0 }
      if q.loopRaised then d1 else d1.raisePort p 0x0106 sevMajor [fIdx l]
    | none =>
      let id := (d.getLane p).abId
      let ab := l400Abilities (d.getLane p).abControl
      let d1 := if q.partnerId.isSome && id != q.partnerId then d.raisePort p 0x0102 sevMinor [fByte (q.partnerAb.getD 0), fByte ab] else d
      let d2 := d1.modPort p fun r => { r with partnerAb := some ab, partnerId := id }
      if !(ls.all fun l => abMatches (d.getLane l).abControl (l - p) q.width) then (d2.noCommonMode p ab).restartWait p
      else
        let d3 := (d2.modPort p fun r => { r with
          cycle := .train, link := .training, resolved := some 2, stepDue := some (d.now + msT 400) }).modLanes p fun x => { x with step := 3 }
        ls.foldl (fun (x : Dev) l => x.sendTrain p l false) d3

/-- A valid ABILITY frame counted on lane `l` of port `p`. -/
def abilityCount (d : Dev) (p l : Nat) (control : Nat) (id : Nat) : Dev :=
  ((d.modLane l fun x => { x with abCount := x.abCount + 1, abControl := control, abId := some id }).modPort p fun q =>
    { q with anyAbility := true }).abilityCheck p

/-- ABILITY_FRAME (R49-R53, R57): a frame during step 3 or 4, or after data has begun, restarts training. -/
def abilityFrame (l : Nat) (control status : BitVec 32) (d : Dev) : Dev :=
  match d.portOf l with
  | none => d
  | some p =>
    let q := d.getPort p
    let id := status.toNat / 2
    if q.obj.st != .running then d
    else if !parityOk control || !parityOk status || control.toNat / 2 ^ 30 != 0 then
      if q.cycle = .ability then d.modLane l fun x => { x with abCount := 0 } else d
    else
      let inL400 := q.cycle = .train || q.cycle = .ready || (q.trained && portMode q = 2)
      if q.cycle = .ability then d.abilityCount p l control.toNat id
      else if !inL400 then d
      else if some id = q.partnerId then ((d.linkDown p 4).startAbility p).abilityCount p l control.toNat id
      else
        let ab := l400Abilities control.toNat
        let d1 := (d.raisePort p 0x0102 sevMinor [fByte (q.partnerAb.getD 0), fByte ab]).modPort p fun r =>
          { r with partnerId := some id, partnerAb := some ab }
        ((d1.linkDown p 1).startAbility p).abilityCount p l control.toNat id

/-- Our answer to one tap request, and the tap (R51): a request is applied once, and shown until it returns to hold. -/
def tapAnswer (k req status : Nat) (tap : Int) : Nat × Int :=
  match req with
  | 0 => (0, tap)
  | r =>
    if status != 0 then (status, tap)
    else
      let t := if r = 1 then tap + 1 else tap - 1
      if r = 3 then (0, tap) else if Config.tapAtLimit k t then (2, tap) else (1, t)

/-- Our request for a tap: held until the partner answers it, then released, then a new one when the partner's status is
back (R51). -/
def tapAsk (mine theirs wanted : Nat) : Nat := if mine != 0 then (if theirs != 0 then 0 else mine) else if theirs = 0 then wanted else 0

/-- Two bits of `n` for tap `k`, pre2 first. -/
def tapBits (n k : Nat) : Nat := n / 4 ^ (3 - k) % 4

/-- The partner's requests and preset request answered (R51, Table 2.5). -/
def tapServe (control : Nat) (x : Lane) : Lane :=
  let reqs := control / 2 ^ 16 % 256
  let base : List Int := if bit control 24 then [0, 0, 0, 0] else x.taps
  let ans := (List.range 4).map fun k => tapAnswer k (tapBits reqs k) (x.tapStatus.getD k 0) (base.getD k 0)
  { x with taps := ans.map (·.2), tapStatus := ans.map (·.1) }

/-- Our requests after the partner's status (R51), and its receiver's readiness. -/
def tapSeek (status adapt : Nat) (x : Lane) : Lane :=
  let sts := status / 2 ^ 20 % 256
  { x with tapReq := (List.range 4).map fun k => tapAsk (x.tapReq.getD k 0) (tapBits sts k) (tapBits adapt k), peerReady := bit status 31 }

/-- Every lane of a port has ended its training: data starts on all lanes together (R52). -/
def dataStart (d : Dev) (p : Nat) : Dev :=
  if (d.lanesOf p).all fun l => (d.getLane l).step == 5 then
    ((d.modPort p fun q => { q with cycle := .none, trained := true, stepDue := none }).modLanes p fun x =>
      { x with step := 0 }).tryLinkUp p
  else d

/-- A lane after one frame period of step 3, 4 or 5 (R51, R52): the fields received whole are obeyed, the receiver may become ready, and the
countdown moves on by one frame of our own. -/
def laneTrain (control status : BitVec 32) (adapt : Nat) (rxReady : Bool) (x : Lane) : Lane :=
  let y := if parityOk control then tapServe control.toNat x else x
  let z := if parityOk status then tapSeek status.toNat adapt y else y
  if 4 ≤ x.step then { z with countdown := x.countdown - 1 }
  else if rxReady || x.rxReady then { z with rxReady := true, step := 4, countdown := 7 }
  else z

/-- A TRAIN or READY frame received (R49-R52). `kind` is its type; `adapt` is what the receiver wants: tap requests in bits 7:0 and the preset
in bit 8; `rxReady` tells that it is ready. Each frame received is answered by one frame sent; a field whose parity fails is discarded and
the other is used (log 119). After our frame with countdown 0, with both receivers ready, the lane's training has ended. -/
def trainKind (kind l : Nat) (control status : BitVec 32) (adapt : BitVec 9) (rxReady : Bool) (d : Dev) : Dev :=
  match d.portOf l with
  | none => d
  | some p =>
    let q := d.getPort p
    if q.obj.st != .running || !(q.cycle = .train || q.cycle = .ready) || (parityOk control && control.toNat / 2 ^ 30 != kind) then d
    else
      let d1 := d.modLane l (laneTrain control status adapt.toNat rxReady)
      let all := (d.lanesOf p).all fun k => decide (4 ≤ (d1.getLane k).step)
      let d2 := (d1.modPort p fun r => { r with cycle := if all then .ready else .train }).sendTrain p l (adapt.getLsbD 8)
      let x := d2.getLane l
      if x.step = 4 && x.countdown = 0 && x.rxReady && x.peerReady then (d2.modLane l fun y => { y with step := 5 }).dataStart p else d2

/-- TRAIN_FRAME (R51, R52). -/
def trainFrame : Nat → BitVec 32 → BitVec 32 → BitVec 9 → Bool → Dev → Dev := trainKind 1

/-- READY_FRAME (R52). -/
def readyFrame : Nat → BitVec 32 → BitVec 32 → BitVec 9 → Bool → Dev → Dev := trainKind 2

/-- ABILITY_TIMEOUT (R53). Where some valid ABILITY frames have come, but not three on every lane, the port stays at step 1 and goes on sending
them, with no further bound (DESIGN CHOICE, log 120). -/
def abilityTimeout (p : Nat) (d : Dev) : Dev :=
  let q := d.getPort p
  if q.obj.st = .running && q.cycle = .ability && due d.now q.stepDue then
    if !q.anyAbility && q.negotiate && q.allowed % 4 != 0 then d.startAutoneg p
    else d.setPort p { q with stepDue := none }
  else d

/-- TRAIN_TIMEOUT (R53). -/
def trainTimeout (p : Nat) (d : Dev) : Dev :=
  let q := d.getPort p
  if q.obj.st = .running && q.cycle = .train && due d.now q.stepDue then
    let l := ((d.lanesOf p).find? fun l => (d.getLane l).step < 4).getD p
    (d.raisePort p 0x0105 sevMinor [fIdx l, fByte (d.getLane l).step]).restartWait p
  else d

/-- TRAINING_RESTART_DELAY (R53). -/
def trainingRestart (p : Nat) (d : Dev) : Dev :=
  let q := d.getPort p
  if q.obj.st = .running && q.cycle = .restartWait && due d.now q.stepDue then d.startAbility p else d

/-- AUTONEG_PAGE (R54, R57). -/
def autonegPage (p : Nat) (abilities : BitVec 3) (page : BitVec 48) (d : Dev) : Dev :=
  let q := d.getPort p
  let ab := abilities.toNat
  if q.obj.st != .running || !q.negotiate then d
  else
    let changed := q.lastPage.isSome && q.lastPage != some page.toNat
    let d1 := if changed then d.raisePort p 0x0102 sevMinor [fByte (q.partnerAb.getD 0), fByte ab] else d
    let d2 := d1.modPort p fun r => { r with partnerAb := some ab, lastPage := some page.toNat }
    let resolve (x : Dev) : Dev :=
      let common := (List.range 2).map fun k => bit ab k && bit q.allowed k
      if common = [false, false] then x.noCommonMode p ab
      else (x.modPort p fun r => { r with
          cycle := .linkTrain, link := .training, resolved := some (if common.getD 1 false then 1 else 0) }).modLanes p
        fun y => { y with step := 3 }
    if q.cycle = .autoneg then resolve d2
    else if changed && (q.cycle = .linkTrain || (q.trained && portMode q < 2)) then (d2.linkDown p 1).startCycle p
    else if q.cycle = .none then d2 else d

/-- AUTONEG_TIMEOUT (R54): the 500 ms have passed with the link not trained, and the cycle repeats (log 120). -/
def autonegTimeout (p : Nat) (d : Dev) : Dev :=
  let q := d.getPort p
  if q.obj.st = .running && (q.cycle = .autoneg || q.cycle = .linkTrain) && due d.now q.stepDue then d.startCycle p else d

/-- CLAUSE_73_LINK_TRAINING (R54): coefficient requests applied, training completes on every lane. -/
def linkTraining (l : Nat) (req : BitVec 8) (complete : Bool) (d : Dev) : Dev :=
  match d.portOf l with
  | none => d
  | some p =>
    let q := d.getPort p
    if q.obj.st != .running || q.cycle != .linkTrain then d
    else
      let d1 := d.modLane l (tapServe (req.toNat * 2 ^ 16))
      let d2 := d1.emit (.ltStatus l (tapWord (d1.getLane l).tapStatus))
      if complete then (d2.modLane l fun x => { x with step := 5 }).dataStart p else d2

/-- PARTNER_GONE_TIMEOUT (R58). -/
def partnerGone (p : Nat) (d : Dev) : Dev :=
  let q := d.getPort p
  if q.obj.st = .running && q.width != 0 && !q.gone &&
      (d.lanesOf p).all fun l => !(d.getLane l).signal && decide ((d.getLane l).sigSince + msT 100 ≤ d.now) then
    (d.setPort p { q with gone := true }).raisePort p 0x0103 sevMinor [] else d

/-- LANE_SIGNAL_CHANGE (R76, R77, R58). A powered-down receiver sees nothing (R45). -/
def laneSignal (l : Nat) (present : Bool) (d : Dev) : Dev :=
  match d.portOf l with
  | none => d
  | some p =>
    let q := d.getPort p
    let x := d.getLane l
    if q.obj.st = .stopped || x.signal = present then d
    else if present then
      let d1 := (d.setLane l { x with signal := true, sigSince := d.now }).synceSquelch
      if q.gone then (d1.setPort p { q with gone := false }).startCycle p else d1.tryLinkUp p
    else ((if q.obj.st = .running then d.setPort p (outOfFrame d.now q) else d).setLane l { x with
      signal := false, sigSince := d.now, blockLock := false, amLock := false, amHits := 0, amMiss := 0
      lockSince := if x.blockLock || x.amLock then d.now else x.lockSince, uncorrSince := some (x.uncorrSince.getD d.now) }).synceSquelch

/-- CODEWORD_RECEIVE (R47, R77): `e` symbol errors and `f` erasures. The corrected-symbol count takes the erased symbols of a corrected codeword
in (DESIGN CHOICE, log 120). -/
def codeword (l e f : Nat) (d : Dev) : Dev :=
  match d.portOf l with
  | none => d
  | some p =>
    let q := d.getPort p
    if q.obj.st = .stopped || !(d.getLane l).signal || !q.trained then d
    else ((d.setPort p (if q.otucn || q.obj.st != .running then q else { q with
        secBlocks := q.secBlocks + 1, secNe := q.secNe + b2n (!rsCorrects e f) })).modLane l fun x =>
      if rsCorrects e f then
        { x with rsCorr := x.rsCorr + e + f, erasures := x.erasures + f, uncorrSince := none
                 fastEnd := if laneFast x d.now then some d.now else x.fastEnd }
      else { x with rsUncorr := x.rsUncorr + 1, erasures := x.erasures + f, uncorrSince := some (x.uncorrSince.getD d.now) }).tryLinkUp p

/-- Consecutive markers found before lock, and missed before it is lost: R48 for L400; for an IEEE lane 2 and 5 (log 17). -/
def markerLoss (q : Port) : Nat := if portMode q = 2 then 3 else 5

/-- ALIGNMENT_MARKER (R48, Table 3.4); at every lane lock the timestamp calibration is measured, `calOk` when it succeeds (R427). -/
def alignmentMarker (l : Nat) (inPlace blockLock calOk : Bool) (d : Dev) : Dev :=
  match d.portOf l with
  | none => d
  | some p =>
    let q := d.getPort p
    let x := d.getLane l
    if q.obj.st = .stopped || !x.signal || !q.trained then d
    else
      let hits := if inPlace then x.amHits + 1 else 0
      let miss := if inPlace then 0 else x.amMiss + 1
      let lock := if x.amLock then decide (miss < markerLoss q) else decide (2 ≤ hits)
      let same := lock = x.amLock && blockLock = x.blockLock
      let fresh := lock && !x.amLock
      let d1 := (d.setLane l { x with amHits := hits, amMiss := miss, amLock := lock, blockLock := blockLock
                                      lockSince := if same then x.lockSince else d.now
                                      calBad := if fresh then !calOk else x.calBad }).synceSquelch
      (if fresh && !calOk then d1.raisePort p 0x0705 sevMajor [fIdx p, fIdx l] else d1).tryLinkUp p

/-- FAULT_ORDERED_SET (Table 3.4): the column of a local-fault or remote-fault sequence. -/
def faultSet (p : Nat) (remote : Bool) (column : Nat) (d : Dev) : Dev :=
  let q := d.getPort p
  if q.obj.st != .running || q.otucn then d
  else
    let keep (l : List Nat) : List Nat := (column :: l.filter fun c => decide (column < c + 128)).take 4
    d.setPort p (if remote then { q with rfCols := keep q.rfCols, rfTick := d.now }
                 else { q with lfCols := keep q.lfCols, lfTick := d.now })

/-! ### OTUCn frames (R72-R75, R80) -/

/-- The trace byte of a frame whose MFAS is `mfas` (R73, R74): a cycle that is cut breaks the run of equal ones. -/
def ttiByte (mfas : Nat) (b : Byte) (q : Port) : Port :=
  let i := mfas % 64
  let whole := q.ttiBuf.length = i
  let buf := if i = 0 then [b] else if whole then q.ttiBuf ++ [b] else []
  let run := if whole then q.ttiSame else 0
  if buf.length = 64 then
    let same := if buf == q.ttiLast then run + 1 else 1
    { q with ttiBuf := [], ttiLast := buf, ttiSame := same, accTti := if 3 ≤ same then buf else q.accTti }
  else { q with ttiBuf := buf, ttiSame := run }

/-- Frame alignment of one frame period (Table 3.2). -/
def alignStep (o : OtucIn) (now : Nat) (q : Port) : Port :=
  let miss := (List.range o.fas.length).map fun k => if o.fas.getD k false then 0 else q.fasMiss.getD k 0 + 1
  let ok := (List.range o.fas.length).map fun k => if o.fas.getD k false then q.fasOk.getD k 0 + 1 else 0
  let oof := if q.oof then !(skewOk o.skewNs && ok.all fun n => decide (2 ≤ n)) else (miss.any fun n => decide (5 ≤ n)) || !skewOk o.skewNs
  let next := !oof && decide (o.mfas = (q.lastMfas + 1) % 256)
  let bad := if next then 0 else q.mfasBad + 1
  let good := if next then q.mfasOk + 1 else 0
  let oom := if q.oom then !(!oof && decide (2 ≤ good)) else decide (5 ≤ bad)
  { q with fasMiss := miss, fasOk := ok, oof := oof, oofSince := if oof = q.oof then q.oofSince else now
           mfasBad := bad, mfasOk := good, oom := oom, oomSince := if oom = q.oom then q.oomSince else now, lastMfas := o.mfas }

/-- The signals a port sends for its defects (R80): 1 section BDI, 2 path BDI, 4 remote fault, for an Ethernet port. -/
def sentFault (q : Port) : Nat :=
  if q.otucn then
    let sm := q.raw &&& 0x007 != 0 || (q.timAction && q.raw.getLsbD 5)
    b2n sm + 2 * b2n (sm || q.raw.getLsbD 3)
  else 4 * b2n (q.raw &&& 0x0C1 != 0)

/-- The OTUC frame a port sends in a frame period (R71, R73, R80): the next MFAS, its trace byte, the BDI bits, the BIP-8 violations of the
received frame as BEI where the port is in frame, and GCC 0. A port in training sends none. -/
def otucSend (p : Nat) (bip8 : List Nat) (d : Dev) : Dev :=
  let q := d.getPort p
  let m := (q.txMfas + 1) % 256
  if !q.trained then d
  else (d.setPort p { q with txMfas := m }).emit
    (.otuc p m (q.txTti.getD (m % 64) 0) (bit (sentFault q) 0) (bit (sentFault q) 1) (if q.oof then bip8.map fun _ => 0 else bip8) 0)

/-- OTUC_FRAME (R72, R74, R80). In a frame period of a lane without signal, or during training, the FAS is absent. -/
def otucFrame (p : Nat) (o0 : OtucIn) (d : Dev) : Dev :=
  let q := d.getPort p
  if q.obj.st != .running || !q.otucn then d
  else
    let dark := !q.trained || (d.lanesOf p).any fun l => !(d.getLane l).signal
    let o : OtucIn := if dark then { o0 with fas := o0.fas.map fun _ => false } else o0
    let a := alignStep o d.now q
    let ais := decide (o.stat = 7)
    let b := { a with
      aisRun := if ais then a.aisRun + 1 else 0, aisOff := if ais then 0 else a.aisOff + 1
      bdiRun := if o.bdi then a.bdiRun + 1 else 0, bdiOff := if o.bdi then 0 else a.bdiOff + 1
      secBlocks := a.secBlocks + o.fas.length, secNe := a.secNe + (o.bip8.filter (0 < ·)).length
      secFe := a.secFe + (o.bei.filter (0 < ·)).length }
    ((d.setPort p (if b.oof || b.oom then { b with ttiBuf := [], ttiSame := 0 } else ttiByte o.mfas o.tti b)).otucSend p o.bip8).tryLinkUp p

/-! ### Defect life (R79, R81, R82, R83) -/

/-- The severity of a defect's event (Table 3.13). -/
def defectSev (q : Port) (b : Nat) : Nat := if (switchMask q).getLsbD b then sevMajor else sevMinor

/-- Declarations of the defects that are reported and not yet declared (R79), lowest bit first. -/
def declareReported (p : Nat) (d : Dev) : Dev :=
  (List.range 9).foldl (fun x b =>
    let q := x.getPort p
    if (reported q).getLsbD b && !q.declared.getLsbD b then
      (x.setPort p { q with declared := q.declared ||| BitVec.ofNat 9 (2 ^ b) }).raisePort p 0x0107 (defectSev q b)
        [fByte b, fByte 0, .u 4 (reported q).toNat]
    else x) d

/-- A switching defect is now present (R83-R86): it stops the wait-to-restore timer; without a hold-off the port becomes protection-down, with
one the defect's own hold-off begins. On a port that a switching defect, its state or a command already holds protection-down it changes
nothing; on one that only the wait-to-restore time held, the port stays protection-down while the hold-off runs (log 121). -/
def switchOn (p b : Nat) (d : Dev) : Dev :=
  let q := d.getPort p
  if !(switchMask q).getLsbD b then d
  else
    let d1 := d.setPort p { q with wtrDue := none }
    if q.protDown && q.wtrDue.isNone then d1
    else if q.holdoffMs = 0 then d1.protect p b
    else d1.modPort p fun r => { r with holdoffDue := r.holdoffDue ++ [(b, d.now + msT q.holdoffMs)] }

/-- The switching defects went from those of `was` to those now present (R84, R85): the hold-off of a defect that no longer switches ends, and
with the last one gone a port that is protection-down for it starts its wait-to-restore timer. -/
def switchOff (p : Nat) (was : Bool) (d : Dev) : Dev :=
  let q := d.getPort p
  let d1 := d.setPort p { q with holdoffDue := q.holdoffDue.filter fun h => (q.raw &&& switchMask q).getLsbD h.1 }
  if was && !switching q && q.protDown && !q.firstUp then d1.modPort p fun r => { r with wtrDue := some (d.now + msT q.wtrMs) } else d1

/-- DEFECT_DECLARE (R76-R84): a RUNNING port whose defect meets its entry criterion. -/
def defectDeclare (p : Nat) (x : Defect) (d : Dev) : Dev :=
  let q := d.getPort p
  let b := defectBit x
  if q.obj.st != .running || q.raw.getLsbD b || !d.defectEntry p x then d
  else
    let raw := q.raw ||| BitVec.ofNat 9 (2 ^ b)
    let cut := cutting raw && !cutting q.raw
    let d1 := (d.setPort p { q with raw := raw, secRaw := q.secRaw ||| counted { q with raw := raw }, persistDue := if cut then some (d.now + msT 1) else q.persistDue }).declareReported p
    let d2 := if b = 0 || b = 1 || b = 6 then d1.linkDown p 0 else d1
    (d2.switchOn p b).emit (.lineSignal p (sentFault { q with raw := raw }))

/-- DEFECT_CLEAR (R79, R82, R85). -/
def defectClear (p : Nat) (x : Defect) (d : Dev) : Dev :=
  let q := d.getPort p
  let b := defectBit x
  if q.obj.st != .running || !q.raw.getLsbD b || !d.defectExit p x then d
  else
    let m := ~~~(BitVec.ofNat 9 (2 ^ b))
    let q1 : Port := { q with raw := q.raw &&& m, declared := q.declared &&& m
                              persistDue := if cutting (q.raw &&& m) then q.persistDue else none
                              lfCols := if b = 7 then [] else q.lfCols, rfCols := if b = 8 then [] else q.rfCols }
    let d1 := d.setPort p q1
    let d2 := if q.declared.getLsbD b then d1.raisePort p 0x0107 (defectSev q b) [fByte b, fByte 1, .u 4 (reported q1).toNat] else d1
    let d3 := (d2.declareReported p).emit (.lineSignal p (sentFault q1))
    (((d3.switchOff p (switching q)).tryLinkUp p)).firstRelease p

/-- LINK_DOWN_PERSIST (R82). -/
def linkDownPersist (p : Nat) (d : Dev) : Dev :=
  let q := d.getPort p
  if q.obj.st = .running && cutting q.raw && due d.now q.persistDue then
    (d.setPort p { q with persistDue := none }).startCycle p else d

/-- HOLDOFF_EXPIRY (R83, R84): the hold-off of the first defect that has waited it out ends, and switches the port. -/
def holdoffExpiry (p : Nat) (d : Dev) : Dev :=
  let q := d.getPort p
  match q.holdoffDue.find? fun h => decide (h.2 ≤ d.now) with
  | none => d
  | some h => (d.setPort p { q with holdoffDue := if q.protDown then q.holdoffDue.filter (· != h) else [] }).protect p h.1

/-- WTR_EXPIRY (R85). -/
def wtrExpiry (p : Nat) (d : Dev) : Dev :=
  if due d.now (d.getPort p).wtrDue && !switching (d.getPort p) && d.mayRelease p then d.unprotect p else d

/-! ### Object state (Table 2.7) -/

/-- What leaving RUNNING does to the defects, the link and the bins of a port (R81, R83, R61, R91). A run of seconds that may change the
availability ends there; the availability itself stays (DESIGN CHOICE, log 122). -/
def leaveRunning (p : Nat) (d : Dev) : Dev :=
  let d1 := ((d.linkDown p 3).cancelMeasures p).modPort p fun q => { q with
    raw := 0, declared := 0, cycle := .none, trained := false, stepDue := none, persistDue := none, holdoffDue := []
    wtrDue := none, firstUp := false, ncRaised := none, gone := false
    secRun := false, oof := false, oom := false, aisRun := 0, aisOff := 0, bdiRun := 0, bdiOff := 0, lfCols := [], rfCols := []
    fasMiss := [], fasOk := [], mfasBad := 0, mfasOk := 0, lastMfas := 0, ttiBuf := [], ttiSame := 0
    near := { q.near with run := [] }, far := { q.far with run := [] } }
  (d1.emit (.lineSignal p 0)).protect p 15

/-- Bins open while a port is not RUNNING are incomplete (R91). -/
def binsIncomplete (p : Nat) (d : Dev) : Dev :=
  let mark (l : List Bin) : List Bin := match l with
    | b :: r => { b with flags := putBit b.flags 3 true } :: r
    | [] => []
  d.modPort p fun q => { q with bins15 := mark q.bins15, binsDay := mark q.binsDay }

/-- A port enters STARTING: it draws its link identity (Table 2.5) and powers its lanes. -/
def portStarting (p : Nat) (d : Dev) : Dev :=
  let v := d.openVal
  let d1 := (v.2.modPort p fun q => { q with identity := v.1.toNat % 2 ^ 31 }).modLanes p fun _ =>
    { power := true, sigSince := d.now, lockSince := d.now, uncorrSince := some d.now }
  (d.lanesOf p).foldl (fun (x : Dev) l => x.emit (.laneDrive l true)) d1

/-- PORT_ENABLE (Table 2.7). -/
def portEnable (c : Cmd) (d : Dev) : Reply :=
  let p := c.hIdx
  let q := d.getPort p
  check d [(c.bad 0x01, .badHandle), (q.width == 0, .notReady)]
    (let r := q.obj.enable d.nowNs
     let d1 := d.setPort p { q with obj := r.obj }
     .done (if r.begins then d1.portStarting p else d1) { status := r.status })

/-- PORT_DISABLE (Table 2.7). -/
def portDisable (c : Cmd) (d : Dev) : Reply :=
  let p := c.hIdx
  let q := d.getPort p
  let r := q.obj.disable d.nowNs (d.now + msT 5)
  check d [(c.bad 0x01, .badHandle)]
    (.done (if q.obj.st = .running then
        ((d.leaveRunning p).modPort p fun x => { x with obj := r.obj }).binsIncomplete p
      else d.setPort p { q with obj := r.obj }) { status := r.status })

/-- LANES_READY (Table 2.7). -/
def lanesReady (p : Nat) (d : Dev) : Dev :=
  let q := d.getPort p
  if q.obj.st = .starting then
    let d1 := d.raiseObj (portHandle p) q.obj .running false 0
    (d1.setPort p { q with obj := q.obj.started d.nowNs, firstUp := true, link := .down
                           oof := q.otucn, oofSince := d.now, oomSince := d.now }).startCycle p
  else d

/-- PORT_STOP_DONE (Table 2.7, R520): the queues are drained or 5 ms have passed; `flush` discards what is left of a port. -/
def portStopDone (flush : Nat → Dev → Dev × Nat) (p : Nat) (d : Dev) : Dev :=
  let q := d.getPort p
  if q.obj.st = .stopping && (!d.portQueued p || due d.now q.obj.due) then
    let bound := d.portQueued p
    let f := flush p d
    let d1 := f.1.raiseObj (portHandle p) q.obj .stopped bound f.2
    let d2 := (d1.modLanes p fun _ => {}).modPort p fun r => { r with obj := r.obj.stopped d.nowNs, link := .down }
    let d3 := (d.lanesOf p).foldl (fun (x : Dev) l => x.emit (.laneDrive l false)) d2
    if q.obj.held then d3.portStarting p else d3
  else d

/-! ### Commands (Table 2.8) -/

/-- A lane of the range is held by another port. -/
def lanesTaken (d : Dev) (p w : Nat) : Bool :=
  (List.range w).any fun k => match d.portOf (p + k) with | some r => r != p | none => false

/-- PORT_SET_MODE (R65, R54, R63). -/
def portSetMode (c : Cmd) (d : Dev) : Reply :=
  let p := c.hIdx
  let q := d.getPort p
  let w := c.f 0 1; let m := c.f 1 1; let fr := c.f 2 1; let md := c.f 3 1
  let rate := w * (100 * 2 ^ m)
  let bad := !([0, 1, 2, 4, 8].contains w) || decide (2 < m) || decide (1 < fr) || decide (1 < md) || c.dirty 4 28 ||
    (w != 0 && (p % w != 0 || d.lanesTaken p w || (fr == 1 && !([400, 800, 1600].contains rate))))
  let new := q.width = 0 || q.laneMode != m || q.otucn != (fr == 1)
  check d [(c.bad 0x01, .badHandle), (bad, .badArg), (q.obj.st != .stopped, .refusedBusy)]
    (.done (if w = 0 then
        (if q.width = 0 then d else d.setPort p { q with width := 0, otucn := false, resolved := none })
      else d.setPort p { q with
        width := w, laneMode := m, otucn := fr == 1, cr := md == 1, resolved := none
        allowed := if new then 2 ^ m else q.allowed, negotiate := if new then false else q.negotiate }) {})

/-- PORT_SET_ABILITIES (R54-R56, R66). -/
def portSetAbilities (c : Cmd) (d : Dev) : Reply :=
  let p := c.hIdx
  let q := d.getPort p
  let al := c.f 0 1; let ng := c.f 1 1
  let bad := al == 0 || decide (8 ≤ al) || decide (1 < ng) || c.dirty 2 30 || (q.otucn && ng == 1)
  let d1 := d.setPort p { q with allowed := al, negotiate := ng == 1 }
  check d [(c.bad 0x01, .badHandle), (bad, .badArg)]
    (.done (if q.obj.st != .running then d1
      else if q.link = .up then
        (if bit al (portMode q) && (ng = 1 || portMode q = q.laneMode) then d1 else (d1.linkDown p 2).startCycle p)
      else d1.startCycle p) {})

/-- PORT_SET_LIMITS (R657). -/
def portSetLimits (c : Cmd) (d : Dev) : Reply :=
  let rx := c.f 0 2; let tx := c.f 2 2
  let bad (n : Nat) : Bool := n != 0 && (decide (n < 64) || decide (16383 < n))
  check d [(c.bad 0x01, .badHandle), (bad rx || bad tx || c.dirty 4 28, .badArg)]
    (.done (d.modPort c.hIdx fun q => { q with
      rxLimit := if rx = 0 then q.rxLimit else rx, txLimit := if tx = 0 then q.txLimit else tx }) {})

/-- PORT_GET_STATUS (R68, R514). -/
def portGetStatus (c : Cmd) (d : Dev) : Reply :=
  let p := c.hIdx
  let q := d.getPort p
  let ls := (d.lanesOf p).map d.getLane
  let link := match q.link with | .down => 0 | .training => 1 | .up => 2
  let lane (x : Lane) : List Fld := x.taps.map f8i ++ [fCnt x.rsCorr, fCnt x.rsUncorr]
  let l400 (x : Lane) : List Fld := [fFlag x.amLock, fCnt x.erasures, fByte x.step]
  check d [(c.bad 0x01, .badHandle)]
    (statusReply c d ([fByte q.obj.st.code, fByte link, fByte (q.resolved.getD (Config.absent 0)), fByte (q.partnerAb.getD 0),
      fIdx (q.partnerId.getD (Config.absent 1))] ++ fArr (ls.map lane) ++ fArr (if portMode q = 2 then ls.map l400 else [])))

/-- A measurement of the port runs (R61). -/
def measuring (d : Dev) (p : Nat) : Bool :=
  (d.startedCmd 0x0105 (·.handle == portHandle p)).isSome || (d.startedCmd 0x0106 (·.handle == portHandle p)).isSome

/-- LANE_MEASURE (R59, R61, R63, R67). Outside RUNNING, where R63 has the device ignore it, the command completes with NOT_READY (DESIGN CHOICE,
log 120). -/
def laneMeasure (c : Cmd) (d : Dev) : Reply :=
  let p := c.hIdx
  let q := d.getPort p
  let v := c.f 0 1
  check d [(c.bad 0x01, .badHandle), ((v != 0 && (decide (v < 40) || decide (100 < v))) || c.dirty 1 31, .badArg),
      (q.obj.st != .running || (d.lanesOf p).any fun l => !(d.getLane l).signal, .notReady), (d.measuring p, .refusedBusy)]
    (.pend d)

/-- A reflection's distance in 0.1 mm: delay in symbol times ÷ 2 ÷ v, v in 0.1 ps/mm, at 53.125, 106.25 or 212.5 GBd (R59). -/
def reflDist (mode v delay : Nat) : Nat :=
  let v := if v = 0 then 67 else v
  min 0xFFFE ((delay * 1600000 / 2 ^ mode + 850 * v) / (1700 * v))

/-- `r` put into a list of reflections, strongest first, behind those as strong. -/
def insertRefl (r : Nat × Int) : List (Nat × Int) → List (Nat × Int)
  | [] => [r]
  | x :: l => if x.2 < r.2 then r :: x :: l else x :: insertRefl r l

/-- The reflections a record may hold: those within 2,048 symbol times of the main cursor, strongest first (R59). -/
def strongest (l : List (Nat × Int)) : List (Nat × Int) := (l.filter fun r => decide (r.1 ≤ 2048)).foldl (fun s r => insertRefl r s) []

/-- One LANE_MEASURE record (Table 2.11). The amplitude of an absent reflection reads 0 (DESIGN CHOICE, log 120). -/
def measureRecord (lane mode v : Nat) (m : LaneMeas) : Bytes :=
  le 2 lane ++ le 2 (min m.il 500) ++
    ((List.range 4).map fun k => match (strongest m.refl)[k]? with
      | some r => le 2 (reflDist mode v r.1) ++ leInt 2 r.2
      | none => le 2 0xFFFF ++ le 2 0).flatten ++
    le 2 m.snr ++ List.replicate 42 0

/-- LANE_MEASURE_DONE (R59, R67): the measured values of each lane, in lane order. -/
def laneMeasureDone (p : Nat) (ms : List LaneMeas) (d : Dev) : Dev :=
  match d.startedCmd 0x0105 (·.handle == portHandle p) with
  | none => d
  | some c =>
    let q := d.getPort p
    if ms.length = q.width then
      d.complete c { record := some ((List.range q.width).flatMap fun k =>
        match ms[k]? with | some m => measureRecord (p + k) (portMode q) (c.f 0 1) m | none => []) }
    else d

/-- The exchanges that PORT_MEASURE_RTT asks for (R60, Table 16.11). -/
def rttCount (c : Cmd) : Nat := if c.f 0 2 = 0 then 16 else c.f 0 2

/-- PORT_MEASURE_RTT (R60, R61, Table 16.11): the requests of its peer-delay exchanges go out (log 120). Outside RUNNING, where R63 has the
device ignore it, it completes with NOT_READY (DESIGN CHOICE, log 120). -/
def portMeasureRtt (c : Cmd) (d : Dev) : Reply :=
  let p := c.hIdx
  let n := c.f 0 2
  check d [(c.bad 0x01, .badHandle), ((n != 0 && (decide (n < 16) || decide (256 < n))) || c.dirty 2 30, .badArg),
      ((d.getPort p).obj.st != .running, .notReady), (d.measuring p, .refusedBusy)]
    (.pend ((List.range (rttCount c)).foldl (fun (x : Dev) (k : Nat) => x.emit (.ptp p 2 [0, k, 0]))
      (d.modPort p fun q => { q with rttAt := some d.now })))

/-- RTT_MEASURE_DONE (R60): the round-trip delays of the exchanges in 2^-16 ns, one for each; none where 100 ms have passed without an answer.
The mean is rounded down (DESIGN CHOICE, log 120). -/
def rttMeasureDone (p : Nat) (rtts : List Nat) (d : Dev) : Dev :=
  match d.startedCmd 0x0106 (·.handle == portHandle p) with
  | none => d
  | some c =>
    match rtts with
    | [] => if due d.now ((d.getPort p).rttAt.map (· + msT 100)) then d.complete c { status := .timeout } else d
    | r :: rs =>
      let mean := (r :: rs).sum / (r :: rs).length
      if (r :: rs).length ≠ rttCount c then d
      else d.complete c { result := mean, extra := rs.foldl min r + rs.foldl max r * 2 ^ 64 }

/-- The settings of FRM_SET_TTI taken over (R73, R75, R80, R83, R85): tim_action changed while TIM is present begins or ends what TIM does to
the protection switch and to BDI. -/
def ttiApply (p : Nat) (tx ex : Bytes) (mode : Nat) (act : Bool) (d : Dev) : Dev :=
  let q := d.getPort p
  let q1 : Port := { q with txTti := tx, expTti := ex, ttiMode := mode, timAction := act
                            secRaw := if ttiMatch mode q.accTti ex then q.secRaw else q.secRaw ||| (q.raw &&& 0x020) }
  let d1 := d.setPort p q1
  if q.timAction = act || !q.raw.getLsbD 5 then d1
  else
    let d2 := d1.emit (.lineSignal p (sentFault q1))
    if act then d2.switchOn p 5 else (d2.switchOff p (switching q)).firstRelease p

/-- FRM_SET_TTI (R94, R95). -/
def frmSetTti (pl : HostRead) (c : Cmd) (d : Dev) : Reply :=
  let p := c.hIdx
  let q := d.getPort p
  let b := pl.getD []
  check d [(c.bad 0x01, .badHandle),
      (pl.isNone || !q.otucn || decide (3 < field b 128 1) || decide (1 < field b 129 1) || !isZero b 130 6, .badArg)]
    (.done (d.ttiApply p (slice b 0 64) (slice b 64 64) (field b 128 1) (field b 129 1 == 1)) {})

/-- FRM_SET_ACTIONS (R96). -/
def frmSetActions (c : Cmd) (d : Dev) : Reply :=
  check d [(c.bad 0x01, .badHandle),
      (decide (10000 < c.f 0 2) || c.dirty 2 2 || decide (3600000 < c.f 4 4) || c.dirty 8 24, .badArg)]
    (.done (d.modPort c.hIdx fun q => { q with holdoffMs := c.f 0 2, wtrMs := c.f 4 4 }) {})

/-- The raw and reported words of Table 3.11 (R97). -/
def defectWords (d : Dev) (p : Nat) : Nat × Nat :=
  let q := d.getPort p
  let run := q.obj.st = .running
  let hi := 16384 * b2n (!q.holdoffDue.isEmpty) + 8192 * b2n q.wtrDue.isSome + 4096 * b2n q.protDown
  let fast := run && d.fastCw p
  let oof := run && q.oof
  let oom := run && q.oom
  let los := q.raw.getLsbD 0
  (q.raw.toNat + 512 * b2n fast + 1024 * b2n oof + 2048 * b2n oom + hi,
   (reported q).toNat + 512 * b2n (fast && !los) + 1024 * b2n (oof && !los) +
     2048 * b2n (oom && !los && !q.raw.getLsbD 1 && !oof) + hi)

/-- FRM_GET_DEFECTS (R97, Table 3.10). -/
def frmGetDefects (c : Cmd) (d : Dev) : Reply :=
  let p := c.hIdx
  let q := d.getPort p
  let w := d.defectWords p
  check d [(c.bad 0x01, .badHandle)]
    (.done d { record := some (le 2 p ++ le 1 (b2n q.otucn) ++ le 1 0 ++ le 4 w.1 ++ le 4 w.2 ++ le 4 0 ++
      (if q.otucn then slice q.accTti 0 64 else List.replicate 64 0)) })

end Dev

/-- PORT_SET_MODE, opcode 0x0100. -/
def execPortSetMode (src : Src) (s : State) : Out := s.onDev (Dev.runCmd 0x0100 src Dev.portSetMode)
/-- PORT_ENABLE, opcode 0x0101. -/
def execPortEnable (src : Src) (s : State) : Out := s.onDev (Dev.runCmd 0x0101 src Dev.portEnable)
/-- PORT_DISABLE, opcode 0x0102. -/
def execPortDisable (src : Src) (s : State) : Out := s.onDev (Dev.runCmd 0x0102 src Dev.portDisable)
/-- PORT_SET_ABILITIES, opcode 0x0103. -/
def execPortSetAbilities (src : Src) (s : State) : Out := s.onDev (Dev.runCmd 0x0103 src Dev.portSetAbilities)
/-- PORT_GET_STATUS, opcode 0x0104. -/
def execPortGetStatus (src : Src) (s : State) : Out := s.onDev (Dev.runCmd 0x0104 src Dev.portGetStatus)
/-- LANE_MEASURE, opcode 0x0105. -/
def execLaneMeasure (src : Src) (s : State) : Out := s.onDev (Dev.runCmd 0x0105 src Dev.laneMeasure)
/-- PORT_MEASURE_RTT, opcode 0x0106. -/
def execPortMeasureRtt (src : Src) (s : State) : Out := s.onDev (Dev.runCmd 0x0106 src Dev.portMeasureRtt)
/-- PORT_SET_LIMITS, opcode 0x010C. -/
def execPortSetLimits (src : Src) (s : State) : Out := s.onDev (Dev.runCmd 0x010C src Dev.portSetLimits)
/-- LANE_MEASURE_DONE. -/
def execLaneMeasureDone (p : Fin 256) (recs : List LaneMeas) (s : State) : Out := s.onDev (Dev.laneMeasureDone p recs)
/-- RTT_MEASURE_DONE. -/
def execRttMeasureDone (p : Fin 256) (rtts : List Nat) (s : State) : Out := s.onDev (Dev.rttMeasureDone p rtts)
/-- ABILITY_FRAME. -/
def execAbilityFrame (l : Fin 256) (control status : BitVec 32) (s : State) : Out :=
  s.onDev (Dev.abilityFrame l control status)
/-- TRAIN_FRAME. -/
def execTrainFrame (l : Fin 256) (control status : BitVec 32) (adapt : BitVec 9) (rxReady : Bool) (s : State) : Out :=
  s.onDev (Dev.trainFrame l control status adapt rxReady)
/-- READY_FRAME. -/
def execReadyFrame (l : Fin 256) (w : TrainWords) (rx : LaneRx) (s : State) : Out :=
  s.onDev (Dev.readyFrame l w.control w.status rx.adapt rx.ready)
/-- ABILITY_TIMEOUT. -/
def execAbilityTimeout (p : Fin 256) (s : State) : Out := s.onDev (Dev.abilityTimeout p)
/-- TRAIN_TIMEOUT. -/
def execTrainTimeout (p : Fin 256) (s : State) : Out := s.onDev (Dev.trainTimeout p)
/-- TRAINING_RESTART_DELAY. -/
def execTrainingRestartDelay (p : Fin 256) (s : State) : Out := s.onDev (Dev.trainingRestart p)
/-- AUTONEG_PAGE. -/
def execAutonegPage (p : Fin 256) (abilities : BitVec 3) (page : BitVec 48) (s : State) : Out :=
  s.onDev (Dev.autonegPage p abilities page)
/-- AUTONEG_TIMEOUT. -/
def execAutonegTimeout (p : Fin 256) (s : State) : Out := s.onDev (Dev.autonegTimeout p)
/-- PARTNER_GONE_TIMEOUT. -/
def execPartnerGoneTimeout (p : Fin 256) (s : State) : Out := s.onDev (Dev.partnerGone p)
/-- LANE_SIGNAL_CHANGE. -/
def execLaneSignalChange (l : Fin 256) (present : Bool) (s : State) : Out := s.onDev (Dev.laneSignal l present)
/-- CODEWORD_RECEIVE. -/
def execCodewordReceive (l : Fin 256) (errors erasures : Nat) (s : State) : Out := s.onDev (Dev.codeword l errors erasures)
/-- OTUC_FRAME. -/
def execOtucFrame (p : Fin 256) (o : OtucIn) (s : State) : Out := s.onDev (Dev.otucFrame p o)
/-- FAULT_ORDERED_SET. -/
def execFaultOrderedSet (p : Fin 256) (remote : Bool) (column : Nat) (s : State) : Out := s.onDev (Dev.faultSet p remote column)
/-- DEFECT_DECLARE. -/
def execDefectDeclare (p : Fin 256) (x : Defect) (s : State) : Out := s.onDev (Dev.defectDeclare p x)
/-- DEFECT_CLEAR. -/
def execDefectClear (p : Fin 256) (x : Defect) (s : State) : Out := s.onDev (Dev.defectClear p x)
/-- LINK_DOWN_PERSIST. -/
def execLinkDownPersist (p : Fin 256) (s : State) : Out := s.onDev (Dev.linkDownPersist p)
/-- HOLDOFF_EXPIRY. -/
def execHoldoffExpiry (p : Fin 256) (s : State) : Out := s.onDev (Dev.holdoffExpiry p)
/-- WTR_EXPIRY. -/
def execWtrExpiry (p : Fin 256) (s : State) : Out := s.onDev (Dev.wtrExpiry p)
/-- FRM_SET_TTI, opcode 0x0107. -/
def execFrmSetTti (src : Src) (pl : HostRead) (s : State) : Out := s.onDev (Dev.runCmd 0x0107 src (Dev.frmSetTti pl))
/-- FRM_SET_ACTIONS, opcode 0x0108. -/
def execFrmSetActions (src : Src) (s : State) : Out := s.onDev (Dev.runCmd 0x0108 src Dev.frmSetActions)
/-- FRM_GET_DEFECTS, opcode 0x0109. -/
def execFrmGetDefects (src : Src) (s : State) : Out := s.onDev (Dev.runCmd 0x0109 src Dev.frmGetDefects)
/-- ALIGNMENT_MARKER. -/
def execAlignmentMarker (l : Fin 256) (inPlace blockLock calOk : Bool) (s : State) : Out :=
  s.onDev (Dev.alignmentMarker l inPlace blockLock calOk)
/-- CLAUSE_73_LINK_TRAINING. -/
def execClause73LinkTraining (l : Fin 256) (req : BitVec 8) (complete : Bool) (s : State) : Out :=
  s.onDev (Dev.linkTraining l req complete)

end Sys2Proof.Machine
end

