-- ==== Sys2Proof/Machine/Pipeline.lean ====
section
/-! DEFINITION. The ingress pipeline: next hops, ECMP, fast reroute, the stages of Table 4.1 and extended lookups (R100-R130,
R167-R172, R184). -/

namespace Sys2Proof.Machine

/-- What a stage does with a frame: it goes on, waits, or is discarded under a code. -/
inductive StRes where
  | go (f : Flight) (d : Dev)
  | wait (f : Flight) (d : Dev)
  | drop (code : Nat) (f : Flight) (d : Dev)
  | punted (f : Flight) (d : Dev)

namespace Dev

/-! ### Next hops (R113, R120-R123) -/

/-- A word of an SRAM window that firmware has yet to rewrite, among those `reads` picks (R184). -/
def wordUe (d : Dev) (reads : Nat → Bool) : Bool := d.fwd.ue.any fun x => match x with | .word w => reads w | _ => false

/-- The next hop to use in place of `i`: itself when up, its protection when that is up (R118, R123). -/
def nhUse (d : Dev) (i : Nat) : Option Nat :=
  if !d.nhDown i then some i
  else if d.nhUe i then none
  else match (d.getNh i).prot with
    | some p => if d.nhDown p then none else some p
    | none => none

/-- The address of a next hop's record: the next hops fill the first 16 MiB of their window (R113; log 125). -/
def nhWord (i : Nat) : Nat := 0x400200000000 + 8 * i

/-- A next-hop record read: errors in its word are reported (R183, R184). -/
def nhRead (i : Nat) (d : Dev) : Dev :=
  let d1 := d.ceRead (· == nhWord i)
  if d.nhUe i then d1.raise 0x0901 sevMajor 0 [f8 (nhWord i), fByte (Config.eccCode 9)] else d1

/-- The next hop to use in place of `i`, its records read. -/
def nhLook (i : Nat) (d : Dev) : Option Nat × Dev :=
  let d1 := d.nhRead i
  (d.nhUse i, match d.nhDown i && !d.nhUe i, (d.getNh i).prot with | true, some p => d1.nhRead p | _, _ => d1)

/-! ### The hash (R117, R144) -/

/-- The hash seed (R144). -/
def hashSeed (d : Dev) : Nat := d.fwd.seed.getD (d.devId * 0x9E3779B9 % 2 ^ 32)

/-- The layer and the Ethernet header whose fields the hash takes: the innermost parsed ones with the inner flag set, otherwise the outermost. -/
def hashLayer (d : Dev) (p : Parsed) : Option Layer × EthHdr :=
  if d.fwd.hashInner then (p.layers.getLast?, (p.layers.reverse.findSome? (·.eth)).getD p.eth) else (p.layers.head?, p.eth)

/-- The hash vector of R117 over the headers `p`. -/
def hashVector (d : Dev) (p : Parsed) (inPort : Nat) : Bytes :=
  let on (i : Nat) : Bool := bit d.fwd.hashFields i
  let l := d.hashLayer p
  let ip := l.1.bind (·.ip)
  let l4 := l.1.bind (·.l4)
  let fld (i w : Nat) (v : Option Nat) : Bytes := be w (if on i then v.getD 0 else 0)
  let frag := match ip with | some h => h.frag | none => false
  let ports := match l4 with | some (s, t) => if frag then none else some (s * 65536 + t) | none => none
  let v6 := match ip with | some h => h.v6 | none => false
  let labels := p.mpls.map (·.label)
  let mp := match p.entropy, labels.reverse with
    | some e, _ => e * 2 ^ 32
    | none, [] => 0
    | none, [b] => b * 2 ^ 32
    | none, b :: a :: _ => a * 2 ^ 32 + b
  fld 0 16 (ip.map (·.sa)) ++ fld 1 16 (ip.map (·.da)) ++ fld 2 1 (ip.map (·.proto)) ++ fld 3 4 ports ++
  fld 4 3 (if v6 then ip.map (·.flow) else none) ++ fld 5 8 (some mp) ++ fld 6 6 (some l.2.smac) ++
  fld 7 6 (some l.2.dmac) ++ fld 8 2 (some l.2.etype) ++ fld 9 2 (some inPort)

/-- A field the hash is set to use begins inside the window and does not end inside it (R106). -/
def hashCut (d : Dev) (p : Parsed) : Bool :=
  match (d.hashLayer p).1 with
  | some l => (l.ipCut && (d.fwd.hashFields % 32 != 0)) || (l.l4Cut && bit d.fwd.hashFields 3)
  | none => false

/-- A 32-bit seed rotated left by 16 (R117, R156). -/
def rot16 (s : Nat) : Nat := s % 65536 * 65536 + s / 65536 % 65536

/-- h1 and h2 (R117). -/
def hashes (d : Dev) (p : Parsed) (inPort : Nat) : Nat × Nat :=
  let v := d.hashVector p inPort
  (crc32c (BitVec.ofNat 32 d.hashSeed) v, crc32c (BitVec.ofNat 32 (rot16 d.hashSeed)) v)

/-- The buckets R118 looks at, first the one of the hash and then the four probes. -/
def probes (g : Ecmp) (h1 h2 : Nat) : List Nat :=
  let b := h1 / 2 ^ (32 - g.log2B)
  let n := 2 ^ g.log2B
  let s := (h2 / 65536 ||| 1) % n
  if n = 1 then [0] else b :: (List.range 4).map fun k => (b + (k + 1) * s) % n

/-- Bucket `b` of group `gi` holds an uncorrectable word (R184). -/
def ecmpUe (d : Dev) (gi b : Nat) : Bool := d.wordUe fun w => Config.ecmpWord w gi b

/-- An uncorrectable word of an ECMP structure, reported (R184). -/
def ecmpError (gi : Nat) (d : Dev) : Dev := d.raise 0x0901 sevMajor 0 [f8 ((0x400201000000 + 4 * gi) / 8 * 8), fByte (Config.eccCode 10)]

/-- The next hop an ECMP group gives a frame among the buckets left to look at (R118, Table 5.4). -/
def ecmpWalk (gi : Nat) (g : Ecmp) : List Nat → Dev → Option Nat × Dev
  | [], d => (none, d)
  | b :: r, d0 =>
    let d := d0.ceRead fun w => decide (0x400201000000 ≤ w) && decide (w < 0x400201800000) && Config.ecmpWord w gi b
    if d.ecmpUe gi b then (none, d.ecmpError gi)
    else match g.members[g.buckets.getD b 0]? with
      | some m => (match d.nhLook m.1 with | (some j, e) => (some j, e) | (none, e) => ecmpWalk gi g r e)
      | none => ecmpWalk gi g r d

/-! ### Extended lookups (R169-R172) -/

/-- The extended-lookup tokens of a pipeline now (R171). -/
def extTokens (d : Dev) (x : Pipe) : Nat := min 1342177280 (x.extTok + x.extRate * (d.now - x.extStamp))

/-- Both HBM copies of a bucket of an extended table (R168, Table 10.1). -/
def bucketCopies (t : EmTable) (b : Nat) : Nat × Nat := copies 0x386800000 (128 * 2 ^ 20) (128 * (t.base + b))

/-- A bucket read from one copy through P3 (R168, R170): the copy that answers, or the first. -/
def readBucket (t : EmTable) (b : Nat) (d : Dev) : Dev :=
  let c := bucketCopies t b
  d.readP3 (match d.readCopies c 128 with | some (some a) => a | _ => c.1) 128

/-- What an extended table answers for a key (R157, R172). -/
def extFind (t : EmTable) (k : Bytes) : ExtAnswer :=
  match t.find k with
  | some (_, _, e) => .found e.result
  | none => .none

/-- The frame's extended lookup of `key` in table `i` of pipeline `pl`: answered from the cache, refused, or issued (R103,
R170-R172). -/
def extIssue (pl i : Nat) (key : Bytes) (f : Flight) (d : Dev) : StRes :=
  match tget d.fwd.tbl.ext i with
  | none => .go { f with ext := some .none } d
  | some t =>
    let x := d.getPipe pl
    let tok := d.extTokens x
    if tok < 1310720 || d.p3Stretched then
      .go { f with ext := some .none, extTable := i }
        (d.setPipe pl { x with extTok := tok, extStamp := d.now, extOver := x.extOver + 1 })
    else
      let d1 := d.setPipe pl { x with extTok := tok - 1310720, extStamp := d.now }
      let ls := [extLine i (t.buckets key).1, extLine i (t.buckets key).2]
      if ls.all d.fwd.cache.contains then
        let a := extFind t key
        let d2 := d1.touchLines ls
        .go { f with ext := some a, extTable := i }
          (if a = .none then d2.modPipe pl fun y => { y with extMiss := y.extMiss + 1 } else d2)
      else .wait { f with extTable := i, extKey := key, place := .ext (d.now + usT 1) }
        (readBucket t (t.buckets key).2 (readBucket t (t.buckets key).1 d1))

/-- The extended table that follows an on-die miss of table `em` of kind `kind`, or stands alone for that kind (R169). -/
def extFor (d : Dev) (f : Flight) (kind : Nat) (em : Option Nat) : Option Nat :=
  match (tgetD d.fwd.tbl.profile {} f.frame.profile).ext with
  | none => none
  | some i =>
    match tget d.fwd.tbl.ext i with
    | some t => if t.kind = kind && (t.backs = none || t.backs = em) then some i else none
    | none => none

/-- The default action of the extended table a frame looked in (R172). -/
def extDiscards (d : Dev) (f : Flight) : Bool :=
  match tget d.fwd.tbl.ext f.extTable with | some t => t.discard | none => false

/-- What a lookup of a key comes to in an on-die table and the extended table behind it: found, missed, waiting, or discarded. -/
inductive Look where
  | hit (r : Nat) (f : Flight) (d : Dev)
  | miss (f : Flight) (d : Dev)
  | wait (f : Flight) (d : Dev)
  | discard (f : Flight) (d : Dev)

/-- The tables a frame sees (R138). -/
def tablesOf (d : Dev) (f : Flight) : Tables :=
  if f.view = d.fwd.view then d.fwd.tbl else d.fwd.oldTbl.getD d.fwd.tbl

/-- A table's place holds an uncorrectable word (R184). -/
def emBad (d : Dev) (i : Nat) (o : Bool) (j : Nat) : Bool :=
  d.fwd.ue.contains (if o then .emOvf i j else .em i j) || d.wordUe fun w => Config.emWord w i o j

/-- A lookup that meets an uncorrectable word counts it and reports it (R184). -/
def emError (d : Dev) (i : Nat) : Dev :=
  match tget d.fwd.tbl.em i with
  | some t => (d.setEm false i { t with ecc := t.ecc + 1 }).raise 0x0901 sevMajor 0 [f8 (Config.wordAddr 1 i), fByte (Config.eccCode 1)]
  | none => d

/-- The hit bit of an entry set in the current tables (R162). -/
def emHit (d : Dev) (i : Nat) (k : Bytes) : Dev :=
  match tget d.fwd.tbl.em i with
  | some t => match t.find k with
    | some (o, j, e) => d.setEm false i (t.put o j { e with hit := true })
    | none => d
  | none => d

/-- The on-die part of a lookup: the result, if any (R157, R183, R184). It reads both buckets and, in the overflow store, the place of its key.
`mark` sets the hit bit. -/
def emLook (d : Dev) (f : Flight) (i : Nat) (k : Bytes) (mark : Bool) : Option Nat × Dev :=
  match tget (d.tablesOf f).em i with
  | none => (none, d)
  | some t =>
    let b := t.buckets k
    let read := (EmTable.places b.1 ++ EmTable.places b.2).map fun j => (false, j)
    let hit := t.find k
    let all := match hit with | some (true, j, _) => (true, j) :: read | _ => read
    let d1 := d.ceRead fun w => decide (0x400100000000 ≤ w) && decide (w < 0x400103000000) && all.any fun p => Config.emWord w i p.1 p.2
    if all.any fun p => d.emBad i p.1 p.2 then (none, d1.emError i)
    else match hit with
      | none => (none, d1)
      | some (_, _, e) => (some e.result, if mark then d1.emHit i k else d1)

/-- A lookup in an on-die table `em` of kind `kind`, if one is named, and in the extended table (R157, R169). -/
def look (d : Dev) (pl kind : Nat) (em : Option Nat) (k : Bytes) (mark : Bool) (f : Flight) : Look :=
  let r := match em with | some i => d.emLook f i k mark | none => (none, d)
  match r.1 with
  | some v => .hit v f r.2
  | none =>
    match d.extFor f kind em with
    | none => .miss f r.2
    | some i =>
      match f.ext with
      | some a =>
        if f.extTable = i && f.extKey = k then
          match a with
          | .found v => .hit v f r.2
          | .none => if d.extDiscards f then .discard f r.2 else .miss f r.2
        else .miss f r.2
      | none =>
        match r.2.extIssue pl i k { f with extKey := k } with
        | .wait g e => .wait g e
        | .go g e =>
          match g.ext with
          | some (.found v) => .hit v g e
          | _ => if e.extDiscards g then .discard g e else .miss g e
        | .drop _ g e | .punted g e => .miss g e

/-! ### Stages 1 to 7 -/

/-- The local port a frame came in on; 0 for one that came in on none. -/
def flightPort (f : Flight) : Nat := match f.src with | .port p | .inject _ p => p | _ => 0

/-- The profile of the frame's ingress interface (R185). -/
def profOf (d : Dev) (f : Flight) : Profile := tgetD (d.tablesOf f).profile {} f.frame.profile

/-- The parse of a frame by the banks as they stand (R105). -/
def parse (d : Dev) (len : Nat) (b : Bytes) : Parsed :=
  if d.fw.banks.all (·.isEmpty) then stdParse d.fwd.vxlanPort len b else Config.parse d.fw.banks len (b.take 384)

/-- The headers the later stages use (stage 4). -/
def curLayer (f : Flight) : Option Layer := f.pkt.layers[f.layer]?

/-- The class that stage 2 sets through the port's class map (R111): by MPLS TC, otherwise DSCP, otherwise PCP, whichever the frame has
(log 123). -/
def initialClass (d : Dev) (p : Nat) (k : Parsed) : Nat :=
  let m := tgetD d.fwd.classMap {} (d.getPort p).classProfile
  match k.mpls, k.layers.head?.bind (·.ip), k.tags with
  | x :: _, _, _ => tgetD m.tc 0 x.tc % 8
  | [], some h, _ => tgetD m.dscp 0 h.dscp % 8
  | [], none, t :: _ => tgetD m.pcp 0 (t / 8192) % 8
  | [], none, [] => 0

/-- A flight for a frame that enters at stage 1. -/
def newFlight (d : Dev) (src : FrameSrc) (f : RxFrame) : Flight :=
  let k := d.parse f.len f.raw
  let p := match src with | .port p | .inject _ p => p | _ => 0
  { fid := d.fids, src := src, frame := f, bytes := f.raw, pkt := k, len := f.len, rxLen := f.len, arrived := d.sysTicks, view := d.fwd.view
    cls := d.initialClass p k, vrf := f.vrf, entered := d.now }

/-- Stage 1 (R105, R106). -/
def stage1 (_pl : Nat) (f : Flight) (d : Dev) : StRes :=
  if 32 < f.pkt.visits || f.pkt.bad then .drop 8 f d else .go f d

/-- Stage 2, as the frame's operand gives it. -/
def stage2 (_pl : Nat) (f : Flight) (d : Dev) : StRes := if f.frame.vlanAdmit then .go f d else .drop 9 f d

/-- The 8 key bytes of a MAC entry (R156). -/
def macKey (svc mac : Nat) : Bytes := keyBytes 64 (svc % 65536 * 2 ^ 48 + mac)

/-- Learning of the source address (R164). -/
def learn (t : Nat) (f : Flight) (d : Dev) : Dev :=
  match tget d.fwd.tbl.em t with
  | none => d
  | some x =>
    let k := macKey f.frame.svc f.pkt.eth.smac
    let g := d.devId * 256 + flightPort f
    let d1 := d.emHit t k
    let want := match x.find k with
      | some (_, _, e) => e.result / 2 ^ 22 == 0 && e.result != g
      | none => true
    if !x.learn || !want || x.learnQ.any (·.key == k) then d1
    else
      match tget d1.fwd.tbl.em t with
      | none => d1
      | some y =>
        if 4096 ≤ y.learnQ.length then d1.setEm false t { y with learnOverflow := y.learnOverflow + 1 }
        else d1.setEm false t { y with learnQ := y.learnQ ++ [{ key := k, gport := g }] }

/-- An extended table of kind `kind` stands alone in the frame's profile (R169). -/
def extAlone (d : Dev) (f : Flight) (kind : Nat) : Bool := (d.extFor f kind none).isSome

/-- Stage 3 (R157, R162, R164, R169, R658). -/
def stage3 (pl : Nat) (f : Flight) (d : Dev) : StRes :=
  let t := (d.profOf f).mac
  if t.isNone && !d.extAlone f 0 then .go f d
  else
    let d1 := match t with | some i => if f.ext.isNone then d.learn i f else d | none => d
    if f.frame.routed then .go f d1
    else
      match d1.look pl 0 t (macKey f.frame.svc f.pkt.eth.dmac) false f with
      | .hit r g e =>
        if r / 2 ^ 22 = 0 then .go { g with dec := .unicast (r % 2 ^ 19) } e
        else if r / 2 ^ 22 = 1 then .go { g with dec := .multicast (r % 65536) } e
        else .drop 10 g e
      | .miss g e => .go { g with dec := .multicast g.frame.flood } e
      | .wait g e => .wait g e
      | .discard g e => .drop 19 g e

/-- Key bytes of a tunnel entry (Table 5.1). -/
def tunnelKey (vrf : Nat) (h : IpHdr) (k : Inside) : Bytes :=
  let ty := Config.tunnelType (match k with | .vxlan _ => 0 | .gre _ => 1 | .ip => 2) % 256
  if h.v6 then keyBytes 280 (((vrf % 65536 * 2 ^ 128 + h.sa) * 2 ^ 128 + h.da) * 256 + ty)
  else keyBytes 88 (((vrf % 65536 * 2 ^ 32 + h.sa) * 2 ^ 32 + h.da) * 256 + ty)

/-- The VNI or key of a tunnel (Table 4.2). -/
def insideKey : Inside → Nat
  | .vxlan v => v
  | .gre k => k.getD 0
  | .ip => 0

/-- The budget of R110 has room for one more tunnel lookup: the first is the one R185 counts; a second takes what the frame's profile leaves
of the four. -/
def tunnelRoom (d : Dev) (f : Flight) : Bool :=
  f.layers == 0 || decide (profileCount (anyHost d.fwd.tbl) (d.profOf f) + f.layers ≤ 4)

/-- Tunnel layers terminated in turn (R109, R110): at most two; a third is left for a packet engine. -/
def terminate (pl : Nat) (t : Option Nat) : List Layer → Flight → Dev → StRes
  | [], f, d => .go f d
  | l :: ls, f, d =>
    match l.ip, l.inside, d.tunnelRoom f with
    | some h, some k, true =>
      (match d.look pl (if h.v6 then 5 else 4) t (tunnelKey f.vrf h k) true f with
      | .hit a g e =>
        if 2 ≤ g.layers then .go { g with deep := true } e
        else terminate pl t ls { g with vrf := Config.termVrf a (insideKey k) g.vrf, layer := g.layer + 1, layers := g.layers + 1 } e
      | .miss g e => .go g e
      | .wait g e => .wait g e
      | .discard g e => .drop 19 g e)
    | _, _, _ => .go f d

/-- A micro-SID of this device at the top of an IPv6 destination (Table 4.2): it is shifted out and the frame goes on to what follows, the
next container begins, or, at the last micro-SID, the layer ends here. -/
def microSid (d : Dev) (f : Flight) : Flight :=
  match curLayer f with
  | none => f
  | some l =>
    match l.ip with
    | none => f
    | some h =>
      match if h.v6 then d.fwd.usid.find? fun u => h.da / 2 ^ (128 - u.2.1) == u.1 && h.da / 2 ^ (112 - u.2.1) % 65536 == u.2.2 else none with
      | none => f
      | some u =>
        let rest := h.da % 2 ^ (112 - u.2.1)
        let last : Flight := if l.inside.isNone then f else if 2 ≤ f.layers then { f with deep := true }
          else { f with layer := f.layer + 1, layers := f.layers + 1 }
        if rest / 2 ^ (96 - u.2.1) != 0 then { f with newDa := some (u.1 * 2 ^ (128 - u.2.1) + rest * 65536) }
        else match l.srh with
          | some (_, n, sids) => if 0 < n then { f with newDa := some (sids.getD (n - 1) 0), newSid := true } else last
          | none => last

/-- Stage 4 (R108, R109). -/
def stage4 (pl : Nat) (f : Flight) (d : Dev) : StRes :=
  let g := if f.sidDone then f else { d.microSid f with sidDone := true }
  let t := (d.profOf g).tunnel
  if (t.isNone && !d.extAlone g 4) || !g.pkt.mpls.isEmpty || g.newDa.isSome then .go g d
  else terminate pl t (g.pkt.layers.drop g.layer) g d

/-- A route result as a decision (R152). -/
def routeDec (r : Nat) : Decision :=
  match r / 2 ^ 22 with
  | 0 => .nextHop (r % 2 ^ 21)
  | 1 => .ecmp (r % 2 ^ 18)
  | 2 => .discard
  | _ => .punt (r % 256) false

/-- A punt record of a frame of pipeline `pl` (R497). -/
def puntOf (d : Dev) (pl trap reason most : Nat) (egress : Bool) (data : Bytes) (f : Flight) : PuntInfo :=
  { trap := trap, reason := reason, cls := f.cls, gport := d.devId * 256 + flightPort f, len := f.rxLen, data := data, pipeline := pl
    egress := egress, vrf := f.vrf, arrived := f.arrived, nh := f.nh.getD 0xFFFFFFFF, most := most }

/-- A frame whose TTL has run out: counted, and a copy punted where its trap is mapped (R114, R497). -/
def ttlCopy (pl : Nat) (f : Flight) (d : Dev) : Dev :=
  if (tget d.hif.trapRing 254).isSome then d.punt (d.puntOf pl 254 3 16383 false f.frame.raw f) else d

/-- A route result put into effect for a frame whose TTL reads `ttl` (R114); `ip` when it is that of the IP header. -/
def takeRoute (pl ttl r : Nat) (ip : Bool) (f : Flight) (d : Dev) : StRes :=
  match routeDec r with
  | .nextHop i => if ttl ≤ 1 then .drop 14 f (d.ttlCopy pl f) else .go { f with dec := .nextHop i, routed := f.routed || ip } d
  | .ecmp g => if ttl ≤ 1 then .drop 14 f (d.ttlCopy pl f) else .go { f with dec := .ecmp g, routed := f.routed || ip } d
  | x => .go { f with dec := x } d

/-- The words of the longest-prefix structures that a lookup reads. -/
def lpmReads (f : Flight) (h : IpHdr) (da w : Nat) : Bool :=
  decide (0x400000000000 ≤ w) && decide (w < 0x400004000000) && Config.lpmWord w f.vrf h.v6 da

/-- The result of steps 2 to 4 of R151, with Table 5.4 for an uncorrectable word. -/
def prefixRoute (d : Dev) (f : Flight) (h : IpHdr) (da : Nat) : Option Nat × Dev :=
  let t := d.tablesOf f
  let dflt := (tgetD t.vrf {} f.vrf).dflt
  let d1 := d.ceRead (lpmReads f h da)
  if d.fwd.ue.contains (.lpm f.vrf) || d.wordUe (lpmReads f h da) then
    (dflt, (d1.setFwd fun x => { x with lpmUe := x.lpmUe + 1 }).raise 0x0901 sevMajor 0 [f8 (Config.wordAddr 0 f.vrf), fByte (Config.eccCode 0)])
  else match lpmFind t f.vrf h.v6 da with
    | some r => (some r.result, d1)
    | none => (dflt, d1)

/-- The lookup of an IP destination (R106, R151). -/
def l3Look (pl : Nat) (f : Flight) (d : Dev) : StRes :=
  match curLayer f with
  | none => .go f d
  | some l =>
    match l.ip with
    | none => if l.ipCut then .drop 7 f d else .go f d
    | some h =>
      let v := tgetD (d.tablesOf f).vrf {} f.vrf
      let da := f.newDa.getD h.da
      let em := if h.v6 then v.host6 else v.host4
      let key := if h.v6 then keyBytes 144 (f.vrf % 65536 * 2 ^ 128 + da) else keyBytes 48 (f.vrf % 65536 * 2 ^ 32 + da)
      match d.look pl (if h.v6 then 2 else 1) em key true f with
      | .hit r g e => takeRoute pl h.ttl r true g e
      | .miss g e =>
        match e.prefixRoute g h da with
        | (some r, e1) => takeRoute pl h.ttl r true g e1
        | (none, e1) => .drop 12 g e1
      | .wait g e => .wait g e
      | .discard g e => .drop 19 g e

/-- Stage 5 (R151). -/
def stage5 (pl : Nat) (f : Flight) (d : Dev) : StRes :=
  if !f.frame.routed || (!f.pkt.mpls.isEmpty && f.layer = 0) || f.deep then .go f d else l3Look pl f d

/-- Up to `n` label lookups (R110): pop, swap or pop-and-continue, whose action layout the manual does not give (`Config.labelAction`). An
entropy label goes with the label above its indicator. A stack popped to its end by pop-and-continue is looked up by its IP destination
(log 123). -/
def labels (pl : Nat) (t : Option Nat) : Nat → Flight → Dev → StRes
  | 0, f, d => .go f d
  | n + 1, f, d =>
    match f.pkt.mpls.drop f.popped with
    | [] => if f.popped = 0 then .go f d else l3Look pl f d
    | x :: xs =>
      match d.look pl 3 t (keyBytes 28 (f.frame.labelSpace % 256 * 2 ^ 20 + x.label)) true f with
      | .hit a g0 e =>
        let act := Config.labelAction a
        let g : Flight := { g0 with lookups := g0.lookups + 1 }
        let one := 1 + (match xs with | y :: _ :: _ => if y.label = 7 then 2 else 0 | _ => 0)
        let down : Flight := { g with popped := g.popped + one, layers := if g.popped = 0 then g.layers + 1 else g.layers }
        if act.1 != 1 && g.popped = 0 && 2 ≤ g.layers then .go { g with deep := true } e
        else if act.1 = 1 then takeRoute pl x.ttl (act.2.2 % 2 ^ 24) false { g with swap := some (act.2.1 % 2 ^ 20) } e
        else if act.1 = 2 then
          if x.ttl ≤ 1 then .drop 14 g (e.ttlCopy pl g)
          else if xs.length + 1 = one then l3Look pl down e
          else labels pl t n down e
        else takeRoute pl x.ttl (act.2.2 % 2 ^ 24) false down e
      | .miss g e => .drop 13 g e
      | .wait g e => .wait g e
      | .discard g e => .drop 19 g e

/-- Stage 6. A stand-alone extended MPLS table answers one label, the one extended lookup of R110. -/
def stage6 (pl : Nat) (f : Flight) (d : Dev) : StRes :=
  let p := d.profOf f
  let depth := if p.mpls.isSome then p.depth else if d.extAlone f 3 then 1 else 0
  if f.pkt.mpls.isEmpty || f.layer != 0 || f.deep then .go f d
  else if f.popped = f.pkt.mpls.length then l3Look pl f d
  else labels pl p.mpls (depth - f.lookups) f d

/-- One search of a TCAM table as the frame sees it (R138, R178, R181): the entry, if one matches. -/
def aclFind (d : Dev) (f : Flight) (tab key : Nat) : Option (Nat × TcamEntry) × Dev :=
  match tget (d.tablesOf f).tcam tab with
  | some tt => d.tcamSearch (f.view != d.fwd.view) tab tab key tt 98304
  | none => (none, d)

/-- The miss action of a TCAM table is deny (R178). -/
def aclMissDeny (d : Dev) (f : Flight) (tab : Nat) : Bool :=
  match tget (d.tablesOf f).tcam tab with | some t => t.deny | none => false

/-- The action of a TCAM hit on an ingress frame (Table 5.3). -/
def aclAct (i a : Nat) (f : Flight) (d : Dev) : StRes :=
  let g : Flight := { f with
    cls := if bit a 59 then a / 2 ^ 56 % 8 else f.cls, aclPol := if bit a 55 then some (a / 2 ^ 34 % 2 ^ 21) else none
    mirror := if bit a 33 then some (a / 2 ^ 28 % 32) else f.mirror, aclIdx := some i }
  let arg := a % 2 ^ 28
  match a / 2 ^ 60 with
  | 0 => .go g d
  | 1 => .drop 15 g d
  | 2 => .go { g with dec := .nextHop (arg % 2 ^ 21) } d
  | 3 => .go { g with dec := .ecmp (arg % 2 ^ 18) } d
  | 4 => .go { g with dec := .punt (arg % 256) true } d
  | 5 => .go { g with fn := some (arg % 65536) } d
  | _ => .drop 15 g d

/-- The FLOW lookup of stage 7, whose result may name a function (R127, R157, R169); a miss takes the result that the forwarding
configuration names (`Config.flowMiss`). -/
def flowLook (pl : Nat) (f : Flight) (d : Dev) : StRes :=
  let p := d.profOf f
  if p.flow.isNone && !d.extAlone f 6 then .go f d
  else
    let tt := d.tablesOf f
    let bits := match p.flow.bind (tget tt.em ·), p.ext.bind (tget tt.ext ·) with
      | some x, _ => x.keyBits
      | none, some x => x.keyBits
      | none, none => 8
    match d.look pl 6 p.flow (keyBytes bits f.frame.flowKey) true f with
    | .hit r g e => .go { g with fn := Config.flowFn r } e
    | .miss g e => .go { g with fn := Config.flowFn (Config.flowMiss (p.flow.getD 32)) } e
    | .wait g e => .wait g e
    | .discard g e => .drop 19 g e

/-- Stage 7. -/
def stage7 (pl : Nat) (f : Flight) (d : Dev) : StRes :=
  match flowLook pl f d with
  | .go g e =>
    let r : StRes :=
      match (e.profOf g).aclIn with
      | none => .go g e
      | some tab =>
        match e.aclFind g tab g.frame.aclKey with
        | (some (i, x), e1) => aclAct i x.action g e1
        | (none, e1) => if e1.aclMissDeny g tab then .drop 15 g e1 else .go g e1
    match r with
    | .go g2 e2 => if g2.deep && g2.fn.isNone then .drop 11 g2 e2 else .go g2 e2
    | x => x
  | x => x

end Dev
end Sys2Proof.Machine
end

