-- ==== Sys2Proof/Machine/Engines.lean ====
section
/-! DEFINITION. Packet engines: dispatch, threads, the supervisor, states, trace, modules, functions, triggers and patches
(R197-R227). -/

namespace Sys2Proof.Machine

/-! ### An engine alone -/

namespace Engine

def thread (e : Engine) (t : Nat) : Thread := e.threads.getD t {}
def setThread (e : Engine) (t : Nat) (x : Thread) : Engine := { e with threads := e.threads.set t x }

/-- Thread 1 is out of service, or its master applies a patch: hive mode (R214). -/
def hive (e : Engine) : Bool := e.patching || (e.thread 1).st == .faulted || (e.thread 1).st == .retired

/-- The engine has work that keeps it from gating (R221). -/
def busy (e : Engine) : Bool :=
  !e.inbox.isEmpty || !e.excq.isEmpty || e.threads.any fun x => x.st == .running || x.st == .claimed

/-- The idle threads of the hive, lowest first (R214): thread 1 is the master's, and idle only while it serves. -/
def idleThreads (e : Engine) : List Nat := (List.range 14).map (· + 2) |>.filter fun t => (e.thread t).st == .idle

/-! ### The slot table (R200, R201) -/

/-- A thread is ready: the supervisor with a record queued, the master with a descriptor or a claimed thread, another thread while it runs and waits for
no join (R201; log 127). -/
def ready (e : Engine) (t : Nat) : Bool :=
  if t = 0 then !e.excq.isEmpty
  else if t = 1 && (e.thread 1).st == .idle && !e.hive then !e.inbox.isEmpty || e.threads.any fun x => x.st == .claimed
  else (e.thread t).st == .running && (e.thread t).join.isNone

/-- The thread that a slot of a thread that is not ready is lent to (R200). -/
def lendTo (e : Engine) : Option Nat := ((List.range 16).map fun k => (e.borrower + 1 + k) % 16).find? e.ready

/-- One issue handshake: the thread that issues, if any is ready, and the engine at its next slot (R200). -/
def handshake (e : Engine) : Option Nat × Engine :=
  let n := e.slots.getD e.slot 0
  let next := (e.slot + 1) % 16
  if e.ready n then (some n, { e with slot := next })
  else match e.lendTo with
    | some t => (some t, { e with slot := next, borrower := t })
    | none => (none, { e with slot := next })

/-- The threads that issue in the next `n` handshakes, with nothing else happening (R200). -/
def issues : Nat → Engine → List (Option Nat)
  | 0, _ => []
  | n + 1, e => e.handshake.1 :: issues n e.handshake.2

/-- Handshakes up to the one in which thread `t` issues, within 256 of them (log 127). -/
def issueOf (t : Nat) : Nat → Engine → Engine
  | 0, e => e
  | n + 1, e => if e.handshake.1 = some t then e.handshake.2 else issueOf t n e.handshake.2

/-- Thread `t` issues. -/
def issue (e : Engine) (t : Nat) : Engine := issueOf t 256 e

/-- One trace record (R222, Table 6.9): whether the buffer became full with it. -/
def record (e : Engine) (time : Int) (type thread fn : Nat) (data : Bytes) : Engine × Bool :=
  if e.traceFull then (e, false)
  else
    let r := ts12 time ++ le 1 type ++ le 1 thread ++ le 2 fn ++ slice data 0 16
    let full := e.traceStop && decide (511 ≤ e.traceN)
    ({ e with trace := tput e.trace e.traceAt r, traceAt := (e.traceAt + 1) % 512, traceN := e.traceN + 1, traceFull := full }, full)

end Engine

namespace Dev

def getEng (d : Dev) (e : Nat) : Engine := tgetD d.pe.eng {} e

/-- `d` with engine `e` made `x`; an engine that ran out of work starts its idle time (R221). -/
def setEng (d : Dev) (e : Nat) (x : Engine) : Dev :=
  let y := if (d.getEng e).busy && !x.busy then { x with idleSince := d.now } else x
  { d with pe := { d.pe with eng := tset d.pe.eng {} e y } }

def engHandle (e : Nat) : Nat := handle 0x0A e

/-- A trace record of engine `e`, and EV_PE_TRACE_FULL when a stopping buffer fills (R222). -/
def traceRec (d : Dev) (e type thread fn : Nat) (data : Bytes) : Dev :=
  let r := (d.getEng e).record d.sysTicks type thread fn data
  let d1 := d.setEng e r.1
  if r.2 then d1.raise 0x0305 sevInfo (engHandle e) [] else d1

/-- A MODE record where engine `e` went between master and hive (R222). -/
def modeRec (was : Bool) (e : Nat) (d : Dev) : Dev :=
  let h := (d.getEng e).hive
  if h = was then d else d.traceRec e 0x08 1 0xFFFF (le 1 (b2n h))

/-- A change of engine `e` that may change its mode. -/
def modEng (d : Dev) (e : Nat) (f : Engine → Engine) : Dev := (d.setEng e (f (d.getEng e))).modeRec (d.getEng e).hive e

def getFn (d : Dev) (i : Nat) : Option Func := tget d.pe.fn i
def modFn (d : Dev) (i : Nat) (f : Func → Func) : Dev :=
  match tget d.pe.fn i with
  | some x => { d with pe := { d.pe with fn := tput d.pe.fn i (f x) } }
  | none => d

def getGroup (d : Dev) (g : Nat) : BGroup := tgetD d.bridge {} g
def putGroup (d : Dev) (g : Nat) (x : BGroup) : Dev := { d with bridge := tset d.bridge {} g x }

/-- A frame and its 32 bytes of metadata cross bridge group `g` in flits of 64 bytes, held for retry until acknowledged (R18, R20). -/
def sendFlits (g : Nat) (toQueueing : Bool) (len : Nat) (d : Dev) : Dev :=
  let x := d.getGroup g
  let i := b2n toQueueing
  let n := (len + 32 + 63) / 64
  let s := x.txSeq.getD i 0
  d.putGroup g { x with txSeq := x.txSeq.set i (s + n), held := x.held.set i (x.held.getD i [] ++ (List.range n).map (s + ·)) }

/-- Lanes of group `g` in service suffice to carry its pipeline (R22). -/
def groupGood (d : Dev) (g : Nat) : Bool := decide (19 ≤ ((d.getGroup g).lane.filter fun l => l.st == .service).length)

/-- The frames of an egress pipeline that may go to their MACs: through the stages, with no earlier frame of their port and class left
(R130); what stays, and what goes. -/
def outGo : List Flight → List Flight → List Flight × List Flight
  | kept, [] => (kept, [])
  | kept, f :: r =>
    if f.place == .ready && !kept.any (fun g => g.outPort == f.outPort && g.cls == f.cls) then
      let x := outGo kept r
      (x.1, f :: x.2)
    else outGo (kept ++ [f]) r

/-- Those frames given to their MACs. -/
def egressFlush (pl : Nat) (d : Dev) : Dev :=
  let x := outGo [] (d.getPipe pl).egress
  let d1 := d.modPipe pl fun y => { y with egress := x.1 }
  { d1 with tx := x.2.foldl (fun t f => tset t [] f.outPort (tgetD t [] f.outPort ++ [f])) d1.tx }

/-- A frame of pipeline `pl` leaves it discarded under `code` (R136). -/
def dropFlight (d : Dev) (pl fid code : Nat) (egress : Bool) : Dev :=
  let x := d.getPipe pl
  match (if egress then x.egress else x.ingress).find? (·.fid == fid) with
  | none => d
  | some f =>
    egressFlush pl ((d.setPipe pl (if egress then { x with egress := x.egress.filter (·.fid != fid) }
      else { x with ingress := x.ingress.filter (·.fid != fid) })).dropPipe pl code (if egress then f.len else f.rxLen))

/-! ### Dispatch (R205, R206, R214) -/

/-- A DISPATCH record, one in 2^n invocations (R223). -/
def sampleRec (d : Dev) (e t fn : Nat) : Dev :=
  let x := d.getEng e
  match x.sample with
  | none => d
  | some n =>
    let k := x.sampled + 1
    if 2 ^ n ≤ k then (d.setEng e { x with sampled := 0 }).traceRec e 0x09 t fn [] else d.setEng e { x with sampled := k }

/-- The frame a work is about, in its pipeline. -/
def workFrame (d : Dev) : Work → Option Flight
  | .frame pl fid egress => (if egress then (d.getPipe pl).egress else (d.getPipe pl).ingress).find? (·.fid == fid)
  | _ => none

/-- What an invocation finds in its start registers (R207, R212). -/
def startRegs (d : Dev) (i : Invocation) : StartRegs :=
  match i.work, d.workFrame i.work with
  | .frame pl _ egress, some f =>
    { fn := i.fn, entry := i.entry, word := slice (Config.metadata f) 0 32, len := f.len, egress := egress, pl := pl, view := f.view }
  | .trigger _ n, _ => { fn := i.fn, entry := i.entry, view := d.fwd.view, arg := n }
  | _, _ => { fn := i.fn, entry := i.entry, view := d.fwd.view }

/-- The frame window of an invocation: the first 384 bytes of its frame (R207). -/
def startWindow (d : Dev) (i : Invocation) : Bytes := match d.workFrame i.work with | some f => f.bytes.take 384 | none => []

/-- Thread `t` of engine `e` takes an invocation in state `st`. -/
def startThread (d : Dev) (e t : Nat) (i : Invocation) (st : ThreadSt) : Dev :=
  (d.modEng e fun x => x.setThread t { st := st, inv := some i, regs := d.startRegs i, window := d.startWindow i
                                       faults := (x.thread t).faults }).sampleRec e t i.fn

/-- In hive mode each descriptor goes to the lowest idle thread at once (R214); at most one per thread. -/
def hiveHand (e : Nat) : Nat → Dev → Dev
  | 0, d => d
  | n + 1, d =>
    let x := d.getEng e
    match x.hive && x.obj.st == .running, x.inbox, x.idleThreads with
    | true, i :: r, t :: _ => hiveHand e n ((d.setEng e { x with inbox := r }).startThread e t i .running)
    | _, _, _ => d

/-- The engines that dispatch may choose for a module's invocation (R206, R224). -/
def candidates (d : Dev) (placement : BitVec 64) (module : Nat) : List Nat :=
  (List.range 64).filter fun e =>
    let x := d.getEng e
    placement.getLsbD e && x.obj.st == .running && x.excluded != some module && decide (x.inbox.length < 32)

/-- The engine of `l` with the fewest descriptors, the lower number on ties (R206). -/
def leastLoaded (d : Dev) : List Nat → Option Nat
  | [] => none
  | e :: r =>
    match leastLoaded d r with
    | none => some e
    | some b => if (d.getEng b).inbox.length < (d.getEng e).inbox.length then some b else some e

/-- The engine R206 sends an invocation to. -/
def pickEngine (d : Dev) (placement : BitVec 64) (module : Nat) : Option Nat :=
  let c := d.candidates placement module
  let open' := c.filter fun e => !(d.getEng e).gated
  let gated := c.filter fun e => (d.getEng e).gated
  if (open'.all fun e => decide (8 ≤ (d.getEng e).inbox.length)) && !gated.isEmpty then d.leastLoaded gated
  else d.leastLoaded open'

/-- A gated engine wakes and writes LP_EXIT before any other record (R221). -/
def wake (d : Dev) (e : Nat) : Dev :=
  let x := d.getEng e
  if x.gated then
    (d.setEng e { x with gated := false, gatedTime := x.gatedTime + (d.now - x.gatedAt) }).traceRec e 0x02 0 0xFFFF []
  else d

/-- The version of a module's code on an engine. -/
def placedVersion (d : Dev) (e m : Nat) : Nat := match tget (d.getEng e).image m with | some p => p.version | none => 0

/-- An invocation sent under the definition it holds (R205, R206): `none` when no engine takes it. -/
def send (d : Dev) (i : Invocation) : Option Dev :=
  match d.pickEngine i.placement i.module with
  | none => none
  | some e =>
    let d1 := d.wake e
    some (hiveHand e 15 (d1.modEng e fun x => { x with inbox := x.inbox ++ [{ i with version := d1.placedVersion e i.module }] }))

/-- Dispatch of an invocation of function `n` (R205, R206): `none` when no engine takes it. -/
def dispatch (d : Dev) (n : Nat) (w : Work) : Option Dev :=
  match d.getFn n with
  | none => none
  | some f =>
    match d.send { fn := n, module := f.module, version := 0, entry := f.entry, work := w, start := d.sysTicks, timeNs := f.timeNs
                   issues := f.issues, userTrace := f.userTrace, drop := f.drop, placement := f.placement } with
    | some e => some (e.modFn n fun g => { g with invocations := g.invocations + 1 })
    | none => none

/-! ### Threads (R213-R218) -/

/-- Thread `t` is free of its invocation; a thread that joined it goes on with `c`, and so does one that will (R213, R215). -/
def leave (t : Nat) (c : Child) (x : Engine) : Engine :=
  { x with threads := x.threads.map fun y =>
      let z := if tget y.kids t = some .runs then { y with kids := tput y.kids t c } else y
      if z.join = some t then { z with join := none, answer := .joined c } else z }

/-- A thread that ended its invocation is idle again (R213, R215). -/
def endThread (e t : Nat) (d : Dev) : Dev :=
  hiveHand e 15 (d.modEng e fun x => leave t .ended (x.setThread t { faults := (x.thread t).faults }))

/-- Thread `t` of engine `e` issues (R200). -/
def issue (e t : Nat) (d : Dev) : Dev := d.setEng e ((d.getEng e).issue t)

/-- The answer of the hardware to thread `t`. -/
def answerThread (e t : Nat) (a : Answer) (d : Dev) : Dev :=
  d.setEng e ((d.getEng e).setThread t { (d.getEng e).thread t with answer := a })

/-- Thread `t` runs and waits for nothing: it can make an issue (R200, R201). -/
def acts (d : Dev) (e t : Nat) : Option Invocation :=
  let y := (d.getEng e).thread t
  if y.st = .running && y.join.isNone then y.inv else none

/-- The master of engine `e` can make an issue (R213). -/
def masterActs (d : Dev) (e : Nat) : Bool :=
  let x := d.getEng e
  x.obj.st == .running && !x.hive && (x.thread 1).st == .idle

/-- START_REGISTER_WRITE: the master gives an idle worker the descriptor at the head of the inbox; a write to another thread is refused and
reported to the master (R213, R216). -/
def startRegister (e t : Nat) (d0 : Dev) : Dev :=
  if !d0.masterActs e || t < 2 || 15 < t then d0
  else
    let d := d0.issue e 1
    let x := d.getEng e
    if (x.thread t).st != .idle then d.answerThread e 1 (.writeRefused t)
    else match x.inbox with
      | [] => d
      | i :: r => ((d.setEng e { x with inbox := r }).startThread e t i .claimed).answerThread e 1 (.claimed t)

/-- RELEASE_MASK: claimed threads of the mask run (R213, R216). -/
def releaseMask (e : Nat) (mask : BitVec 16) (d : Dev) : Dev :=
  if !d.masterActs e then d
  else (d.issue e 1).modEng e fun y => (List.range 15).foldl (fun z k =>
    let t := k + 1
    if mask.getLsbD t && (z.thread t).st == .claimed then z.setThread t { z.thread t with st := .running } else z) y

/-- FORK (R215, R216): a sub-entry of the same module on an idle thread, or the answer "no thread". -/
def fork (e t entry : Nat) (d0 : Dev) : Dev :=
  match d0.acts e t with
  | none => d0
  | some i =>
    let d := d0.issue e t
    match (d.getEng e).idleThreads with
    | [] => d.answerThread e t .noThread
    | c :: _ =>
      let r := ((d.getEng e).thread t).regs
      d.modEng e fun y =>
        let p := y.thread t
        (y.setThread c { st := .running, inv := some { i with entry := entry, work := .fork t }, regs := { r with entry := entry }
                         faults := (y.thread c).faults }).setThread t { p with kids := tput p.kids c .runs, answer := .forked c }

/-- JOIN (R215): the thread waits for a thread it forked, or has its end, or its fault, at once. -/
def join (e t c : Nat) (d0 : Dev) : Dev :=
  match d0.acts e t, tget ((d0.getEng e).thread t).kids c with
  | some _, some .runs => (d0.issue e t).modEng e fun y => y.setThread t { y.thread t with join := some c }
  | some _, some k => (d0.issue e t).answerThread e t (.joined k)
  | _, _ => d0

/-- The exception record's frame reference (Table 6.7). The excursion entry is the frame's place among those away. -/
def frameRef (d : Dev) (w : Work) : Nat :=
  match w with
  | .frame pl fid egress =>
    let l := (if egress then (d.getPipe pl).egress else (d.getPipe pl).ingress).filter fun f => f.place == .away
    pl * 2 ^ 24 + (l.findIdx fun f => f.fid == fid) % 512
  | _ => 0xFFFFFFFF

/-- The work a thread serves, through its forks: at most 16 of them. -/
def rootWork (x : Engine) : Nat → Nat → Option Work
  | 0, _ => none
  | n + 1, t =>
    match (x.thread t).inv with
    | some i => (match i.work with | .fork p => rootWork x n p | w => some w)
    | none => none

/-- A thread stops at a fault and its record is queued, or waits for room (R217). The master's record names no function (log 127). -/
def faultThread (e t cause : Nat) (a : IssueAt) (d : Dev) : Dev :=
  let x := d.getEng e
  let y := x.thread t
  if !(y.st == .running || (t == 1 && d.masterActs e)) then d
  else
    let fn := match y.inv with | some i => i.fn | none => 0xFFFF
    let w := match y.inv with | some i => d.frameRef ((rootWork x 16 t).getD i.work) | none => 0xFFFFFFFF
    let r : ExcRec := { thread := t, cause := cause, fn := fn, offset := a.offset, addr := if cause = 1 || cause = 3 then a.addr else 0
                        frameRef := w, issues := a.issues, time := d.sysTicks }
    let d1 := d.modEng e fun y =>
      let z := leave t (.faulted cause) (y.setThread t { y.thread t with st := .faulted, join := none })
      let z1 := if cause = 3 && decide (a.addr < 524288) && !z.dataUe.contains (a.addr / 8) then { z with dataUe := a.addr / 8 :: z.dataUe } else z
      if z1.excq.length < 16 then { z1 with excq := z1.excq ++ [r] } else { z1 with excWait := z1.excWait ++ [r] }
    hiveHand e 15 (d1.traceRec e 0x03 t fn (le 4 cause ++ le 4 a.offset))

/-- WATCHDOG (R217): the time budget, counted in system time from dispatch, is exceeded. -/
def watchdog (e t : Nat) (a : IssueAt) (d : Dev) : Dev :=
  match ((d.getEng e).thread t).inv with
  | none => d
  | some i => if i.start + (i.timeNs * 65536 : Nat) < d.sysTicks && t != 0 then d.faultThread e t 2 a else d

/-- The record of Table 6.7. -/
def excBytes (r : ExcRec) (action : Nat) : Bytes :=
  le 1 r.thread ++ le 1 r.cause ++ le 2 r.fn ++ le 4 r.offset ++ le 8 r.addr ++ le 4 r.frameRef ++ le 4 r.issues ++ ts12 r.time ++
  le 1 action ++ List.replicate 11 0

/-- The frame of an ended invocation is discarded under PE_FAULT and its excursion entry freed (R218); what a fork did ends with
its thread. -/
def dropWork (d : Dev) (fn : Nat) (w : Work) : Dev :=
  match w with
  | .frame pl fid egress => (d.dropFlight pl fid 21 egress).modFn fn fun f => { f with fault := f.fault + 1 }
  | _ => d

/-- SUPERVISOR_HANDLE: the record at the queue head (R217, R218). -/
def supervisor (e : Nat) (d0 : Dev) : Dev :=
  let d := if (d0.getEng e).excq.isEmpty then d0 else d0.issue e 0
  let x := d.getEng e
  match x.excq with
  | [] => d
  | r :: rest =>
    let th := x.thread r.thread
    let fs := d.now :: th.faults.filter fun k => decide (d.now < k + secT 1)
    let retire := decide (8 ≤ fs.length)
    let q := match x.excWait with | [] => (rest, []) | w :: ws => (rest ++ [w], ws)
    let d1 := d.modEng e fun y =>
      { y.setThread r.thread { st := if retire then .retired else .idle, faults := fs } with excq := q.1, excWait := q.2 }
    let d2 := match th.inv with | some i => d1.dropWork r.fn i.work | none => d1
    let d3 := d2.raise 0x0300 sevMinor (engHandle e) [.raw 1 (excBytes r (b2n retire))]
    let d4 := if retire then (d3.raise 0x0301 sevMajor (engHandle e) [fIdx r.thread, fByte r.cause]).traceRec e 0x05 r.thread r.fn []
      else d3.traceRec e 0x04 r.thread r.fn []
    hiveHand e 15 d4

/-! ### What a function does (R208, R209) -/

/-- What an access comes to: it is made, or the thread faults with a cause of Table 6.6. -/
inductive AccRes where
  | made (d : Dev)
  | fault (cause : Nat)

/-- A frame that stands for the work of a thread in its lookups: its own, or, for a trigger, none, in the current view (log 127). -/
def lookFrame (d : Dev) (w : Option Work) : Flight :=
  match w.bind d.workFrame with
  | some f => f
  | none => { fid := 0, src := .engine 0, bytes := [], pkt := {}, len := 0, rxLen := 0, arrived := 0, view := d.fwd.view, cls := 0, vrf := 0
              frame := { len := 0, raw := [], fcsOk := true, macsec := { isProtected := false, chan := 0, an := 0, pn := 0, icvOk := true }
                         labelSpace := 0, vlanAdmit := true, vrf := 0, svc := 0, routed := false, flood := 0, profile := 0, aclKey := 0
                         flowKey := 0, pol1 := none, cntPort := none, cntRoute := none } }

/-- An IP header of which only the destination matters. -/
def lookHdr (v6 : Bool) (da : Nat) : IpHdr :=
  { v6 := v6, sa := 0, da := da, ttl := 0, dscp := 0, proto := 0, flow := 0, frag := false, ihl := 5, csumOk := true, off := 0, total := 0 }

/-- One access of thread `t` of engine `e` in invocation `i` (R208). Lookups use the frame's view; extended ones draw on the steering pipeline's
allowance, and a trigger makes none. -/
def access (e t : Nat) (i : Invocation) (a : Access) (d : Dev) : AccRes :=
  let x := d.getEng e
  let m := tget d.pe.module i.module
  let share := match m with | some y => y.data | none => 0
  let w := rootWork x 16 t
  let f := d.lookFrame w
  match a with
  | .user b => if i.userTrace then .made (d.traceRec e 0x10 t i.fn b) else .fault 1
  | .window o b => if o + b.length ≤ 640 then
      .made (d.setEng e (x.setThread t { x.thread t with window := patch (slice (x.thread t).window 0 (max (x.thread t).window.length (o + b.length))) o b }))
      else .fault 1
  | .readWindow o n => if o + n ≤ 640 then .made d else .fault 1
  | .data o b => if o + b.length ≤ share then
      .made (d.setEng e { x with data := b.zipIdx.foldl (fun z p => tset z 0 (i.module * 2 ^ 19 + o + p.2) p.1) x.data }) else .fault 1
  | .readData o n => if share < o + n then .fault 1
      else if x.dataUe.any fun k => decide (o < k * 8 + 8) && decide (k * 8 < o + n) then .fault 3 else .made d
  | .area o b =>
    (match m.bind (·.area), m with
    | some base, some y => if o + b.length ≤ y.hbm then
        .made (b.zipIdx.foldl (fun z p => z.hbmPutByte (hbmPrim 0x3C4800000 (base + o + p.2)) p.1) d) else .fault 1
    | _, _ => .fault 1)
  | .readArea o n => (match m with | some y => if o + n ≤ y.hbm && n ≤ 256 then .made d else .fault 1 | none => .fault 1)
  | .lpm v6 vrf da => .made (d.prefixRoute { f with vrf := vrf } (lookHdr v6 da) da).2
  | .em tab key =>
    (match tget (d.tablesOf f).em tab with
    | some y => .made (d.emLook f tab (keyBytes y.keyBits key) true).2
    | none => .fault 1)
  | .ext tab key =>
    (match w, tget d.fwd.tbl.ext tab with
    | some (.frame pl _ _), some y =>
      (match d.extIssue pl tab (keyBytes y.keyBits key) f with
      | .go _ z | .wait _ z | .drop _ _ z | .punted _ z => .made z)
    | _, _ => .fault 1)

/-- An access is one of the 8 lookups of R208. -/
def isLookup : Access → Bool
  | .lpm _ _ _ | .em _ _ | .ext _ _ => true
  | _ => false

/-- The accesses of an invocation in order, until one faults; `n` lookups are left (R208). -/
def accesses (e t : Nat) (i : Invocation) : Nat → List Access → Dev → Dev × Option Nat
  | _, [], d => (d, none)
  | n, a :: r, d =>
    if isLookup a && n == 0 then (d, some 1)
    else match access e t i a d with
      | .made d1 => accesses e t i (if isLookup a then n - 1 else n) r d1
      | .fault c => (d, some c)

/-- What a verdict does to a frame's bytes is within R209. -/
def editOk (len : Nat) (x : FrameEdit) : Bool :=
  let n := len - x.removed + x.insert.length
  decide (x.off ≤ 384) && decide (x.off + x.removed ≤ min 384 len) && decide (x.off ≤ len) && decide (x.insert.length ≤ 256) && decide (64 ≤ n) &&
  decide (n ≤ 16383)

/-- A verdict written to the frame of a work: it waits for its return. -/
def putVerdict (pl fid : Nat) (egress : Bool) (v : Verdict) (d : Dev) : Dev :=
  let put (l : List Flight) : List Flight := l.map fun f => if f.fid = fid then { f with verdict := some v } else f
  d.modPipe pl fun p => if egress then { p with egress := put p.egress } else { p with ingress := put p.ingress }

/-- THREAD_VERDICT (R129, R208, R209, R213): the accesses of the invocation, then its verdict. -/
def threadVerdict (e t : Nat) (acts : List Access) (v : Verdict) (a : IssueAt) (d0 : Dev) : Dev :=
  match d0.acts e t with
  | none => d0
  | some i =>
    let r := accesses e t i 8 acts (d0.issue e t)
    let d := r.1
    match r.2 with
    | some c => d.faultThread e t c a
    | none =>
      if i.issues < a.issues then d.faultThread e t 4 a
      else match i.work, v with
        | .frame _ _ _, .endTrigger => d
        | .frame pl fid egress, .cont _ _ _ _ _ x =>
          if editOk (match d.workFrame i.work with | some f => f.len | none => 0) x then (putVerdict pl fid egress v d).endThread e t
          else d.faultThread e t 1 a
        | .frame pl fid egress, _ => (putVerdict pl fid egress v d).endThread e t
        | _, _ => d.endThread e t

/-- Emitted frames in a pipeline's emit queue (R210). -/
def emitted (p : Pipe) : Nat := (p.emits.filter fun g => match g.src with | .engine _ => true | _ => false).length

/-- EMIT (R210): a frame of at most 640 bytes with a next hop enters an emit queue at stage 9, or is refused. -/
def emitFrame (e t pl : Nat) (f : RxFrame) (nh : Nat) (a : IssueAt) (d0 : Dev) : Dev :=
  match d0.acts e t with
  | none => d0
  | some i =>
    let d := d0.issue e t
    let p := d.getPipe pl
    if 640 < f.len || f.len < 64 then d.faultThread e t 1 a
    else if 1024 ≤ emitted p then
      ((d.setPipe pl { p with emitRefused := p.emitRefused + 1 }).modFn i.fn fun g => { g with emitRefused := g.emitRefused + 1 }).answerThread e t
        .emitRefused
    else
      let g : Flight := { d.newFlight (.engine e) f with cls := Config.emitClass e % 8, dec := .nextHop nh, stage := 9 }
      ({ d.setPipe pl { p with emits := p.emits ++ [g] } with fids := d.fids + 1 }).answerThread e t .emitted

/-! ### Triggers (R212) -/

/-- The instant of the next invocation of a trigger, in system-time ticks. -/
def Trigger.at (t : Trigger) : Int := t.start + ((t.idx * t.periodNs * 65536) / t.k : Nat)

/-- The trigger after an invocation instant. -/
def Trigger.next (t : Trigger) : Trigger :=
  if t.k ≤ t.idx + 1 then { t with idx := 0, begun := true, start := t.start + (t.periodNs * 65536 : Nat) }
  else { t with idx := t.idx + 1, begun := true }

/-- The waiting invocations of a trigger dispatched, oldest first, while an engine takes them. -/
def drainTrigger (k : Nat) : Nat → Dev → Dev
  | 0, d => d
  | n + 1, d =>
    match tget d.pe.trig k with
    | none => d
    | some t =>
      match t.waiting with
      | [] => d
      | i :: r =>
        match d.dispatch t.fn (.trigger k i) with
        | none => d
        | some d1 => drainTrigger k n { d1 with pe := { d1.pe with trig := tput d1.pe.trig k { t with waiting := r } } }

/-- TRIGGER_INVOCATION (R212): at its instant the invocation is dispatched, waits, or is missed. -/
def triggerInvocation (k : Nat) (d : Dev) : Dev :=
  match tget d.pe.trig k with
  | none => d
  | some t =>
    if d.sysTicks < Trigger.at t then drainTrigger k t.waiting.length d
    else
      let full := decide (4096 ≤ t.waiting.length)
      let t1 := Trigger.next { t with waiting := if full then t.waiting else t.waiting ++ [t.idx] }
      let d1 : Dev := { d with pe := { d.pe with trig := tput d.pe.trig k t1 } }
      let d2 := if full then d1.raiseCounted 0x0304 sevMinor k (handle 0x0D k) 0 [fCnt 0] else d1
      drainTrigger k t1.waiting.length d2

/-! ### Engine states (R220, Table 6.8a) -/

/-- The longest time budget of the functions placed on an engine, in ns. -/
def longestBudget (d : Dev) (e : Nat) : Nat :=
  (d.pe.fn.filter fun p => p.2.placement.getLsbD e).foldl (fun m p => max m p.2.timeNs) 0

/-- The bound of an engine's stop (Table 6.8a). -/
def engBound (d : Dev) (e : Nat) : Nat := d.now + nsT (d.longestBudget e) + usT 10

/-- Modules placed on engine `e`. -/
def placedModules (d : Dev) (e : Nat) : List Nat :=
  ((d.pe.fn.filter fun p => p.2.placement.getLsbD e).map (·.2.module)).eraseDups

/-- A module as it stands in a program memory. -/
def placed (x : Module) : Placed := { version := x.version, code := x.image }

/-- The current images of the modules placed on an engine (Table 6.8a). -/
def loadImages (d : Dev) (e : Nat) : Tab Placed :=
  (d.placedModules e).foldl (fun t m => match tget d.pe.module m with | some x => tput t m (placed x) | none => t) []

/-- An engine with those images, and its modules' data written afresh (R218; log 127). -/
def loaded (d : Dev) (e : Nat) (x : Engine) : Engine := { x with image := d.loadImages e, data := [], dataUe := [] }

/-- Invocations taken from an engine's inbox go to other engines under the definition they were dispatched with, or take its overflow action
(Table 6.8a, R205). -/
def redispatch (d : Dev) (i : Invocation) : Dev :=
  match d.send i with
  | some x => x
  | none => match i.work with
    | .frame pl fid egress =>
      if i.drop then (d.dropFlight pl fid 20 egress).modFn i.fn fun g => { g with busy := g.busy + 1 }
      else (putVerdict pl fid egress (.cont none none none none none { off := 0, removed := 0, insert := [] }) d).modFn i.fn
        fun g => { g with bypasses := g.bypasses + 1 }
    | .trigger k n => match tget d.pe.trig k with
      | some t => { d with pe := { d.pe with trig := tput d.pe.trig k { t with waiting := n :: t.waiting } } }
      | none => d
    | .fork _ => d

/-- Frames an engine holds are discarded under PE_FAULT: those in its inbox and those of its threads (R220, Table 6.8a). -/
def discardHeld (e : Nat) (d : Dev) : Dev :=
  let x := d.getEng e
  let invs := x.inbox ++ x.threads.filterMap (·.inv)
  let d1 := d.modEng e fun y => { y with
    inbox := [], excq := [], excWait := []
    threads := y.threads.map fun t => if t.st = .retired then t else { faults := t.faults } }
  invs.foldl (fun z i => z.dropWork i.fn i.work) d1

/-- PE_ENABLE (Table 6.8a). -/
def peEnable (c : Cmd) (d : Dev) : Reply :=
  let e := c.hIdx
  let x := d.getEng e
  let r := x.obj.enable d.nowNs
  check d [(c.bad 0x0A, .badHandle)]
    (.done (d.setEng e (if r.begins then d.loaded e { x with obj := r.obj } else { x with obj := r.obj })) { status := r.status })

/-- An engine leaves dispatch and its inbox goes elsewhere (Table 6.8a). -/
def engLeave (d : Dev) (e : Nat) (o : Obj) : Dev :=
  let x := d.getEng e
  x.inbox.foldl redispatch ((d.wake e).modEng e fun y => { y with obj := o, inbox := [] })

/-- PE_DISABLE (Table 6.8a). -/
def peDisable (c : Cmd) (d : Dev) : Reply :=
  let e := c.hIdx
  let x := d.getEng e
  let r := x.obj.disable d.nowNs (d.engBound e)
  check d [(c.bad 0x0A, .badHandle)]
    (.done (if x.obj.st = .running then d.engLeave e r.obj else d.setEng e { x with obj := r.obj, reenable := none }) { status := r.status })

/-- Failures of the last 10 minutes with one now, and whether firmware re-enables (R220). -/
def failNote (x : Engine) (now : Nat) : Engine × Bool :=
  let fs := now :: x.fails.filter fun t => decide (now < t + secT 600)
  let again := decide (fs.length < 3)
  ({ x with fails := fs, reenable := if again then some (now + secT 1) else none }, again)

/-- The code of an engine failure cause, in the order of R220. -/
def engCause : EngCause → Nat
  | .supervisor => 0 | .programMemory => 1 | .selfTest => 2

/-- EV_PE_FAILED (Table 6.12). -/
def raiseEngFailed (d : Dev) (e : Nat) (c : EngCause) (again : Bool) : Dev :=
  d.raise 0x0302 sevCritical (engHandle e) [fByte (engCause c), fFlag again]

/-- ENGINE_FAILURE of a RUNNING engine (R220). -/
def engineFailure (e : Nat) (c : EngCause) (d0 : Dev) : Dev :=
  if (d0.getEng e).obj.st != .running then d0
  else
    let d := d0.wake e
    let x := d.getEng e
    let r := failNote x d.now
    discardHeld e ((d.setEng e { r.1 with obj := x.obj.beginStop d.nowNs (d.engBound e) true }).raiseEngFailed e c r.2)

/-- THREAD_FAULT: causes 1, 3 and 4 of Table 6.6; cause 4 needs the budget exceeded. A fault of the supervisor fails the engine (R220). -/
def threadFault (e t cause : Nat) (a : IssueAt) (d : Dev) : Dev :=
  if !(cause = 1 || cause = 3 || cause = 4) then d
  else if t = 0 then engineFailure e .supervisor d
  else match ((d.getEng e).thread t).inv with
    | some i => if cause = 4 && a.issues ≤ i.issues then d else d.faultThread e t cause a
    | none => if cause = 4 then d else d.faultThread e t cause a

/-- ENGINE_REENABLE (R220): not while the device is headless. -/
def engineReenable (e : Nat) (d : Dev) : Dev :=
  let x := d.getEng e
  if due d.now x.reenable && x.obj.st == .stopped && !d.hif.headless then
    d.setEng e (d.loaded e { x with obj := (x.obj.enable d.nowNs).obj, reenable := none })
  else d

/-- ENGINE_SELF_TEST_DONE (Table 6.8a). -/
def engineSelfTest (e : Nat) (ok : Bool) (d : Dev) : Dev :=
  let x := d.getEng e
  if x.obj.st != .starting then d
  else if ok then
    (d.raiseObj (engHandle e) x.obj .running false 0).setEng e { x with obj := x.obj.started d.nowNs, idleSince := d.now, gated := false }
  else
    let r := failNote x d.now
    ((d.setEng e { r.1 with obj := x.obj.startFailed d.nowNs }).raiseEngFailed e .selfTest r.2).raiseObj (engHandle e)
      { x.obj with failed := true } .stopped false 0

/-- ENGINE_STOP_DONE (Table 6.8a). -/
def engineStopDone (e : Nat) (d : Dev) : Dev :=
  let x := d.getEng e
  let free := x.threads.all fun t => t.st == .idle || t.st == .retired
  if x.obj.st = .stopping && (free || due d.now x.obj.due) then
    let n := (x.threads.filter fun t => t.inv.isSome).length
    let d1 := (discardHeld e d).raiseObj (engHandle e) x.obj .stopped (!free) n
    let d2 := d1.modEng e fun y => { y with obj := y.obj.stopped d.nowNs, gated := false }
    if x.obj.held then d2.modEng e (d2.loaded e) else d2
  else d

/-- IDLE_GATE (R221): 100 µs without work; not while a stopped trace buffer waits to be re-armed (R222). -/
def idleGate (e : Nat) (d : Dev) : Dev :=
  let x := d.getEng e
  if x.obj.st = .running && !x.gated && !x.busy && !x.traceFull && x.idleSince + usT 100 ≤ d.now then
    let d1 := d.traceRec e 0x01 0 0xFFFF []
    d1.setEng e { d1.getEng e with gated := true, gatedAt := d.now }
  else d

/-! ### Modules, functions, slots (R202-R205, R218) -/

/-- A module that a function names. -/
def moduleUsed (d : Dev) (m : Nat) : Bool := d.pe.fn.any fun p => p.2.module == m

/-- The module an image of type 7 holds (R203). -/
def moduleOf (b : Bytes) (c : Comp) : Module :=
  let n := Config.moduleDecl (compBytes b c)
  { version := c.version, image := compBytes b c, prog := n.1, data := n.2.1, hbm := n.2.2.1, entries := min 256 n.2.2.2 }

/-- The lowest place in the 4 GiB of packet-engine memory where `n` bytes are free beside the areas `l` of base and size (R204; log 127). -/
def areaFree (l : List (Nat × Nat)) (n : Nat) : Option Nat :=
  ((0 :: l.map fun a => a.1 + a.2).filter fun b =>
    decide (b + n ≤ 4294967296) && l.all fun a => decide (b + n ≤ a.1) || decide (a.1 + a.2 ≤ b)).min?

/-- The HBM areas that modules hold. -/
def areas (d : Dev) : List (Nat × Nat) := d.pe.module.filterMap fun m => m.2.area.map fun b => (b, m.2.hbm)

/-- Modules that no function names hold no HBM area. -/
def freeAreas (d : Dev) : Dev :=
  { d with pe := { d.pe with module := d.pe.module.map fun m => (m.1, if d.moduleUsed m.1 then m.2 else { m.2 with area := none }) } }

/-- Module `m` with an HBM area, when one can be allocated. -/
def takeArea (m : Nat) (d : Dev) : Option Dev :=
  match tget d.pe.module m with
  | none => none
  | some x =>
    if x.area.isSome then some d
    else (areaFree d.areas x.hbm).map fun b => { d with pe := { d.pe with module := tput d.pe.module m { x with area := some b } } }

/-- PE_MODULE_LOAD (R203, R225). A load with length 0 unloads. -/
def peModuleLoad (nv : Nv) (pl : HostRead) (c : Cmd) (d : Dev) : Reply :=
  let m := c.hIdx; let len := c.f 0 4
  let b := (pl.getD []).take len
  if len = 0 then
    check d [(c.bad 0x0C, .badHandle), (c.dirty 4 28, .badArg), (d.moduleUsed m || d.pe.roll.isSome, .refusedBusy)]
      (.done { d with pe := { d.pe with module := tdel d.pe.module m } } {})
  else
    match if (verifyImg nv b).isNone then oneComp b 7 else none with
    | none => check d [(c.bad 0x0C, .badHandle), (pl.isNone || c.dirty 4 28, .badArg), (d.pe.roll.isSome, .refusedBusy)]
        (.done d { status := .verifyFailed })
    | some (_, p) =>
      check d [(c.bad 0x0C, .badHandle), (pl.isNone || c.dirty 4 28, .badArg), (d.pe.roll.isSome, .refusedBusy)]
        (let d1 : Dev := { d with pe := { d.pe with module := tput d.pe.module m (moduleOf b p) } }
         .done (if d.moduleUsed m then (takeArea m d1).getD d1 else d1) {})

/-- Program memory and data SRAM suffice with function `i` made `f` (R204). -/
def fnFits (d : Dev) (i : Nat) (f : Func) : Bool :=
  let fns := tput d.pe.fn i f
  let size (sel : Module → Nat) (ms : List Nat) : Nat := (ms.map fun m => match tget d.pe.module m with | some x => sel x | none => 0).sum
  ((List.range 64).all fun e =>
    let ms := ((fns.filter fun p => p.2.placement.getLsbD e).map (·.2.module)).eraseDups
    decide (size (·.prog) ms ≤ 262144) && decide (size (·.data) ms ≤ 524288))

/-- FN_SET (R204, R205, Table 6.3). A budget field of 0 selects its default. -/
def fnSet (c : Cmd) (d : Dev) : Reply :=
  let i := c.hIdx
  let m := c.f 0 1; let fl := c.f 1 1; let entry := c.f 2 2; let tb := c.f 4 4; let ib := c.f 8 2; let pl := c.f 16 8
  if fl < 8 && bit fl 2 then
    check d [(c.bad 0x0B, .badHandle), (c.dirty 10 6 || c.dirty 24 8, .badArg)]
      (.done ({ d with pe := { d.pe with fn := tdel d.pe.fn i } }).freeAreas {})
  else
    let old := tget d.pe.fn i
    let f : Func := {
      module := m, drop := bit fl 0, userTrace := bit fl 1, entry := entry, timeNs := if tb = 0 then 10000 else tb
      issues := if ib = 0 then 256 else ib, placement := BitVec.ofNat 64 pl
      invocations := (old.map (·.invocations)).getD 0, bypasses := (old.map (·.bypasses)).getD 0, busy := (old.map (·.busy)).getD 0
      fault := (old.map (·.fault)).getD 0, dropped := (old.map (·.dropped)).getD 0, emitRefused := (old.map (·.emitRefused)).getD 0 }
    let bad := decide (63 < m) || decide (8 ≤ fl) || (tb != 0 && (decide (tb < 100) || decide (100000 < tb))) ||
      (ib != 0 && decide (ib < 16)) || pl == 0 || c.dirty 10 6 || c.dirty 24 8 ||
      (match tget d.pe.module m with | some x => decide (x.entries ≤ entry) | none => true)
    let d1 := takeArea m ({ d with pe := { d.pe with fn := tput d.pe.fn i f } }).freeAreas
    check d [(c.bad 0x0B, .badHandle), (bad, .badArg),
        ((old.isNone && decide (4096 ≤ d.pe.fn.length)) || !d.fnFits i f || d1.isNone, .noSpace)]
      (.done ((List.range 64).foldl (fun x e =>
         match tget x.pe.module m with
         | some y => if f.placement.getLsbD e && (x.getEng e).obj.st == .running && (tget (x.getEng e).image m).isNone then
             x.setEng e { x.getEng e with image := tput (x.getEng e).image m (placed y) } else x
         | none => x) (d1.getD d)) {})

/-- PE_SET_SLOTS (R202): the round ends, and the next begins with the new table. -/
def peSetSlots (c : Cmd) (d : Dev) : Reply :=
  let e := c.hIdx
  let l := (List.range 16).map fun k => c.f k 1
  let bad := l.getD 0 1 != 0 || l.any (15 < ·) || (!(d.getEng e).hive && !l.contains 1) || c.dirty 16 16
  check d [(c.bad 0x0A, .badHandle), (bad, .badArg)]
    (.done (d.setEng e { d.getEng e with slots := l, slot := 0 }) {})

/-- PE_THREAD_RESTORE (R218): a retired thread becomes IDLE. -/
def peThreadRestore (c : Cmd) (d : Dev) : Reply :=
  let e := c.hIdx; let t := c.f 0 1
  let x := d.getEng e
  check d [(c.bad 0x0A, .badHandle), (t == 0 || decide (15 < t) || c.dirty 1 31, .badArg)]
    (.done (if (x.thread t).st = .retired then hiveHand e 15 (d.modEng e fun y => y.setThread t {}) else d) {})

/-- PE_TRACE_READ (R223): the 512 records; the write index before and after the copy in the result (log 21). -/
def peTraceRead (c : Cmd) (d : Dev) : Reply :=
  let x := d.getEng c.hIdx
  check d [(c.bad 0x0A, .badHandle)]
    (.done d { record := some ((List.range 512).flatMap fun k => (tget x.trace k).getD (List.replicate 32 0))
               result := x.traceAt + x.traceAt * 2 ^ 32 })

/-- PE_TRACE_CONFIG (R222, R223, Table 16.11). -/
def peTraceConfig (c : Cmd) (d : Dev) : Reply :=
  let e := c.hIdx; let mode := c.f 0 1; let fl := c.f 1 1; let n := c.f 2 1
  let x := d.getEng e
  let bad := decide (1 < mode) || decide (1 < fl) || (decide (31 < n) && n != 0xFF) || c.dirty 3 29
  check d [(c.bad 0x0A, .badHandle), (bad, .badArg)]
    (.done (d.setEng e { x with
      traceStop := mode == 1, traceFull := if fl = 1 || mode = 0 then false else x.traceFull
      traceN := if fl = 1 then 0 else x.traceN, sample := if n = 0xFF then none else some n, sampled := 0 }) {})

/-- K ÷ P summed over the triggers but `i`, in invocations per 2^64 seconds times a common factor: compared exactly by cross
multiplication of each with 10^9 per second (R212). -/
def triggerRateOk (d : Dev) (i k p : Nat) : Bool :=
  let l : List (Nat × Nat) := (k, p) :: (d.pe.trig.filter (·.1 != i)).map fun t => (t.2.k, t.2.periodNs)
  let den : Nat := l.foldl (fun n x => n * x.2) 1
  decide ((l.map fun (x : Nat × Nat) => (x.1 * (den / x.2) : Nat)).sum ≤ den)

/-- FN_SET_TRIGGER (R212, Table 6.4). -/
def fnSetTrigger (c : Cmd) (d : Dev) : Reply :=
  let i := c.hIdx; let fn := c.f 0 2; let k := c.f 4 4; let p := c.f 8 8; let st := c.f 16 8
  if k = 0 then
    check d [(c.bad 0x0D, .badHandle), (c.dirty 2 2 || c.dirty 24 8, .badArg)]
      (.done { d with pe := { d.pe with trig := tdel d.pe.trig i } } {})
  else
    let bad := decide (1048576 < k) || decide (p < 1000) || decide (60000000000 < p) || c.dirty 2 2 || c.dirty 24 8 ||
      (d.getFn fn).isNone
    let utc := d.sysTicks / 65536 - d.utcOffset * 1000000000
    let start : Int := if st = 0 then ((utc / (p : Int) + 1) * p + d.utcOffset * 1000000000) * 65536 else (st : Int) * 65536
    check d [(c.bad 0x0D, .badHandle), (bad, .badArg), (!d.triggerRateOk i k p, .budgetExceeded)]
      (.done { d with pe := { d.pe with trig := tput d.pe.trig i { fn := fn, k := k, periodNs := p, start := start } } } {})

/-- PE_GET_STATUS (R226, R514). -/
def peGetStatus (c : Cmd) (d : Dev) : Reply :=
  let i := c.hIdx
  if c.hType = 0x0B then
    match if c.bad 0x0B then none else tget d.pe.fn i with
    | none => .done d { status := .badHandle }
    | some f => statusReply c d [fCnt f.invocations, fCnt f.bypasses, fCnt f.busy, fCnt f.fault, fCnt f.dropped, fCnt f.emitRefused]
  else
    let x := d.getEng i
    let st (t : Thread) : Nat := match t.st with | .idle => 0 | .claimed => 1 | .running => 2 | .faulted => 3 | .retired => 4
    let gt := x.gatedTime + (if x.gated then d.now - x.gatedAt else 0)
    check d [(c.bad 0x0A, .badHandle)]
      (statusReply c d ([fByte x.obj.st.code, fByte (b2n x.hive)] ++ fArr (x.threads.map fun t => [fByte (st t)]) ++
        [fCnt x.inbox.length, f8 (gt / 65536)]))

/-! ### Patches (R224, R225, Table 6.10) -/

/-- The engines a module is placed on that run, in ascending order (R224, R225). -/
def patchEngines (d : Dev) (m : Nat) : List Nat :=
  (List.range 64).filter fun e => (d.placedModules e).contains m && (d.getEng e).obj.st == .running

/-- Step 3 of Table 6.10: the next engine of a rollout wakes and is excluded; with none left, the rollout ends (step 8). -/
def patchNext (d : Dev) (r : Rollout) : Dev :=
  match r.todo with
  | e :: _ => (({ d with pe := { d.pe with roll := some r } }).wake e).traceRec e 0x06 0 0xFFFF (le 4 r.module ++ le 4 r.new.version) |>.modEng e
      fun x => { x with excluded := some r.module }
  | [] =>
    let m := if r.back then r.old else r.new
    let d1 : Dev := { d with pe := { d.pe with roll := none, module := tput d.pe.module r.module m } }
    let d2 := d1.raise 0x0303 (if r.back then sevMajor else sevInfo) (handle 0x0C r.module)
      [fCnt r.old.version, fCnt r.new.version, fCnt r.done.length, fByte (b2n r.back)]
    match d2.hif.cmds.find? (·.intake == r.intake) with
    | some c => d2.complete c { status := if r.back then .verifyFailed else .ok }
    | none => d2

/-- PE_PATCH (R224, R225). -/
def pePatch (nv : Nv) (pl : HostRead) (c : Cmd) (d : Dev) : Reply :=
  let m := c.hIdx; let len := c.f 0 4
  let b := (pl.getD []).take len
  let start := check d [(c.bad 0x0C, .badHandle), (pl.isNone || c.dirty 4 28, .badArg), ((tget d.pe.module m).isNone, .badHandle),
    (d.pe.roll.isSome, .refusedBusy)]
  match tget d.pe.module m, if (verifyImg nv b).isNone then oneComp b 8 else none with
  | some old, some (i, p) =>
    if i.base != old.version then start (.done d { status := .badArg })
    else
      let img := Config.applyDelta old.image (compBytes b p)
      let n := Config.moduleDecl img
      let new : Module := { version := p.version, image := img, prog := n.1, data := n.2.1, hbm := n.2.2.1, entries := min 256 n.2.2.2, area := old.area }
      start (match settle c (.pend d) |>.patchNext
          { intake := c.intake, module := m, old := old, new := new, todo := d.patchEngines m, done := [], back := false } with
        | d1 => .pend d1)
  | _, _ => start (.done d { status := .verifyFailed })

/-- PATCH_ENGINE_DRAINED: steps 4 to 7 for the engine being patched, or a roll-back on a CRC mismatch (R224, R225). -/
def patchDrained (e : Nat) (crcOk : Bool) (d : Dev) : Dev :=
  match d.pe.roll with
  | none => d
  | some r =>
    let x := d.getEng e
    let runs := x.threads.any (fun t => match t.inv with | some i => i.module == r.module | none => false) ||
      x.inbox.any (·.module == r.module)
    if r.todo.head? != some e || runs then d
    else
      let good := crcOk || r.back
      let m := if r.back || !good then r.old else r.new
      let h := hiveHand e 15 (d.modEng e fun y => { y with patching := true })
      let d1 := (h.modEng e fun y => { y with excluded := none, patching := false, image := tput y.image r.module (placed m) }).traceRec e 0x07 0
        0xFFFF (le 4 r.module ++ le 4 m.version)
      if d.hif.headless then { d1 with pe := { d1.pe with roll := some { r with todo := r.todo.tail, done := e :: r.done } } }
      else if good then d1.patchNext { r with todo := r.todo.tail, done := if r.back then r.done else e :: r.done }
      else d1.patchNext { r with todo := r.done, back := true }

end Dev

/-- PE_ENABLE, opcode 0x0300. -/
def execPeEnable (src : Src) (s : State) : Out := s.onDev (Dev.runCmd 0x0300 src Dev.peEnable)
/-- PE_DISABLE, opcode 0x0301. -/
def execPeDisable (src : Src) (s : State) : Out := s.onDev (Dev.runCmd 0x0301 src Dev.peDisable)
/-- PE_GET_STATUS, opcode 0x0302. -/
def execPeGetStatus (src : Src) (s : State) : Out := s.onDev (Dev.runCmd 0x0302 src Dev.peGetStatus)
/-- PE_MODULE_LOAD, opcode 0x0303. -/
def execPeModuleLoad (src : Src) (pl : HostRead) (s : State) : Out := s.onDev (Dev.runCmd 0x0303 src (Dev.peModuleLoad s.nv pl))
/-- FN_SET, opcode 0x0304. -/
def execFnSet (src : Src) (s : State) : Out := s.onDev (Dev.runCmd 0x0304 src Dev.fnSet)
/-- PE_SET_SLOTS, opcode 0x0305. -/
def execPeSetSlots (src : Src) (s : State) : Out := s.onDev (Dev.runCmd 0x0305 src Dev.peSetSlots)
/-- PE_PATCH, opcode 0x0306. -/
def execPePatch (src : Src) (pl : HostRead) (s : State) : Out := s.onDev (Dev.runCmd 0x0306 src (Dev.pePatch s.nv pl))
/-- PE_THREAD_RESTORE, opcode 0x0307. -/
def execPeThreadRestore (src : Src) (s : State) : Out := s.onDev (Dev.runCmd 0x0307 src Dev.peThreadRestore)
/-- PE_TRACE_READ, opcode 0x0308. -/
def execPeTraceRead (src : Src) (s : State) : Out := s.onDev (Dev.runCmd 0x0308 src Dev.peTraceRead)
/-- PE_TRACE_CONFIG, opcode 0x0309. -/
def execPeTraceConfig (src : Src) (s : State) : Out := s.onDev (Dev.runCmd 0x0309 src Dev.peTraceConfig)
/-- FN_SET_TRIGGER, opcode 0x030A. -/
def execFnSetTrigger (src : Src) (s : State) : Out := s.onDev (Dev.runCmd 0x030A src Dev.fnSetTrigger)
/-- TRIGGER_INVOCATION. -/
def execTriggerInvocation (t : Fin 1024) (s : State) : Out := s.onDev (Dev.triggerInvocation t)
/-- START_REGISTER_WRITE. -/
def execStartRegisterWrite (e : Fin 64) (t : Fin 16) (s : State) : Out := s.onDev (Dev.startRegister e t)
/-- RELEASE_MASK. -/
def execReleaseMask (e : Fin 64) (mask : BitVec 16) (s : State) : Out := s.onDev (Dev.releaseMask e mask)
/-- FORK. -/
def execPeFork (e : Fin 64) (t : Fin 16) (entry : Nat) (s : State) : Out := s.onDev (Dev.fork e t entry)
/-- JOIN. -/
def execPeJoin (e : Fin 64) (t child : Fin 16) (s : State) : Out := s.onDev (Dev.join e t child)
/-- EMIT. -/
def execPeEmit (e : Fin 64) (t : Fin 16) (dst : EmitTo) (f : RxFrame) (a : IssueAt) (s : State) : Out :=
  s.onDev (Dev.emitFrame e t dst.pl f dst.nh a)
/-- THREAD_VERDICT. -/
def execThreadVerdict (e : Fin 64) (t : Fin 16) (x : ThreadEnd) (s : State) : Out :=
  s.onDev (Dev.threadVerdict e t x.acts x.verdict x.at_)
/-- THREAD_FAULT. -/
def execThreadFault (e : Fin 64) (t : Fin 16) (cause offset addr issues : Nat) (s : State) : Out :=
  s.onDev (Dev.threadFault e t cause { offset := offset, addr := addr, issues := issues })
/-- WATCHDOG. -/
def execWatchdog (e : Fin 64) (t : Fin 16) (offset issues : Nat) (s : State) : Out :=
  s.onDev (Dev.watchdog e t { offset := offset, addr := 0, issues := issues })
/-- SUPERVISOR_HANDLE. -/
def execSupervisorHandle (e : Fin 64) (s : State) : Out := s.onDev (Dev.supervisor e)
/-- ENGINE_FAILURE. -/
def execEngineFailure (e : Fin 64) (c : EngCause) (s : State) : Out := s.onDev (Dev.engineFailure e c)
/-- ENGINE_REENABLE. -/
def execEngineReenable (e : Fin 64) (s : State) : Out := s.onDev (Dev.engineReenable e)
/-- ENGINE_SELF_TEST_DONE. -/
def execEngineSelfTestDone (e : Fin 64) (ok : Bool) (s : State) : Out := s.onDev (Dev.engineSelfTest e ok)
/-- ENGINE_STOP_DONE. -/
def execEngineStopDone (e : Fin 64) (s : State) : Out := s.onDev (Dev.engineStopDone e)
/-- IDLE_GATE. -/
def execIdleGate (e : Fin 64) (s : State) : Out := s.onDev (Dev.idleGate e)
/-- PATCH_ENGINE_DRAINED. -/
def execPatchEngineDrained (e : Fin 64) (crcOk : Bool) (s : State) : Out := s.onDev (Dev.patchDrained e crcOk)

end Sys2Proof.Machine
end

