-- ==== Sys2Proof/Machine/Forward.lean ====
section
/-! DEFINITION. Excursions, stages 8 to 12, the egress pipeline, pipeline states and the commands of Table 4.7 (R111-R147). -/

namespace Sys2Proof.Machine
namespace Dev

/-! ### Excursions (R127-R129) -/

/-- Frames of a list that are away: entries of an excursion table (R128). -/
def away (l : List Flight) : Nat := (l.filter fun f => f.place == .away).length

/-- Entries in use of the excursion tables of ingress and egress pipeline (R141). -/
def awayCount (x : Pipe) : Nat := away x.ingress + away x.egress

/-- A frame with the header work of its stages done in its bytes (R100, R108, R114). -/
def build (f : Flight) : Flight :=
  if f.built then f else let b := rebuild f; { f with bytes := b, len := b.length, built := true }

/-- The steer after stage 7, or after egress stage 1: the frame goes away as the stages have left it, or its function's overflow action applies
(R128, R205; log 123). It stands in its pipeline while it is dispatched, so that a thread that starts at once finds it. -/
def steer (pl : Nat) (egress : Bool) (f : Flight) (d : Dev) : StRes :=
  match f.fn with
  | none => .go f d
  | some n =>
    match d.getFn n with
    | none => .drop 20 f d
    | some g =>
      let x := d.getPipe pl
      let h : Flight := { build f with place := .away }
      let put := if egress then { x with egress := x.egress ++ [h] } else { x with ingress := x.ingress ++ [h] }
      match if 512 ≤ away (if egress then x.egress else x.ingress) then none else (d.setPipe pl put).dispatch n (.frame pl f.fid egress) with
      | some e => .wait h (e.modPipe pl fun y => if egress then { y with egress := y.egress.filter (·.fid != f.fid) }
          else { y with ingress := y.ingress.filter (·.fid != f.fid) })
      | none =>
        if g.drop then .drop 20 f (d.modFn n fun x => { x with busy := x.busy + 1 })
        else .go { f with fn := none } (d.modFn n fun x => { x with bypasses := x.bypasses + 1 })

/-! ### Stages 8 to 11 -/

/-- One policer of a frame, if one is selected (R134). -/
def policeOpt (i : Option Nat) (f : Flight) (d : Dev) : Bool × Dev :=
  match i with
  | none => (true, d)
  | some k => d.police k f.rxLen

/-- Stage 8 (R134). -/
def stage8 (_pl : Nat) (f : Flight) (d : Dev) : StRes :=
  let a := policeOpt f.frame.pol1 f d
  if !a.1 then .drop 16 f a.2
  else
    let b := policeOpt f.aclPol f a.2
    if b.1 then .go f b.2 else .drop 16 f b.2

/-- The encapsulation index a function's verdict gives (R129). -/
def verdictEncap (f : Flight) : Option Nat := match f.verdict with | some (.cont _ _ _ e _ _) => e | _ => none

/-- A resolved next hop put into the frame (R113); the encapsulation index of a verdict stands (R129). -/
def useNh (i : Nat) (f : Flight) (d : Dev) : StRes :=
  let n := d.getNh i
  match n.type with
  | 0 => .go { f with dec := .unicast n.target, nh := some i, encap := some ((verdictEncap f).getD n.encap) } d
  | 2 => .go { f with dec := .punt n.trap false, nh := some i } d
  | 3 => .go { f with dec := .multicast n.target, nh := some i } d
  | _ => .drop 17 { f with nh := some i } d

/-- Stages 9 and 10 (R106, R113, R118, R123). A frame for which no stage decided is one without a route, or without a label (log 123). -/
def stage9 (_pl : Nat) (f : Flight) (d : Dev) : StRes :=
  match f.dec with
  | .undecided => .drop (if f.layer = 0 && !f.pkt.mpls.isEmpty then 13 else 12) f d
  | .discard => .drop 17 f d
  | .nextHop i =>
    match d.nhLook i with
    | (some j, e) => useNh j f e
    | (none, e) => .drop 18 f e
  | .ecmp g =>
    if d.fwd.ue.contains (.ecmp g) then .drop 18 f (d.ecmpError g)
    else match tget d.fwd.ecmp g with
      | none => .drop 18 f d
      | some x =>
        if d.hashCut f.pkt then .drop 7 f d
        else
          let h := d.hashes f.pkt (flightPort f)
          match ecmpWalk g x (probes x h.1 h.2) d with
          | (some j, e) => useNh j { f with hash := some h.1 } e
          | (none, e) => .drop 18 { f with hash := some h.1 } e
  | _ => .go f d

/-- A counter pair counted, if one is given (R135). -/
def countOpt (d : Dev) (i : Option Nat) (len : Nat) : Dev := match i with | some k => d.countPair k len | none => d

/-- A frame crosses bridge group `pl` to its slice, or is discarded while the group carries nothing (R18, R21, R23). -/
def cross (pl : Nat) (f : Flight) (d : Dev) : Dev :=
  if d.bridgeStalled pl then d.dropPipe pl 23 f.rxLen
  else
    let d1 := d.sendFlits pl true f.len
    let s := tgetD d1.buf.slice {} pl
    { d1 with buf := { d1.buf with slice := tset d1.buf.slice {} pl { s with inbox := s.inbox ++ [f] } } }

/-- A mirror copy (R112, R250): punted under its session's trap code, or handed to the slice for the session's port. The copy of an ingress frame is
the frame as received, that of an egress frame the frame as it leaves (log 19). -/
def mirrorCopy (pl : Nat) (egress : Bool) (f : Flight) (d : Dev) : Dev :=
  match f.mirror with
  | none => d
  | some m =>
    match Config.mirror m with
    | none => d
    | some (true, trap) => d.punt (d.puntOf pl (trap % 256) 2 16383 egress (if egress then f.bytes else f.frame.raw) f)
    | some (false, g) =>
      let b := if egress then f.bytes else f.frame.raw
      let c : Flight := { f with
        fid := d.fids, src := .inject (100 + pl) (8 * pl), bytes := b, len := b.length, built := true, place := .ready, verdict := none
        dec := .unicast (g % 2 ^ 19), nh := none, encap := none, mirror := none }
      cross pl { c with word := slice (Config.metadata c) 0 32 } { d with fids := d.fids + 1 }

/-- Stage 11 (R135), then the frame is ready for its handoff, or is punted (R112). -/
def stage11 (pl : Nat) (f : Flight) (d : Dev) : StRes :=
  let d1 := (d.countOpt f.frame.cntPort f.rxLen).countOpt f.frame.cntRoute f.rxLen
  let d2 := match f.aclIdx with | some i => { d1 with aclCnt := countIn d1.aclCnt i f.rxLen } | none => d1
  let d3 := match f.nh with | some i => { d2 with nhCnt := countIn d2.nhCnt i f.rxLen } | none => d2
  let d4 := mirrorCopy pl false f d3
  match f.dec with
  | .punt t acl =>
    .punted f (d4.punt (d.puntOf pl t (b2n acl) 16383 false f.frame.raw f))
  | _ => .wait { f with place := .ready } d4

/-- The stages in order; index 7 is the steer after stage 7. -/
def stageList : List (Nat → Flight → Dev → StRes) :=
  [stage1, stage2, stage3, stage4, stage5, stage6, stage7, fun pl f d => steer pl false f d, stage8, stage9, stage11]

/-- Stages run in turn until one does not pass the frame on; `k` numbers the first. -/
def runStages (pl k : Nat) : List (Nat → Flight → Dev → StRes) → Flight → Dev → StRes
  | [], f, d => .wait f d
  | s :: r, f, d =>
    match s pl { f with stage := k } d with
    | .go g e => runStages pl (k + 1) r g e
    | x => x

/-- The stages from the frame's own on. -/
def resumeStages (pl : Nat) (f : Flight) (d : Dev) : StRes := runStages pl f.stage (stageList.drop (f.stage - 1)) f d

/-- The codes of Table 4.4 under which a frame whose decision is discard goes: an ACL entry, a next hop, a verdict. -/
def decided (code : Nat) : Bool := code == 15 || code == 17 || code == 22

/-- The outcome of the stages put into the pipeline: a waiting frame keeps its place `i` in the order of arrival (R130). A discard that is the
frame's decision carries its mirror session (R112). -/
def settleFlight (pl i : Nat) (r : StRes) : Dev :=
  match r with
  | .go f d | .wait f d =>
    d.modPipe pl fun x => { x with ingress := x.ingress.take i ++ f :: x.ingress.drop i }
  | .drop c f d => (if decided c then mirrorCopy pl false f d else d).dropPipe pl c f.rxLen
  | .punted _ d => d

/-- A frame that enters ingress pipeline `pl` at the end of the order (R100). -/
def enterIngress (pl : Nat) (f : Flight) (d : Dev) : Dev :=
  settleFlight pl (d.getPipe pl).ingress.length (resumeStages pl f { d with fids := d.fids + 1 })

/-- A frame of the ingress order by number: its position. -/
def findFlight (d : Dev) (pl fid : Nat) : Option (Nat × Flight) :=
  let l := (d.getPipe pl).ingress
  (l.find? (·.fid == fid)).map fun f => (l.findIdx (·.fid == fid), f)

/-- A frame of the ingress order taken out for its next stages. -/
def takeFlight (d : Dev) (pl fid : Nat) : Dev :=
  d.modPipe pl fun x => { x with ingress := x.ingress.filter (·.fid != fid) }

/-- What the reads of an extended bucket bring: an answer, an uncorrectable error in both copies, or nothing (R168, R172). -/
def bucketsRead (d : Dev) (i : Nat) (t : EmTable) (k : Bytes) : Option Bool :=
  let rs := [(t.buckets k).1, (t.buckets k).2].map fun b => d.readCopies (bucketCopies t b) 128
  let bad := [(t.buckets k).1, (t.buckets k).2].any fun b => (EmTable.places b).any fun j => d.fwd.ue.contains (.ext i j)
  if rs.contains none then none else some (!bad && !rs.contains (some none))

/-- A frame goes on with the answer of its extended lookup (R103, R172). -/
def extAnswer (pl i : Nat) (f : Flight) (a : ExtAnswer) (d : Dev) : Dev :=
  settleFlight pl i (resumeStages pl { f with place := .stages, ext := some a } d)

/-- EXT_LOOKUP_REPLY (R103, R168, R170, R172): the reply brings the entry, a miss, or the error of both copies of a bucket; no reply comes while neither
channel of a bucket serves. -/
def extReply (pl fid : Nat) (r : ExtReply) (d : Dev) : Dev :=
  match d.findFlight pl fid with
  | some (i, f) =>
    match f.place, tget d.fwd.tbl.ext f.extTable with
    | .ext dueAt, some t =>
      let d1 := d.takeFlight pl fid
      match if dueAt < d.now then none else d.bucketsRead f.extTable t f.extKey with
      | none => d
      | some good =>
        if r == .eccBoth || !good then
          extAnswer pl i f .none ((d1.setEm true f.extTable { t with ecc := t.ecc + 1 }).modPipe pl fun x => { x with extEcc := x.extEcc + 1 })
        else
          let a := extFind t f.extKey
          let d2 := d1.touchLines [extLine f.extTable (t.buckets f.extKey).1, extLine f.extTable (t.buckets f.extKey).2]
          extAnswer pl i f a (if a = .none then d2.modPipe pl fun x => { x with extMiss := x.extMiss + 1 } else d2)
    | .ext _, none => extAnswer pl i f .none (d.takeFlight pl fid)
    | _, _ => d
  | none => d

/-- EXT_LATE (R172): 1.0 µs without a reply. -/
def extLateRow (pl fid : Nat) (d : Dev) : Dev :=
  match d.findFlight pl fid with
  | some (i, f) =>
    match f.place with
    | .ext dueAt =>
      if dueAt ≤ d.now then
        settleFlight pl i (resumeStages pl { f with place := .stages, ext := some .none }
          ((d.takeFlight pl fid).modPipe pl fun x => { x with extLate := x.extLate + 1 }))
      else d
    | _ => d
  | none => d

/-- Bytes of a frame put in and taken out by its function (R209). -/
def editBytes (x : FrameEdit) (b : Bytes) : Bytes := b.take x.off ++ x.insert ++ b.drop (x.off + x.removed)

/-- The metadata of a verdict put into a frame, and its edit (R129, R209). -/
def applyVerdict (f : Flight) (g : Option Dest) (c : Option (Fin 8)) (n e : Option Nat) (m : Option (Fin 32)) (x : FrameEdit) : Flight :=
  let b := editBytes x f.bytes
  { f with dec := match n, g with
             | some i, _ => .nextHop i
             | none, some (.port p) => .unicast p
             | none, some (.group k) => .multicast k
             | none, none => f.dec
           cls := match c with | some k => k.val | none => f.cls, encap := match e with | some i => some i | none => f.encap
           mirror := match m with | some k => some k.val | none => f.mirror, bytes := b, len := b.length, place := .stages }

/-! ### Egress stages (R131-R133, R135) -/

/-- Egress stage 1: the encapsulation entry of the frame's index as it stands at this moment is imposed; a frame without an index, or whose index has no
entry, keeps its headers (R131, R133, R173; log 123). -/
def rewrite (f : Flight) (d : Dev) : Flight :=
  match f.encap.bind (tget d.fwd.tbl.encap) with
  | none => f
  | some e =>
    let b := impose e.tmpl (f.hash.getD (d.hashes f.pkt (flightPort f)).1) f.bytes
    { f with bytes := b, len := b.length }

/-- An egress frame through its stages takes its place `i` again and goes to its MAC in its turn (R130). -/
def egressReady (pl i : Nat) (f : Flight) (d : Dev) : Dev :=
  egressFlush pl (d.modPipe pl fun x => { x with egress := x.egress.take i ++ { f with place := .ready } :: x.egress.drop i })

/-- The egress ACL and the stages after it: length limit, fail-closed, mirror copy, counters (R131). The search is made in the current view,
also for a frame of the old one (DESIGN CHOICE: R138 speaks of ingress pipelines and excursions; log 123). -/
def egressStage2 (pl i : Nat) (f : Flight) (d : Dev) : Dev :=
  let p := f.outPort
  let prof := tgetD d.fwd.tbl.profile {} f.egProfile
  let r : Bool × Flight × Dev :=
    match prof.aclOut with
    | none => (true, f, d)
    | some tab =>
      match d.aclFind { f with view := d.fwd.view } tab f.egKey with
      | (some (i, x), e) =>
        let a := x.action
        (a / 2 ^ 60 != 1, { f with aclIdx := some i, mirror := if bit a 33 then some (a / 2 ^ 28 % 32) else f.mirror }, e)
      | (none, e) => (!e.aclMissDeny { f with view := e.fwd.view } tab, { f with aclIdx := none }, e)
  let g := r.2.1; let e := r.2.2
  let gone (x : Dev) : Dev := egressFlush pl x
  if !r.1 then gone ((mirrorCopy pl true g e).dropPipe pl 32 g.len)
  else if (e.getPort p).txLimit < g.len then
    let e1 := e.dropPort p 33 g.len
    gone (if (tget e1.hif.trapRing 255).isSome then e1.punt (e1.puntOf pl 255 4 256 true g.bytes g) else e1)
  else if e.macsecTxClosed p && firstType g.bytes != 0x888E then gone (e.dropPort p 35 g.len)
  else
    let e1 := mirrorCopy pl true g e
    let e2 := e1.countOpt g.egCnt g.len
    egressReady pl i g (match prof.aclOut, g.aclIdx with
      | some _, some i => { e2 with aclCnt := countIn e2.aclCnt i g.len }
      | _, _ => e2)

/-- EGRESS_DELIVERY: the next frame of egress pipeline `pl` passes its stages (R131). Its ACL key, its port's profile and its counter are operands;
`fn` is a function the pipeline steers it to (R127). A RUNNING port whose link is down discards it (R125); a STOPPING port, which has no link state,
still drains its queues whatever its line (R62; DEDUCED, log 131). -/
def egressDelivery (pl aclKey profile : Nat) (cnt fn : Option Nat) (d : Dev) : Dev :=
  let x := d.getPipe pl
  let new (f : Flight) : Bool := f.place == .stages
  match x.egress.find? new with
  | none => d
  | some f =>
    let i := x.egress.findIdx new
    let d1 := d.setPipe pl { x with egress := x.egress.filter (·.fid != f.fid) }
    let q := d.getPort f.outPort
    if q.obj.st != .running && q.obj.st != .stopping then egressFlush pl (d1.dropPort f.outPort 37 f.len)
    else if q.obj.st = .running && q.link != .up then egressFlush pl (d1.dropPort f.outPort 34 f.len)
    else
      let g : Flight := { rewrite f d1 with egKey := aclKey, egProfile := profile, egCnt := cnt, fn := fn, aclIdx := none, mirror := none }
      match steer pl true g d1 with
      | .go h e => egressStage2 pl i h e
      | .wait h e => e.modPipe pl fun y => { y with egress := y.egress.take i ++ h :: y.egress.drop i }
      | .drop c h e => egressFlush pl (e.dropPipe pl c h.len)
      | .punted _ e => e

/-- A frame of function `fn` discarded by its verdict (R129). -/
def verdictDrop (fn : Option Nat) (d : Dev) : Dev :=
  match fn with | some k => d.modFn k fun x => { x with dropped := x.dropped + 1 } | none => d

/-- EXCURSION_RETURN (R127, R129): a frame whose verdict is given returns at stage 8, or at the egress ACL with its queue's port and class. -/
def excursionReturn (pl fid : Nat) (d : Dev) : Dev :=
  match d.findFlight pl fid with
  | some (i, f) =>
    match f.place, f.verdict with
    | .away, some v =>
      let d1 := d.takeFlight pl fid
      match v with
      | .cont g c n e m x => settleFlight pl i (resumeStages pl { applyVerdict f g c n e m x with stage := 9 } d1)
      | .punt t => settleFlight pl i (resumeStages pl { f with dec := .punt t.val false, stage := 9, place := .stages } d1)
      | .discard => settleFlight pl i (.drop 22 f (verdictDrop f.fn d1))
      | .endTrigger => d
    | _, _ => d
  | none =>
    let x := d.getPipe pl
    let is (f : Flight) : Bool := f.fid == fid && f.place == .away
    match x.egress.find? is with
    | none => d
    | some f =>
      let i := x.egress.findIdx is
      let d1 := d.setPipe pl { x with egress := x.egress.filter (·.fid != fid) }
      match f.verdict with
      | none => d
      | some (.cont g c n e m x) => egressStage2 pl i { applyVerdict f g c n e m x with dec := f.dec, cls := f.cls } d1
      | some (.punt t) => egressFlush pl (d1.punt (d.puntOf pl t.val 0 16383 true f.bytes f))
      | some .discard => egressFlush pl ((mirrorCopy pl true f (verdictDrop f.fn d1)).dropPipe pl 22 f.len)
      | some .endTrigger => d

/-! ### Arrival and handoff (R103, R107, R130, R136) -/

/-- The defects of code 5 (Table 4.4): LOS, LOF, LOM, AIS, loss of alignment, local fault, and TIM with tim_action = 1. -/
def rxDefect (q : Port) : Bool := q.raw &&& 0x0CF != 0 || (q.timAction && q.raw.getLsbD 5)

/-- FRAME_RECEIVE (R100, R103, R107, R136): a frame on a RUNNING port. An overrun counts on the port's first lane (DESIGN CHOICE: R31 does not say on
which lane of a port that has several; log 31). -/
def frameReceive (p : Nat) (f : RxFrame) (overrun : Bool) (d : Dev) : Dev :=
  let q := d.getPort p
  let pl := p / 8
  if q.obj.st != .running then d
  else if !f.fcsOk then d.dropPort p 1 f.len
  else if f.len < 64 || q.rxLimit < f.len then d.dropPort p 2 f.len
  else
    let m0 := d.macsecReceive p f
    let m := (m0.1, m0.2.macEval p 0)
    if !m.1 then m.2.dropPort p 3 f.len
    else if overrun then
      ((m.2.dropLane p 4 f.len).modLane p fun x => { x with rxOverrun := x.rxOverrun + 1 }).rateShort p
    else if rxDefect q then m.2.dropPort p 5 f.len
    else if (d.getPipe pl).obj.st != .running then m.2.dropPort p 6 f.len
    else enterIngress pl (d.newFlight (.port p) f) m.2

/-- The final class of a frame, once it is known: at stage 12, or by the verdict given for it (R111, R129). -/
def finalClass (f : Flight) : Option Nat :=
  match f.place, f.verdict with
  | .ready, _ => some f.cls
  | .away, some (.cont _ c _ _ _ _) => some (match c with | some k => k.val | none => f.cls)
  | .away, some _ => some f.cls
  | _, _ => none

/-- An earlier frame `b` keeps its place before `a`: of one input, and of one final class, or of a final class not known yet (R130; log 123). -/
def sameOrder (a b : Flight) : Bool := a.src == b.src && (match finalClass b with | some c => c == a.cls | none => true)

/-- The first frame that may be handed over: ready, with no earlier frame of its order (R130). -/
def firstReady : List Flight → List Flight → Option Flight
  | _, [] => none
  | before, f :: r => if f.place == .ready && !before.any (sameOrder f) then some f else firstReady (before ++ [f]) r

/-- Stage 12: the frame, its headers as the stages decided, and its metadata word are handed over (R21, R23, R100). -/
def handOver (pl : Nat) (f : Flight) (d : Dev) : Dev :=
  let g := build f
  cross pl { g with word := slice (Config.metadata g) 0 32 } (d.modPipe pl fun x => { x with lastHandoff := d.now })

/-- FRAME_HANDOFF (R130, R210): the first frame in order; with none, the first emitted or injected frame enters its pipeline and, once
ready, is handed over. -/
def frameHandoff (pl : Nat) (d : Dev) : Dev :=
  let x := d.getPipe pl
  if x.obj.st != .running && x.obj.st != .stopping then d
  else
    match firstReady [] x.ingress with
    | some f => handOver pl f (d.takeFlight pl f.fid)
    | none =>
      match x.emits with
      | [] => d
      | f :: r =>
        let d1 := d.setPipe pl { x with emits := r }
        if f.stage = 12 then handOver pl f d1
        else
          match resumeStages pl (if f.stage = 9 then { f with stage := 10 } else f) d1 with
          | .wait g e => if g.place = .ready then handOver pl g e else settleFlight pl (e.getPipe pl).ingress.length (.wait g e)
          | y => settleFlight pl (d1.getPipe pl).ingress.length y

/-! ### Transparent clocks (R434-R436) -/

/-- The IP header in front of a PTP message over UDP. -/
def ptpIp (k : Parsed) : Option IpHdr := match k.ptp with | some (_, true) => k.layers.head?.bind (·.ip) | _ => none

/-- A PTP message over UDP and IPv6 lacks the two checksum-adjustment bytes behind it (R434). -/
def noTrailer (k : Parsed) (o : Nat) (b : Bytes) : Bool :=
  match ptpIp k with | some h => h.v6 && decide (h.off + 40 + h.total < o + net b (o + 2) 2 + 2) | none => false

/-- `x` added to the correctionField of the PTP message at `o` of a frame; the UDP checksum over IPv4 becomes 0, and over IPv6 the two
checksum-adjustment bytes at the end take up the difference (R434). The message layout is IEEE 1588's (log 28). -/
def addCorrection (k : Parsed) (o : Nat) (x : Int) (b : Bytes) : Bytes :=
  let old := net b (o + 8) 8
  let new := ((signed 8 old + x) % (2 ^ 64 : Nat)).toNat
  let raw := patch b (o + 8) (be 8 new)
  let words (n : Nat) : Nat := n % 65536 + n / 65536 % 65536 + n / 2 ^ 32 % 65536 + n / 2 ^ 48
  match ptpIp k with
  | none => raw
  | some h =>
    if h.v6 then
      let e := h.off + 40 + h.total - 2
      patch raw e (be 2 ((net raw e 2 + words old + 4 * 65535 - words new) % 65535))
    else patch raw (o - 2) [0, 0]

/-- The egress PTP stage of a TC port: an event message leaves with its residence time added (R436), a one-step message that cannot be
corrected is counted as TC_NO_TRAILER (R434, R435), and on a port whose MACsec protects PTP a two-step message is corrected through its
Follow_Up (R435). -/
def tcStage (p : Nat) (f : Flight) (d : Dev) : Flight × Dev :=
  let t := d.getT p
  let k := d.parse f.len f.bytes
  match if t.role = 3 || t.role = 4 then k.ptp else none with
  | none => (f, d)
  | some (o, udp) =>
    let b (i : Nat) : Nat := net f.bytes (o + i) 1
    let src := net f.bytes (o + 20) 10
    let seq := net f.bytes (o + 30) 2
    let res := d.sysTicks + psT t.egress - (f.arrived + psT (d.getT (flightPort f)).ingress)
    let fix (x : Int) : Flight := { f with bytes := addCorrection k o x f.bytes }
    let bad : Dev := d.putT p { t with noTrailer := t.noTrailer + 1 }
    if b 0 % 16 < 4 then
      if d.ptpProtected p udp then
        if bit (b 6) 1 then (f, d.putT p { t with tcRes := (src, seq, res) :: t.tcRes.filter (·.1 != src) }) else (f, bad)
      else if noTrailer k o f.bytes then (f, bad)
      else (fix res, d)
    else if b 0 % 16 = 8 then
      match t.tcRes.find? fun x => x.1 == src && x.2.1 == seq with
      | some x => (fix x.2.2, d.putT p { t with tcRes := t.tcRes.filter (·.1 != src) })
      | none => (f, d)
    else (f, d)

/-- FRAME_TRANSMIT (R25, R31, R62): the next frame of port `p`, RUNNING or draining (log 131); an underrun ends it with an inverted FCS, counted on the port's first
lane (log 31). -/
def frameTransmit (p : Nat) (underrun : Bool) (d : Dev) : Dev :=
  match tgetD d.tx [] p with
  | [] => d
  | f :: r =>
    let d1 : Dev := { d with tx := tset d.tx [] p r }
    if (d.getPort p).obj.st != .running && (d.getPort p).obj.st != .stopping then d1.dropPort p 37 f.len
    else
      let g := tcStage p f d1
      match g.2.macsecSend p underrun g.1 with
      | (none, e) => e.dropPort p 35 f.len
      | (some b, e) =>
        let d2 := (e.emit (.lineFrame p b.1 b.2 underrun)).macEval p 0
        if underrun then ((d2.dropLane p 36 f.len).modLane p fun x => { x with txUnderrun := x.txUnderrun + 1 }).rateShort p else d2

/-! ### Views and groups (R119, R137, R138, R143) -/

/-- VIEW_RELEASE (R138): no frame of the old view is left in an ingress pipeline or an excursion table. Firmware frees the copies, so not while it
is away (R187). -/
def viewRelease (d : Dev) : Dev :=
  let old (f : Flight) : Bool := f.view != d.fwd.view
  let left (x : Pipe) : Bool := x.ingress.any old || x.egress.any fun f => old f && f.place == .away
  if d.fwd.oldTbl.isSome && !d.fwHeld && !(d.pipe.any fun x => left x.2) then d.releaseOld else d

/-- `i` put into a list of indexes ordered by falling value, after those of equal value. -/
def insertBy (f : Nat → Nat) (i : Nat) : List Nat → List Nat
  | [] => [i]
  | j :: r => if f j < f i then i :: j :: r else j :: insertBy f i r

/-- Targets of members over B buckets (R116): by live members, or by all when none is live. -/
def targets (b : Nat) (w : List Nat) (live : List Bool) : List Nat :=
  let ws := (List.range w.length).map fun i => if live.getD i false || !live.contains true then w.getD i 0 else 0
  let total := ws.sum
  if total = 0 then ws.map fun _ => 0
  else
    let base := ws.map fun x => b * x / total
    let left := b - base.sum
    let order := ((List.range ws.length).filter fun i => 0 < ws.getD i 0).foldl
      (fun l i => insertBy (fun k => b * ws.getD k 0 % total) i l) []
    (List.range ws.length).map fun i => base.getD i 0 + b2n ((order.take left).contains i)

/-- Buckets assigned afresh in contiguous runs (R116). -/
def freshBuckets (t : List Nat) : List Nat := (List.range t.length).flatMap fun i => List.replicate (t.getD i 0) i

/-- The buckets of member `i` above its target are its highest-numbered ones (R116): the kept ones. -/
def keptBuckets (cur : List (Option Nat)) (t : List Nat) : List (Option Nat) :=
  (cur.foldl (fun (acc : List (Option Nat) × Tab Nat) o =>
    match o with
    | none => (acc.1 ++ [none], acc.2)
    | some m =>
      let n := tgetD acc.2 0 m
      if n < t.getD m 0 then (acc.1 ++ [some m], tput acc.2 m (n + 1)) else (acc.1 ++ [none], acc.2)) ([], [])).1

/-- Freed buckets handed out in ascending order to members below their target, in member order (R116). -/
def handBuckets (cur : List (Option Nat)) (t : List Nat) : List Nat :=
  let want := (List.range t.length).flatMap fun i =>
    List.replicate (t.getD i 0 - (cur.filter (· == some i)).length) i
  (cur.foldl (fun (acc : List Nat × List Nat) o =>
    match o, acc.2 with
    | some m, w => (acc.1 ++ [m], w)
    | none, w :: ws => (acc.1 ++ [w], ws)
    | none, [] => (acc.1 ++ [0], [])) ([], want)).1

/-- R116 reapplied to held buckets (`none`: held by nobody). -/
def reassign (cur : List (Option Nat)) (t : List Nat) : List Nat := handBuckets (keptBuckets cur t) t

/-- The group a switch makes of the old one (R116, R143). -/
def regroup (d : Dev) (old : Option Ecmp) (ms : List (Nat × Nat)) (log2B : Nat) (auto : Bool) : Ecmp :=
  let live := ms.map fun m => !d.nhDown m.1
  let t := targets (2 ^ log2B) (ms.map (·.2)) live
  let b := match old with
    | some o =>
      if o.log2B = log2B then
        reassign (o.buckets.map fun k => match o.members[k]? with
          | some m => ms.findIdx? fun n => n.1 == m.1
          | none => none) t
      else freshBuckets t
    | none => freshBuckets t
  { members := ms, log2B := log2B, auto := auto, buckets := b, live := live, noLive := !live.contains true }

/-- ECMP_GROUP_SWITCH (R137, R143): the change that waits for group `g` takes effect and its command completes. -/
def ecmpSwitch (g : Nat) (d : Dev) : Dev :=
  match d.fwd.switches.find? (·.group == g) with
  | none => d
  | some w =>
    let d1 := d.setFwd fun x => { x with
      switches := x.switches.filter (·.intake != w.intake)
      ecmp := match w.new with
        | none => tdel x.ecmp g
        | some n => tput x.ecmp g (d.regroup (tget x.ecmp g) n.members n.log2B n.auto) }
    match d1.hif.cmds.find? (·.intake == w.intake) with
    | some c => d1.complete c {}
    | none => d1

/-- ECMP_REBALANCE (R119): the assignment does not match the live members; not while the device is headless. -/
def ecmpRebalance (g : Nat) (d : Dev) : Dev :=
  match tget d.fwd.ecmp g with
  | none => d
  | some e =>
    let live := d.liveMembers e
    let put (x : Ecmp) (d : Dev) : Dev := d.setFwd fun y => { y with ecmp := tput y.ecmp g x }
    if !e.auto || d.hif.headless || live == e.live then d
    else
      let b := reassign (e.buckets.map some) (targets (2 ^ e.log2B) (e.members.map (·.2)) live)
      let moved := ((List.range b.length).filter fun i => b.getD i 0 != e.buckets.getD i 0).length
      let i := ((List.range live.length).find? fun k => live.getD k false != e.live.getD k false).getD 0
      (put { e with buckets := b, live := live } d).raise 0x0201 sevInfo (handle 0x05 g)
        [fIdx i, fFlag (live.getD i false), fCnt moved]

/-! ### Pipeline states (R139, R140, R124) -/

def pipeHandle (p : Nat) : Nat := handle 0x03 p

/-- The ports of a pipeline become protection-down (R124). -/
def protectPorts (pl : Nat) (d : Dev) : Dev := (List.range 8).foldl (fun x k => x.protect (8 * pl + k) 15) d

/-- The code of a pipeline failure cause (Table 4.10). -/
def pipeCause : PipeCause → Nat
  | .uncorrectable => 0 | .stall => 1 | .selfTest => 2

/-- Frames of a pipeline discarded under `code`, and those away at engines given up; code 37 is kept per port too (Table 4.4): the port a frame
came in on, or was to leave by. -/
def flushPipe (pl code : Nat) (d : Dev) : Dev :=
  let x := d.getPipe pl
  let one (p : Option Nat) (len : Nat) (y : Dev) : Dev :=
    match p with | some k => if code = 37 then y.dropPort k code len else y.dropPipe pl code len | none => y.dropPipe pl code len
  let inPort (f : Flight) : Option Nat := match f.src with | .port p | .inject _ p => some p | _ => none
  x.egress.foldl (fun y f => one (some f.outPort) f.len y)
    ((x.ingress ++ x.emits).foldl (fun y f => one (inPort f) f.rxLen y) (d.setPipe pl { x with ingress := [], egress := [], emits := [] }))

/-- A RUNNING pipeline fails (R139, Table 4.6). -/
def failPipe (pl cause : Nat) (d : Dev) : Dev :=
  let x := d.getPipe pl
  if x.obj.st != .running then d
  else
    let d1 := (d.setPipe pl { x with obj := x.obj.beginStop d.nowNs (d.now + msT 5) true, cause := some cause }).raise 0x0200 sevCritical
      (pipeHandle pl) [fByte cause]
    flushPipe pl 24 (protectPorts pl (d1.setAlarm 7))

/-- PIPE_FAILURE (R139): a stall needs 20 µs without a handoff while a frame waits in the pipeline all that time. -/
def pipeFailure (pl : Nat) (c : PipeCause) (d : Dev) : Dev :=
  let x := d.getPipe pl
  match c with
  | .stall => if x.ingress.any (fun f => f.place != .away && decide (f.entered + usT 20 ≤ d.now)) && x.lastHandoff + usT 20 ≤ d.now then
      failPipe pl 1 d else d
  | c => failPipe pl (pipeCause c) d

/-- PIPE_SELF_TEST_DONE (Table 4.6, R124): a bridge group with fewer than 19 good lanes fails it (R22). A failed start-up enters STOPPED (R521). -/
def pipeSelfTest (pl : Nat) (ok : Bool) (d : Dev) : Dev :=
  let x := d.getPipe pl
  if x.obj.st != .starting then d
  else if ok && d.groupGood pl then
    let d1 := (d.raiseObj (pipeHandle pl) x.obj .running false 0).setPipe pl { x with obj := x.obj.started d.nowNs, lastHandoff := d.now }
    (List.range 8).foldl (fun y k =>
      let p := 8 * pl + k
      (if (y.getPort p).obj.st = .running && (y.getPort p).protDown then y.modPort p fun q => { q with firstUp := true, wtrDue := none }
       else y).firstRelease p) d1
  else
    (((d.setPipe pl { x with obj := x.obj.startFailed d.nowNs, cause := some 2 }).raise 0x0200 sevCritical (pipeHandle pl) [fByte 2]).setAlarm 7).raiseObj
      (pipeHandle pl) { x.obj with failed := true } .stopped false 0

/-- PIPE_STOP_DONE (Table 4.6); `flush` discards what is left of a port. -/
def pipeStopDone (flush : Nat → Dev → Dev × Nat) (pl : Nat) (d : Dev) : Dev :=
  let x := d.getPipe pl
  let left := !x.ingress.isEmpty || !x.egress.isEmpty || !x.emits.isEmpty || (List.range 8).any fun k => d.portQueued (8 * pl + k)
  if x.obj.st = .stopping && (!left || due d.now x.obj.due) then
    let f := (List.range 8).foldl (fun (y : Dev × Nat) k => let r := flush (8 * pl + k) y.1; (r.1, y.2 + r.2)) (d, 0)
    let n := f.2 + x.ingress.length + x.emits.length + (f.1.getPipe pl).egress.length
    let d1 := (flushPipe pl 37 f.1).raiseObj (pipeHandle pl) x.obj .stopped left n
    d1.modPipe pl fun y => { y with obj := y.obj.stopped d.nowNs }
  else d

/-- PIPE_ENABLE (Table 4.6). -/
def pipeEnable (c : Cmd) (d : Dev) : Reply :=
  let x := d.getPipe c.hIdx
  let r := x.obj.enable d.nowNs
  check d [(c.bad 0x03, .badHandle)] (.done (d.setPipe c.hIdx { x with obj := r.obj }) { status := r.status })

/-- PIPE_DISABLE (Table 4.6). -/
def pipeDisable (c : Cmd) (d : Dev) : Reply :=
  let x := d.getPipe c.hIdx
  let r := x.obj.disable d.nowNs (d.now + msT 5)
  let d1 := d.setPipe c.hIdx { x with obj := r.obj }
  check d [(c.bad 0x03, .badHandle)]
    (.done (if x.obj.st = .running then protectPorts c.hIdx d1 else d1) { status := r.status })

/-- PIPE_GET_STATUS (R141, R514). -/
def pipeGetStatus (c : Cmd) (d : Dev) : Reply :=
  let x := d.getPipe c.hIdx
  check d [(c.bad 0x03, .badHandle)]
    (statusReply c d [fByte x.obj.st.code, fCnt (awayCount x), fFlag d.fwd.view, fByte (x.cause.getD (Config.absent 2))])

/-- PIPE_SET_HASH (R144). -/
def pipeSetHash (c : Cmd) (d : Dev) : Reply :=
  check d [(c.bad 0x00, .badHandle), (decide (1024 ≤ c.f 4 2) || decide (2 ≤ c.f 6 1) || c.dirty 7 25, .badArg)]
    (.done (d.setFwd fun x => { x with seed := some (c.f 0 4), hashFields := c.f 4 2, hashInner := c.f 6 1 == 1 }) {})

/-- Which groups have no live member, where a change is no going down (R147). -/
def refreshLive (d : Dev) : Dev :=
  d.setFwd fun x => { x with ecmp := x.ecmp.map fun p => (p.1, { p.2 with noLive := !(d.liveMembers p.2).contains true }) }

/-- NH_SET (R142). -/
def nhSet (c : Cmd) (d : Dev) : Reply :=
  let i := c.hIdx
  let ty := c.f 0 1; let fl := c.f 1 1; let tr := c.f 2 1; let tg := c.f 4 4; let en := c.f 8 4; let pr := c.f 12 4
  let bad := decide (3 < ty) || decide (1 < fl) || c.dirty 3 1 || c.dirty 16 16 ||
    (ty != 0 && (fl != 0 || en != 0 || pr != 0)) || (ty != 2 && tr != 0) ||
    (ty == 0 && (decide (2 ^ 19 ≤ tg) || decide (2 ^ 20 ≤ en) || decide (2 ^ 21 ≤ pr) || (fl == 0 && pr != 0) || (fl == 1 && pr == i))) ||
    (ty == 3 && decide (65536 ≤ tg)) || ((ty == 1 || ty == 2) && tg != 0)
  let n : NextHop := { type := ty, trap := tr, target := tg, encap := en, prot := if fl = 1 then some pr else none }
  check d [(c.bad 0x04, .badHandle), (bad, .badArg)]
    (.done (refreshLive (d.setFwd fun x => { x with nh := tset x.nh {} i n, ue := x.ue.filter (· != .nh i) })) {})

/-- Whether group `g` exists once the changes that wait have taken effect (R143). -/
def groupAfter (d : Dev) (g : Nat) : Bool :=
  match (d.fwd.switches.filter (·.group == g)).getLast? with
  | some w => w.new.isSome
  | none => (tget d.fwd.ecmp g).isSome

/-- The most buckets group `g` holds, now or by a change that waits (R115). -/
def mostBuckets (d : Dev) (g : Nat) : Nat :=
  ((d.fwd.switches.filter (·.group == g)).filterMap fun w => w.new.map fun x => 2 ^ x.log2B).foldl max
    (match tget d.fwd.ecmp g with | some x => 2 ^ x.log2B | none => 0)

/-- Buckets the pool of 1,835,008 must hold for every group but `g` (R115, R143). -/
def bucketsUsed (d : Dev) (g : Nat) : Nat :=
  (((d.fwd.ecmp.map (·.1) ++ d.fwd.switches.map (·.group)).eraseDups.filter (· != g)).map d.mostBuckets).sum

/-- ECMP_SET_GROUP (R143, Table 4.9): checked at once, in force at the switch instant. -/
def ecmpSetGroup (pl : HostRead) (c : Cmd) (d : Dev) : Reply :=
  let g := c.hIdx
  let b := pl.getD []
  let n := field b 0 2; let l := field b 2 1; let fl := field b 3 1
  if bit fl 1 then
    check d [(c.bad 0x05 || !d.groupAfter g, .badHandle), (pl.isNone || n != 0 || l != 0 || fl != 2 || !isZero b 4 12, .badArg)]
      (.pend ((d.noteWrite c.intake (.group g (tget d.fwd.ecmp g))).setFwd fun x => { x with switches := x.switches ++ [{ group := g, intake := c.intake, new := none }] }))
  else
    let ms := (List.range n).map fun i => (field b (16 + 8 * i) 4, field b (20 + 8 * i) 2)
    let bad := pl.isNone || n == 0 || decide (1024 < n) || decide (14 < l) || decide (2 ^ l < n) || decide (1 < fl) || !isZero b 4 12 ||
      (List.range n).any (fun i => !isZero b (22 + 8 * i) 2) || ms.any (fun m => decide (2 ^ 21 ≤ m.1) || m.2 == 0) ||
      (ms.map (·.1)).eraseDups.length != n
    check d [(c.bad 0x05, .badHandle), (bad, .badArg), (decide (1835008 < d.bucketsUsed g + max (d.mostBuckets g) (2 ^ l)), .noSpace)]
      (.pend ((d.noteWrite c.intake (.group g (tget d.fwd.ecmp g))).setFwd fun x => { x with switches := x.switches ++ [{ group := g, intake := c.intake, new := some {
        members := ms, log2B := l, auto := bit fl 0, buckets := [], live := [] } }] }))

/-- FRR_FORCE (R126, R145). With down = 0, a port that is not forced stays as it is, also in wait-to-restore (DESIGN CHOICE: R126 speaks of the forced
state alone; log 123). -/
def frrForce (c : Cmd) (d : Dev) : Reply :=
  let p := c.hIdx
  let q := d.getPort p
  check d [(c.bad 0x01, .badHandle), (decide (1 < c.f 0 1) || c.dirty 1 31, .badArg)]
    (.done (if c.f 0 1 = 1 then (d.setPort p { q with forced := true, wtrDue := none }).protect p 16
      else if !q.forced then d
      else
        let d1 := d.setPort p { q with forced := false }
        if !switching q && q.obj.st = .running && d1.mayRelease p then d1.unprotect p else d1) {})

/-- DROP_GET_COUNTERS (R146). -/
def dropGetCounters (c : Cmd) (d : Dev) : Reply :=
  let rec' (p : Pair) : Bytes := le 8 p.pkts ++ le 8 p.bytes
  let lanes (p code : Nat) : Pair := (d.lanesOf p).foldl (fun (a : Pair) l =>
    let x := tgetD d.laneDrops {} (l * 64 + code); { pkts := a.pkts + x.pkts, bytes := a.bytes + x.bytes }) {}
  if c.hType = 0x01 then
    check d [(c.bad 0x01, .badHandle)]
      (.done d { record := some ((List.range 64).flatMap fun k =>
        rec' (if k = 4 || k = 36 then lanes c.hIdx k else tgetD d.portDrops {} (c.hIdx * 64 + k))) })
  else
    check d [(c.bad 0x03, .badHandle)]
      (.done d { record := some ((List.range 64).flatMap fun k => rec' (tgetD (d.getPipe c.hIdx).drops {} k)) })

/-! ### Table status and extended rates (R171, R195) -/

/-- The record of Table 5.12. -/
def tblRecord (idx ty cap occ ovf c0 c1 c2 c3 c4 c5 c6 : Nat) : Bytes :=
  le 2 idx ++ le 1 ty ++ le 1 0 ++ le 4 cap ++ le 4 occ ++ le 4 ovf ++ le 8 c0 ++ le 8 c1 ++ le 8 c2 ++ le 8 c3 ++ le 8 c4 ++ le 4 (sat32 c5) ++
  le 4 (sat32 c6)

/-- TBL_GET_STATUS (R195). -/
def tblGetStatus (c : Cmd) (d : Dev) : Reply :=
  let i := c.hIdx; let t := d.fwd.tbl
  let ok (b : Bytes) : Reply := .done d { record := some b }
  let bad : Reply := .done d { status := .badHandle }
  if c.bad c.hType then bad
  else match c.hType with
  | 0x00 => ok (tblRecord 0 0 16777216 (allUnits t + d.unitsTwice) 0 0 0 0 0 0 0 d.fwd.lpmUe)
  | 0x03 => let x := d.getPipe i; ok (tblRecord 0 3 0 0 0 x.extOver x.extLate x.extEcc x.extMiss 0 0 0)
  | 0x06 => match tget t.em i with
    | some x => ok (tblRecord i 6 (x.capacity false) x.used x.ovf.length x.evictions x.learns x.moves x.moveRefused x.aged
        (x.learnOverflow + x.learnNoSpace) x.ecc)
    | none => bad
  | 0x07 => match tget t.ext i with
    | some x => ok (tblRecord i 7 (x.capacity true) x.used 0 x.evictions 0 0 0 0 0 x.ecc)
    | none => bad
  | 0x08 => match tget t.tcam i with
    | some x => ok (tblRecord i 8 (x.blocks.length * 3072 / tcamJoin x.width)
        (t.acl.filter fun e => x.blocks.contains (e.1 / 3072) && e.2.hold == .live).length 0 0 0 0 0 0 0 x.ecc)
    | none => bad
  | _ => bad

/-- TBL_SET_EXT_RATE (R171, Table 16.11). -/
def tblSetExtRate (c : Cmd) (d : Dev) : Reply :=
  let i := c.hIdx; let r := c.f 0 2
  let x := d.getPipe i
  let others := (((List.range 32).filter (· != i)).map fun k => (d.getPipe k).extRate).sum
  check d [(c.bad 0x03, .badHandle), (decide (96 < r) || c.dirty 2 30, .badArg), (decide (800 < others + r), .budgetExceeded)]
    (.done (d.setPipe i { x with extTok := d.extTokens x, extStamp := d.now, extRate := r }) {})

end Dev

/-- FRAME_RECEIVE. -/
def execFrameReceive (p : Fin 256) (f : RxFrame) (overrun : Bool) (s : State) : Out := s.onDev (Dev.frameReceive p f overrun)
/-- EXT_LOOKUP_REPLY. -/
def execExtLookupReply (pl : Fin 32) (fid : Nat) (r : ExtReply) (s : State) : Out := s.onDev (Dev.extReply pl fid r)
/-- EXT_LATE. -/
def execExtLate (pl : Fin 32) (fid : Nat) (s : State) : Out := s.onDev (Dev.extLateRow pl fid)
/-- EXCURSION_RETURN. -/
def execExcursionReturn (pl : Fin 32) (fid : Nat) (s : State) : Out := s.onDev (Dev.excursionReturn pl fid)
/-- FRAME_HANDOFF. -/
def execFrameHandoff (pl : Fin 32) (s : State) : Out := s.onDev (Dev.frameHandoff pl)
/-- EGRESS_DELIVERY; the frame goes to a packet engine's function only where it is `steered`. -/
def execEgressDelivery (pl : Fin 32) (aclKey profile : Nat) (cntPort : Option Nat) (steered : Bool) (fn : Nat) (s : State) : Out :=
  s.onDev (Dev.egressDelivery pl aclKey profile cntPort (if steered then some fn else none))
/-- VIEW_RELEASE. -/
def execViewRelease (s : State) : Out := s.onDev Dev.viewRelease
/-- ECMP_GROUP_SWITCH. -/
def execEcmpGroupSwitch (g : Nat) (s : State) : Out := s.onDev (Dev.ecmpSwitch g)
/-- ECMP_REBALANCE. -/
def execEcmpRebalance (g : Nat) (s : State) : Out := s.onDev (Dev.ecmpRebalance g)
/-- PIPE_FAILURE. -/
def execPipeFailure (pl : Fin 32) (c : PipeCause) (s : State) : Out := s.onDev (Dev.pipeFailure pl c)
/-- PIPE_SELF_TEST_DONE. -/
def execPipeSelfTestDone (pl : Fin 32) (ok : Bool) (s : State) : Out := s.onDev (Dev.pipeSelfTest pl ok)
/-- PIPE_ENABLE, opcode 0x0200. -/
def execPipeEnable (src : Src) (s : State) : Out := s.onDev (Dev.runCmd 0x0200 src Dev.pipeEnable)
/-- PIPE_DISABLE, opcode 0x0201. -/
def execPipeDisable (src : Src) (s : State) : Out := s.onDev (Dev.runCmd 0x0201 src Dev.pipeDisable)
/-- PIPE_GET_STATUS, opcode 0x0202. -/
def execPipeGetStatus (src : Src) (s : State) : Out := s.onDev (Dev.runCmd 0x0202 src Dev.pipeGetStatus)
/-- PIPE_SET_HASH, opcode 0x0203. -/
def execPipeSetHash (src : Src) (s : State) : Out := s.onDev (Dev.runCmd 0x0203 src Dev.pipeSetHash)
/-- NH_SET, opcode 0x0204. -/
def execNhSet (src : Src) (s : State) : Out := s.onDev (Dev.runCmd 0x0204 src Dev.nhSet)
/-- ECMP_SET_GROUP, opcode 0x0205. -/
def execEcmpSetGroup (src : Src) (pl : HostRead) (s : State) : Out := s.onDev (Dev.runCmd 0x0205 src (Dev.ecmpSetGroup pl))
/-- FRR_FORCE, opcode 0x0206. -/
def execFrrForce (src : Src) (s : State) : Out := s.onDev (Dev.runCmd 0x0206 src Dev.frrForce)
/-- DROP_GET_COUNTERS, opcode 0x0207. -/
def execDropGetCounters (src : Src) (s : State) : Out := s.onDev (Dev.runCmd 0x0207 src Dev.dropGetCounters)
/-- TBL_GET_STATUS, opcode 0x020B. -/
def execTblGetStatus (src : Src) (s : State) : Out := s.onDev (Dev.runCmd 0x020B src Dev.tblGetStatus)
/-- TBL_SET_EXT_RATE, opcode 0x020F. -/
def execTblSetExtRate (src : Src) (s : State) : Out := s.onDev (Dev.runCmd 0x020F src Dev.tblSetExtRate)

end Sys2Proof.Machine
end

