-- ==== Sys2Proof/Machine/Buffers.lean ====
section
/-! DEFINITION. Buffer pools: cell pointers and records, quotas, admission, push-out, release, ageing, Scarab and the commands of
Table 7.6 (R228-R263); the queues' side of an arrival and the active set (R264-R276). -/

namespace Sys2Proof.Machine

/-- Cells of a frame of `len` bytes (R228). -/
def cellsOf (len : Nat) : Nat := (len + 255) / 256

/-- The end-of-chain marker (R234). -/
def endPtr : Nat := 0x3FFFFFFF

/-- The pointer of an HBM position (Table 7.2). -/
def hbmPtr (stripe pos : Nat) : Nat := 0x20000000 + stripe * 8 + pos
def ptrHbm (p : Nat) : Bool := bit p 29
def ptrStripe (p : Nat) : Nat := p / 8 % 2 ^ 26
def ptrPos (p : Nat) : Nat := p % 8

/-- The address of an HBM cell (R235). -/
def hbmCellAddr (p : Nat) : Nat :=
  let s := ptrStripe p
  0x400000000 * ((s % 8 + 1 + ptrPos p) % 8) + 256 * s

/-- The default of a quota (Table 7.4). -/
def quotaDefault (k : Nat) : Quota :=
  match k / 4096 with
  | 0 => { ondFloor := 0, ondCeil := 65536, hbmFloor := 0, hbmCeil := 4194304 }
  | 1 => { ondFloor := 1024, ondCeil := 16384, hbmFloor := 0, hbmCeil := 0 }
  | 2 => { ondFloor := 128, ondCeil := 4096, hbmFloor := 0, hbmCeil := 0 }
  | _ => { ondFloor := 64, ondCeil := 4096, hbmFloor := 0, hbmCeil := 0 }

/-- `need` numbers from `next` up that are not among the rising `keys`. -/
def gaps (need next : Nat) : List Nat → List Nat
  | [] => (List.range need).map (next + ·)
  | k :: r =>
    if need ≤ k - next then (List.range need).map (next + ·)
    else (List.range (k - next)).map (next + ·) ++ gaps (need - (k - next)) (k + 1) r

/-- The configuration a queue runs with: the default one where both copies were uncorrectable (R274). -/
def Queue.cfg (q : Queue) : Queue :=
  if q.cfgBad then { q with sojourn := 0, pinned := false, hist := 0, watched := false, depthThr := 0, delayThr := 0, admitNs := 0 } else q

/-- A queue's chain changed at tick `now`: a queue that becomes empty is so from now on, and its idle time starts anew (R275). -/
def Queue.withChain (q : Queue) (l : List QEntry) (now : Nat) : Queue :=
  { q with chain := l
           emptyAt := if l.isEmpty && !q.chain.isEmpty then now else q.emptyAt
           idleDue := if l.isEmpty && q.chain.isEmpty then q.idleDue else none }

namespace Dev

/-! ### Access -/

def setBuf (d : Dev) (f : Buf → Buf) : Dev := { d with buf := f d.buf }
def getSlice (d : Dev) (s : Nat) : Slice := tgetD d.buf.slice {} s
def modSlice (d : Dev) (s : Nat) (f : Slice → Slice) : Dev := d.setBuf fun b => { b with slice := tset b.slice {} s (f (d.getSlice s)) }
def getQuota (d : Dev) (k : Nat) : Quota := tgetD d.buf.quota (quotaDefault k) k
def modQuota (d : Dev) (k : Nat) (f : Quota → Quota) : Dev :=
  d.setBuf fun b => { b with quota := tset b.quota (quotaDefault k) k (f (d.getQuota k)) }
def getQ (d : Dev) (q : Nat) : Queue := tgetD d.qs.q {} q
def setQ (d : Dev) (q : Nat) (x : Queue) : Dev := { d with qs := { d.qs with q := tset d.qs.q {} q x } }
def modQ (d : Dev) (q : Nat) (f : Queue → Queue) : Dev := d.setQ q (f (d.getQ q))

/-- A discard of the queueing die (R259), without and with port scope. -/
def dropSlice (d : Dev) (s code len : Nat) : Dev := d.modSlice s fun x => { x with drops := countIn x.drops code len }
def dropSlicePort (d : Dev) (s p code len : Nat) : Dev :=
  (d.setBuf fun b => { b with portDrops := countIn b.portDrops (p * 128 + code) len }).dropSlice s code len

/-- Slice and port of a queue: the destination's for an egress queue, the frame's input for a VOQ (log 22). -/
def isVoq (q : Nat) : Bool := decide (q < 0x400000)

/-- The port and class whose egress queue map holds a queue (R266). -/
def ownerOf (d : Dev) (q : Nat) : Option (Nat × Nat) :=
  (List.range 2048).findSome? fun k =>
    let m := d.mapOf (k / 8) (k % 8)
    if m.1 ≤ q ∧ q < m.1 + 2 ^ m.2 then some (k / 8, k % 8) else none

/-- The port a frame of queue `q` counts for (Tables 7.5, 8.5): the output port of an egress queue, the input port of a VOQ's frame. -/
def portFor (d : Dev) (q : Nat) (f : Flight) : Nat :=
  if isVoq q then flightPort f else match d.ownerOf q with | some o => o.1 | none => f.outPort

/-- The slice that counts for a frame of queue `q`. -/
def sliceFor (d : Dev) (q : Nat) (f : Flight) : Nat :=
  if isVoq q then
    match f.src with
    | .port p => p / 8
    | .inject _ p => p / 8 % 32
    | .engine _ | .remote _ => f.outPort / 8
  else d.portFor q f / 8

/-! ### Quotas (R238-R242) -/

/-- Cells of the HBM pool that hold data (R231, R239). -/
def hbmStripes (d : Dev) : Nat := d.buf.hbmGib / 8 * 4194304
def hbmData (d : Dev) : Nat := 7 * d.hbmStripes

/-- Sum of on-die floors: the defaults of every quota, changed by the listed ones (R240). -/
def ondFloors (d : Dev) : Nat :=
  (d.buf.quota.map (·.2.ondFloor)).sum + (270336 - (d.buf.quota.map fun p => (quotaDefault p.1).ondFloor).sum)
def hbmFloors (d : Dev) : Nat := (d.buf.quota.map (·.2.hbmFloor)).sum

/-- Free cells of the shared regions (R239). -/
def ondShared (d : Dev) : Nat :=
  1040384 - d.ondFloors - (d.buf.quota.map fun p => p.2.ondUsed - p.2.ondFloor).sum
def hbmShared (d : Dev) : Nat := d.hbmData - d.hbmFloors - (d.buf.quota.map fun p => p.2.hbmUsed - p.2.hbmFloor).sum

/-- A frame of `n` cells fits quota `k` (R239): at its ceiling, short of shared cells, or fitting. -/
def ondCeilHit (q : Quota) (n : Nat) : Bool := decide (q.ondCeil < q.ondUsed + n)
def ondFits (d : Dev) (k n : Nat) : Bool :=
  let q := d.getQuota k
  !ondCeilHit q n && decide (n - (q.ondFloor - q.ondUsed) ≤ d.ondShared)
def hbmFits (d : Dev) (k n : Nat) : Bool :=
  let q := d.getQuota k
  decide (q.hbmUsed + n ≤ q.hbmCeil) && decide (n - (q.hbmFloor - q.hbmUsed) ≤ d.hbmShared)

/-- `n` cells charged to quota `k`, and returned. -/
def chargeOnd (d : Dev) (k n : Nat) : Dev :=
  d.modQuota k fun q => { q with ondUsed := q.ondUsed + n, ondPeak := max q.ondPeak (q.ondUsed + n) }
def chargeHbm (d : Dev) (k n : Nat) : Dev :=
  d.modQuota k fun q => { q with hbmUsed := q.hbmUsed + n, hbmPeak := max q.hbmPeak (q.hbmUsed + n) }
def uncharge (d : Dev) (k : Nat) (cells : List Nat) : Dev :=
  let h := (cells.filter ptrHbm).length
  d.modQuota k fun q => { q with ondUsed := q.ondUsed - (cells.length - h), hbmUsed := q.hbmUsed - h }

/-! ### Pointers and records (R234-R236) -/

/-- A pointer passes the check of R235. -/
def ptrOk (d : Dev) (p : Nat) : Bool :=
  if ptrHbm p then decide (p < 2 ^ 30) && decide (ptrStripe p < d.hbmStripes) && ptrPos p != 7 else decide (p < 1048576)

/-- The record of a used cell. -/
def getRec (d : Dev) (p : Nat) : Option CellRec :=
  if ptrHbm p then
    match tget d.buf.stripe (ptrStripe p) with
    | some s => tget s.recs (ptrPos p)
    | none => none
  else tget d.buf.cell p

/-- The record of a cell written. -/
def putRec (d : Dev) (p : Nat) (r : CellRec) : Dev :=
  if ptrHbm p then
    d.setBuf fun b => match tget b.stripe (ptrStripe p) with
      | some s => { b with stripe := tput b.stripe (ptrStripe p) { s with recs := tput s.recs (ptrPos p) r } }
      | none => b
  else d.setBuf fun b => { b with cell := tput b.cell p r }

/-- A cell made free; a closed stripe whose positions are all free returns to the free list (R232). -/
def delRec (d : Dev) (p : Nat) : Dev :=
  if ptrHbm p then
    d.setBuf fun b => match tget b.stripe (ptrStripe p) with
      | some s =>
        let r := tdel s.recs (ptrPos p)
        { b with stripe := if r.isEmpty && s.closed then tdel b.stripe (ptrStripe p)
                           else tput b.stripe (ptrStripe p) { s with recs := r } }
      | none => b
  else d.setBuf fun b => { b with cell := tdel b.cell p }

/-- The records of a frame's cells (Table 7.3), first cell first. -/
def writeRecs (owner ref : Nat) (shared : Bool) : List Nat → Bool → Dev → Dev
  | [], _, d => d
  | p :: r, hd, d =>
    writeRecs owner ref shared r false (d.putRec p {
      head := hd, shared := shared, next := r.head?.getD endPtr, owner := if shared then 0x7FFFFF else owner
      refcnt := if hd && shared then ref else 0 })

/-! ### Faults of release (R235, R249, R251) -/

def sliceHandle (s : Nat) : Nat := handle 0x03 s

/-- A double free, an owner fault, a pointer fault: counted and reported at most once a second per slice. -/
def doubleFree (d : Dev) (s p req : Nat) : Dev :=
  (d.modSlice s fun x => { x with doubleFrees := x.doubleFrees + 1 }).raiseCounted 0x0400 sevMajor s (sliceHandle s) 0
    [fCnt 0, fIdx p, fIdx req]
def ownerFault (d : Dev) (s p owner req : Nat) : Dev :=
  (d.modSlice s fun x => { x with ownerFaults := x.ownerFaults + 1 }).raiseCounted 0x0401 sevMajor s (sliceHandle s) 0
    [fCnt 0, fIdx p, fIdx owner, fIdx req]
/-- `op`: 0 free list, 1 cell record, 2 queue entry, 3 free. -/
def ptrFault (d : Dev) (s p op : Nat) : Dev :=
  (d.modSlice s fun x => { x with ptrFaults := x.ptrFaults + 1 }).raiseCounted 0x0402 sevMajor s (sliceHandle s) 0
    [fCnt 0, fIdx p, fByte op]

/-- One cell freed by a request of queue `req` (R235, R249, R251). -/
def freeCell (s req : Nat) (d : Dev) (p : Nat) : Dev :=
  if !d.ptrOk p then d.ptrFault s p 3
  else match d.getRec p with
    | none => d.doubleFree s p req
    | some r => if r.owner != req && r.owner != 0x7FFFFF then d.ownerFault s p r.owner req else d.delRec p

/-- The frame at head `p`, or one copy of a SHARED one, released by queue `req` (R249, R250). -/
def releaseFrame (s req p : Nat) (d : Dev) : Dev :=
  match tget d.buf.frame p, d.getRec p with
  | some f, some r =>
    if r.shared then
      if r.refcnt = 0 then d.doubleFree s p req
      else if r.refcnt = 1 then
        (f.cells.foldl (freeCell s req) (d.setBuf fun b => { b with frame := tdel b.frame p })).uncharge f.quota f.cells
      else d.putRec p { r with refcnt := r.refcnt - 1 }
    else if r.owner != req then d.ownerFault s p r.owner req
    else (f.cells.foldl (freeCell s req) (d.setBuf fun b => { b with frame := tdel b.frame p })).uncharge f.quota f.cells
  | _, none => d.doubleFree s p req
  | none, some r => d.ownerFault s p r.owner req

/-- A frame of queue `q` discarded under a code of the queueing die, its cells and charge released (R259, R289). -/
def discardEntry (q code : Nat) (port : Bool) (d : Dev) (e : QEntry) : Dev :=
  match tget d.buf.frame e.ptr with
  | none => d
  | some st =>
    let s := d.sliceFor q st.fl
    let d1 := if port then d.dropSlicePort s (d.portFor q st.fl) code e.len else d.dropSlice s code e.len
    let d2 := if code = 69 || (80 ≤ code && code ≤ 84) then d1.modQ q fun x => { x with dropped := x.dropped + 1 } else d1
    releaseFrame s q e.ptr d2

/-! ### Places for a frame's cells (R229, R232) -/

/-- The lowest free on-die cells (log 12). -/
def takeOnd (d : Dev) (n : Nat) : List Nat := gaps n 0 (d.buf.cell.map (·.1))

/-- The lowest free stripe (log 12). -/
def freeStripe (d : Dev) : Option Nat :=
  match gaps 1 0 (d.buf.stripe.map (·.1)) with
  | s :: _ => if s < d.hbmStripes then some s else none
  | [] => none

/-- The channel of a stripe's parity cell is RUNNING (R354). -/
def parityUp (d : Dev) (k : Nat) : Bool := (tgetD d.hbm.ch {} (k % 8 * 32 + k % 32)).obj.st == .running

/-- A whole cell written to HBM at `a`, unless its channel is not in service (Table 10.4); it is poisoned no more. -/
def putCell (a : Nat) (b : Bytes) (d : Dev) : Dev :=
  if d.serves (hbmChOf a) a then (List.range 8).foldl (fun (x : Dev) k => setPoison (a / 32 + k) false x) (hbmWrite a b d) else d

/-- The parity cell of a stripe that closes: the XOR of its written cells, as staging holds them (R231, R232). -/
def putParity (o : OpenStripe) (d : Dev) : Dev :=
  putCell (0x400000000 * (o.stripe % 8) + 256 * o.stripe) (o.stage.foldl xorBytes (List.replicate 256 0)) d

/-- HBM positions for the cells of a frame at slice `s` (R232, R233): written to the open stripe first, each stripe closed with its parity when
position 6 is written. -/
def takeHbm (s : Nat) : List Bytes → Dev → Option (List Nat × Dev)
  | [], d => some ([], d)
  | b :: r, d =>
    let x := d.getSlice s
    match match x.stripe with | some o => some o | none => d.freeStripe.map fun k => { stripe := k, pos := 0, last := d.now } with
    | none => none
    | some o =>
      let st := tgetD d.buf.stripe {} o.stripe
      let full := decide (o.pos = 6)
      let st' : Stripe := { st with
        written := st.written ||| BitVec.ofNat 7 (2 ^ o.pos), closed := full, parity := full && d.parityUp o.stripe
        recs := tput st.recs o.pos { head := false, shared := false, next := endPtr, owner := 0, refcnt := 0 } }
      let o' : OpenStripe := { o with pos := o.pos + 1, last := d.now, stage := o.stage ++ [b] }
      let d1 := putCell (hbmCellAddr (hbmPtr o.stripe o.pos)) b ((d.setBuf fun y => { y with stripe := tput y.stripe o.stripe st' }).modSlice s fun y =>
        { y with stripe := if full then none else some o' })
      match takeHbm s r (if full then putParity o' d1 else d1) with
      | some (l, e) => some (hbmPtr o.stripe o.pos :: l, e)
      | none => none

/-- The cells of a frame, the last padded with zeros (R228). -/
def cellList (f : Flight) : List Bytes := (List.range (cellsOf f.len)).map fun i => slice (slice f.bytes 0 f.len) (256 * i) 256

/-- STRIPE_CLOSE_TIMEOUT (R232): 1 µs after the last cell write, with the parity cell. -/
def stripeClose (s : Nat) (d : Dev) : Dev :=
  match (d.getSlice s).stripe with
  | none => d
  | some o =>
    if o.last + usT 1 ≤ d.now then
      (putParity o (d.modSlice s fun y => { y with stripe := none })).setBuf fun b =>
        match tget b.stripe o.stripe with
        | some st => { b with stripe := if st.recs.isEmpty then tdel b.stripe o.stripe
                                        else tput b.stripe o.stripe { st with closed := true, parity := d.parityUp o.stripe } }
        | none => b
    else d

/-! ### Push-out (R247, R248) -/

/-- An entry of a push-out stack is still the tail of its queue. -/
def isTail (d : Dev) (e : Nat × Nat) : Bool :=
  let q := d.getQ e.2
  match q.chain.getLast?, q.parked.getLast? with
  | _, some t => t.ptr == e.1
  | some t, none => t.ptr == e.1
  | none, none => false

/-- The cells of an eligible entry (R247), for usages `u` less what earlier victims of the quota free. -/
def pushEligible (d : Dev) (taken : List (Nat × Nat)) (e : Nat × Nat) : Option (Nat × Nat) :=
  match tget d.buf.frame e.1, d.getRec e.1 with
  | some f, some r =>
    let q := d.getQuota f.quota
    let gone := ((taken.filter fun t => t.1 == f.quota).map (·.2)).sum
    if r.shared || q.ondUsed < q.ondFloor + f.cells.length + gone then none else some (f.quota, f.cells.length)
  | _, _ => none

/-- Up to `k` victims from a stack for `n` cells (R247, R248): the victims, what they free, and the entries met that are no longer a tail. -/
def pickVictims (d : Dev) : Nat → Nat → List (Nat × Nat) → List (Nat × Nat) → List (Nat × Nat) × List (Nat × Nat) × List (Nat × Nat)
  | _, _, taken, [] => ([], taken, [])
  | k, n, taken, e :: r =>
    if k = 0 || n ≤ (taken.map (·.2)).sum then ([], taken, [])
    else if !d.isTail e then
      let x := pickVictims d k n taken r
      (x.1, x.2.1, e :: x.2.2)
    else match d.pushEligible taken e with
      | some t =>
        let x := pickVictims d (k - 1) n (taken ++ [t]) r
        (e :: x.1, x.2)
      | none => pickVictims d k n taken r

/-- The classes push-out looks in, lowest first (R247). -/
def pushClasses (d : Dev) (c : Nat) : List Nat := (List.range c).filter fun k => d.buf.pushable.getLsbD k

/-- Victims over the classes below `c`, what they free, and the dead entries met. -/
def allVictims (d : Dev) (n : Nat) : List Nat → List (Nat × Nat) → List (Nat × Nat) → List (Nat × Nat) →
    List (Nat × Nat) × List (Nat × Nat) × List (Nat × Nat)
  | [], v, t, x => (v, t, x)
  | c :: r, v, t, x =>
    let y := d.pickVictims (8 - v.length) n t (tgetD d.buf.pushStack [] c)
    allVictims d n r (v ++ y.1) y.2.1 (x ++ y.2.2)

/-- Entries taken out of every push-out stack. -/
def unstack (l : List (Nat × Nat)) (d : Dev) : Dev :=
  d.setBuf fun b => { b with pushStack := b.pushStack.map fun p => (p.1, p.2.filter fun e => !l.contains e) }

/-- One victim leaves its queue, counted under PUSHED_OUT in its own quota (R247). -/
def evict (d : Dev) (v : Nat × Nat) : Dev :=
  match tget d.buf.frame v.1 with
  | none => d
  | some f =>
    let s := d.sliceFor v.2 f.fl
    let d1 := (d.modQuota f.quota fun q => { q with pushed := q.pushed + 1 }).modQ v.2 fun q =>
      { q.withChain (q.chain.filter (·.ptr != v.1)) d.now with parked := q.parked.filter (·.ptr != v.1) }
    releaseFrame s v.2 v.1 ((d1.modSlice s fun x => { x with pushouts := x.pushouts + 1 }).dropSlicePort s (flightPort f.fl) 68 f.fl.len)

/-- Push-out for `n` cells of class `c`: whether the victims free enough and are evicted; the dead entries met go in either case (R247, R248). -/
def pushOut (d : Dev) (c n : Nat) : Bool × Dev :=
  let v := d.allVictims n (d.pushClasses c) [] [] []
  if n ≤ (v.2.1.map (·.2)).sum then (true, unstack (v.1 ++ v.2.2) (v.1.foldl evict d)) else (false, unstack v.2.2 d)

/-! ### Admission (R243-R245, R250) -/

/-- The spill bucket now (R244). -/
def spillTokens (d : Dev) : Nat := min 2199023255552 (d.buf.spillTok + 25 * d.buf.spillRate * (d.now - d.buf.spillStamp))

/-- The quota a frame is charged to (R238). -/
def quotaKey (s : Nat) (f : Flight) : Nat :=
  match f.src with
  | .port p => p * 8 + f.cls
  | .inject _ _ => 2 * 4096 + s
  | .engine e => 3 * 4096 + e
  | .remote _ => 4096 + f.outPort

/-- Where R243 places a frame of `n` cells: the cells, or the code of Table 7.5; and the device after it. -/
def place (s : Nat) (f : Flight) (d : Dev) : (List Nat ⊕ Nat) × Dev :=
  let n := cellsOf f.len
  let k := quotaKey s f
  let c := f.cls
  let onDie (x : Dev) : (List Nat ⊕ Nat) × Dev := (.inl (x.takeOnd n), x.chargeOnd k n)
  if d.ondFits k n then onDie d
  else if 4096 ≤ k then (.inr 72, d)
  else
    let q := d.getQuota k
    let tried := d.buf.spill.getLsbD c && d.buf.hbmGib != 0
    let barred := d.hbmBars c
    let tok := d.spillTokens
    let hbm := if tried && !barred && 33554432 * n ≤ tok && d.hbmFits k n then takeHbm s (cellList f) d else none
    match hbm with
    | some (l, e) => (.inl l, (e.setBuf fun b => { b with spillTok := tok - 33554432 * n, spillStamp := d.now }).chargeHbm k n)
    | none =>
      let code : Nat :=
        if tried then
          if barred then 66 else if tok < 33554432 * n then 67 else if q.hbmCeil < q.hbmUsed + n then 64 else 65
        else if ondCeilHit q n then 64 else 65
      if !ondCeilHit q n && d.buf.mayPush.getLsbD c then
        match d.pushOut c n with
        | (true, e) => onDie e
        | (false, e) => (.inr code, e)
      else (.inr code, d)

/-- Arrival of a frame in units of 64 ns (R237, Table 8.2). -/
def arrival64 (d : Dev) : Nat := (d.sysTicks / 4194304 % (2 ^ 32 : Nat)).toNat

/-- Age at tick `t` of an arrival value `a`, in units of 64 ns, through the step history `h`, newest first: system time is `t` plus `off`
since its first step; a value that fits no later span of time arrived before, and with `cut` at the oldest step held (R424). -/
def ageThrough (a : Nat) (cut : Bool) (t : Nat) (off : Int) : List (Nat × Int) → Nat
  | [] => (((t + off) / 4194304 - a) % (2 ^ 32 : Nat)).toNat
  | (s, z) :: r =>
    let u := (((t + off) / 4194304 - a) % (2 ^ 32 : Nat)).toNat
    let span := (t - s) / 4194304
    if u ≤ span + 1 then u else if r.isEmpty && cut then span else span + ageThrough a cut s (off - z) r

/-- Age of an entry in units of 64 ns (R257, R270, R424). -/
def age64 (d : Dev) (e : QEntry) : Nat := ageThrough e.arrival d.time.cut d.now d.time.off d.time.hist

/-- Head delay of a queue in ns (R315, R319). -/
def headDelay (d : Dev) (q : Queue) : Nat := match q.chain with | e :: _ => 64 * d.age64 e | [] => 0

/-! ### The active set (R271-R276) -/

def Queue.isHot (q : Queue) : Bool := q.part != .cold && q.actSince.isNone

/-- Entries of a part in use. -/
def partUsed (d : Dev) (p : Part) : Nat := (d.qs.q.filter fun x => x.2.part == p).length

/-- A queue is the base queue of a RUNNING port's map: pinned automatically (R276). -/
def autoPinned (d : Dev) (q : Nat) : Bool :=
  !isVoq q && match d.ownerOf q with
    | some o => (d.mapOf o.1 o.2).1 == q && (d.getPort o.1).obj.st == .running
    | none => false

/-- A queue whose entry may be evicted: empty, not pinned, without balance (R273). -/
def evictable (d : Dev) (p : Part) (x : Nat × Queue) : Bool :=
  x.2.part == p && Queue.isHot x.2 && x.2.chain.isEmpty && x.2.parked.isEmpty && x.2.balance == 0 && !x.2.cfg.pinned && !d.autoPinned x.1

/-- A queue's configuration written by a command: both HBM copies and the active-set entry (R271). -/
def cfgWrite (q : Nat) (f : Queue → Queue) (d : Dev) : Dev :=
  (d.modQ q fun x => { f x with cfgBad := false }).writeCopies (queueCopies q) 32

/-- The evictable queue of the parts that has been empty the longest, with its part (R273). -/
def longestEmpty (d : Dev) (ps : List Part) : Option (Nat × Part) :=
  ((d.qs.q.filter fun x => ps.any fun p => d.evictable p x).foldl (fun (m : Option (Nat × Nat × Part)) x => match m with
    | some y => if x.2.emptyAt < y.2.1 then some (x.1, x.2.emptyAt, x.2.part) else m
    | none => some (x.1, x.2.emptyAt, x.2.part)) none).map fun y => (y.1, y.2.2)

/-- A queue leaves the active set (R271, R275): counts of a cold queue are 0. -/
def leaveActive (d : Dev) (q : Nat) : Dev := d.modQ q fun x => { x with
  part := .cold, actSince := none, balance := 0, demand := 0, grantSeq := 0, idleDue := none, cfgBad := false }

/-- An entry of the active set for queue `q` (R272, R273): its part, and the device after an eviction. After a change of the reserve a part may hold
more than its share; no more than 262,144 entries are ever in use (R290). -/
def takeEntry (d : Dev) (q : Nat) (mayEvict : Bool) : Option (Part × Dev) :=
  let parts : List Part := if isVoq q then [.shared] else [.reserve, .shared]
  let size (p : Part) : Nat := if p = .reserve then d.qs.reserve else 262144 - d.qs.reserve
  let room := decide (d.partUsed .reserve + d.partUsed .shared < 262144)
  match parts.find? fun p => room && decide (d.partUsed p < size p) with
  | some p => some (p, d)
  | none => if !mayEvict then none else (d.longestEmpty parts).map fun v => (v.2, d.leaveActive v.1)

/-! ### Handing a frame to a queue (R273, R288) -/

/-- Frames in the activation park. -/
def parkUsed (d : Dev) : Nat := (d.qs.q.map fun x => x.2.parked.length).sum

/-- The entry of a stored frame joins hot queue `q`, or the park of a cold one (R273). -/
def handToQueue (q : Nat) (e : QEntry) (d : Dev) : Dev :=
  let x := d.getQ q
  if Queue.isHot x then d.setQ q (x.withChain (x.chain ++ [e]) d.now)
  else if x.part == .cold && d.autoPinned q && (d.takeEntry q true).isSome then
    match d.takeEntry q true with
    | some (p, d1) => d1.modQ q fun y => { y with part := p, chain := y.chain ++ [e] }
    | none => d
  else if 16384 ≤ d.parkUsed then
    (discardEntry q 81 true d e).raiseCounted 0x0406 sevMinor 0 0 0 [fCnt 0]
  else if x.part != .cold then d.setQ q { x with parked := x.parked ++ [e] }
  else
    match d.takeEntry q true with
    | some (p, d1) => (d1.modQ q fun y => { y with part := p, actSince := some d.now, parked := y.parked ++ [e] }).queueCfgRead q
    | none => (discardEntry q 82 true d e).raiseCounted 0x0405 sevMajor (b2n (!isVoq q)) 0 0 [fCnt 0, fByte (b2n (!isVoq q))]

/-- The entry that names the frame at `p`. -/
def entryOf (d : Dev) (f : Flight) (p : Nat) (shared : Bool) (k : Nat) : QEntry :=
  { ptr := p, shared := shared, cls := f.cls, len := f.len, quota := k, arrival := d.arrival64 }

/-- A frame stored in the cells given, owned by `owner`, with `copies` references when SHARED (R236, R250). -/
def store (d : Dev) (f : Flight) (cells : List Nat) (owner : Nat) (copies : Nat) (k : Nat) : Dev :=
  let d1 := writeRecs owner copies (1 < copies) cells true d
  d1.setBuf fun b => { b with frame := tput b.frame (cells.headD 0) { fl := f, cells := cells, quota := k } }

/-- The destinations of a frame: the VOQs of its copies (R112, R265). -/
def voqOf (g c : Nat) : Nat := (g % 2 ^ 19) * 8 + c
def voqsOf (f : Flight) : List Nat :=
  match f.dec with
  | .unicast g => [voqOf g f.cls]
  | .multicast g => (Config.members g).map fun p => voqOf p f.cls
  | _ => []

/-- A VOQ refuses an arrival: it is stopped (R288), or its head delay exceeds its limit (R319). -/
def voqRefuses (d : Dev) (v : Nat) : Option Nat :=
  let q := d.getQ v
  if q.obj.st != .running then some 80
  else if q.cfg.admitNs != 0 && decide (q.cfg.admitNs < d.headDelay q) then some 88
  else none

/-- One group of up to 255 copies admitted whole (R250, R243). -/
def admitGroup (s : Nat) (f : Flight) (vs : List Nat) (d : Dev) : Dev :=
  let k := quotaKey s f
  let p := flightPort f
  match vs with
  | [] => d
  | v :: _ =>
    match place s f d with
    | (.inr code, d1) =>
      vs.foldl (fun x _ => (if code = 72 then x.dropSlice s code f.len else x.dropSlicePort s p code f.len).modQuota k fun q =>
        { q with refused := q.refused + 1 }) d1
    | (.inl cells, d1) =>
      let shared := decide (1 < vs.length)
      let hd := cells.headD 0
      let d2 := d1.store f cells v vs.length k
      let d3 := if k < 4096 && !ptrHbm hd then
          d2.setBuf fun b => { b with pushStack := tset b.pushStack [] f.cls (((hd, v) :: tgetD b.pushStack [] f.cls).take 1024) }
        else d2
      vs.foldl (fun x w => handToQueue w (x.entryOf f hd shared k) x) d3

/-- Groups of 255 copies (R250). -/
def groups (n : Nat) (l : List Nat) : List (List Nat) :=
  (List.range n).map (fun i => (l.drop (255 * i)).take 255) |>.filter (!·.isEmpty)

/-- A frame with its arrival time of R237 at its slice admitted (R243, R250, R288, R319): which VOQs it then stands in. -/
def admitFrame (s : Nat) (f : Flight) (d : Dev) : Dev :=
  let vs := voqsOf f
  let ok := vs.filter fun v => (d.voqRefuses v).isNone
  let d1 := (vs.filter fun v => (d.voqRefuses v).isSome).foldl (fun (x : Dev) v =>
    let c := (d.voqRefuses v).getD 80
    let y := x.dropSlicePort s (flightPort f) c f.len
    if c = 80 then y.modQ v fun q => { q with dropped := q.dropped + 1 } else y) d
  (groups (ok.length / 255 + 1) ok).foldl (fun x g => admitGroup s f g x) d1

/-! ### Ageing (R257, R258) -/

/-- An entry is older than its queue's maximum sojourn time. -/
def aged (d : Dev) (q : Queue) (e : QEntry) : Bool := q.cfg.sojourn != 0 && decide (q.cfg.sojourn * 10000 < 64 * d.age64 e)

/-- Consecutive aged head frames of a queue discarded. -/
def ageHeads (q : Nat) : Nat → Dev → Dev
  | 0, d => d
  | n + 1, d =>
    let x := d.getQ q
    match x.chain with
    | e :: r =>
      if d.aged x e then
        ageHeads q n (discardEntry q 69 true (d.setQ q (x.withChain r d.now)) e)
      else d
    | [] => d

/-- A queue's aged heads go. -/
def ageQueue (d : Dev) (q : Nat) : Dev := ageHeads q (d.getQ q).chain.length d

/-! ### Scarab (R254-R256) -/

/-- Cells reachable from queue entries and push-out stacks. -/
def reached (d : Dev) : List Nat :=
  let heads := (d.qs.q.flatMap fun x => (x.2.chain ++ x.2.parked).map (·.ptr)) ++ (d.buf.pushStack.flatMap fun p => p.2.map (·.1)) ++
    d.inSwitch
  heads.flatMap fun h => match tget d.buf.frame h with | some f => f.cells | none => [h]

/-- The used cells of a pool with their records. -/
def usedCells (d : Dev) (hbm : Bool) : List (Nat × CellRec) :=
  if hbm then d.buf.stripe.flatMap fun s => s.2.recs.map fun r => (hbmPtr s.1 r.1, r.2) else d.buf.cell

/-- A leaked cell reclaimed, its charge returned to the quota its frame is known by (R254, R256). -/
def reclaim (d : Dev) (c : Nat × CellRec) : Dev :=
  let home := d.buf.frame.find? fun f => f.2.cells.contains c.1
  let s := if ptrHbm c.1 then 0 else match home with | some f => d.sliceFor c.2.owner f.2.fl | none => 0
  let d1 := (d.delRec c.1).modSlice s fun x => { x with leaked := x.leaked + 1 }
  match home with
  | some f =>
    (d1.uncharge f.2.quota [c.1]).setBuf fun b =>
      let rest := f.2.cells.filter (· != c.1)
      { b with frame := if rest.isEmpty then tdel b.frame f.1 else tput b.frame f.1 { f.2 with cells := rest } }
  | none => d1

/-- SCARAB_PASS (R254-R256): marks, free lists, records. -/
def scarab (hbm : Bool) (d : Dev) : Dev :=
  if !hbm && d.now < d.buf.passAt + msT d.buf.auditMs then d
  else
    let seen := d.reached
    let bad := d.buf.badFree.filter fun p => ptrHbm p == hbm
    let d1 := d.setBuf fun b => { b with badFree := b.badFree.filter fun p => ptrHbm p != hbm }
    let d2 := bad.foldl (fun (x : Dev) _ => x.modSlice 0 fun y => { y with freelistFaults := y.freelistFaults + 1 }) d1
    let lost := (d2.usedCells hbm).filter fun c => !seen.contains c.1 && !c.2.marked
    let d3 := lost.foldl reclaim d2
    let d4 := (d3.usedCells hbm).foldl (fun (x : Dev) c => x.putRec c.1 { c.2 with marked := seen.contains c.1 }) d3
    let d5 := d4.setBuf fun b => if hbm then { b with passesHbm := b.passesHbm + 1 }
      else { b with passesOnd := b.passesOnd + 1, passAt := d.now }
    if lost.isEmpty then d5
    else d5.raise 0x0403 sevMinor 0 ([fByte (b2n hbm), fCnt lost.length] ++ (lost.take 10).map fun c => fIdx c.1)

/-- Stranded positions: free positions of stripes not on the free list (R233, R262). -/
def stranded (d : Dev) : Nat := (d.buf.stripe.map fun s => 7 - s.2.recs.length).sum

/-- EV_BUF_STRANDED while more than 25% of the data cells are stranded (R242). -/
def strandedCheck (d : Dev) : Dev :=
  if d.hbmData < 4 * d.stranded then
    d.raiseLimited 0x0404 sevMinor 0 0 [fCnt d.stranded, f8 (d.stranded * 100 / d.hbmData)]
  else d

/-- VOQ_ADMIT: the next frame of slice `s` (R23 stage 5). -/
def voqAdmit (s : Nat) (d : Dev) : Dev :=
  match (d.getSlice s).inbox with
  | [] => d
  | f :: r => (admitFrame s f (d.modSlice s fun x => { x with inbox := r })).strandedCheck

/-! ### Commands (Table 7.6) -/

/-- BUF_SET_POOL (R261, Table 7.7). -/
def bufSetPool (c : Cmd) (d : Dev) : Reply :=
  let g := c.f 0 1; let r := c.f 2 2; let a := c.f 4 4
  let d1 := d.setBuf fun b => { b with spillTok := d.spillTokens, spillStamp := d.now, spillRate := r, hbmGib := g, auditMs := a }
  let bad := decide (96 < g) || g % 8 != 0 || c.dirty 1 1 || decide (400 < r) || decide (a < 10) || decide (10000 < a) || c.dirty 8 24
  check d [(c.bad 0x00, .badHandle), (bad, .badArg),
      (g != d.buf.hbmGib && !d.buf.stripe.all (fun s => s.2.recs.isEmpty), .refusedBusy),
      (decide (3 * d1.hbmData < 4 * d1.hbmFloors) || !d1.hbmBudgetOk, .budgetExceeded)]
    (.done (if g = d.buf.hbmGib then d1
      else (List.range 32).foldl (fun x s => x.modSlice s fun y => { y with stripe := none }) (d1.setBuf fun b => { b with stripe := [] })) {})

/-- A quota handle: kind and number in range (R238). -/
def quotaBad (c : Cmd) : Bool :=
  let n := c.hIdx % 4096
  c.bad 0x0E || decide ((match c.hIdx / 4096 with | 0 => 2048 | 1 => 256 | 2 => 32 | _ => 64) ≤ n)

/-- BUF_SET_QUOTA (R240, R241, Table 7.8). -/
def bufSetQuota (c : Cmd) (d : Dev) : Reply :=
  let k := c.hIdx
  let of := c.f 0 4; let oc := c.f 4 4; let hf := c.f 8 4; let hc := c.f 12 4
  let bad := decide (oc < of) || decide (hc < hf) || decide (1040384 < oc) || decide (d.hbmData < hc) ||
    (decide (4096 ≤ k) && (hf != 0 || hc != 0)) || c.dirty 16 16
  let d1 := d.modQuota k fun q => { q with ondFloor := of, ondCeil := oc, hbmFloor := hf, hbmCeil := hc }
  let over' (a b u : List Nat) : Bool := decide (a.sum < b.sum + u.sum)
  check d [(quotaBad c, .badHandle), (bad, .badArg),
      (decide (1040384 < d1.ondFloors) || decide (3 * d.hbmData < 4 * d1.hbmFloors), .budgetExceeded),
      (over' [1040384] [d1.ondFloors] (d1.buf.quota.map fun p => p.2.ondUsed - p.2.ondFloor) ||
        over' [d1.hbmData] [d1.hbmFloors] (d1.buf.quota.map fun p => p.2.hbmUsed - p.2.hbmFloor), .noSpace)]
    (.done d1 {})

/-- BUF_SET_CLASS (Table 7.9). -/
def bufSetClass (c : Cmd) (d : Dev) : Reply :=
  check d [(c.bad 0x00, .badHandle), (c.dirty 3 29, .badArg)]
    (.done (d.setBuf fun b => { b with
      spill := BitVec.ofNat 8 (c.f 0 1), mayPush := BitVec.ofNat 8 (c.f 1 1), pushable := BitVec.ofNat 8 (c.f 2 1) }) {})

/-- A queue handle names an assigned queue (R264). -/
def queueBad (c : Cmd) : Bool := c.bad 0x0F || decide (0x500000 ≤ c.hIdx)

/-- `count` queues from `q` upward lie within the queue ID space (Table 7.10). -/
def rangeBad (q n : Nat) : Bool := n == 0 || decide (5242880 < n) || decide (0x500000 < q + n)

/-- BUF_SET_SOJOURN (R257, R512, Table 7.10). -/
def bufSetSojourn (c : Cmd) (d : Dev) : Reply :=
  let n := c.f 0 4; let s := c.f 4 4
  check d [(queueBad c, .badHandle), (rangeBad c.hIdx n || decide (6000000 < s) || c.dirty 8 24, .badArg)]
    (.done ((List.range n).foldl (fun x k => cfgWrite (c.hIdx + k) (fun q => { q with sojourn := s }) x) d) {})

/-- BUF_GET_STATUS (R262, Table 7.11). -/
def bufGetStatus (c : Cmd) (d : Dev) : Reply :=
  let b := d.buf
  let one := c.hType == 0x03
  let sum (f : Slice → Nat) : Nat := if one then f (d.getSlice c.hIdx) else (b.slice.map fun s => f s.2).sum
  let resv := (d.qs.credit.map fun p => p.2.reserved).sum
  check d [((if one then c.bad 0x03 else c.bad 0x00), .badHandle)]
    (.done d { record := some (le 4 (1040384 - b.cell.length - resv) ++ le 4 d.ondShared ++ le 4 (d.hbmStripes - b.stripe.length) ++
      le 4 (b.stripe.map fun s => s.2.recs.length).sum ++ le 4 d.stranded ++ le 4 d.hbmShared ++ le 8 (sum (·.pushouts)) ++
      le 8 (sum (·.leaked)) ++ le 4 (sat32 (sum (·.doubleFrees))) ++ le 4 (sat32 (sum (·.ownerFaults))) ++
      le 4 (sat32 (sum (·.ptrFaults))) ++ le 4 (sat32 (sum (·.freelistFaults))) ++ le 4 (sat32 b.passesOnd) ++
      le 4 (sat32 b.passesHbm)) })

/-- BUF_GET_QUOTA (Table 7.12): the read resets the peaks. -/
def bufGetQuota (c : Cmd) (d : Dev) : Reply :=
  let q := d.getQuota c.hIdx
  check d [(quotaBad c, .badHandle)]
    (.done (d.modQuota c.hIdx fun x => { x with ondPeak := x.ondUsed, hbmPeak := x.hbmUsed }) { record := some (
      le 4 q.ondFloor ++ le 4 q.ondCeil ++ le 4 q.hbmFloor ++ le 4 q.hbmCeil ++ le 4 q.ondUsed ++ le 4 q.hbmUsed ++ le 4 q.ondPeak ++
      le 4 q.hbmPeak ++ le 8 q.refused ++ le 8 q.pushed ++ List.replicate 16 0) })

/-- BUF_GET_DROPS (R260, R146): 64 records for codes 64 to 127. -/
def bufGetDrops (c : Cmd) (d : Dev) : Reply :=
  let rec' (p : Pair) : Bytes := le 8 p.pkts ++ le 8 p.bytes
  let all (k : Nat) : Pair := d.buf.slice.foldl (fun (a : Pair) s =>
    let x := tgetD s.2.drops {} k; { pkts := a.pkts + x.pkts, bytes := a.bytes + x.bytes }) {}
  let out (f : Nat → Pair) : Reply := .done d { record := some ((List.range 64).flatMap fun k => rec' (f (64 + k))) }
  match c.hType with
  | 0x00 => check d [(c.bad 0x00, .badHandle)] (out all)
  | 0x03 => check d [(c.bad 0x03, .badHandle)] (out fun k => tgetD (d.getSlice c.hIdx).drops {} k)
  | _ => check d [(c.bad 0x01, .badHandle)] (out fun k => tgetD d.buf.portDrops {} (c.hIdx * 128 + k))

end Dev

/-- STRIPE_CLOSE_TIMEOUT. -/
def execStripeCloseTimeout (sl : Fin 32) (s : State) : Out := s.onDev (Dev.stripeClose sl)
/-- SCARAB_PASS. -/
def execScarabPass (hbm : Bool) (s : State) : Out := s.onDev (Dev.scarab hbm)
/-- BUF_SET_POOL, opcode 0x0400. -/
def execBufSetPool (src : Src) (s : State) : Out := s.onDev (Dev.runCmd 0x0400 src Dev.bufSetPool)
/-- BUF_SET_QUOTA, opcode 0x0401. -/
def execBufSetQuota (src : Src) (s : State) : Out := s.onDev (Dev.runCmd 0x0401 src Dev.bufSetQuota)
/-- BUF_SET_CLASS, opcode 0x0402. -/
def execBufSetClass (src : Src) (s : State) : Out := s.onDev (Dev.runCmd 0x0402 src Dev.bufSetClass)
/-- BUF_SET_SOJOURN, opcode 0x0403. -/
def execBufSetSojourn (src : Src) (s : State) : Out := s.onDev (Dev.runCmd 0x0403 src Dev.bufSetSojourn)
/-- BUF_GET_STATUS, opcode 0x0404. -/
def execBufGetStatus (src : Src) (s : State) : Out := s.onDev (Dev.runCmd 0x0404 src Dev.bufGetStatus)
/-- BUF_GET_QUOTA, opcode 0x0405. -/
def execBufGetQuota (src : Src) (s : State) : Out := s.onDev (Dev.runCmd 0x0405 src Dev.bufGetQuota)
/-- BUF_GET_DROPS, opcode 0x0406. -/
def execBufGetDrops (src : Src) (s : State) : Out := s.onDev (Dev.runCmd 0x0406 src Dev.bufGetDrops)

end Sys2Proof.Machine
end

