-- ==== Sys2Proof/Machine/Queues.lean ====
section
/-! DEFINITION. Queues, the active set and fabric credits (R264-R293): the VOQ side and the credit scheduler side of credit, the
states of queues, and the commands of Table 8.6. -/

namespace Sys2Proof.Machine

/-- A child of a deficit round robin (R300): position, weight, deficit, fresh flag, and whether it is eligible. -/
structure Drr where
  pos : Nat
  weight : Nat
  deficit : Int
  fresh : Bool
  ok : Bool

/-- The deficit round robin of R300 over children in position order from the current index; `unit` is the quantum of weight 1, `fuel`
bounds the turns. The child chosen, the children after it and the current index. -/
def drrPick (unit : Nat) : Nat → List Drr → Nat → Option Nat × List Drr × Nat
  | 0, l, k => (none, l, k)
  | n + 1, l, k =>
    match l[k]? with
    | none => if l.isEmpty then (none, l, k) else drrPick unit n l 0
    | some c =>
      if c.ok && decide (0 < c.deficit) then (some c.pos, l, k)
      else if c.ok && !c.fresh then
        drrPick unit n (l.set k { c with deficit := c.deficit + (unit * c.weight : Nat), fresh := true }) k
      else drrPick unit n (l.set k { c with fresh := false }) (if k + 1 < l.length then k + 1 else 0)

/-- A whole selection of R300: strict children first, then the weighted group, when any is eligible. -/
def drrSelect (unit fuel : Nat) (strict : List Drr) (weighted : List Drr) (cur : Nat) : Option Nat × List Drr × Nat :=
  match strict.find? (·.ok) with
  | some c => (some c.pos, weighted, cur)
  | none => if weighted.any (·.ok) then drrPick unit fuel weighted cur else (none, weighted, cur)

/-- A shaper's tokens brought to now (R305). -/
def Shaper.fresh (s : Shaper) (now : Nat) : Shaper := { s with bucket := s.bucket.refill s.rate s.burst now }

namespace Dev

def setQs (d : Dev) (f : Qs → Qs) : Dev := { d with qs := f d.qs }

/-! ### Credit schedulers (R280-R284) -/

def getCredit (d : Dev) (p : Nat) : CreditPort := tgetD d.qs.credit {} p
def modCredit (d : Dev) (p : Nat) (f : CreditPort → CreditPort) : Dev :=
  d.setQs fun x => { x with credit := tset x.credit {} p (f (d.getCredit p)) }

/-- The key of a flow: egress port, class, source device (R280). -/
def flowKey (port cls src : Nat) : Nat := (port * 8 + cls) * 2048 + src % 2048

/-- The parts of a VOQ ID (R265). -/
def voqDev (v : Nat) : Nat := v / 2048 % 2048
def voqPort (v : Nat) : Nat := v / 8 % 256
def voqCls (v : Nat) : Nat := v % 8

/-- A VOQ of the local path whose flow is freed and whose balance is 0 restarts its grant sequence (R280); of a flow at another device a VOQ sees
nothing, so it restarts when it leaves the active set (log 74). -/
def seqRestart (k : Nat) (d : Dev) : Dev :=
  let v := (d.devId * 256 + k / 2048 / 8) * 8 + k / 2048 % 8
  if k % 2048 = d.devId % 2048 && (tget d.qs.flow k).isNone && (d.getQ v).balance = 0 then d.modQ v fun q => { q with grantSeq := 0 } else d

/-- A flow written; one whose demand and outstanding cells are both 0 is freed (R280). -/
def putFlow (d : Dev) (k : Nat) (f : CFlow) : Dev :=
  if f.demand = 0 && f.outstanding = 0 then (d.setQs fun x => { x with flow := tdel x.flow k }).seqRestart k
  else d.setQs fun x => { x with flow := tput x.flow k f }

/-- The tick of the last change of a flow's outstanding count (R400). -/
def flowTouch (d : Dev) (k : Nat) : Dev := { d with fab := { d.fab with flowAt := tput d.fab.flowAt k d.now } }

/-- The egress quota of port `p` (R238). -/
def egQuota (p : Nat) : Nat := 4096 + p

/-- A CREDIT_REQ at the credit scheduler (R280); one for another device's port has no scheduler here. -/
def creditReqAt (src voq value seq : Nat) (d : Dev) : Dev :=
  if voqDev voq != d.devId then d
  else
    let k := flowKey (voqPort voq) (voqCls voq) src
    match tget d.qs.flow k with
    | some f => d.putFlow k { f with demand := value - (f.seq + 65536 - seq % 65536) % 65536 }
    | none =>
      if 262144 ≤ d.qs.flow.length then
        (d.modCredit (voqPort voq) fun c => { c with flowFull := c.flowFull + 1 }).raiseCounted 0x0407 sevMinor 0 0 0 [fCnt 0]
      else d.putFlow k { demand := value, outstanding := 0, seq := seq % 65536 }

/-- Cells of a reservation of port `p` given back (R284). -/
def unreserve (d : Dev) (p n : Nat) : Dev :=
  let m := min n (d.getCredit p).reserved
  (d.modCredit p fun c => { c with reserved := c.reserved - m }).modQuota (egQuota p) fun q => { q with ondUsed := q.ondUsed - m }

/-- A CREDIT_RETURN at the credit scheduler (R284). -/
def creditReturnAt (src voq value : Nat) (d : Dev) : Dev :=
  if voqDev voq != d.devId then d
  else
    let k := flowKey (voqPort voq) (voqCls voq) src
    match tget d.qs.flow k with
    | none => d
    | some f =>
      let n := min value f.outstanding
      ((d.putFlow k { f with outstanding := f.outstanding - n }).flowTouch k).unreserve (voqPort voq) n

/-- The window of a port in cells (R282). -/
def creditWindow (d : Dev) (p : Nat) : Nat :=
  let c := d.getCredit p
  if c.window = 0 then 4 * portRate (d.getPort p) else c.window

/-- Egress space and pace allow a grant (R281, R282); reserved cells are part of the quota's usage. -/
def grantRoom (d : Dev) (p : Nat) : Bool :=
  let q := d.getQuota (egQuota p)
  let r := portRate (d.getPort p)
  d.ondFits (egQuota p) 16 && decide (q.ondUsed + 16 ≤ d.creditWindow p) && decide ((d.getCredit p).paceAt ≤ d.now) && r != 0

/-- The sources of a class with demand, in rising order. -/
def flowSources (d : Dev) (p c : Nat) : List Nat :=
  ((d.qs.flow.filter fun f => f.1 / 2048 == p * 8 + c && f.2.demand != 0).map fun f => f.1 % 2048)

/-- The source served next in a class: round robin after the last one (R283). -/
def nextSource (d : Dev) (p c : Nat) : Option Nat :=
  let l := d.flowSources p c
  let last := (d.getCredit p).last.getD c 2047
  match l.find? fun s => decide (last < s) with | some s => some s | none => l.head?

/-- The children of a port's credit scheduler: child i is class 7 − i (R283). -/
def creditChildren (d : Dev) (p : Nat) : List Drr :=
  let c := d.getCredit p
  (List.range 8).map fun i => { pos := i, weight := c.weights.getD i 1, deficit := c.deficit.getD i 0, fresh := c.fresh.getD i false
                                ok := !(d.flowSources p (7 - i)).isEmpty }

/-! ### The VOQ side (R277, R278) -/

/-- The destination of a VOQ can be reached (R285). -/
def voqReachable (d : Dev) (v : Nat) : Bool := voqDev v == d.devId || d.fwd.reachable.contains (voqDev v)

/-- Cells of a list of entries. -/
def entryCells (l : List QEntry) : Nat := (l.map fun e => cellsOf e.len).sum

/-- The demand of a queue (R278). -/
def demandOf (q : Queue) : Nat := min 65535 ((entryCells q.chain - q.balance + 15) / 16)

/-- A credit message behind its first 4 bytes (Table 8.3), big-endian. -/
def creditBody (voq value seq : Nat) : Bytes := be 4 voq ++ be 2 value ++ be 2 seq

/-- A credit message to the device of a VOQ's scheduler: on the local path it passes inside the device (R279). -/
def sendReq (d : Dev) (v value seq : Nat) : Dev :=
  if voqDev v = d.devId then d.creditReqAt d.devId v value seq
  else d.sendFc (voqDev v) 0x11 (creditBody v value seq)
def sendReturn (d : Dev) (v value seq : Nat) : Dev :=
  if voqDev v = d.devId then d.creditReturnAt d.devId v value
  else d.sendFc (voqDev v) 0x13 (creditBody v value seq)

/-- What a hot VOQ sends after a change of its cells or balance (R278). -/
def voqDemand (v : Nat) (d : Dev) : Dev :=
  let q := d.getQ v
  if !isVoq v || !Queue.isHot q || !d.voqReachable v then d
  else if q.chain.isEmpty && q.parked.isEmpty then
    let d1 := d.setQ v { q with balance := 0, demand := 0 }
    if q.balance = 0 then (if voqDev v = d.devId then d1.seqRestart (flowKey (voqPort v) (voqCls v) d.devId) else d1)
    else d1.sendReturn v q.balance q.grantSeq
  else
    let n := demandOf q
    let diff := if n ≤ q.demand then q.demand - n else n - q.demand
    if (q.demand = 0 && n != 0) || max 4 (q.demand / 8) ≤ diff then
      (d.setQ v { q with demand := n, reqAt := d.now }).sendReq v n q.grantSeq
    else d

/-- Every VOQ that is not in its reset state. -/
def demandAll (d : Dev) : Dev := ((d.qs.q.map (·.1)).filter isVoq).foldl (fun x v => voqDemand v x) d

/-- A CREDIT_GRANT at the VOQ (R277, R280). A cold VOQ holds no balance (R271): the credit goes back at once (log 74). -/
def creditGrantAt (v value seq : Nat) (d : Dev) : Dev :=
  if !isVoq v then d
  else if (d.getQ v).part == .cold then (if d.voqReachable v then d.sendReturn v (16 * value) (seq % 65536) else d)
  else voqDemand v (d.modQ v fun q => { q with balance := q.balance + 16 * value, grantSeq := seq % 65536 })

/-- GRANT_ISSUE (R281-R283): one grant of port `p`, with its message. -/
def grantIssue (p : Nat) (d : Dev) : Dev :=
  let c := d.getCredit p
  let ch := d.creditChildren p
  if !d.grantRoom p then d
  else
    let r := drrSelect 1 64 (ch.take c.strict) (ch.drop c.strict) (c.cur - c.strict)
    match r.1 with
    | none => d
    | some i =>
      match d.nextSource p (7 - i) with
      | none => d
      | some s =>
        let k := flowKey p (7 - i) s
        match tget d.qs.flow k with
        | none => d
        | some f =>
          let f' : CFlow := { demand := f.demand - 1, outstanding := f.outstanding + 16, seq := (f.seq + 1) % 65536 }
          let w := if i < c.strict then r.2.1
                   else r.2.1.map fun (x : Drr) => if x.pos = i then { x with deficit := x.deficit - 1 } else x
          let all := ch.take c.strict ++ w
          let d1 := (d.chargeOnd (egQuota p) 16).modCredit p fun x => { x with
            deficit := all.map (·.deficit), fresh := all.map (·.fresh), cur := c.strict + r.2.2, last := x.last.set (7 - i) s
            paceAt := d.now + (32768 * 65536 + x.cap * portRate (d.getPort p) - 1) / (x.cap * portRate (d.getPort p)), grants := x.grants + 1, reserved := x.reserved + 16 }
          let d2 := (d1.putFlow k f').flowTouch k
          let voq := (d.devId * 256 + p) * 8 + (7 - i)
          if s = d.devId then creditGrantAt voq 1 f'.seq d2
          else d2.sendFc s 0x12 (creditBody voq 1 f'.seq)

/-- CREDIT_REQ_REFRESH (R278): 1 ms without a CREDIT_REQ while the demand is non-zero. -/
def creditRefresh (v : Nat) (d : Dev) : Dev :=
  let q := d.getQ v
  if isVoq v && Queue.isHot q && d.voqReachable v && demandOf q != 0 && decide (q.reqAt + msT 1 ≤ d.now) then
    (d.setQ v { q with demand := demandOf q, reqAt := d.now }).sendReq v (demandOf q) q.grantSeq
  else d

/-! ### Unreachable destinations (R285) -/

/-- A device becomes unreachable: the VOQs toward it drop their balance, and the flush time starts as it is set now (R290). -/
def creditUnreach (dev : Nat) (d : Dev) : Dev :=
  d.setQs fun x => { x with
    unreach := tput x.unreach dev d.now
    flushDue := if x.flushMs = 0 then tdel x.flushDue dev else tput x.flushDue dev (d.now + msT x.flushMs)
    flushed := x.flushed.filter (· != dev), released := x.released.filter (· != dev)
    q := (x.q.map fun p => if isVoq p.1 && voqDev p.1 == dev then (p.1, { p.2 with balance := 0, demand := 0 }) else p).filter
      fun p => p.2 != {} }

/-- It becomes reachable again: the VOQs start again under R278. -/
def creditReach (dev : Nat) (d : Dev) : Dev :=
  (d.setQs fun x => { x with unreach := tdel x.unreach dev, flushDue := tdel x.flushDue dev, flushed := x.flushed.filter (· != dev),
                             released := x.released.filter (· != dev) }).demandAll

/-- Every frame of a queue discarded under a code: the device and how many. -/
def flushQueue (q code : Nat) (d : Dev) : Dev × Nat :=
  let x := d.getQ q
  let l := x.chain ++ x.parked
  (l.foldl (discardEntry q code true) (d.setQ q { x.withChain [] d.now with parked := [] }), l.length)

/-- DEST_FLUSH_TIMEOUT: frames that reach such a VOQ later go in the same way, and the event is raised once (log 74). -/
def destFlush (dev : Nat) (d : Dev) : Dev :=
  match tget d.qs.flushDue dev with
  | none => d
  | some t =>
    if d.now < t then d
    else
      let vs := (d.qs.q.filter fun p => isVoq p.1 && voqDev p.1 == dev && !(p.2.chain.isEmpty && p.2.parked.isEmpty)).map (·.1)
      let r := vs.foldl (fun (x : Dev × Nat) v => let y := flushQueue v 83 x.1; (y.1, x.2 + y.2)) (d, 0)
      if d.qs.flushed.contains dev then r.1
      else (r.1.setQs fun x => { x with flushed := dev :: x.flushed }).raise 0x0408 sevMinor 0 [fIdx dev, fCnt vs.length, fCnt r.2]

/-- RESERVATION_RELEASE: 10 ms after a source became unreachable its flows are released. -/
def resvRelease (dev : Nat) (d : Dev) : Dev :=
  match tget d.qs.unreach dev with
  | none => d
  | some t =>
    if d.qs.released.contains dev || d.now < t + msT 10 then d
    else
      let fs := d.qs.flow.filter fun f => f.1 % 2048 == dev
      (fs.foldl (fun (x : Dev) f => (x.putFlow f.1 { f.2 with demand := 0, outstanding := 0 }).unreserve (f.1 / 16384) f.2.outstanding) d).setQs
        fun x => { x with released := dev :: x.released }

/-! ### The active set and queue states (R273-R276, R288) -/

def queueHandle (q : Nat) : Nat := handle 0x0F q

/-- ACTIVATION_COMPLETE (R273 steps 3 and 4, R274): the configuration is read from a good copy, which repairs the other (R352), the parked frames join
and the queue is hot; a Q_PIN that waits completes. With both copies uncorrectable the queue takes the default configuration until firmware has
rewritten them; while neither copy's channel serves, no configuration comes. -/
def activationComplete (q : Nat) (d : Dev) : Dev :=
  let x := d.getQ q
  if x.part == .cold || x.actSince.isNone then d
  else
    match d.readCopies (queueCopies q) 32 with
    | none => d
    | some good =>
      let y : Queue := { x with
        actSince := none, chain := x.chain ++ x.parked, parked := [], emptyAt := if x.parked.isEmpty then d.now else x.emptyAt
        cfgBad := good.isNone }
      let d1 := if good.isNone then
          ((d.setQ q y).shadowNeed (.queueCfg q)).raise 0x0901 sevMajor 0 [f8 (queueCopies q).1, fByte (Config.eccCode 6)]
        else (d.setQ q y).writeCopies (queueCopies q) 32
      (voqDemand q d1).finish 0x040B (queueHandle q) {}

/-- The base queues of a port that has entered RUNNING are made hot: they are pinned (R276). -/
def pinBases (p : Nat) (d : Dev) : Dev :=
  if (d.getPort p).obj.st != .running then d
  else (List.range 8).foldl (fun (x : Dev) c =>
    let q := (x.mapOf p c).1
    if (x.getQ q).part != .cold then x
    else match x.takeEntry q true with
      | some (k, y) => y.modQ q fun z => { z with part := k, emptyAt := y.now }
      | none => x) d

/-- ACTIVE_IDLE_TIMEOUT (R275). -/
def activeIdle (q : Nat) (d : Dev) : Dev :=
  let x := d.getQ q
  if Queue.isHot x && x.chain.isEmpty && x.parked.isEmpty && x.balance == 0 && !x.cfg.pinned && !d.autoPinned q &&
      decide (x.idleDue.getD (x.emptyAt + usT d.qs.idleUs) ≤ d.now) then d.leaveActive q
  else d

/-- QUEUE_START_DONE (Table 8.4). -/
def queueStartDone (q : Nat) (d : Dev) : Dev :=
  let x := d.getQ q
  if x.obj.st = .starting then
    (d.raiseObj (queueHandle q) x.obj .running false 0).setQ q { x with obj := x.obj.started d.nowNs }
  else d

/-- QUEUE_STOP_DONE (Table 8.4): the queue is empty, or 5 ms have passed. -/
def queueStopDone (q : Nat) (d : Dev) : Dev :=
  let x := d.getQ q
  let left := !(x.chain.isEmpty && x.parked.isEmpty)
  if x.obj.st = .stopping && (!left || due d.now x.obj.due) then
    let r := flushQueue q 80 d
    let d1 := voqDemand q r.1
    let y := d1.getQ q
    (d1.raiseObj (queueHandle q) y.obj .stopped left r.2).setQ q { y with obj := y.obj.stopped d.nowNs }
  else d

/-- VOQ_ADMIT with the credit requests that follow (R243, R278). -/
def voqAdmitAll (s : Nat) (d : Dev) : Dev := (voqAdmit s d).demandAll

/-- QUEUE_AGEING_SWEEP (R258): the head of every queue. -/
def queueAgeing (d : Dev) : Dev :=
  if d.now < d.sch.ageAt + msT 1 then d
  else
    let d1 := (d.qs.q.map (·.1)).foldl (fun (x : Dev) q => x.ageQueue q) { d with sch := { d.sch with ageAt := d.now } }
    d1.demandAll

/-! ### What is left of a port (R62, R520) -/

/-- Frames of port `p` in its egress queues, in its egress pipeline and before the line, discarded under PORT_STOPPED. -/
def flushPort (p : Nat) (d : Dev) : Dev × Nat :=
  let qs := (d.qs.q.filter fun x => !(x.2.chain.isEmpty && x.2.parked.isEmpty) && d.mapHolds p x.1).map (·.1)
  let drop (q : Nat) (y : Dev) (e : QEntry) : Dev :=
    match tget y.buf.frame e.ptr with
    | some f => (releaseFrame (p / 8) q e.ptr y).dropPort p 37 f.fl.len
    | none => y
  let d1 := qs.foldl (fun (y : Dev) q =>
    let x := y.getQ q
    (x.chain ++ x.parked).foldl (drop q) (y.setQ q { x.withChain [] y.now with parked := [] })) d
  let n1 := (qs.map fun q => ((d.getQ q).chain ++ (d.getQ q).parked).length).sum
  let x := d1.getPipe (p / 8)
  let gone := (x.egress.filter fun f => f.outPort == p) ++ tgetD d1.tx [] p
  let d2 := d1.setPipe (p / 8) { x with egress := x.egress.filter fun f => f.outPort != p }
  let d3 : Dev := { d2 with tx := tdel d2.tx p }
  (gone.foldl (fun (y : Dev) f => y.dropPort p 37 f.len) d3, n1 + gone.length)

/-! ### Commands (Table 8.6) -/

/-- Q_ENABLE (Table 8.4). -/
def qEnable (c : Cmd) (d : Dev) : Reply :=
  let x := d.getQ c.hIdx
  let r := x.obj.enable d.nowNs
  check d [(queueBad c, .badHandle)] (.done (d.setQ c.hIdx { x with obj := r.obj }) { status := r.status })

/-- Q_DISABLE (Table 8.4). -/
def qDisable (c : Cmd) (d : Dev) : Reply :=
  let x := d.getQ c.hIdx
  let r := x.obj.disable d.nowNs (d.now + msT 5)
  check d [(queueBad c, .badHandle)] (.done (d.setQ c.hIdx { x with obj := r.obj }) { status := r.status })

/-- Q_GET_STATUS (R292, Table 8.8). -/
def qGetStatus (c : Cmd) (d : Dev) : Reply :=
  let q := c.hIdx
  let x := d.getQ q
  let hot := x.part != .cold
  let n (k : Nat) : Nat := if hot then k else 0
  let cells := x.chain.flatMap fun e => match tget d.buf.frame e.ptr with | some f => f.cells | none => []
  let h := (cells.filter ptrHbm).length
  let flags := b2n (Queue.isHot x) + 2 * b2n (x.cfg.pinned || d.autoPinned q) + 4 * b2n (!x.parked.isEmpty) + 8 * b2n x.obj.held +
    16 * b2n (isVoq q && !d.voqReachable q)
  check d [(queueBad c, .badHandle)]
    (.done d { record := some (le 4 q ++ le 1 x.obj.st.code ++ le 1 flags ++ le 2 0 ++ le 4 (n x.chain.length) ++
      le 4 (n (cells.length - h)) ++ le 4 (n h) ++ le 4 (match x.chain.head? with | some e => e.ptr | none => endPtr) ++
      le 4 (match x.chain.getLast? with | some e => e.ptr | none => endPtr) ++ le 2 (n x.balance) ++ le 2 (n x.demand) ++
      le 2 (n x.grantSeq) ++ le 2 0 ++ le 4 x.cfg.sojourn ++ le 8 (n (x.chain.map (·.len)).sum) ++
      le 8 (match x.chain.head? with | some e => d.nowNs - 64 * d.age64 e | none => 0) ++ le 8 (n x.dropped)) })

/-- Q_SET_ACTIVE (Table 8.7): a new idle time applies from the next timer start, so the timers that run keep the old one (Table 8.6). -/
def qSetActive (c : Cmd) (d : Dev) : Reply :=
  let i := c.f 0 4; let r := c.f 4 4; let f := c.f 8 4
  check d [(c.bad 0x00, .badHandle), (i == 0 || decide (1000000 < i) || decide (131072 < r) || decide (60000 < f) || c.dirty 12 20, .badArg)]
    (.done (d.setQs fun x => { x with
      idleUs := i, reserve := r, flushMs := f
      q := x.q.map fun p => if Queue.isHot p.2 && p.2.chain.isEmpty && p.2.balance == 0 && p.2.idleDue.isNone then
        (p.1, { p.2 with idleDue := some (p.2.emptyAt + usT x.idleUs) }) else p }) {})

/-- Queues pinned, automatically or by Q_PIN (R276). -/
def pinnedCount (d : Dev) : Nat :=
  let auto := (List.range 2048).filter fun k => (d.getPort (k / 8)).obj.st == .running
  auto.length + (d.qs.q.filter fun x => x.2.pinned && !d.autoPinned x.1).length

/-- Q_PIN (R276). -/
def qPin (c : Cmd) (d : Dev) : Reply :=
  let q := c.hIdx
  let x := d.getQ q
  let more := !x.pinned && !d.autoPinned q && decide (16384 ≤ d.pinnedCount)
  let go : Reply :=
    if c.f 0 1 = 0 then .done (cfgWrite q (fun y => { y with pinned := false }) d) {}
    else if Queue.isHot x then .done (cfgWrite q (fun y => { y with pinned := true }) d) {}
    else if x.part != .cold then .pend (cfgWrite q (fun y => { y with pinned := true }) (d.noteWrite c.intake (.queue q (tget d.qs.q q))))
    else match (d.noteWrite c.intake (.queue q (tget d.qs.q q))).takeEntry q false with
      | some (p, d1) => .pend ((cfgWrite q (fun y => { y with pinned := true, part := p, actSince := some d.now }) d1).queueCfgRead q)
      | none => .done d { status := .noSpace }
  check d [(queueBad c, .badHandle), (decide (1 < c.f 0 1) || c.dirty 1 31, .badArg),
    (c.f 0 1 == 1 && more, .noSpace)] go

/-! Egress elements of the scheduler: kept here because a map change detaches queues (R268). -/

/-- A queue's element: the default attachment of R296 where none is listed. -/
def schQ (d : Dev) (q : Nat) : SchElem :=
  (tget d.sch.q q).getD
    (if 0x400000 ≤ q ∧ q < 0x400800 then { parent := some (1, (q - 0x400000) / 8), pos := 7 - q % 8 } else {})
def putSchQ (d : Dev) (q : Nat) (e : SchElem) : Dev :=
  let dflt : SchElem := if 0x400000 ≤ q ∧ q < 0x400800 then { parent := some (1, (q - 0x400000) / 8), pos := 7 - q % 8 } else {}
  { d with sch := { d.sch with q := if e = dflt then tdel d.sch.q q else tput d.sch.q q e } }
def schNode (d : Dev) (n : Nat) : Option SchElem := tget d.sch.node n
def putSchNode (d : Dev) (n : Nat) (e : SchElem) : Dev := { d with sch := { d.sch with node := tput d.sch.node n e } }
def schPort (d : Dev) (p : Nat) : SchElem := tgetD d.sch.port { strict := 2 } p
def putSchPort (d : Dev) (p : Nat) (e : SchElem) : Dev := { d with sch := { d.sch with port := tset d.sch.port { strict := 2 } p e } }

/-- A child of an element: node or queue, its number and its element. -/
structure Child where
  node : Bool
  idx : Nat
  e : SchElem

/-- The children of port `p` (kind 1) or node (kind 2), in position order. -/
def childrenOf (d : Dev) (kind i : Nat) : List Child :=
  let ns : List Child := (d.sch.node.filter fun n => n.2.parent == some (kind, i)).map fun n => { node := true, idx := n.1, e := n.2 }
  let dq : List Child := if kind = 1 ∧ i < 256 then
      ((List.range 8).map fun c => 0x400000 + 8 * i + c).filterMap fun q =>
        if (tget d.sch.q q).isSome then none else some { node := false, idx := q, e := d.schQ q }
    else []
  let qs : List Child := (d.sch.q.filter fun q => q.2.parent == some (kind, i)).map fun q => { node := false, idx := q.1, e := q.2 }
  let ins (l : List Child) (c : Child) : List Child := l.filter (fun x => decide (x.e.pos < c.e.pos)) ++ c :: l.filter fun x => decide (c.e.pos ≤ x.e.pos)
  (ns ++ dq ++ qs).foldl ins []

/-- A position of a parent that a child other than `but` holds. -/
def posTaken (d : Dev) (kind i pos : Nat) (but : Bool × Nat) : Bool :=
  (d.childrenOf kind i).any fun c => c.e.pos == pos && !(c.node == but.1 && c.idx == but.2)

/-- A queue detached (R268, R308): deficit reset, tokens at the burst. -/
def detached (d : Dev) (e : SchElem) : SchElem :=
  { e with parent := none, pos := 0, deficit := 0, fresh := false
           shaper := { e.shaper with bucket := Bucket.full e.shaper.burst d.now } }

/-- A queue taken out of every map (R268): its frames are discarded under Q_STOPPED, counted for the port, and it is detached. -/
def unmapQueue (q : Nat) (d : Dev) : Dev :=
  let d1 := (flushQueue q 80 d).1
  d1.putSchQ q (d1.detached (d1.schQ q))

/-- Q_SET_EGRESS_MAP (R267, R268). -/
def qSetEgressMap (c : Cmd) (d : Dev) : Reply :=
  let p := c.hIdx; let cl := c.f 0 1; let k := c.f 1 1; let base := c.f 4 4
  let span := 2 ^ k
  let clash := (List.range 2048).any fun j => j != p * 8 + cl &&
    (let m := d.mapOf (j / 8) (j % 8)
     decide (base < m.1 + 2 ^ m.2) && decide (m.1 < base + span))
  let bad := decide (7 < cl) || decide (12 < k) || c.dirty 2 2 || c.dirty 8 24 ||
    base % span != 0 || decide (base < 0x400000) || decide (0x500000 < base + span) || clash
  let old := d.mapOf p cl
  let out := (List.range (2 ^ old.2)).map (old.1 + ·) |>.filter fun q => !(decide (base ≤ q) && decide (q < base + span))
  let d1 := out.foldl (fun x q => unmapQueue q x) d
  let dflt := 0x400000 + 8 * p + cl
  let d2 := d1.setQs fun x => { x with map := tset x.map (dflt, 0) (p * 8 + cl) (base, k) }
  let d3 := if base = dflt && k = 0 && !(decide (old.1 ≤ dflt) && decide (dflt < old.1 + 2 ^ old.2)) then
      (if d2.posTaken 1 p (7 - cl) (false, dflt) then d2
       else d2.putSchQ dflt { d2.schQ dflt with parent := some (1, p), pos := 7 - cl })
    else d2
  check d [(c.bad 0x01, .badHandle), (bad, .badArg), ((d.getPort p).obj.st != .stopped, .refusedBusy)] (.done d3 {})

/-- Q_SET_CREDIT (R282, R283, R291). -/
def qSetCredit (c : Cmd) (d : Dev) : Reply :=
  let p := c.hIdx; let w := c.f 0 4; let cap := c.f 4 1; let s := c.f 5 1
  let ws := (List.range 8).map fun i => c.f (8 + 2 * i) 2
  let bad := (w != 0 && (decide (w < 64) || decide ((d.getQuota (egQuota p)).ondCeil < w))) || cap == 0 || decide (8 < cap) ||
    decide (4 < s) || c.dirty 6 2 || ws.any (fun x => x == 0 || decide (4096 < x)) || c.dirty 24 8
  check d [(c.bad 0x01, .badHandle), (bad, .badArg)]
    (.done (d.modCredit p fun x => { x with window := w, cap := cap, strict := s, weights := ws, cur := max x.cur s }) {})

/-- Q_GET_CREDIT_STATUS (Table 8.6, R514). -/
def qGetCreditStatus (c : Cmd) (d : Dev) : Reply :=
  let p := c.hIdx
  let x := d.getCredit p
  let q := d.getQuota (egQuota p)
  let act (k : Nat) : List Fld := [fCnt (d.qs.flow.filter fun f => f.1 / 2048 == p * 8 + k).length]
  check d [(c.bad 0x01, .badHandle)]
    (statusReply c d ([fCnt (d.creditWindow p), fCnt (q.ondUsed - x.reserved), fCnt x.reserved] ++ fArr ((List.range 8).map act) ++
      [fCnt x.grants, fCnt x.flowFull]))

end Dev

/-- PORT_STOP_DONE. -/
def execPortStopDone (p : Fin 256) (s : State) : Out := s.onDev (Dev.portStopDone Dev.flushPort p)
/-- LANES_READY: the port enters RUNNING and its base queues are pinned (R62, R276). -/
def execLanesReady (p : Fin 256) (s : State) : Out := 
  s.onDev fun d => if (d.getPort p).obj.st = .starting then Dev.pinBases p (Dev.lanesReady p d) else d
/-- PIPE_STOP_DONE. -/
def execPipeStopDone (pl : Fin 32) (s : State) : Out := s.onDev (Dev.pipeStopDone Dev.flushPort pl)
/-- QUEUE_AGEING_SWEEP. -/
def execQueueAgeingSweep (s : State) : Out := s.onDev Dev.queueAgeing
/-- ACTIVATION_COMPLETE. -/
def execActivationComplete (qid : Nat) (s : State) : Out := s.onDev (Dev.activationComplete qid)
/-- ACTIVE_IDLE_TIMEOUT. -/
def execActiveIdleTimeout (qid : Nat) (s : State) : Out := s.onDev (Dev.activeIdle qid)
/-- DEST_FLUSH_TIMEOUT. -/
def execDestFlushTimeout (dev : Nat) (s : State) : Out := s.onDev (Dev.destFlush dev)
/-- RESERVATION_RELEASE. -/
def execReservationRelease (dev : Nat) (s : State) : Out := s.onDev (Dev.resvRelease dev)
/-- CREDIT_REQ_REFRESH. -/
def execCreditReqRefresh (voq : Nat) (s : State) : Out := s.onDev (Dev.creditRefresh voq)
/-- GRANT_ISSUE. -/
def execGrantIssue (p : Fin 256) (s : State) : Out := s.onDev (Dev.grantIssue p)
/-- CREDIT_REQ. -/
def execCreditReq (m : CreditMsg) (s : State) : Out := s.onDev (Dev.creditReqAt m.srcDev m.voq m.value m.seq)
/-- CREDIT_GRANT. -/
def execCreditGrant (m : CreditMsg) (s : State) : Out := s.onDev (Dev.creditGrantAt m.voq m.value m.seq)
/-- CREDIT_RETURN. -/
def execCreditReturn (m : CreditMsg) (s : State) : Out := s.onDev (Dev.creditReturnAt m.srcDev m.voq m.value)
/-- QUEUE_START_DONE. -/
def execQueueStartDone (qid : Nat) (s : State) : Out := s.onDev (Dev.queueStartDone qid)
/-- QUEUE_STOP_DONE. -/
def execQueueStopDone (qid : Nat) (s : State) : Out := s.onDev (Dev.queueStopDone qid)
/-- Q_ENABLE, opcode 0x0407. -/
def execQEnable (src : Src) (s : State) : Out := s.onDev (Dev.runCmd 0x0407 src Dev.qEnable)
/-- Q_DISABLE, opcode 0x0408. -/
def execQDisable (src : Src) (s : State) : Out := s.onDev (Dev.runCmd 0x0408 src Dev.qDisable)
/-- Q_GET_STATUS, opcode 0x0409. -/
def execQGetStatus (src : Src) (s : State) : Out := s.onDev (Dev.runCmd 0x0409 src Dev.qGetStatus)
/-- Q_SET_ACTIVE, opcode 0x040A. -/
def execQSetActive (src : Src) (s : State) : Out := s.onDev (Dev.runCmd 0x040A src Dev.qSetActive)
/-- Q_PIN, opcode 0x040B. -/
def execQPin (src : Src) (s : State) : Out := s.onDev (Dev.runCmd 0x040B src Dev.qPin)
/-- Q_SET_EGRESS_MAP, opcode 0x040C. -/
def execQSetEgressMap (src : Src) (s : State) : Out := s.onDev (Dev.runCmd 0x040C src Dev.qSetEgressMap)
/-- Q_SET_CREDIT, opcode 0x040D. -/
def execQSetCredit (src : Src) (s : State) : Out := s.onDev (Dev.runCmd 0x040D src Dev.qSetCredit)
/-- Q_GET_CREDIT_STATUS, opcode 0x040E. -/
def execQGetCreditStatus (src : Src) (s : State) : Out := s.onDev (Dev.runCmd 0x040E src Dev.qGetCreditStatus)

end Sys2Proof.Machine
end

