-- ==== Sys2Proof/Machine/Sched.lean ====
section
/-! DEFINITION. The egress scheduler, shapers, policers' commands, queue observation and accounting intervals (R294-R332). -/

namespace Sys2Proof.Machine
namespace Dev

def setSch (d : Dev) (f : Sch → Sch) : Dev := { d with sch := f d.sch }

/-! ### Elements -/

/-- An element named by kind 0 port, 1 node, 2 queue. -/
def elem (d : Dev) (kind i : Nat) : Option SchElem :=
  match kind with
  | 0 => some (d.schPort i)
  | 1 => d.schNode i
  | _ => some (d.schQ i)
def putElem (d : Dev) (kind i : Nat) (e : SchElem) : Dev :=
  match kind with
  | 0 => d.putSchPort i e
  | 1 => d.putSchNode i e
  | _ => d.putSchQ i e

/-- The level of a node (R295), 0 where it hangs from nothing. -/
def nodeLevel (d : Dev) (n : Nat) : Nat :=
  match d.schNode n with
  | some e => (match e.parent with | some (1, _) => 1 | some (2, _) => 2 | _ => 0)
  | none => 0

/-- The port whose tree a parent belongs to. -/
def treePort (d : Dev) : Nat × Nat → Option Nat
  | (1, p) => some p
  | (_, n) =>
    match d.schNode n with
    | some e => (match e.parent with
      | some (1, p) => some p
      | some (2, m) => (match d.schNode m with | some g => (match g.parent with | some (1, p) => some p | _ => none) | none => none)
      | _ => none)
    | none => none

/-! ### Selection (R298-R302) -/

/-- A shaper is in debt now (R305). -/
def inDebt (d : Dev) (s : Shaper) : Bool := s.on && decide ((s.fresh d.now).bucket.tokens < 0)

/-- The encapsulation entry that a frame names (R174). -/
def encapOf (d : Dev) (f : Flight) : Option (Nat × Encap) := f.encap.bind fun i => (tget d.fwd.tbl.encap i).map fun e => (i, e)

/-- An encapsulation entry lies in the cache (R170, R174). -/
def resident (d : Dev) (i : Nat) (e : Encap) : Bool := (encapLines i e.big).all d.fwd.cache.contains

/-- Bytes of an encapsulation entry in the store (R173). -/
def encapBytes (e : Encap) : Nat := if e.big then 256 else 64

/-- A frame's encapsulation entry is resident, or can be read from one of its copies (R174, R176). -/
def encapReady (d : Dev) (f : Flight) : Bool :=
  match d.encapOf f with
  | none => true
  | some (i, e) => d.resident i e || (match d.readCopies (encapCopies i) (encapBytes e) with | some (some _) => true | _ => false)

/-- The entry of a frame made resident: a line that is missing is read through P3 (R170, R174; log 23). -/
def encapFetch (f : Flight) (d : Dev) : Dev :=
  match d.encapOf f with
  | none => d
  | some (i, e) =>
    let d1 := if d.resident i e then d
      else match d.readCopies (encapCopies i) (encapBytes e) with | some (some a) => d.readP3 a (encapBytes e) | _ => d
    d1.touchLines (encapLines i e.big)

/-- The frames at the heads of the queues of port `p`. -/
def portHeads (d : Dev) (p : Nat) : List Flight :=
  d.qs.q.filterMap fun x => (x.2.chain.head?.bind fun e => tget d.buf.frame e.ptr).bind fun f => if f.fl.outPort = p then some f.fl else none

/-- Entries that queue heads wait for and of which both copies are uncorrectable: reported, for firmware to rebuild (R176). -/
def encapDamage (p : Nat) (d : Dev) : Dev :=
  (d.portHeads p).foldl (fun (x : Dev) f =>
    match x.encapOf f with
    | none => x
    | some (i, e) =>
      if x.fwd.ue.contains (.encap i) || x.resident i e || x.readCopies (encapCopies i) (encapBytes e) != some none then x
      else (x.shadowNeed (.encap i)).raise 0x0901 sevMajor 0 [f8 (encapCopies i).1, fByte (Config.eccCode 8)]) d

/-- A queue is eligible (R299): it holds a frame whose encapsulation entry is resident or can be fetched, and its shaper is not in debt. -/
def queueOk (d : Dev) (c : Child) : Bool :=
  (match (d.getQ c.idx).chain with
  | [] => false
  | e :: _ => match tget d.buf.frame e.ptr with | some f => d.encapReady f.fl | none => true) && !d.inDebt c.e.shaper

/-- A child at depth `n` from the bottom is eligible (R299, R306); a node whose state word is uncorrectable is held ineligible (Table 18.4). -/
def childOk (d : Dev) : Nat → Child → Bool
  | 0, _ => false
  | n + 1, c => if c.node then !d.fwd.ue.contains (.node c.idx) && !d.inDebt c.e.shaper && (d.childrenOf 2 c.idx).any (childOk d n) else d.queueOk c

/-- The children of an element as R300 sees them. -/
def drrOf (d : Dev) (n : Nat) (l : List Child) : List Drr :=
  l.map fun c => { pos := c.e.pos, weight := c.e.weight, deficit := c.e.deficit, fresh := c.e.fresh, ok := d.childOk n c }

/-- The weighted children's deficits and turns after a selection. -/
def putDrr (l : List Child) (w : List Drr) (d : Dev) : Dev :=
  l.foldl (fun (x : Dev) c =>
    match w.find? (·.pos == c.e.pos) with
    | some r => if c.e.deficit = r.deficit && c.e.fresh = r.fresh then x
                else x.putElem (if c.node then 1 else 2) c.idx { c.e with deficit := r.deficit, fresh := r.fresh }
    | none => x) d

/-- One selection at element (kind, i), `n` levels above the queues: the queue chosen and the elements on its path, from the top. -/
def select (kind i : Nat) : Nat → Dev → Option (Nat × List (Nat × Nat)) × Dev
  | 0, d => (none, d)
  | n + 1, d =>
    match d.elem (kind - 1) i with
    | none => (none, d)
    | some e =>
      let cs := d.childrenOf kind i
      let st := cs.filter fun c => decide (c.e.pos < e.strict)
      let wt := cs.filter fun c => decide (e.strict ≤ c.e.pos)
      let k := (wt.findIdx? fun c => decide (e.cur ≤ c.e.pos)).getD 0
      let r := drrSelect 256 (256 * (wt.length + 1)) (d.drrOf n st) (d.drrOf n wt) k
      match r.1 with
      | none => (none, d)
      | some pos =>
        let cur := match wt[r.2.2]? with | some c => c.e.pos | none => e.cur
        let d1 := (putDrr wt r.2.1 d).putElem (kind - 1) i { e with cur := cur }
        match cs.find? (·.e.pos == pos) with
        | none => (none, d)
        | some c =>
          if c.node then
            match select 2 c.idx n d1 with
            | (some (q, path), d2) => (some (q, (1, c.idx) :: path), d2)
            | (none, d2) => (none, d2)
          else (some (c.idx, [(2, c.idx)]), d1)

/-- An element on a frame's path pays (R300, R301, R305): its shaper, and its deficit when it is a weighted child. -/
def pay (len : Int) (d : Dev) (x : Nat × Nat) : Dev :=
  match d.elem x.1 x.2 with
  | none => d
  | some e =>
    let sh := e.shaper.fresh d.now
    let e1 : SchElem := if e.shaper.on then { e with shaper := { sh with bucket := { sh.bucket with
      tokens := sh.bucket.tokens - len * byteTok } } } else e
    let strict := match e.parent with
      | some (1, p) => (d.schPort p).strict
      | some (2, n) => (match d.schNode n with | some g => g.strict | none => 0)
      | _ => 0
    d.putElem x.1 x.2 (if x.1 = 0 || e.pos < strict then e1 else { e1 with deficit := e1.deficit - len })

/-- The transmit path of a port accepts a frame (R298): fewer bytes wait than its lanes' FIFOs of Table 1.4 hold (DEDUCED, log 24). -/
def pathOpen (d : Dev) (p : Nat) : Bool :=
  let w := ((tgetD d.tx [] p).map (·.len)).sum + (((d.getPipe (p / 8)).egress.filter fun f => f.outPort == p).map (·.len)).sum
  decide (w < 4096 * max 1 (d.getPort p).width)

/-! ### Reading a frame's cells (R235, R252, R354, R355) -/

/-- Channel `k` of stack `s` is RUNNING. -/
def chanUp (d : Dev) (s k : Nat) : Bool := (tgetD d.hbm.ch {} (s * 32 + k)).obj.st == .running

/-- A granule of the HBM cell at `a` is poisoned. -/
def cellPoisoned (d : Dev) (a : Nat) : Bool := (List.range 8).any fun k => d.poisoned (a / 32 + k)

/-- A cell can be read: from its pool, from staging while its stripe is open, or rebuilt from the other seven cells where its channel is not
RUNNING or it is poisoned (R233, R252, R352, R355); otherwise the two channels that are not RUNNING, if that is why. -/
def cellRead (d : Dev) (p : Nat) : Bool × Option (Nat × Nat) :=
  if !ptrHbm p then (true, none)
  else
    let s := ptrStripe p
    let st := (s % 8 + 1 + ptrPos p) % 8
    match tget d.buf.stripe s with
    | none => (true, none)
    | some x =>
      let up := d.chanUp st (s % 32)
      if !x.closed || (up && !d.cellPoisoned (hbmCellAddr p)) then (true, none)
      else match (List.range 8).find? fun k => k != st && d.inParity s k && !d.chanUp k (s % 32) with
        | some k => (false, if up then none else some (st * 32 + s % 32, k * 32 + s % 32))
        | none => (x.parity && !(List.range 8).any fun k => k != st && d.inParity s k && d.cellPoisoned (0x400000000 * k + 256 * s), none)

/-- A poisoned cell that was rebuilt is written back whole (R352). -/
def cellRepair (p : Nat) (d : Dev) : Dev :=
  let a := hbmCellAddr p
  if ptrHbm p && d.cellPoisoned a && (tgetD d.buf.stripe {} (ptrStripe p)).closed then putCell a (d.rebuilt a) d else d

/-- The head frame of a queue is read for its dequeue: whether it may go, or the device with the frame discarded (R235, R252, R355). The cells
from a bad pointer on, and those of a frame with a poisoned record, are left to Scarab. -/
def readHead (s q : Nat) (e : QEntry) (d : Dev) : Bool × Dev :=
  match tget d.buf.frame e.ptr with
  | none => (false, d.ptrFault s e.ptr 2)
  | some f =>
    match f.cells.findIdx? fun p => !d.ptrOk p with
    | some i =>
      let d1 := (d.ptrFault s (f.cells.getD i 0) 1).dropSlice s 71 e.len
      (false, if e.shared then d1 else
        ((f.cells.take i).foldl (freeCell s q) (d1.setBuf fun b => { b with frame := tput b.frame e.ptr { f with cells := f.cells.drop i } })).uncharge
          f.quota (f.cells.take i))
    | none =>
      match f.cells.find? fun p => (match d.getRec p with | some r => r.bad || !r.dataBad.isEmpty | none => false) with
      | some p =>
        if (match d.getRec p with | some r => r.bad | none => false) then
          (false, (d.dropSlice s 70 e.len).raise 0x0901 sevMajor 0 [f8 (0x500300000000 + 8 * p), fByte (Config.eccCode 2)])
        else (false, (discardEntry q 70 false d e).raise 0x0901 sevMajor 0 [f8 (0x500000000000 + 256 * p), fByte (Config.eccCode 11)])
      | none => match f.cells.find? fun p => !(d.cellRead p).1 with
        | none => (true, f.cells.foldl (fun x p => cellRepair p x) d)
        | some p =>
          let d1 := discardEntry q 70 false d e
          (false, match (d.cellRead p).2 with | some c => d1.raiseDouble c | none => d1)

/-- EGRESS_SELECTION (R298-R301, R258): the port sends one frame over its bridge group. -/
def egressSelection (p : Nat) (d : Dev) : Dev :=
  let st := (d.getPipe (p / 8)).obj.st
  if (st != .running && st != .stopping) || d.bridgeStalled (p / 8) || !d.pathOpen p || d.inDebt (d.schPort p).shaper then d
  else
    match select 1 p 4 (d.encapDamage p) with
    | (none, _) => d.encapDamage p
    | (some (q, path), d1) =>
      let d2 := d1.ageQueue q
      let x := d2.getQ q
      match x.chain with
      | [] => d2
      | e :: r =>
        let d3 := d2.setQ q (x.withChain r d2.now)
        match readHead (p / 8) q e d3, tget d3.buf.frame e.ptr with
        | (true, d4), some f =>
          let d5 := releaseFrame (p / 8) q e.ptr d4
          let len : Int := e.len + (d5.schPort p).adjust
          let d6 := ((0, p) :: path).foldl (pay len) d5
          ((d6.encapFetch f.fl).sendFlits (p / 8) false f.fl.len).modPipe (p / 8) fun y => { y with egress := y.egress ++ [{ f.fl with outPort := p, place := .stages, verdict := none }] }
        | (_, d4), _ => d4

/-- SHAPER_DEBT_END (R305, R306): the tokens of a shaper have risen to 0. -/
def debtEnd (kind i : Nat) (d : Dev) : Dev :=
  match d.elem kind i with
  | some e => if e.shaper.on && !d.inDebt e.shaper then d.putElem kind i { e with shaper := e.shaper.fresh d.now } else d
  | none => d

/-! ### SCH_SET and SCH_GET (R307, R308, R327) -/

/-- A shaper after SCH_SET: tokens kept, cut to the new burst. -/
def newShaper (d : Dev) (s : Shaper) (on : Bool) (rate burst : Nat) : Shaper :=
  let f := if s.on then s.fresh d.now else { s with bucket := { s.bucket with stamp := d.now } }
  let b := if burst = 0 then 16384 else burst
  { on := on, rate := if on then applied rate else 0, burst := b
    bucket := { f.bucket with tokens := min f.bucket.tokens (b * byteTok) } }

/-- SCH_SET (Table 9.4, R308). -/
def schSet (c : Cmd) (d : Dev) : Reply :=
  let i := c.hIdx
  let fl := c.f 0 1; let st := c.f 1 1; let w := c.f 2 2; let pk := c.f 4 1; let adj := signed 1 (c.f 5 1); let pos := c.f 6 2
  let par := c.f 8 4; let burst := c.f 12 4; let rate := c.f 16 8
  let port := c.hType == 0x01; let node := c.hType == 0x10; let queue := c.hType == 0x0F
  let hBad := if port then c.bad 0x01 else if node then c.bad 0x10 else queueBad c
  let on := bit fl 0; let del := bit fl 1
  let shBad := (on && (rate == 0 || decide (3200000000 < rate))) || (burst != 0 && (decide (burst < 256) || decide (4194304 < burst)))
  let base := decide (4 ≤ fl) || c.dirty 24 8
  let reply (x : Dev) (r : Nat) : Reply := .done x { result := r }
  if port then
    let e := d.schPort i
    let sh := d.newShaper e.shaper on rate burst
    check d [(hBad, .badHandle), (base || del || shBad || decide (4 < st) || w != 0 || pk != 0 || pos != 0 || par != 0 ||
        decide (adj < -64) || decide (63 < adj), .badArg)]
      (reply (d.putSchPort i { e with strict := st, adjust := adj, shaper := sh }) sh.rate)
  else if node && del then
    match d.schNode i with
    | none => .done d { status := .badHandle }
    | some _ => check d [(hBad, .badHandle), (base, .badArg), (!(d.childrenOf 2 i).isEmpty, .refusedBusy)]
        (reply (d.setSch fun x => { x with node := tdel x.node i }) 0)
  else
    let old : Option SchElem := if node then d.schNode i else some (d.schQ i)
    let e : SchElem := old.getD {}
    let me := (node, i)
    let parOk : Bool := match pk with
      | 0 => !node || old.isSome
      | 1 => decide (par < 256) && !d.posTaken 1 par pos me
      | 2 => (d.schNode par).isSome && decide (pos < 16) && !d.posTaken 2 par pos me &&
          (if node then d.nodeLevel par == 1 && par != i else true)
      | 3 => queue
      | _ => false
    let new : Option (Nat × Nat) := match pk with | 0 => e.parent | 1 => some (1, par) | 2 => some (2, par) | _ => none
    let tree : Bool := if queue then
        (match new with | some x => (match d.ownerOf i with | some o => d.treePort x == some o.1 | none => false) | none => true)
      else
        (d.childrenOf 2 i).isEmpty || (match new, e.parent with
          | some x, some y => x.1 == y.1 && d.treePort x == d.treePort y
          | _, _ => false)
    let fields := base || shBad || adj != 0 || w == 0 || decide (4096 < w) || (if queue then st != 0 || del || isVoq i else decide (4 < st))
    let moved := pk != 0 && (e.parent != new || e.pos != pos)
    let sh := d.newShaper e.shaper on rate burst
    let e1 : SchElem := { e with strict := st, weight := w, shaper := sh }
    let e2 : SchElem := if pk = 3 then { d.detached e1 with unattached := false } else if moved then
        { e1 with parent := new, pos := pos, deficit := 0, fresh := false, unattached := false } else e1
    check d [(hBad, .badHandle), (fields || !parOk || !tree, .badArg),
        (node && old.isNone && decide (1048576 ≤ d.sch.node.length), .noSpace)]
      (reply (d.putElem (if node then 1 else 2) i e2) sh.rate)

/-- SCH_GET (Table 9.3, R514). -/
def schGet (c : Cmd) (d : Dev) : Reply :=
  let i := c.hIdx
  let kind := match c.hType with | 0x01 => 0 | 0x10 => 1 | _ => 2
  let hBad := if kind = 0 then c.bad 0x01 else if kind = 1 then c.bad 0x10 || (d.schNode i).isNone else queueBad c || isVoq i
  let e := (d.elem kind i).getD {}
  let level := match kind with | 0 => 0 | 1 => d.nodeLevel i | _ => 3
  let t := (e.shaper.fresh d.now).bucket.tokens / byteTok
  let kids := if kind = 2 then 0 else (d.childrenOf (kind + 1) i).length
  check d [(hBad, .badHandle)]
    (statusReply c d [fByte (match e.parent with | some x => x.1 | none => 0), fIdx (match e.parent with | some x => x.2 | none => 0),
      fIdx e.pos, fByte level, fCnt e.strict, f8 e.weight, f8i e.deficit, f8 e.shaper.rate, f8 e.shaper.burst, f8i t, fCnt kids])

/-! ### Policer commands (R309-R313, R328) -/

/-- POL_SET_PROFILE. -/
def polSetProfile (c : Cmd) (d : Dev) : Reply :=
  let i := c.hIdx; let cir := c.f 0 8; let cbs := c.f 8 4; let fl := c.f 12 1
  let bad := i == 0 || cir == 0 || decide (3200000000 < cir) || decide (cbs < 64) || decide (4194304 < cbs) || decide (1 < fl) ||
    c.dirty 13 19
  let f : PolProfile := { cir := applied cir, cbs := cbs, add20 := fl == 1 }
  let cut (p : Nat × Policer) : Nat × Policer :=
    if p.2.profile = i then
      match tget d.sch.prof i with
      | some o =>
        let b := p.2.bucket.refill o.cir o.cbs d.now
        (p.1, { p.2 with bucket := { b with tokens := min b.tokens (cbs * byteTok) } })
      | none => p
    else p
  check d [(c.bad 0x12, .badHandle), (bad, .badArg)]
    (.done (d.setSch fun x => { x with prof := tput x.prof i f, pol := x.pol.map cut }) { result := f.cir })

/-- POL_SET. -/
def polSet (c : Cmd) (d : Dev) : Reply :=
  let i := c.hIdx; let pr := c.f 0 4; let base := c.f 4 4
  let bad := decide (65535 < pr) || (pr != 0 && (tget d.sch.prof pr).isNone) || (base != 0xFFFFFFFF && decide (67108862 < base)) ||
    c.dirty 8 24
  let cbs := match tget d.sch.prof pr with | some f => f.cbs | none => 0
  check d [(c.bad 0x11, .badHandle), (bad, .badArg)]
    (.done (d.setSch fun x => { x with pol := tset x.pol {} i { profile := pr, bucket := Bucket.full cbs d.now, base := base } }) {})

/-- POL_GET (R514). -/
def polGet (c : Cmd) (d : Dev) : Reply :=
  let p := tgetD d.sch.pol {} c.hIdx
  let t := match tget d.sch.prof p.profile with
    | some f => (p.bucket.refill f.cir f.cbs d.now).tokens / byteTok
    | none => 0
  check d [(c.bad 0x11, .badHandle)] (statusReply c d [fIdx p.profile, f8i t, fIdx p.base])

/-! ### Observation (R314-R320, R329) -/

/-- Edges of a histogram profile: depth, delay in ns; profile 0 until it is set, and the others (log 5) (R316). -/
def histEdges (d : Dev) (i : Nat) : List Nat × List Nat :=
  tgetD d.sch.histProf ((List.range 15).map fun k => 256 * 2 ^ k, (List.range 15).map fun k => 1000 * 2 ^ k) i

/-- The bin of a value (R316). -/
def binOf (edges : List Nat) (v : Nat) : Nat := (edges.filter fun e => decide (e ≤ v)).length

/-- One sample put into counts: 16 depth bins, then 16 delay bins (R315, R316). -/
def sampleInto (d : Dev) (q : Queue) (l : List Nat) : List Nat :=
  let e := d.histEdges q.cfg.hist
  let depth := (q.chain.map (·.len)).sum
  let a := binOf e.1 depth; let b := 16 + binOf e.2 (d.headDelay q)
  (l.set a (l.getD a 0 + 1)).set b (l.getD b 0 + 1)

def noBins : List Nat := List.replicate 32 0

/-- One threshold against a sample (R318): whether it raises, and its state after. -/
def threshold (thr v : Nat) (high : Bool) : Bool × Bool :=
  if thr = 0 then (false, false)
  else if thr < v then (!high, true)
  else (false, high && decide (7 * thr < 8 * v))

/-- The thresholds of queue `k` against a sample. -/
def thresholds (k : Nat) (d : Dev) : Dev :=
  let q := (d.getQ k).cfg
  let depth := (q.chain.map (·.len)).sum; let delay := d.headDelay q
  let a := threshold q.depthThr depth q.depthHigh
  let b := threshold (64 * q.delayThr) delay q.delayHigh
  let d1 := d.modQ k fun x => { x with depthHigh := a.2, delayHigh := b.2 }
  let d2 := if a.1 then d1.raise 0x040A sevMinor (queueHandle k) [fByte 0, f8 depth, f8 q.depthThr] else d1
  if b.1 then d2.raise 0x040A sevMinor (queueHandle k) [fByte 1, f8 delay, f8 (64 * q.delayThr)] else d2

/-- Hot queues. -/
def hotQueues (d : Dev) : List Nat := (d.qs.q.filter fun x => Queue.isHot x.2).map (·.1)

/-- WATCHED_SAMPLE (R314): every 10 µs. -/
def watchedSample (d : Dev) : Dev :=
  if d.now < d.sch.watchAt + usT 10 then d
  else ((d.hotQueues).filter fun k => (d.getQ k).cfg.watched).foldl (fun (x : Dev) k =>
      thresholds k (x.setSch fun y => { y with sums := tset y.sums noBins k (x.sampleInto (x.getQ k) (tgetD y.sums noBins k)) }))
    (d.setSch fun y => { y with watchAt := d.now })

/-- HISTOGRAM_ADD (R316, R317): every 1 ms, and request line 16. -/
def histogramAdd (d : Dev) : Dev :=
  if d.now < d.sch.addAt + msT 1 then d
  else
    (d.sch.sums.foldl (fun (x : Dev) s => countBins s.1 s.2 x) (d.setSch fun y => { y with addAt := d.now, sums := [] })).dmaRequest 16

/-- HOT_QUEUE_SWEEP (R314, R317): every 10 ms, and request line 17. -/
def hotSweep (d : Dev) : Dev :=
  if d.now < d.sch.sweepAt + msT 10 then d
  else (d.hotQueues.foldl (fun (x : Dev) k =>
      thresholds k (countBins k (x.sampleInto (x.getQ k) noBins) x))
    (d.setSch fun y => { y with sweepAt := d.now })).dmaRequest 17

/-- OBS_SET_QUEUE (R329, Table 9.5). -/
def obsSetQueue (c : Cmd) (d : Dev) : Reply :=
  let q := c.hIdx; let n := c.f 0 4; let h := c.f 4 1; let fl := c.f 5 1; let ad := c.f 16 8
  let inside (k : Nat) : Bool := decide (q ≤ k) && decide (k < q + n)
  let watched := (d.qs.q.filter fun x => x.2.watched && !inside x.1).length + (if bit fl 0 then n else 0)
  let bad := rangeBad q n || decide (15 < h) || decide (1 < fl) || c.dirty 6 2 || c.dirty 24 8 ||
    (ad != 0 && (decide (ad < 64) || decide (60000000000 < ad) || decide (0x400000 < q + n)))
  check d [(queueBad c, .badHandle), (bad, .badArg), (decide (65536 < watched), .noSpace)]
    (.done ((List.range n).foldl (fun x k => cfgWrite (q + k) (fun y => { y with
      hist := h, watched := bit fl 0, depthThr := c.f 8 4, delayThr := c.f 12 4, admitNs := ad }) x) d) {})

/-- Numbers that rise strictly. -/
def rising : List Nat → Bool
  | a :: b :: r => decide (a < b) && rising (b :: r)
  | _ => true

/-- OBS_SET_HIST_PROFILE (Table 9.3). -/
def obsSetHistProfile (pl : HostRead) (c : Cmd) (d : Dev) : Reply :=
  let b := pl.getD []
  let dep := (List.range 15).map fun k => field b (4 * k) 4
  let del := (List.range 15).map fun k => field b (60 + 4 * k) 4
  check d [(c.bad 0x14, .badHandle), (pl.isNone || decide (b.length < 120) || !rising dep || !rising del, .badArg)]
    (.done (d.setSch fun x => { x with histProf := tput x.histProf c.hIdx (dep, del) }) {})

/-- OBS_GET_HIST (Table 9.3): a 128-byte record for each queue. -/
def obsGetHist (c : Cmd) (d : Dev) : Reply :=
  let q := c.hIdx; let n := c.f 0 4
  check d [(queueBad c, .badHandle), (rangeBad q n || decide (1 < c.f 4 1) || c.dirty 5 27, .badArg)]
    (.done (if bit (c.f 4 1) 0 then
        d.setSch fun x => { x with hist := x.hist.filter fun h => decide (h.1 < q) || decide (q + n ≤ h.1) } else d)
      { record := some ((List.range n).flatMap fun k => (tgetD d.sch.hist noBins (q + k)).flatMap (le 4)) })

/-! ### Accounting (R321-R325, R330) -/

/-- UTC seconds and system time in ms. -/
def utcSec (d : Dev) : Int := d.sysTicks / 65536000000000 - d.utcOffset

/-- The boundary after a UTC second for an interval of `m` minutes, aligned to hours (R321). -/
def nextBoundary (s : Int) (m : Nat) : Int := (s / (60 * m) + 1) * (60 * m)

/-- The bank an interval counted in, as pairs; and the store with that bank cleared (R322). -/
def bankPairs (d : Dev) (a : Acct) (b : Bool) : List Pair :=
  let k := if b then a.base + a.n else a.base
  (List.range a.n).map fun i => tgetD d.cnt {} (k + i)
def clearBank (d : Dev) (a : Acct) (b : Bool) : Dev :=
  let k := if b then a.base + a.n else a.base
  { d with cnt := d.cnt.filter fun p => decide (p.1 < k) || decide (k + a.n ≤ p.1) }

def setHandle (s : Nat) : Nat := handle 0x13 s
def putAcct (d : Dev) (s : Nat) (a : Acct) : Dev := d.setSch fun x => { x with acct := tput x.acct s a }

/-- ACCT_EXPORT (R322): the oldest closed interval goes to the ring, its bank is cleared, line 18 is raised. -/
def acctExport (s : Nat) (d : Dev) : Dev :=
  match tget d.sch.acct s with
  | none => d
  | some a =>
    match a.closed with
    | [] => d
    | (b, r) :: rest =>
      let r' : AcctRec := match b with | some k => { r with pairs := d.bankPairs a k } | none => r
      let d1 := match b with | some k => d.clearBank a k | none => d
      ((d1.putAcct s { a with closed := rest, ring := (r' :: a.ring).take 4, wrote := a.wrote + 1 }).dmaRequest 18).raise 0x040B sevInfo (setHandle s)
        [fCnt r.seq, fByte r.flags]

/-- All closed intervals of a set exported: a bank is used again only after its export. -/
def acctExportAll (s : Nat) : Nat → Dev → Dev
  | 0, d => d
  | n + 1, d => acctExportAll s n (acctExport s d)

/-- The open interval of a set closes with flags added, and the next opens at a UTC second with its own flags (R321, R324). -/
def acctClose (s : Nat) (more : Nat) (start : Int) (flags : Nat) (d0 : Dev) : Dev :=
  let d := acctExportAll s 4 d0
  match tget d.sch.acct s with
  | none => d
  | some a =>
    let r : AcctRec := { flags := a.flags ||| more, seq := a.seq, start := a.start, durMs := (d.now - a.opened) / msT 1, skipped := 0, pairs := [] }
    d.putAcct s { a with closed := a.closed ++ [(some a.bank, r)], seq := (a.seq + 1) % 2 ^ 32, bank := !a.bank, start := start
                         opened := d.now, flags := flags, ends := nextBoundary start a.mins }

/-- ACCT_BOUNDARY (R321). -/
def acctBoundary (s : Nat) (d : Dev) : Dev :=
  match tget d.sch.acct s with
  | some a => if a.ends ≤ d.utcSec then acctClose s 0 a.ends 0 d else d
  | none => d

/-- Export ring bytes of a set of n pairs (R322, R336). -/
def ringBytes (n : Nat) : Nat := 4 * (64 + 16 * n)

/-- The lowest free place for the export ring of a set of `n` pairs in the 4 GiB of the area (Table 10.1; log 130). -/
def ringFree (d : Dev) (n : Nat) : Option Nat := areaFree (d.sch.acct.map fun x => (x.2.ringAt, ringBytes x.2.n)) (ringBytes n)

/-- ACCT_SET (R330). -/
def acctSet (c : Cmd) (d : Dev) : Reply :=
  let s := c.hIdx; let m := c.f 0 1; let fl := c.f 1 1; let base := c.f 4 4; let n := c.f 8 4
  let cur := tget d.sch.acct s
  let lists := [1, 2, 3, 4, 5, 6, 10, 12, 15, 20, 30, 60].contains m
  let resv := decide (1 < fl) || c.dirty 2 2 || c.dirty 12 20
  if bit fl 0 then
    check d [(c.bad 0x13, .badHandle), (resv || cur.isNone, .badArg)]
      (let d1 := acctExportAll s 8 (acctClose s 8 d.utcSec 0 d)
       .done (d1.setSch fun x => { x with acct := tdel x.acct s }) {})
  else
    let bad := resv || !lists || n == 0 || decide (16777216 < n) || (match cur with | some a => a.base != base || a.n != n | none => false)
    let clash := d.sch.acct.any fun x => x.1 != s && decide (base < x.2.base + 2 * x.2.n) && decide (x.2.base < base + 2 * n)
    let full := decide (67108864 < base + 2 * n) || clash ||
      (cur.isNone && (ringFree d n).isNone)
    check d [(c.bad 0x13, .badHandle), (bad, .badArg), (full, .noSpace)]
      (.done (match cur with
        | some a => d.putAcct s { a with mins := m }
        | none => d.putAcct s { base := base, n := n, ringAt := (ringFree d n).getD 0, mins := m, start := d.utcSec, opened := d.now, flags := 8, ends := nextBoundary d.utcSec m }) {})

/-- A record of Table 9.2 with its pairs (R325). -/
def acctBytes (s : Nat) (n : Nat) (r : AcctRec) : Bytes :=
  le 2 s ++ le 1 r.flags ++ le 1 0 ++ le 4 r.seq ++ leInt 8 r.start ++ le 4 (r.durMs / 1000) ++ le 4 r.skipped ++ le 4 n ++
  le 4 (r.durMs % 1000) ++ List.replicate 32 0 ++ r.pairs.flatMap fun p => le 8 p.pkts ++ le 8 p.bytes

/-- ACCT_GET (Table 9.3): the records from `from_seq` on, newest first. -/
def acctGet (c : Cmd) (d : Dev) : Reply :=
  let s := c.hIdx; let q := c.f 0 4
  match tget d.sch.acct s with
  | none => .done d { status := if c.bad 0x13 then .badHandle else .badHandle }
  | some a =>
    let rs := if q = 0 then a.ring else a.ring.filter fun r => decide (r.seq ≤ q)
    check d [(c.bad 0x13, .badHandle), (c.dirty 4 28, .badArg)]
      (.done d { record := some (rs.flatMap (acctBytes s a.n)) })

end Dev

/-- EGRESS_SELECTION. -/
def execEgressSelection (p : Fin 256) (s : State) : Out := s.onDev (Dev.egressSelection p)
/-- SHAPER_DEBT_END. -/
def execShaperDebtEnd (kind : Fin 3) (idx : Nat) (s : State) : Out := s.onDev (Dev.debtEnd kind idx)
/-- WATCHED_SAMPLE. -/
def execWatchedSample (s : State) : Out := s.onDev Dev.watchedSample
/-- HOT_QUEUE_SWEEP. -/
def execHotQueueSweep (s : State) : Out := s.onDev Dev.hotSweep
/-- HISTOGRAM_ADD. -/
def execHistogramAdd (s : State) : Out := s.onDev Dev.histogramAdd
/-- ACCT_BOUNDARY. -/
def execAcctBoundary (set : Fin 64) (s : State) : Out := s.onDev (Dev.acctBoundary set)
/-- ACCT_EXPORT. -/
def execAcctExport (set : Fin 64) (s : State) : Out := s.onDev (Dev.acctExport set)
/-- SCH_SET, opcode 0x040F. -/
def execSchSet (src : Src) (s : State) : Out := s.onDev (Dev.runCmd 0x040F src Dev.schSet)
/-- SCH_GET, opcode 0x0410. -/
def execSchGet (src : Src) (s : State) : Out := s.onDev (Dev.runCmd 0x0410 src Dev.schGet)
/-- POL_SET_PROFILE, opcode 0x0411. -/
def execPolSetProfile (src : Src) (s : State) : Out := s.onDev (Dev.runCmd 0x0411 src Dev.polSetProfile)
/-- POL_SET, opcode 0x0412. -/
def execPolSet (src : Src) (s : State) : Out := s.onDev (Dev.runCmd 0x0412 src Dev.polSet)
/-- POL_GET, opcode 0x0413. -/
def execPolGet (src : Src) (s : State) : Out := s.onDev (Dev.runCmd 0x0413 src Dev.polGet)
/-- OBS_SET_QUEUE, opcode 0x0414. -/
def execObsSetQueue (src : Src) (s : State) : Out := s.onDev (Dev.runCmd 0x0414 src Dev.obsSetQueue)
/-- OBS_SET_HIST_PROFILE, opcode 0x0415. -/
def execObsSetHistProfile (src : Src) (pl : HostRead) (s : State) : Out := s.onDev (Dev.runCmd 0x0415 src (Dev.obsSetHistProfile pl))
/-- OBS_GET_HIST, opcode 0x0416. -/
def execObsGetHist (src : Src) (s : State) : Out := s.onDev (Dev.runCmd 0x0416 src Dev.obsGetHist)
/-- ACCT_SET, opcode 0x0417. -/
def execAcctSet (src : Src) (s : State) : Out := s.onDev (Dev.runCmd 0x0417 src Dev.acctSet)
/-- ACCT_GET, opcode 0x0418. -/
def execAcctGet (src : Src) (s : State) : Out := s.onDev (Dev.runCmd 0x0418 src Dev.acctGet)

end Sys2Proof.Machine
end

