-- ==== Sys2Proof/Machine/Cells.lean ====
section
/-! DEFINITION. Cells: fabric cells and streams, link-level retry, the cell switch, resequencing and reassembly (R366-R402, R406). -/

namespace Sys2Proof.Machine

/-! ### Cell headers and frame headers (Tables 12.2, 12.3) -/

/-- One bit into the CRC-16 of Table 12.2. -/
def crc16Step : Nat → BitVec 16 → BitVec 16
  | 0, c => c
  | k + 1, c => crc16Step k (if c.getLsbD 15 then (c <<< 1) ^^^ 0x1021#16 else c <<< 1)

/-- The CRC-16 of Table 12.2: each byte most significant bit first, initial 0xFFFF, no final XOR. -/
def crc16 (bs : Bytes) : BitVec 16 := 
  bs.foldl (fun (c : BitVec 16) (b : BitVec 8) => crc16Step 8 (c ^^^ ((b.setWidth 16 : BitVec 16) <<< (8 : Nat)))) 0xFFFF#16

/-- Bytes 0 to 13 of a cell's header; `payLen` is the payload in 8-byte units. -/
def cellHeader (c : FabCell) : Bytes :=
  be 1 (c.kind.val * 64 + c.cls % 16 * 4 + 2 * b2n c.parity + b2n c.abort) ++
  be 1 (128 * b2n c.firstHdr.isSome + 64 * b2n c.ackValid + 32 * b2n c.resent + (c.payLen - 1) % 32) ++
  be 2 ((c.firstHdr.getD 0) % 32 * 2048 + c.srcDev % 2048) ++ be 2 (c.dstDev % 2048) ++ be 1 c.dstSlice.val ++
  be 1 (c.prio % 4 * 32 + c.srcSlice.val) ++ be 2 c.fabSeq ++ be 2 c.linkSeq ++ be 2 c.ackSeq

/-- A cell with its check sequence. -/
def sealCell (c : FabCell) : FabCell := { c with hcs := crc16 (cellHeader c) }

/-- A cell passes its hcs (R392). -/
def hcsOk (c : FabCell) : Bool := c.hcs == crc16 (cellHeader c)

/-- The rate code of a frame header (Table 12.3). -/
def rateCode (r : Nat) : Nat := ([100, 200, 400, 800, 1600, 3200].findIdx? (· == r)).getD 0
def rateOf (k : Nat) : Nat := [100, 200, 400, 800, 1600, 3200].getD k 0

/-- Bytes padded with zeros to a multiple of 8. -/
def pad8 (b : Bytes) : Bytes := b ++ padTo 8 b.length

/-- A frame header (Table 12.3). -/
def frameHeader (len port cls : Nat) (mirror ts : Bool) (rate gport encap : Nat) : Bytes :=
  let b := be 2 len ++ be 1 port ++ be 1 (cls % 8 * 32 + 16 * b2n mirror + 8 * b2n ts + rateCode rate) ++ be 4 gport ++ be 4 encap
  b ++ be 4 (crc32c 0xFFFFFFFF b)

/-- A frame of which only the bytes are known. -/
def bareFrame (raw : Bytes) : RxFrame :=
  { len := raw.length, raw := raw, fcsOk := true, macsec := { isProtected := false, chan := 0, an := 0, pn := 0, icvOk := true }
    labelSpace := 0, vlanAdmit := true, vrf := 0, svc := 0, routed := false, flood := 0, profile := 0, aclKey := 0, flowKey := 0, pol1 := none
    cntPort := none, cntRoute := none }

/-- The switch output of a fabric link (R366). -/
def linkOut (l : Nat) : Nat := 32 + 2 * (l / 32) + l % 2

/-- The links of a fabric output. -/
def outLinks (j : Nat) : List Nat := (List.range 16).map fun k => 32 * ((j - 32) / 2) + 2 * k + j % 2

/-- A difference of 16-bit sequence numbers. -/
def seqDiff (a b : Nat) : Nat := (a + 65536 - b % 65536) % 65536

namespace Dev

def setFab (d : Dev) (f : Fab → Fab) : Dev := { d with fab := f d.fab }
def setCsw (d : Dev) (f : Csw → Csw) : Dev := { d with csw := f d.csw }
def getLink (d : Dev) (l : Nat) : FLink := tgetD d.fab.link {} l
def putLink (d : Dev) (l : Nat) (x : FLink) : Dev := d.setFab fun f => { f with link := tset f.link {} l x }
def modLink (d : Dev) (l : Nat) (f : FLink → FLink) : Dev := d.putLink l (f (d.getLink l))

/-! ### Spray (R404, R406, R407) -/

/-- Row `dst` of an ephemeris (R406, R407). -/
def rowOf (t : EpochTab) (dst : Nat) : List Nat :=
  (tget t.rows dst).getD ((List.range 512).map fun i => let u := (i + dst) % 512; 32 * (u % 16) + u / 16)

/-- The policy excludes a link's plane (R404). -/
def planeOut (d : Dev) (x : FLink) : Bool :=
  match x.peer with
  | some (false, _, plane, _) => bit d.fab.cur.planes plane
  | _ => false

/-- Link `l` is in the spray mask of device `dst` (R404). -/
def inMask (d : Dev) (dst l : Nat) : Bool :=
  let x := d.getLink l
  x.obj.st == .running && x.reach.contains dst && !d.planeOut x

/-- The next link of slice `s` toward `dst` among those `ok` allows, and the pointer moved past it (R406). -/
def spray (d : Dev) (s dst : Nat) (ok : Nat → Bool) : Option (Nat × Dev) :=
  let row := rowOf d.fab.cur dst
  let n := row.length
  let p := tgetD d.fab.ptr (s * n / 32) (s * 2048 + dst)
  match (List.range n).find? fun k => let l := row.getD ((p + k) % n) 0; d.inMask dst l && ok l with
  | none => none
  | some k => some (row.getD ((p + k) % n) 0, d.setFab fun f => { f with ptr := tput f.ptr (s * 2048 + dst) ((p + k + 1) % n) })

/-! ### Links: sending and retry (R393-R395) -/

/-- A link can take a cell: it is RUNNING, its retry buffer has room, and its peer's credit for the kind is not used up; credit comes back
with the acknowledgement (log 25). -/
def linkRoom (d : Dev) (l : Nat) (fc : Bool) : Bool :=
  let x := d.getLink l
  x.obj.st == .running && decide (x.retry.length < 512) &&
  decide ((x.retry.filter fun r => (r.cell.kind == 2) == fc).length < if fc then 4 else 64)

/-- What departure does to a cell that carries TIME_SYNC or TIME_DELAY_REQ: the origin time is written, or the time of sending noted (R452). -/
def stampCell (c : FabCell) (d : Dev) : FabCell × Dev :=
  let t := d.sysTicks
  if c.kind != 2 || c.resent then (c, d)
  else if field c.payload 0 1 = 0x70 then ({ c with payload := patch c.payload 8 (beTime t) }, d)
  else if field c.payload 0 1 = 0x71 then (c, d.setTime fun y => { y with rReq := y.rReq.map fun q => (q.1, t) })
  else (c, d)

/-- A cell leaves on link `l` with its link sequence number, the acknowledgement and its check sequence; a data or FC cell stays in the
retry buffer. -/
def linkSend (d0 : Dev) (l : Nat) (c0 : FabCell) : Dev :=
  let s := stampCell c0 d0
  let c := s.1
  let d := s.2
  let x := d.getLink l
  let kept := c.kind == 1 || c.kind == 2
  let c1 := sealCell { c with linkSeq := x.txSeq, ackValid := true, ackSeq := seqDiff x.rxSeq 1 }
  (d.putLink l { x with
    txSeq := if kept then (x.txSeq + 1) % 65536 else x.txSeq, ackAt := d.now
    dataRun := if c.kind = 1 then min 7 (x.dataRun + 1) else if c.kind = 2 then 0 else x.dataRun
    retry := if kept then x.retry ++ [{ cell := c1, sentAt := d.now, replays := 0 }] else x.retry }).emit (.cell l c1)

/-- An idle cell. -/
def idleCell (d : Dev) : FabCell :=
  { kind := 0, cls := 0, parity := bit d.fab.cur.epoch 0, abort := false, firstHdr := none, ackValid := true, resent := false, payLen := 1
    srcDev := d.devId, dstDev := 0, dstSlice := 0, srcSlice := 0, prio := 0, fabSeq := 0, linkSeq := 0, ackSeq := 0, hcs := 0, fecOk := true
    payload := List.replicate 8 0 }

/-- ACK_IDLE_TIMEOUT (R394). -/
def ackIdle (l : Nat) (d : Dev) : Dev :=
  let x := d.getLink l
  if x.obj.st == .running && decide (x.ackAt + nsT 200 ≤ d.now) then d.linkSend l d.idleCell else d

/-- Cells of a link resent on other links that reach their destination (R395); those none of which takes stay. -/
def resendCells (l : Nat) (cs : List RetryCell) (d : Dev) : Dev :=
  cs.foldl (fun (x : Dev) r =>
    match x.spray r.cell.srcSlice.val r.cell.dstDev (fun k => k != l && x.linkRoom k (r.cell.kind == 2)) with
    | some (k, y) => (y.linkSend k { r.cell with resent := true }).modLink l fun z => { z with resends := z.resends + 1 }
    | none => x.modLink l fun z => { z with retry := z.retry ++ [r] }) d

/-- RETRY_TIMEOUT (R395): cells not acknowledged within 8 µs. -/
def retryTimeout (l : Nat) (d : Dev) : Dev :=
  let x := d.getLink l
  let late (r : RetryCell) : Bool := decide (r.sentAt + usT 8 ≤ d.now)
  resendCells l (x.retry.filter late) (d.putLink l { x with retry := x.retry.filter fun r => !late r })

/-! ### Streams at the source (R397) -/

/-- The number of a cell of the stream to (dev, slice, class). -/
def streamKey (dev slice cls : Nat) : Nat := (dev * 32 + slice) * 16 + cls

/-- Cells staged at an input (R369). -/
def stagedAt (d : Dev) (i : Nat) : Nat := ((d.csw.stage.filter fun q => q.1 / 64 == i).map fun q => q.2.length).sum

/-- A cell put at the end of a staging queue with its internal number (R369, R376). -/
def stageCell (d : Dev) (i j cls : Nat) (load : SwLoad) (bad : Bool := false) : Dev :=
  let k := (i * 64 + j) * 16 + cls
  let n := tgetD d.csw.seq 0 k
  d.setCsw fun w => { w with
    seq := if i < 32 then tset w.seq 0 k ((n + 1) % 65536) else w.seq
    stage := tput w.stage (i * 64 + j) (tgetD w.stage [] (i * 64 + j) ++ [{ input := i, cls := cls, seq := n, load := load, bad := bad }]) }

/-- One cell of the stream to (dev, slice, class) with the bytes given, sprayed (R397, R406); nothing while no link reaches the device. -/
def streamCell (s dev slice cls : Nat) (bytes : Bytes) (first : Option Nat) (d : Dev) : Option Dev :=
  match d.spray s dev fun _ => true with
  | none => none
  | some (l, d1) =>
    let k := streamKey dev slice cls
    let n := tgetD d.fab.seq 0 k
    let c : FabCell := { d.idleCell with
      kind := 1, cls := cls, firstHdr := first, payLen := (bytes.length + 7) / 8, dstDev := dev, dstSlice := Fin.ofNat 32 slice
      srcSlice := Fin.ofNat 32 s, prio := (d.fab.cur.cmap.getD cls 0) / 8 % 4, fabSeq := n, payload := bytes }
    some ((d1.setFab fun f => { f with seq := tset f.seq 0 k ((n + 1) % 65536) }).stageCell s (linkOut l) cls (.fab l c))

/-- Full cells cut off the waiting bytes of a stream. -/
def cutCells (s : Nat) (x : Partial) : Nat → Dev → Dev
  | 0, d => d
  | n + 1, d =>
    let k := s * 2 ^ 20 + streamKey x.dev x.slice x.cls
    if x.bytes.length < 256 then
      d.setFab fun f => { f with part := if x.bytes.isEmpty then tdel f.part k else tput f.part k x }
    else
      match streamCell s x.dev x.slice x.cls (x.bytes.take 256) x.first d with
      | some d1 => cutCells s { x with bytes := x.bytes.drop 256, first := none } n d1
      | none => d.setFab fun f => { f with part := tput f.part k x }

/-- The bytes of a frame appended to its stream (R397). -/
def streamFrame (s dev slice cls : Nat) (b : Bytes) (d : Dev) : Dev :=
  let k := s * 2 ^ 20 + streamKey dev slice cls
  let x := (tget d.fab.part k).getD { bytes := [], first := none, dev := dev, slice := slice, cls := cls }
  let y : Partial := { x with bytes := x.bytes ++ b, first := match x.first with | some h => some h | none => some (x.bytes.length / 8) }
  cutCells s y (y.bytes.length / 256 + 1) d

/-- A further frame of a stream is ready at its slice (R397). -/
def streamReady (d : Dev) (s : Nat) (x : Partial) : Bool :=
  d.qs.q.any fun q => isVoq q.1 && voqDev q.1 == x.dev && voqPort q.1 / 8 == x.slice && voqCls q.1 == x.cls &&
    (q.2.obj.st == .running || q.2.obj.st == .stopping) && (match q.2.chain with
      | e :: _ => decide (cellsOf e.len ≤ q.2.balance) && (match tget d.buf.frame e.ptr with | some f => d.sliceFor q.1 f.fl == s | none => false)
      | [] => false)

/-- Partly filled cells whose slice has no further frame ready leave (R397). -/
def flushParts (d : Dev) : Dev :=
  d.fab.part.foldl (fun (x : Dev) p =>
    let s := p.1 / 2 ^ 20
    if x.streamReady s p.2 then x
    else match streamCell s p.2.dev p.2.slice p.2.cls p.2.bytes p.2.first x with
      | some y => y.setFab fun f => { f with part := tdel f.part p.1 }
      | none => x) d

/-! ### The FC streams at the source (R376, R393, R408, R467) -/

/-- The messages of a queue that go into one FC cell with `room` bytes left, each padded to a multiple of 8 bytes (log 129): a message of
Table 13.3 goes alone, and the rest of a longer one stays at the front. `head` says that the cell is empty yet. -/
def packFc : Nat → Bool → Nat → List FcMsg → Bytes × List FcMsg
  | 0, _, _, q => ([], q)
  | _ + 1, _, _, [] => ([], [])
  | n + 1, head, room, m :: r =>
    let b := pad8 m.bytes
    if 0x70 ≤ m.kind then if head then (b, r) else ([], m :: r)
    else if room = 0 then ([], m :: r)
    else if room < b.length then (b.take room, { m with bytes := b.drop room, begun := true } :: r)
    else let x := packFc n false (room - b.length) r
         (b ++ x.1, x.2)

/-- A RELAY_CHUNK may leave: a hop uses at most 2 Gbit/s (R417). -/
def chunkDue (d : Dev) (m : FcMsg) : Bool := m.kind != 0x60 || m.begun || decide (d.fab.relayPace ≤ d.now)

/-- The next FC cell to device `dev` put into the staging of input 0 with its stream number, where that holds no FC cell for the same output
(log 129). -/
def fcCell (dev : Nat) (d : Dev) : Dev :=
  let q := tgetD d.fab.fcq [] dev
  let go := q.filter d.chunkDue
  match go with
  | [] => d
  | m :: _ =>
    let x := packFc go.length true 256 go
    let free (l : Nat) : Bool := !(tgetD d.csw.stage [] (linkOut l)).any fun c => c.cls == 8
    let own := match m.link with | some l => if d.inMask dev l then some l else none | none => none
    match (match own with | some l => if free l then some (l, d) else none | none => d.spray 0 dev free) with
    | none => d
    | some (l, d1) =>
      let k := streamKey dev 0 8
      let n := tgetD d.fab.seq 0 k
      let first : Option Nat := if m.begun then (if (pad8 m.bytes).length < x.1.length then some ((pad8 m.bytes).length / 8) else none) else some 0
      let c : FabCell := { d.idleCell with
        kind := 2, cls := 8, firstHdr := first, payLen := x.1.length / 8, dstDev := dev, prio := 3, fabSeq := n, payload := x.1 }
      let sent := (go.filter fun y => y.kind == 0x60 && !y.begun && !x.2.contains y).map (·.bytes.length)
      (d1.setFab fun f => { f with
        seq := tset f.seq 0 k ((n + 1) % 65536)
        relayPace := if sent.isEmpty then f.relayPace else max f.relayPace d.now + nsT (4 * sent.sum)
        fcq := tset f.fcq [] dev (x.2 ++ q.filter fun y => !d.chunkDue y) }).stageCell 0 (linkOut l) 8 (.fab l c)

/-- FC cells formed for every device that has messages waiting. -/
def flushFc (d : Dev) : Dev := d.fab.fcq.foldl (fun (x : Dev) p => fcCell p.1 x) d

/-! ### VOQ_DEQUEUE (R277, R369, R370, R378) -/

/-- A frame is a PTP event message (R429, R436). -/
def ptpEvent (d : Dev) (f : Flight) : Bool :=
  match (d.parse f.len f.bytes).ptp with | some (o, _) => decide (net f.bytes o 1 % 16 < 4) | none => false

/-- The bytes of a frame as its stream carries it. -/
def framedBytes (d : Dev) (v : Nat) (f : Flight) : Bytes :=
  let event := d.ptpEvent f
  let mirror := match f.src with | .inject i _ => decide (100 ≤ i) | _ => false
  let hdr := frameHeader f.len (voqPort v) (voqCls v) mirror event (portRate (d.getPort (flightPort f)))
    (d.devId * 256 + flightPort f) (f.encap.getD 0)
  let ns := f.arrived / 65536
  let ts := if event then be 6 (ns / 1000000000).toNat ++ be 4 (ns % 1000000000).toNat ++ be 2 (f.arrived % 65536).toNat ++ be 4 0 else []
  pad8 (hdr ++ ts ++ slice f.bytes 0 f.len)

/-- The cells of a frame on the local path put into staging. -/
def stageLocal (s : Nat) (f : Flight) (v n : Nat) (mark abort : Bool) (d : Dev) : Dev :=
  let p := voqPort v; let c := voqCls v
  (List.range n).foldl (fun (x : Dev) k =>
    x.stageCell s (p / 8) c (.piece (if k = 0 then some { f with outPort := p } else none) p c n k mark (abort && k + 1 == n))) d

/-- The head frame of VOQ `v` dequeued against its credit; `mark` is the cut-through mark, `abort` the mark of its last cell where it
has failed (R277, R369, R381, R383). -/
def voqSend (v : Nat) (mark : Bool) (d0 : Dev) (abort : Bool := false) : Dev :=
  let d := d0.ageQueue v
  let q := d.getQ v
  if !isVoq v || !Queue.isHot q || (q.obj.st != .running && q.obj.st != .stopping) || !d.voqReachable v then voqDemand v d
  else
    match q.chain with
    | [] => voqDemand v d
    | e :: r =>
      match tget d.buf.frame e.ptr with
      | none => voqDemand v ((d.setQ v (q.withChain r d.now)).ptrFault 0 e.ptr 2)
      | some st =>
        let n := cellsOf e.len
        let s := d.sliceFor v st.fl
        if q.balance < n || 1024 < d.stagedAt s + n + 2 then voqDemand v d
        else
          let d1 := d.setQ v { q.withChain r d.now with balance := q.balance - n }
          match readHead s v e d1 with
          | (false, d2) => voqDemand v (d2.modQ v fun y => { y with balance := y.balance + n })
          | (true, d2) =>
            let d3 := if voqDev v = d2.devId then stageLocal s st.fl v n mark abort d2
                      else streamFrame s (voqDev v) (voqPort v / 8) (voqCls v) (d2.framedBytes v st.fl) d2
            (voqDemand v (releaseFrame s v e.ptr d3)).strandedCheck

/-- The length a frame declares at handoff: its outermost IPv4 total length or IPv6 payload length with the bytes before that header, at
least the shortest frame (R381). -/
def declaredLen (d : Dev) (f : Flight) : Option Nat :=
  ((d.parse f.len f.bytes).layers.head?.bind (·.ip)).map fun h => max 64 (h.off + h.total + (if h.v6 then 40 else 0) + 4)

/-- The VOQ into which a frame streams while it arrives, when every condition of R381 holds before its admission. -/
def cutThrough (d : Dev) (f : Flight) : Option Nat :=
  match f.dec, d.declaredLen f with
  | .unicast g, some n =>
    let v := voqOf g f.cls
    let q := d.getQ v
    let p := voqPort v
    if voqDev v == d.devId && bit (tgetD d.csw.cut 0 p) f.cls && f.mirror.isNone &&
        decide (portRate (d.getPort p) ≤ portRate (d.getPort (flightPort f))) && Queue.isHot q && q.obj.st == .running && q.chain.isEmpty &&
        q.parked.isEmpty && decide (cellsOf n ≤ q.balance) && d.ondFits (quotaKey 0 f) (cellsOf n) then some v
    else none
  | _, _ => none

/-- VOQ_ADMIT (R243, R381, R383): the next frame of slice `s`; one that streams and whose length is not the declared one is counted under
PARSE_ERROR and streams as declared, its last cell with an abort mark. -/
def voqArrive (s : Nat) (d0 : Dev) : Dev :=
  match (d0.getSlice s).inbox with
  | [] => d0
  | f :: r =>
    let d := d0.quietExit
    match d.cutThrough f with
    | none => voqAdmitAll s d
    | some v =>
      let n := (d.declaredLen f).getD f.len
      let bad := n != f.len
      let d1 := voqAdmit s (if bad then (d.modSlice s fun x => { x with inbox := { f with len := n } :: r }).dropPipe s 8 f.len else d)
      match (d1.getQ v).chain with
      | [e] => if ptrHbm e.ptr then d1.demandAll else voqSend v true (d1.setCsw fun w => { w with ctIn := w.ctIn + 1 }) bad
      | _ => d1.demandAll

/-! ### Reassembly (R284, R379, R382, R383, R401) -/

def getAsm (d : Dev) (s : Nat) : List Asm := tgetD d.csw.asm [] s
def putAsm (d : Dev) (s : Nat) (l : List Asm) : Dev := d.setCsw fun w => { w with asm := tset w.asm [] s l }

/-- The egress queue of a frame (R266). -/
def egressQueue (d : Dev) (port cls : Nat) (encap : Option Nat) : Nat :=
  let m := d.mapOf port cls
  m.1 + (encap.getD 0) % 2 ^ m.2

/-- Cells of a frame move from its flow's outstanding count and the reservation into the frame's usage (R284); `none` where the cells are
beyond the outstanding count of a released source. -/
def takeCredit (d : Dev) (src port cls n : Nat) : Option Dev :=
  let k := flowKey port cls src
  let f := (tget d.qs.flow k).getD { demand := 0, outstanding := 0, seq := 0 }
  if f.outstanding < n && d.qs.released.contains src then none
  else
    let m := min n f.outstanding
    let m2 := min m (d.getCredit port).reserved
    let d1 := if f.outstanding = 0 then d else (d.putFlow k { f with outstanding := f.outstanding - m }).flowTouch k
    some ((d1.modCredit port fun c => { c with reserved := c.reserved - m2 }).chargeOnd (egQuota port) (n - m2))

/-- The first cell, or the header, of a frame is in order at slice `s`: its cells are taken and its reassembly begins. -/
def startFrame (s dev srcSlice cls : Nat) (fl : Flight) (eCls : Nat) (mark : Bool) (rate : Nat) (d : Dev) : Dev :=
  let n := cellsOf fl.len
  let q := d.egressQueue fl.outPort eCls fl.encap
  let src := if dev = 2048 then d.devId else dev
  let a : Asm := { dev := dev, srcSlice := srcSlice, cls := cls, fl := { fl with cls := eCls }, q := q, cells := [], n := n, got := 0
                   mark := mark, rate := rate, firstAt := d.now }
  match if (d.takeOnd n).any (fun c => decide (1048576 ≤ c)) then none else d.takeCredit src fl.outPort cls n with
  | none => ((d.dropSlice s 84 fl.len).modQ q fun y => { y with dropped := y.dropped + 1 }).putAsm s (d.getAsm s ++ [{ a with failed := true }])
  | some d1 =>
    let cells := d1.takeOnd n
    (d1.store { fl with cls := eCls } cells q 1 (egQuota fl.outPort)).putAsm s (d1.getAsm s ++ [{ a with cells := cells }])

/-- The frame of a stream that is being reassembled. -/
def openAsm (l : List Asm) (dev srcSlice cls : Nat) : Option Asm :=
  l.find? fun a => a.dev == dev && a.srcSlice == srcSlice && a.cls == cls && !a.whole && !(a.joined && a.failed && a.dev != 2048)

/-- `f` done to that frame. -/
def modAsm (s dev srcSlice cls : Nat) (f : Asm → Asm) (d : Dev) : Dev :=
  match openAsm (d.getAsm s) dev srcSlice cls with
  | none => d
  | some a => d.putAsm s ((d.getAsm s).map fun x => if x.fl.fid = a.fl.fid then f x else x)

/-- A frame in reassembly may join its queue (R379, R382). -/
def mayStart (d : Dev) (a : Asm) : Bool :=
  a.whole || (bit (tgetD d.csw.cut 0 a.fl.outPort) a.cls && (a.mark || decide (portRate (d.getPort a.fl.outPort) ≤ a.rate)) &&
    decide (a.firstAt + nsT 256 ≤ d.now))

/-- A queue without a parent holds its first frame (R297). -/
def noteUnattached (s q : Nat) (d : Dev) : Dev :=
  let e := d.schQ q
  if e.parent.isNone && !e.unattached then
    (d.putSchQ q { e with unattached := true }).raiseCounted 0x0409 sevMinor s (sliceHandle s) 0 [fCnt 0]
  else d

/-- A frame joins its egress queue, or is discarded because the queue is not RUNNING (R288, R379). -/
def joinFrame (s : Nat) (a : Asm) (d : Dev) : Dev :=
  let e : QEntry := { ptr := a.cells.headD 0, shared := false, cls := a.fl.cls, len := a.fl.len, quota := egQuota a.fl.outPort
                      arrival := d.arrival64 }
  let d1 := if a.whole then d else d.setCsw fun w => { w with ctOut := w.ctOut + 1 }
  if (d1.getQ a.q).obj.st != .running then discardEntry a.q 80 true d1 e
  else noteUnattached s a.q (handToQueue a.q e d1)

/-- The frames of slice `s` in order: each that may starts, unless an earlier one of its queue has not joined; failed ones go. `held` are the
queues of earlier frames that wait. -/
def joinFrames (s : Nat) (held : List Nat) : List Asm → Dev → List Asm × Dev
  | [], d => ([], d)
  | a :: r, d =>
    if a.joined then
      let x := joinFrames s held r d
      (if a.whole then x.1 else a :: x.1, x.2)
    else if a.failed then
      if a.whole then
        joinFrames s held r (match a.cells with | p :: _ => releaseFrame s a.q p d | [] => d)
      else
        let x := joinFrames s held r d
        (a :: x.1, x.2)
    else if !held.contains a.q && d.mayStart a then
      let x := joinFrames s held r (joinFrame s a d)
      (if a.whole then x.1 else { a with joined := true } :: x.1, x.2)
    else
      let x := joinFrames s (a.q :: held) r d
      (a :: x.1, x.2)

def tryJoin (s : Nat) (d : Dev) : Dev :=
  let r := joinFrames s [] (d.getAsm s) d
  r.2.putAsm s r.1

/-- The bytes of a frame known at its end put into it, wherever it is (R401); behind egress stage 1 they are rewritten as its header was. -/
def fillFrame (fid : Nat) (raw : Bytes) (d : Dev) : Dev :=
  let g (f : Flight) : Flight := { f with frame := bareFrame raw, bytes := raw, pkt := d.parse raw.length raw }
  let at' (done : Flight → Bool) (f : Flight) : Flight := if f.fid = fid then (if done f then rewrite (g f) d else g f) else f
  { d with
    buf := { d.buf with frame := d.buf.frame.map fun p => (p.1, { p.2 with fl := at' (fun _ => false) p.2.fl }) }
    pipe := d.pipe.map fun p => (p.1, { p.2 with egress := p.2.egress.map (at' fun f => f.place != .stages) })
    tx := d.tx.map fun p => (p.1, p.2.map (at' fun _ => true)) }

/-- A frame of a stream fails (R383): one that has not joined is discarded whole, a started one ends with an inverted FCS. -/
def failAsm (s dev srcSlice cls : Nat) (d : Dev) : Dev := modAsm s dev srcSlice cls (fun a => { a with failed := true }) d

/-- A cell of the local path in order at its egress slice (R378-R383). -/
def takePiece (s input : Nat) (c : SwCell) (f : Option Flight) (port cls n : Nat) (mark abort : Bool) (d : Dev) : Dev :=
  let d1 := match f with
    | some g => startFrame s 2048 input cls g cls mark (portRate (d.getPort (flightPort g))) d
    | none => d
  let d2 := if c.bad then
      (failAsm s 2048 input cls d1).dropSlice s 70 (match openAsm (d1.getAsm s) 2048 input cls with | some a => a.fl.len | none => 0)
    else if abort then failAsm s 2048 input cls d1 else d1
  let _ := port
  tryJoin s (modAsm s 2048 input cls (fun a => { a with got := a.got + 1, whole := decide (n ≤ a.got + 1) }) d2)

/-! ### Fabric reassembly (R399-R401) -/

def ctxKey (s dev srcSlice cls : Nat) : Nat := ((s * 2048 + dev) * 32 + srcSlice) * 16 + cls
def putCtx (d : Dev) (k : Nat) (x : FabCtx) : Dev := d.setFab fun f => { f with ctx := tset f.ctx {} k x }

/-- A frame broken by a loss (R400, R401). -/
def seqLoss (dev cls : Nat) (d : Dev) : Dev :=
  (d.setFab fun f => { f with seqLoss := f.seqLoss + 1 }).raiseCounted 0x0607 sevMajor 0 0 8 [fIdx dev, fByte cls, fCnt 0]

/-- The frame of a context in reassembly given up: its cells go, and it is counted once. -/
def breakFrame (s dev srcSlice cls : Nat) (d : Dev) : Dev :=
  let had := (openAsm (d.getAsm s) dev srcSlice cls).isSome
  let d1 := modAsm s dev srcSlice cls (fun a => { a with failed := true, whole := !a.joined }) d
  if had then seqLoss dev cls d1 else d1

/-- Total bytes of the frame whose header begins `b`. -/
def framedLen (b : Bytes) : Nat :=
  let len := unBe (slice b 0 2) % 16384
  16 + (if bit (unBe (slice b 3 1)) 3 then 16 else 0) + (len + 7) / 8 * 8

/-- Frames taken from a context's bytes (R401). -/
def takeFrames (s dev srcSlice cls : Nat) (cmap : List Nat) : Nat → Bytes → Dev → Dev
  | 0, b, d => d.putCtx (ctxKey s dev srcSlice cls) { sync := true, buf := b }
  | n + 1, b, d =>
    if b.length < 16 then d.putCtx (ctxKey s dev srcSlice cls) { sync := true, buf := b }
    else if crc32c 0xFFFFFFFF (b.take 12) != unBe (slice b 12 4) then
      seqLoss dev cls (d.putCtx (ctxKey s dev srcSlice cls) { sync := false, buf := [] })
    else
      let info := unBe (slice b 3 1)
      let len := unBe (slice b 0 2) % 16384
      let total := framedLen b
      let ts := bit info 3
      let cls0 := info / 32
      let src := unBe (slice b 4 4) % 2 ^ 19
      let arrived : Int := if ts then (unBe (slice b 16 6) * 1000000000 + unBe (slice b 22 4)) * 65536 + unBe (slice b 26 2) else d.sysTicks
      let raw := slice b (if ts then 32 else 16) len
      let d1 := if (openAsm (d.getAsm s) dev srcSlice cls).isSome then d
        else
          let fl : Flight := { fid := d.fids, src := .remote src, frame := bareFrame raw, bytes := raw, pkt := d.parse len raw, len := len, rxLen := len
                               arrived := arrived, view := d.fwd.view, cls := cls0, vrf := 0, built := true
                               encap := some (unBe (slice b 8 4) % 2 ^ 20), outPort := unBe (slice b 2 1) }
          startFrame s dev srcSlice cls fl (cmap.getD cls0 0 % 8) false (rateOf (info % 8)) { d with fids := d.fids + 1 }
      if b.length < total then
        (modAsm s dev srcSlice cls (fun a => { a with got := b.length }) d1).putCtx (ctxKey s dev srcSlice cls) { sync := true, buf := b }
      else
        let d2 := match openAsm (d1.getAsm s) dev srcSlice cls with
          | some a => fillFrame a.fl.fid raw d1
          | none => d1
        takeFrames s dev srcSlice cls cmap n (b.drop total) (modAsm s dev srcSlice cls (fun a => { a with got := total, whole := true }) d2)

/-- A released data cell at its reassembly context: `first_hdr` must agree with where the frame in hand ends (R401). -/
def ctxFeed (s : Nat) (cmap : List Nat) (c : FabCell) (d : Dev) : Dev :=
  let dev := c.srcDev; let ss := c.srcSlice.val; let cls := c.cls
  let x := tgetD d.fab.ctx {} (ctxKey s dev ss cls)
  let pay := slice c.payload 0 (8 * c.payLen)
  let left := if x.buf.isEmpty then 0 else if x.buf.length < 16 then 0 else framedLen x.buf - x.buf.length
  let agrees : Bool := match c.firstHdr with
    | some h => x.buf.length < 16 && !x.buf.isEmpty || h * 8 == left
    | none => !x.buf.isEmpty && (x.buf.length < 16 || decide (pay.length ≤ left))
  let fuel := (x.buf.length + pay.length) / 64 + 2
  if c.abort then tryJoin s (breakFrame s dev ss cls (d.putCtx (ctxKey s dev ss cls) { sync := false, buf := [] }))
  else if x.sync && agrees then tryJoin s (takeFrames s dev ss cls cmap fuel (x.buf ++ pay) d)
  else
    let d1 := if x.sync then breakFrame s dev ss cls d else d
    match c.firstHdr with
    | some h => tryJoin s (takeFrames s dev ss cls cmap fuel (pay.drop (8 * h)) d1)
    | none => tryJoin s (d1.putCtx (ctxKey s dev ss cls) { sync := false, buf := [] })

/-- The class map under which a cell was sent: that of the epoch its parity names (R401, R411). -/
def cmapFor (d : Dev) (parity : Bool) : List Nat :=
  if bit d.fab.cur.epoch 0 == parity then d.fab.cur.cmap
  else match d.fab.old, d.fab.prep with
    | some o, _ => o.1.cmap
    | none, some p => p.tab.cmap
    | none, none => d.fab.cur.cmap

/-- A stream's next cells released in order (R399). -/
def reseqRun (s : Nat) (k : Nat) : Nat → Dev → Dev
  | 0, d => d
  | n + 1, d =>
    let x := tgetD d.fab.reseq {} k
    match x.held.find? fun h => h.2.fabSeq == x.next with
    | none => d
    | some h =>
      let d1 := d.setFab fun f => { f with reseq := tset f.reseq {} k { next := (x.next + 1) % 65536, held := x.held.filter fun y => y.2.fabSeq != x.next } }
      reseqRun s k n (if h.2.kind == 1 then ctxFeed s (d1.cmapFor h.2.parity) h.2 d1 else d1)

/-- A fabric cell at the resequencer of slice `s` (R399). -/
def reseqTake (s : Nat) (c : FabCell) (d : Dev) : Dev :=
  let k := (s * 2048 + c.srcDev) * 16 + c.cls
  let x := tgetD d.fab.reseq {} k
  if 32768 ≤ seqDiff c.fabSeq x.next || x.held.any (fun h => h.2.fabSeq == c.fabSeq) then d.setFab fun f => { f with dupes := f.dupes + 1 }
  else
    let d1 := d.setFab fun f => { f with reseq := tset f.reseq {} k { x with held := x.held ++ [(d.now, c)] } }
    reseqRun s k (x.held.length + 1) d1

/-- The hold time in ticks (R400). -/
def holdTime (d : Dev) : Nat :=
  if d.fab.h != 0 then usT d.fab.h
  else
    let m := (d.fab.link.filter fun l => l.2.obj.st == .running).foldl (fun a l => max a (l.2.delay.getD 0)) 0
    (usT 9 + 2 * m + usT 1 - 1) / usT 1 * usT 1

/-- RESEQ_HOLD_EXPIRY (R400): the missing numbers up to the next held one are skipped. -/
def reseqSkip (s dev cls : Nat) (d : Dev) : Dev :=
  let k := (s * 2048 + dev) * 16 + cls
  let x := tgetD d.fab.reseq {} k
  if x.held.any fun h => decide (h.1 + d.holdTime ≤ d.now) then
    let next := x.held.foldl (fun (m : Nat) h => if seqDiff h.2.fabSeq x.next < seqDiff m x.next then h.2.fabSeq else m) ((x.next + 65535) % 65536)
    reseqRun s k x.held.length (d.setFab fun f => { f with reseq := tset f.reseq {} k { x with next := next } })
  else d

/-- LOST_CREDIT_RELEASE (R400): the space of a lost cell, once the flow has been still for 100 ms. -/
def lostCredit (p dev cls : Nat) (d : Dev) : Dev :=
  let k := flowKey p cls dev
  match tget d.qs.flow k with
  | none => d
  | some f =>
    if f.demand = 0 && f.outstanding != 0 && tgetD d.fab.flowAt 0 k + msT 100 ≤ d.now then
      (d.putFlow k { f with outstanding := 0 }).unreserve p f.outstanding
    else d

/-! ### The switch (R367-R377) -/

/-- A cell taken by an egress output: to its reassembly, or to the fabric resequencer. -/
def egressTake (s : Nat) (c : SwCell) (d : Dev) : Dev :=
  match c.load with
  | .piece f port cls n _ mark abort => takePiece s c.input c f port cls n mark abort d
  | .fab _ x => reseqTake s x d

/-- A cell for a fabric output waits for a link. -/
def fabricTake (j : Nat) (c : SwCell) (d : Dev) : Dev :=
  match c.load with
  | .fab l x => d.setCsw fun w => { w with out := tput w.out j { tgetD w.out {} j with wait := (tgetD w.out {} j).wait ++ [(l, x)] } }
  | _ => d

def outTake (j : Nat) (c : SwCell) (d : Dev) : Dev := if j < 32 then egressTake j c d else fabricTake j c d

/-- The cells an output's resequencer releases next (R376). -/
def outRun (j : Nat) : Nat → Dev → Dev
  | 0, d => d
  | n + 1, d =>
    let o := tgetD d.csw.out {} j
    match o.held.find? fun c => c.seq == tgetD o.expect 0 (c.input * 16 + c.cls) with
    | none => d
    | some c =>
      let d1 := d.setCsw fun w => { w with out := tset w.out {} j { o with
        expect := tset o.expect 0 (c.input * 16 + c.cls) ((c.seq + 1) % 65536)
        held := o.held.filter fun x => !(x.input == c.input && x.cls == c.cls && x.seq == c.seq) } }
      outRun j n (outTake j c d1)

/-- An output accepts a cell: one from a slice passes the output's resequencer (R376). -/
def outAccept (j : Nat) (c : SwCell) (d0 : Dev) : Dev :=
  let d := if c.bad then d0.setCsw fun w => { w with badCells := w.badCells + 1 } else d0
  if 32 ≤ c.input then outTake j c d
  else
    let o := tgetD d.csw.out {} j
    let d1 := d.setCsw fun w => { w with out := tset w.out {} j { o with held := o.held ++ [c] } }
    let d2 := outRun j (o.held.length + 1) d1
    d2.setCsw fun w => { w with peak := max w.peak (tgetD w.out {} j).held.length }

/-- The cells an output has for its links sent: on the link named, or on another link of the output that reaches the destination (R374). FC
goes before data; while data waits, a link takes an FC cell only after 7 data cells (R393). -/
def sendWaiting (j : Nat) (d : Dev) : Dev :=
  let o := tgetD d.csw.out {} j
  let fc := o.wait.filter fun p => p.2.kind == 2
  let data := o.wait.filter fun p => p.2.kind != 2
  (fc ++ data).foldl (fun (x : Dev) p =>
    let turn (l : Nat) : Bool := p.2.kind != 2 || data.isEmpty || decide (7 ≤ (x.getLink l).dataRun)
    let ls := p.1 :: outLinks j
    match ls.find? fun l => x.linkRoom l (p.2.kind == 2) && x.inMask p.2.dstDev l && turn l with
    | some l => x.linkSend l p.2
    | none => x.setCsw fun w => { w with out := tput w.out j { tgetD w.out {} j with wait := (tgetD w.out {} j).wait ++ [p] } })
    (d.setCsw fun w => { w with out := tset w.out {} j { o with wait := [] } })

/-- A fabric output is held: none of its links can take a cell (R374). -/
def outHeld (d : Dev) (j : Nat) : Bool := decide (32 ≤ j) && !(outLinks j).any fun l => d.linkRoom l false

/-- EV_CSW_OUTPUT_HELD (R388). -/
def raiseHeld (j : Nat) (since : Nat) (released : Bool) (d : Dev) : Dev :=
  d.raise 0x0600 sevMinor 0 [fIdx j, f8 ((d.now - since) / 65536), fFlag released]

/-- The hold of an output brought up to date (R374, R388). -/
def noteHeld (j : Nat) (d : Dev) : Dev :=
  let o := tgetD d.csw.out {} j
  if d.outHeld j then
    if o.since.isSome then d else d.setCsw fun w => { w with out := tput w.out j { o with since := some d.now } }
  else match o.since with
    | none => d
    | some t =>
      let d1 := d.setCsw fun w => { w with out := tset w.out {} j { o with since := none, raised := false } }
      if o.raised then raiseHeld j t true d1 else d1

/-- The next input after `a` in round-robin order with a data cell for output `j` (R373). -/
def nextInput (d : Dev) (a j : Nat) : Option Nat :=
  ((List.range 64).map fun k => (a + 1 + k) % 64).find? fun i => (tgetD d.csw.stage [] (i * 64 + j)).any fun c => c.cls != 8

def getXp (d : Dev) (m j : Nat) : Xp := tgetD d.csw.xp {} (m * 64 + j)
def putXp (d : Dev) (m j : Nat) (x : Xp) : Dev := d.setCsw fun w => { w with xp := tset w.xp {} (m * 64 + j) x }

/-- Output `j` meets intermediate `m` (R372-R374). -/
def meetOut (m j : Nat) (d0 : Dev) : Dev :=
  let d := if 32 ≤ j then noteHeld j (sendWaiting j d0) else d0
  if d.outHeld j then d
  else
    let x := d.getXp m j
    let fcWaits := (tgetD d.csw.out {} j).wait.any fun p => p.2.kind == 2
    match (if fcWaits then none else x.fc), x.data with
    | some c, _ => outAccept j c (d.putXp m j { x with fc := none })
    | none, c :: r =>
      let h := match d.nextInput x.last j with | some i => [(i, d.csw.phases)] | none => []
      outAccept j c (d.putXp m j { x with data := r, holds := x.holds ++ h })
    | none, [] => d

/-- Crosspoint (m, j) accepts the head cell of input `i` (R372, R373). -/
def accepts (d : Dev) (m j i : Nat) (c : SwCell) : Bool :=
  let x := d.getXp m j
  if c.cls = 8 then x.fc.isNone
  else decide (x.data.length + x.holds.length < 4) || (decide (x.data.length < 4) && x.holds.any (·.1 == i))

/-- The output that input `i` serves at intermediate `m` (R371): FC first, then cut-through, then round robin. -/
def pickOut (d : Dev) (m i : Nat) : Option (Nat × SwCell) :=
  let heads : List (Nat × SwCell) := (List.range 64).filterMap fun j => match tgetD d.csw.stage [] (i * 64 + j) with
    | c :: _ => if d.accepts m j i c then some (j, c) else none
    | [] => none
  let last := tgetD d.csw.rr 63 (i * 64 + m)
  match heads.find? (·.2.cls == 8) with
  | some p => some p
  | none =>
    match heads.find? fun p => (match p.2.load with | .piece _ _ _ _ _ mark _ => mark | _ => false) with
    | some p => some p
    | none => match heads.find? fun p => decide (last < p.1) with | some p => some p | none => heads.head?

/-- Input `i` meets its intermediate (R371, R373). -/
def meetIn (i m : Nat) (d : Dev) : Dev :=
  match d.pickOut m i with
  | none => d
  | some (j, c) =>
    let x := d.getXp m j
    let free := decide (x.data.length + x.holds.length < 4)
    let y : Xp := if c.cls = 8 then { x with fc := some c }
      else { x with data := x.data ++ [c], last := i, holds := if free && !x.holds.any (·.1 == i) then x.holds else x.holds.eraseP (·.1 == i) }
    (d.putXp m j y).setCsw fun w => { w with
      stage := tset w.stage [] (i * 64 + j) ((tgetD w.stage [] (i * 64 + j)).drop 1), rr := tset w.rr 63 (i * 64 + m) j }

/-- SWITCH_PHASE (R367, R371-R374): both stages move, and the counter advances. -/
def switchPhase (d0 : Dev) : Dev :=
  let d := d0.flushParts.flushFc
  let t := d.csw.phases
  let d1 := (List.range 64).foldl (fun (x : Dev) m => meetOut m ((m + t) % 64) x) d
  let d2 := (List.range 64).foldl (fun (x : Dev) i => meetIn i ((i + t) % 64) x) d1
  d2.setCsw fun w => { w with phases := t + 1 }

/-- XPOINT_HOLD_EXPIRY (R373): a place held for a cycle passes to the next input. -/
def xpExpire (m j : Nat) (d : Dev) : Dev :=
  let x := d.getXp m j
  let go (h : Nat × Nat) : Option (Nat × Nat) :=
    if h.2 + 64 ≤ d.csw.phases then (d.nextInput h.1 j).map fun i => (i, d.csw.phases) else some h
  d.putXp m j { x with holds := x.holds.filterMap go }

/-- OUTPUT_HELD_TIMEOUT (R374, R388). -/
def outputHeld (j : Nat) (d0 : Dev) : Dev :=
  let d := noteHeld j d0
  let o := tgetD d.csw.out {} j
  match o.since with
  | some t =>
    if t + usT 10 ≤ d.now && !o.raised then
      raiseHeld j t false (d.setCsw fun w => { w with out := tput w.out j { o with raised := true } })
    else d
  | none => d

/-- EGRESS_START_TIMEOUT (R382): 256 ns have passed for a frame of slice `s`. -/
def egressStart (s fid : Nat) (d : Dev) : Dev :=
  if (d.getAsm s).any fun a => a.fl.fid == fid && decide (a.firstAt + nsT 256 ≤ d.now) then tryJoin s d else d

/-- FRAME_TRANSMIT with what R382 and R383 say of a started frame that is not whole, or has failed. -/
def transmit (p : Nat) (underrun : Bool) (d : Dev) : Dev :=
  match tgetD d.tx [] p with
  | [] => d
  | f :: r =>
    match (d.getAsm (p / 8)).find? fun a => a.fl.fid == f.fid && a.joined && (a.failed || !a.whole) with
    | none => frameTransmit p underrun d
    | some a =>
      let d1 : Dev := { d with tx := tset d.tx [] p r }
      let d2 := (d1.setCsw fun w => { w with ctAbort := w.ctAbort + 1 }).emit (.lineFrame p f.len (sealFcs true (slice f.bytes 0 f.len)) true)
      let d3 := if a.failed || a.dev = 2048 then d2 else d2.dropPort p 38 f.len
      d3.putAsm (p / 8) (((d3.getAsm (p / 8)).filter fun x => !(x.fl.fid == f.fid && x.failed && x.dev != 2048)).map fun (x : Asm) =>
        if x.fl.fid = f.fid then { x with starved := true } else x)

/-! ### Fabric cells from a link (R392-R395, R413) -/

/-- A RETRY link-control message that names the number expected; once for a gap (R394). -/
def askRetry (l : Nat) (d : Dev) : Dev :=
  let x := d.getLink l
  if x.gap then d else (d.putLink l { x with gap := true }).emit (.linkMsg l 1 [x.rxSeq])

/-- A data or FC cell accepted from link `l` goes to the staging of its input. -/
def fabricIn (l : Nat) (c : FabCell) (d : Dev) : Dev :=
  d.stageCell (linkOut l) (if c.kind = 2 then 0 else c.dstSlice.val) (if c.kind = 2 then 8 else c.cls % 8) (.fab l c)

/-- The acknowledgement a cell carries (R394). -/
def takeAck (l : Nat) (c : FabCell) (d : Dev) : Dev :=
  if c.ackValid then
    d.modLink l fun x => { x with retry := x.retry.filter fun r => decide (32768 ≤ seqDiff c.ackSeq r.cell.linkSeq) }
  else d

end Dev

end Sys2Proof.Machine
end

