-- ==== Sys2Proof/Machine/Fabric.lean ====
section
/-! DEFINITION. The fabric: link states, discovery, reachability, the meridian, epochs, quarantine, fault reports, and the commands of
Tables 11.3 and 12.8 (R385-R388, R390-R421). -/

namespace Sys2Proof.Machine
namespace Dev

def linkHandle (l : Nat) : Nat := handle 0x16 l

/-! ### Fault reports (R415, R416) -/

/-- An observation reaches the meridian's intake of 4,096 (R416): stored in its subject's window, after the event counted only; a relay skip is noted with the relay (R602). -/
def obsTake (m : ObservationMsg) (d0 : Dev) : Dev :=
  let d := if m.kind = 3 then d0.setFab fun f => { f with relay := f.relay.map fun (r : Relay) => if r.intake.isSome && !r.skipped.contains m.subj then { r with skipped := r.skipped ++ [m.subj] } else r } else d0
  let same (w : ObsWin) : Bool := w.subjKind == m.subjKind && w.subj == m.subj && w.kind == m.kind && w.epoch == m.epoch
  match d.fab.obs.find? same with
  | some w =>
    if w.closed then d.setFab fun f => { f with obs := f.obs.map fun (x : ObsWin) => if same x then { x with later := x.later + 1 } else x }
    else if 4096 ≤ d.fab.obsN then d.setFab fun f => { f with obsLost := f.obsLost + 1 }
    else d.setFab fun f => { f with
      obsN := f.obsN + 1
      obs := f.obs.map fun (x : ObsWin) => if same x then
        { x with observers := if x.observers.contains m.src then x.observers else x.observers ++ [m.src], last := m.time, stored := x.stored + 1 } else x }
  | none =>
    if 4096 ≤ d.fab.obsN then d.setFab fun f => { f with obsLost := f.obsLost + 1 }
    else
      let w : ObsWin := { subjKind := m.subjKind, subj := m.subj, kind := m.kind, epoch := m.epoch, observers := [m.src], first := m.time
                          last := m.time, opened := d.now }
      d.setFab fun f => { f with obsN := f.obsN + 1, obs := f.obs ++ [w] }

/-- One OBSERVATION of each kind per subject per epoch to the meridian (R415). -/
def observe (subjKind kind subj : Nat) (d : Dev) : Dev :=
  let k := (subjKind, kind, subj, d.fab.cur.epoch)
  if d.fab.told.contains k then d
  else
    let d1 := d.setFab fun f => { f with told := k :: f.told }
    let t := d.nowNs % 2 ^ 32
    if d1.fab.holder = d1.devId then
      obsTake { src := d1.devId, subjKind := subjKind, kind := kind, subj := subj, epoch := d1.fab.cur.epoch, time := t } d1
    else d1.sendFc d1.fab.holder 0x50 (be 1 subjKind ++ be 1 kind ++ be 2 subj ++ be 4 d1.fab.cur.epoch ++ be 4 t)

/-- OBSERVATION_WINDOW (R416). -/
def obsWindow (subjKind subj kind : Nat) (d : Dev) : Dev :=
  match d.fab.obs.find? fun w => w.subjKind == subjKind && w.subj == subj && w.kind == kind && !w.closed && decide (w.opened + msT 1 ≤ d.now) with
  | none => d
  | some w =>
    let d1 := d.setFab fun f => { f with
      obsN := f.obsN - w.stored, obsLost := 0
      obs := f.obs.map fun (x : ObsWin) => if x == w then { x with closed := true } else x }
    if kind < 2 then
      d1.raise (if kind = 0 then 0x0609 else 0x060A) (if kind = 0 then sevMajor else sevInfo) 0
        [fIdx subj, fByte subjKind, fCnt w.observers.length, fCnt d.fab.obsLost, f8 w.first, f8 w.last]
    else d1

/-! ### Reachability (R404, R120-R122) -/

/-- The devices some RUNNING link reaches, in rising order (R404). -/
def reachNow (d : Dev) : List Nat :=
  let ls := d.fab.link.filter fun l => l.2.obj.st == .running && !d.planeOut l.2
  (List.range 2048).filter fun n => n != d.devId && ls.any fun l => l.2.reach.contains n

/-- The reachability vector brought up to date (R122, R285): devices lost and regained. -/
def reachRefresh (d : Dev) : Dev :=
  let new := d.reachNow
  let old := d.fwd.reachable
  let gone := old.filter fun n => !new.contains n
  let back := new.filter fun n => !old.contains n
  let d1 := ({ d with fwd := { d.fwd with
    reachable := new, awaitVector := (d.fwd.awaitVector.filter fun n => new.contains n) ++ back } } : Dev).liveCheck
  let d2 := gone.foldl (fun (x : Dev) n => observe 0 0 n ((creditUnreach n x).raise 0x0603 sevMajor 0 [fIdx n])) d1
  back.foldl (fun (x : Dev) n => observe 0 1 n ((creditReach n x).raise 0x0603 sevInfo 0 [fIdx n])) d2

/-! ### Link states (R396, R403, R405) -/

/-- The code of a cause (Table 12.10). -/
def linkCause : LinkCause → Nat
  | .signal => 0 | .replays => 1 | .notice => 2 | .duplicateId => 3 | .qualification => 4

/-- DISCOVER sent on a link that waits for its peer's (R403): a device, its ID, plane 0, its port. -/
def sendDiscover (l : Nat) (d : Dev) : Dev := d.emit (.linkMsg l 2 [0, d.devId, 0, l])

/-- A RUNNING link goes down (R396, Table 12.4). -/
def linkDrop (l : Nat) (c : LinkCause) (d : Dev) : Dev :=
  let x := d.getLink l
  if x.obj.st != .running then d
  else
    let d1 := d.putLink l { x with
      obj := { x.obj with st := .starting, prev := .running, since := d.nowNs }, phase := .discover, phaseDue := none, reach := []
      retry := [], gap := false, dreq := none }
    let d2 := (resendCells l x.retry (reachRefresh d1)).sendDiscover l
    observe 2 0 l (d2.raise 0x0602 sevMinor (linkHandle l) [fByte (linkCause c)])

/-- DISCOVER (R403). -/
def discoverMsg (l : Nat) (m : DiscoverMsg) (d : Dev) : Dev :=
  let x := d.getLink l
  if x.obj.st != .starting || x.phase != .discover || !d.fab.light.contains l then d
  else if m.isDevice && m.id == d.devId then
    (d.putLink l { x with phase := .retry, phaseDue := some (d.now + secT 1), peer := none }).raise 0x0602 sevMinor (linkHandle l) [fByte 3]
  else
    (d.putLink l { x with peer := some (m.isDevice, m.id, m.plane, m.port), phase := .qualify, phaseDue := some (d.now + secT 1)
                          measAt := d.now }).sendDiscover l

/-- QUALIFICATION_END (R390, R403, Table 12.4). -/
def qualifyEnd (l fec hcs : Nat) (d : Dev) : Dev :=
  let x := d.getLink l
  if x.obj.st != .starting || x.phase != .qualify || !due d.now x.phaseDue then d
  else
    match x.peer, x.delay with
    | some p, some t =>
      if fec = 0 && hcs = 0 && decide (t ≤ nsT 1500) then
        let d1 := (d.raise 0x0601 sevInfo (linkHandle l) [fByte (b2n (!p.1)), fIdx p.2.1, fIdx p.2.2.1, f8 (t / 65536)]).raiseObj (linkHandle l)
          x.obj .running false 0
        observe 2 1 l (reachRefresh (d1.putLink l { x with
          obj := x.obj.started d.nowNs, phase := .idle, phaseDue := none, reach := if p.1 then [p.2.1] else [], txSeq := 0, rxSeq := 0
          retry := [], gap := false, goodAt := d.now, ackAt := d.now }))
      else
        (d.putLink l { x with phase := .retry, phaseDue := some (d.now + secT 1), hcsBad := x.hcsBad + hcs, fecBad := x.fecBad + fec }).raise
          0x0602 sevMinor (linkHandle l) [fByte 4]
    | _, _ =>
      (d.putLink l { x with phase := .retry, phaseDue := some (d.now + secT 1), hcsBad := x.hcsBad + hcs, fecBad := x.fecBad + fec }).raise
        0x0602 sevMinor (linkHandle l) [fByte 4]

/-- QUALIFICATION_RETRY (R403): 1 s after a failure. -/
def qualifyRetry (l : Nat) (d : Dev) : Dev :=
  let x := d.getLink l
  if x.obj.st == .starting && x.phase == .retry && due d.now x.phaseDue then
    if x.peer.isSome then d.putLink l { x with phase := .qualify, phaseDue := some (d.now + secT 1), measAt := d.now }
    else (d.putLink l { x with phase := .discover, phaseDue := none }).sendDiscover l
  else d

/-- REACH and REACH_DELTA from an element (R404). -/
def reachMap (l : Nat) (m : List Nat) (d : Dev) : Dev :=
  let x := d.getLink l
  match x.peer with
  | some (false, _) => if x.obj.st == .running then reachRefresh (d.putLink l { x with reach := m.filter (· < 2048) }) else d
  | _ => d
def reachDelta (l dev : Nat) (on : Bool) (d : Dev) : Dev :=
  let r := (d.getLink l).reach.filter (· != dev)
  reachMap l (if on then r ++ [dev] else r) d

/-- LINK_DELAY_MEASURE (R402): during qualification and every second. -/
def delayMeasure (l : Nat) (d : Dev) : Dev :=
  let x := d.getLink l
  if (x.obj.st == .running || x.phase == .qualify) && decide (x.measAt ≤ d.now) then
    (d.putLink l { x with dreq := some (x.dseq, d.sysTicks), dseq := (x.dseq + 1) % 65536, measAt := d.now + secT 1 }).emit
      (.linkMsg l 3 [x.dseq])
  else d

/-- DELAY_REQ (R402): answered with the hardware's times of its arrival, `held` ticks ago, and of the answer. -/
def delayReqMsg (l seq held : Nat) (d : Dev) : Dev := d.emit (.linkMsg l 4 [seq, (d.sysTicks - held).toNat, d.sysTicks.toNat])

/-- DELAY_RESP (R402), stamped by hardware on its arrival, `held` ticks ago. -/
def delayRespMsg (l seq : Nat) (peerRx peerTx : Int) (held : Nat) (d : Dev) : Dev :=
  let x := d.getLink l
  match x.dreq with
  | some (n, t) =>
    if n = seq then d.putLink l { x with dreq := none, delay := some (((d.sysTicks - held - t) - (peerTx - peerRx)) / 2).toNat } else d
  | none => d

/-- LINK_RETRY (R394, R396): the peer asks for a replay from a number. -/
def linkRetry (l n : Nat) (d : Dev) : Dev :=
  let x := d.getLink l
  if x.obj.st != .running then d
  else
    let again (r : RetryCell) : Bool := decide (seqDiff r.cell.linkSeq n < 32768)
    let y : FLink := { x with
      replays := x.replays + (x.retry.filter again).length
      retry := x.retry.map fun (r : RetryCell) => if again r then { r with replays := r.replays + 1, sentAt := d.now } else r }
    let d1 := (y.retry.filter again).foldl (fun (z : Dev) r => z.emit (.cell l r.cell)) (d.putLink l y)
    if y.retry.any fun r => decide (4 < r.replays) then linkDrop l .replays d1 else d1

/-- LINK_HCS_TIMEOUT (R396). -/
def linkSilent (l : Nat) (d : Dev) : Dev :=
  if (d.getLink l).obj.st == .running && decide ((d.getLink l).goodAt + nsT 500 ≤ d.now) then linkDrop l .signal d else d

/-- FABRIC_LINK_STOP_DONE (Table 12.4). -/
def linkStopDone (l : Nat) (d : Dev) : Dev :=
  let x := d.getLink l
  if x.obj.st = .stopping && (x.retry.isEmpty || due d.now x.obj.due) then
    let o := x.obj.stopped d.nowNs
    let d1 := d.putLink l { x with obj := o, retry := [], reach := [], phase := if o.st = .starting then .discover else .idle
                                   phaseDue := none, peer := none, delay := none, gap := false, dreq := none }
    let d2 := (resendCells l x.retry d1).raiseObj (linkHandle l) x.obj .stopped (!x.retry.isEmpty) 0
    if o.st = .starting then d2.sendDiscover l else d2
  else d

/-- LASER_INPUT_CHANGE (R646): the 8 links of an input lose their light and go down, or regain it. -/
def laserInput (oe m : Nat) (lost : Bool) (d : Dev) : Dev :=
  let ls := (List.range 8).map fun k => 32 * oe + 8 * m + k
  let rest := d.fab.light.filter fun l => !ls.contains l
  let d1 := d.setFab fun f => { f with light := if lost then rest else rest ++ ls }
  if lost then
    ls.foldl (fun (x : Dev) l =>
      let y := linkDrop l .signal x
      if (y.getLink l).obj.st == .starting then y.modLink l fun z => { z with phase := .discover, phaseDue := none } else y) d1
  else ls.foldl (fun (x : Dev) l => if (x.getLink l).obj.st == .starting && (x.getLink l).phase == .discover then x.sendDiscover l else x) d1

/-! ### Cells from a link (R392-R395, R413) -/

/-- FABRIC_CELL_RECEIVE. -/
def cellReceive (l : Nat) (c : FabCell) (d : Dev) : Dev :=
  let x := d.getLink l
  if x.obj.st != .running then d
  else if !c.fecOk then askRetry l (d.putLink l { x with fecBad := x.fecBad + 1 })
  else if !hcsOk c then askRetry l (d.putLink l { x with hcsBad := x.hcsBad + 1 })
  else
    let d1 := takeAck l c (d.putLink l { x with goodAt := d.now })
    let y := d1.getLink l
    if c.kind != 1 && c.kind != 2 then d1
    else if c.linkSeq != y.rxSeq then (if seqDiff c.linkSeq y.rxSeq < 32768 then askRetry l d1 else d1)
    else
      let d2 := d1.putLink l { y with rxSeq := (y.rxSeq + 1) % 65536, gap := false }
      if c.kind = 2 then fabricIn l c d2
      else
        let d3 := d2.quietExit
        let odd := bit d3.fab.cur.epoch 0 != c.parity && d3.fab.old.isNone && (match d3.fab.prep with
          | some p => bit p.tab.epoch 0 != c.parity | none => true)
        if odd then
          let d4 := d3.setFab fun f => { f with staleCells := f.staleCells + 1 }
          if d4.fab.stale.contains (c.srcDev, d4.fab.cur.epoch) then d4
          else observe 0 2 c.srcDev (d4.setFab fun f => { f with stale := (c.srcDev, f.cur.epoch) :: f.stale })
        else if d3.fab.quar.contains c.srcDev then d3
        else fabricIn l c d3

/-! ### Port states of other devices (R121, R122) -/

/-- PORT_STATE. -/
def portStateMsg (dev p : Nat) (down : Bool) (d : Dev) : Dev :=
  let g := dev * 256 + p
  let r := d.fwd.portDown.filter (· != g)
  if dev = d.devId then d else ({ d with fwd := { d.fwd with portDown := if down then g :: r else r } } : Dev).liveCheck

/-- PORT_VECTOR. -/
def portVectorMsg (dev : Nat) (v : BitVec 256) (d : Dev) : Dev :=
  if dev = d.devId then d
  else ({ d with fwd := { d.fwd with
    portDown := (d.fwd.portDown.filter fun g => g / 256 != dev) ++ ((List.range 256).filter fun p => v.getLsbD p).map fun p => dev * 256 + p
    awaitVector := d.fwd.awaitVector.filter (· != dev) } } : Dev).liveCheck

/-- PORT_VECTOR_SEND (R121): every 1 ms. -/
def portVectorOut (d : Dev) : Dev :=
  if d.now < d.fab.pvAt then d
  else
    let v : Nat := bitsOf ((List.range 256).map fun p => (d.getPort p).protDown)
    (d.setFab fun f => { f with pvAt := d.now + msT 1 }).sendFcAll 0x21 (be 32 v)

/-! ### The meridian (R409, R410) -/

/-- This device holds the role. -/
def isMeridian (d : Dev) : Bool := d.fab.holder == d.devId

/-- HEARTBEAT_SEND (R409): every 1 ms; firmware sends none while it is held (R35). -/
def heartbeatOut (d : Dev) : Dev :=
  if d.fwHeld || !d.isMeridian || d.now < d.fab.hbAt then d
  else
    let pend : Nat := match d.fab.coord with | some c => c.epoch | none => 0
    (d.setFab fun f => { f with hbAt := d.now + msT 1 }).sendFcAll 0x30 (be 4 d.fab.term ++ be 4 d.fab.cur.epoch ++ be 4 pend)

/-- A relay stops because the role moves (R417): the command of this device's host is cancelled. -/
def relayStop (d : Dev) : Dev :=
  match d.fab.relay with
  | none => d
  | some r =>
    let d1 := d.setFab fun f => { f with relay := if r.intake.isSome then none else some { r with succ := none, sent := [], finished := true } }
    match r.intake with
    | none => d1
    | some k => (match d1.hif.cmds.find? (·.intake == k) with | some c => d1.complete c { status := .cancelled } | none => d1)

/-- The role moves to `dev` with a term (R410). -/
def roleTo (dev term : Nat) (d : Dev) : Dev :=
  (relayStop (d.setFab fun f => { f with holder := dev, term := term, hbSeen := d.now })).raise 0x0608 sevMinor 0 [fIdx dev, f8 term]

/-! ### Epochs (R411-R414) -/

/-- A device switches to the tables of an epoch (Table 12.7 step 6): pointers reset, the old tables kept for 10 ms. -/
def switchEpoch (t : EpochTab) (d : Dev) : Dev :=
  let d1 := d.setFab fun f => { f with
    old := some (f.cur, d.sysTicks + msT 10), cur := t, prep := none, ptr := []
    staged := match f.staged with | some (e, _) => if e ≤ t.epoch then none else f.staged | none => none }
  reachRefresh d1

/-- The tables of a prepared or staged epoch over the current ones. -/
def nextTab (d : Dev) (epoch kinds : Nat) (rows : Tab (List Nat)) (cmap : List Nat) (planes : Nat) : EpochTab :=
  { epoch := epoch, rows := if bit kinds 0 then rows.foldl (fun t r => tput t r.1 r.2) d.fab.cur.rows else d.fab.cur.rows
    cmap := if bit kinds 1 then cmap else d.fab.cur.cmap, planes := if bit kinds 2 then planes else d.fab.cur.planes }

/-- EPOCH_PREPARE at a member: what it answers, and the device (Table 12.7 step 4). -/
def memberPrepare (m : PrepareMsg) (d : Dev) : Nat × Dev :=
  let rows := match d.fab.staged with | some (e, r) => if e = m.epoch then some r else none | none => none
  if (match d.fab.prep with | some p => p.tab.epoch != m.epoch | none => false) || d.fab.old.isSome then (3, d)
  else if bit m.kinds 0 && rows.isNone then (1, d)
  else (0, d.setFab fun f => { f with
    prep := some { src := m.src, kinds := m.kinds, at_ := (m.at_ns : Int) * 65536
                   tab := d.nextTab m.epoch m.kinds (rows.getD []) m.classMap m.excluded } })

/-- EPOCH_PREPARE, not acknowledged while headless (R35): answered to the meridian and the backup; the backup notes the change it may have to decide (R412). -/
def epochPrepareMsg (m : PrepareMsg) (d : Dev) : Dev :=
  if d.fwHeld || m.src != d.fab.holder || m.term < d.fab.term then d
  else
    let r := memberPrepare m d
    let d1 := if r.2.devId = r.2.fab.backup then
        r.2.setFab fun f => { f with coord := some { intake := none, epoch := m.epoch, at_ := (m.at_ns : Int) * 65536
                                                     members := r.2.devId :: r.2.fwd.reachable, acks := [(r.2.devId, r.1)] } }
      else r.2
    let ack := be 4 m.epoch ++ be 1 r.1 ++ be 3 0
    let d2 := d1.sendFc m.src 0x41 ack
    if d2.fab.backup = d2.devId || d2.fab.backup = m.src then d2 else d2.sendFc d2.fab.backup 0x41 ack

/-- EPOCH_ACK. -/
def epochAckMsg (dev epoch result : Nat) (d : Dev) : Dev :=
  if d.fwHeld then d else d.setFab fun f => { f with coord := f.coord.map fun c => if c.epoch = epoch then { c with acks := tput c.acks dev result } else c }

/-- A device gives up epoch `n` (R412): prepared, it forgets it; switched and within its retention, it returns. -/
def cancelEpoch (n : Nat) (d : Dev) : Dev :=
  let d1 := d.setFab fun f => { f with prep := match f.prep with | some p => if p.tab.epoch = n then none else f.prep | none => none }
  match d1.fab.old with
  | some (t, _) =>
    if d1.fab.cur.epoch = n then reachRefresh (d1.setFab fun f => { f with cur := t, old := none, ptr := [] }) else d1
  | none => d1

/-- The command of a coordinated change completes. -/
def coordDone (st : Status) (d : Dev) : Dev :=
  match d.fab.coord with
  | none => d
  | some c =>
    let d1 := d.setFab fun f => { f with coord := none }
    match c.intake with
    | none => d1
    | some k => (match d1.hif.cmds.find? (·.intake == k) with | some x => d1.complete x { status := st } | none => d1)

/-- Members without an acknowledgement of result 0. -/
def missing (c : Coord) : List Nat := c.members.filter fun n => tget c.acks n != some 0

/-- EPOCH_CANCEL to every member. -/
def cancelMsgs (members : List Nat) (epoch : Nat) (d : Dev) : Dev := members.foldl (fun (y : Dev) n => y.sendFc n 0x42 (be 4 epoch)) d

/-- EPOCH_CANCEL messages that are due again: three in all, 100 µs apart (Table 12.7 step 5). -/
def cancelAgain (d : Dev) : Dev :=
  match d.fab.cancel with
  | none => d
  | some x =>
    if d.now < x.due then d
    else cancelMsgs x.members x.epoch (d.setFab fun f => { f with
      cancel := if x.left ≤ 1 then none else some { x with left := x.left - 1, due := x.due + usT 100 } })

/-- The change is cancelled (Table 12.7 step 5): the first EPOCH_CANCEL goes to every member at once. -/
def coordCancel (c : Coord) (d : Dev) : Dev :=
  let d1 := (cancelMsgs c.members c.epoch d).setFab fun f => { f with
    cancel := some { epoch := c.epoch, members := c.members, left := 2, due := d.now + usT 100 } }
  let l := missing c
  (coordDone .cancelled (cancelEpoch c.epoch d1)).raise 0x0604 sevMajor 0 ([fCnt c.epoch, fByte 1, fCnt l.length] ++ (l.take 13).map fIdx)

/-- EPOCH_DECISION: at T − 1 ms by system time (R411, R412); EPOCH_CANCEL messages of an earlier decision repeat with it. -/
def epochDecision (d0 : Dev) : Dev :=
  let d := if d0.fwHeld then d0 else d0.cancelAgain
  match d.fab.coord with
  | none => d
  | some c =>
    if d.fwHeld || !d.isMeridian || c.decided || d.sysTicks < c.at_ - msT 1 then d
    else if (missing c).isEmpty then d.setFab fun f => { f with coord := some { c with decided := true } }
    else coordCancel c d

/-- EPOCH_ACTIVATE: at T. -/
def epochActivate (d : Dev) : Dev :=
  match d.fab.prep with
  | some p => if p.at_ ≤ d.sysTicks then switchEpoch p.tab d else d
  | none => d

/-- EPOCH_RETENTION_END: at T + 10 ms (Table 12.7 step 8). -/
def retentionEnd (d : Dev) : Dev :=
  match d.fab.old with
  | some (_, t) =>
    if t ≤ d.sysTicks then
      let d1 := d.setFab fun f => { f with old := none }
      match d1.fab.coord with
      | some c =>
        if c.epoch = d1.fab.cur.epoch then
          let d2 := coordDone .ok d1
          if c.intake.isSome then d2.raise 0x0604 sevInfo 0 [fCnt c.epoch, fByte 0, fCnt 0] else d2
        else d1
      | none => d1
    else d
  | none => d

/-- EPOCH_CANCEL from the meridian or the backup. -/
def epochCancelMsg (dev epoch : Nat) (d : Dev) : Dev :=
  if dev != d.fab.holder && dev != d.fab.meridian && dev != d.fab.backup then d
  else
    let d1 := cancelEpoch epoch d
    match d1.fab.coord with
    | some c => if c.epoch = epoch then coordDone .cancelled d1 else d1
    | none => d1

/-- HEARTBEAT (R409, R410, R414): a higher term is followed from the configured backup; at a change of epoch the two epochs are no difference
while this device prepares the one or keeps the other. -/
def heartbeatMsg (dev term epoch : Nat) (d : Dev) : Dev :=
  if term < d.fab.term || (dev != d.fab.holder && (term = d.fab.term || dev != d.fab.backup)) then d
  else
    let d1 := if d.fab.holder = dev then d.setFab fun f => { f with term := term, hbSeen := d.now } else roleTo dev term d
    let near := (match d1.fab.prep with | some p => p.tab.epoch == epoch | none => false) ||
      (match d1.fab.old with | some o => o.1.epoch == epoch | none => false)
    let rows := match d1.fab.staged with | some (e, r) => if e = epoch then some r else none | none => none
    if epoch = d1.fab.cur.epoch then d1.setFab fun f => { f with behind := none }
    else if near then d1
    else match rows with
      | some r => switchEpoch (d1.nextTab epoch 1 r [] 0) d1
      | none =>
        if d1.fab.behind = some epoch then d1
        else (d1.setFab fun f => { f with behind := some epoch }).raise 0x0606 sevMajor 0 [fCnt d1.fab.cur.epoch, fCnt epoch]

/-- The same, with the epoch it shows as pending (R442). -/
def heartbeatIn (dev term epoch pending : Nat) (d : Dev) : Dev :=
  let d1 := heartbeatMsg dev term epoch d
  if d1.fab.holder = dev then { d1 with time := { d1.time with pendEpoch := decide (0 < pending) } } else d1

/-- HEARTBEAT_LOSS (R410, R412): the backup takes the role 5 ms after the last HEARTBEAT. -/
def heartbeatLost (d : Dev) : Dev :=
  if d.fwHeld || d.devId != d.fab.backup || d.isMeridian || !d.fab.configured || d.now < d.fab.hbSeen + msT 5 then d
  else
    let d1 := (roleTo d.devId (d.fab.term + 1) d).sendFcAll 0x31 (be 4 (d.fab.term + 1))
    match d1.fab.coord with
    | some c => if c.at_ - msT 1 ≤ d1.sysTicks && !(missing c).isEmpty then coordCancel c d1 else d1
    | none => d1

/-- MERIDIAN_CLAIM (R410). -/
def meridianClaim (dev term : Nat) (d : Dev) : Dev :=
  if dev = d.fab.backup && d.fab.term < term then roleTo dev term d else d

/-- A notice of quarantine applied (R413): data cells of the subject, and the elements on this device's links. -/
def quarantineSet (subject : Nat) (enter : Bool) (d : Dev) : Dev :=
  let rest := d.fab.quar.filter (· != subject)
  let d1 := d.setFab fun f => { f with quar := if enter then rest ++ [subject] else rest }
  let d2 := d1.fab.link.foldl (fun (x : Dev) l =>
    match l.2.obj.st, l.2.peer with
    | .running, some (false, _) => x.emit (.linkMsg l.1 5 [subject, b2n enter])
    | _, _ => x) d1
  if d.fab.quar.contains subject == enter then d2 else d2.raise 0x0605 sevMajor 0 [fIdx subject, fByte (b2n (!enter))]

/-- QUARANTINE. -/
def quarantineMsg (dev subject : Nat) (enter : Bool) (d : Dev) : Dev := if dev = d.fab.holder then quarantineSet subject enter d else d

/-- The meridian orders a quarantine, or its end. -/
def quarantineAll (subject : Nat) (enter : Bool) (d : Dev) : Dev :=
  quarantineSet subject enter (d.sendFcAll 0x44 (be 2 subject ++ be 1 (b2n enter) ++ be 1 0))

/-- OBSERVATION at the meridian (R413, R416). -/
def observationMsg (m : ObservationMsg) (d : Dev) : Dev :=
  if d.fwHeld || !d.isMeridian then d
  else
    let d1 := obsTake m d
    if m.kind = 2 && m.subjKind = 0 && !d1.fab.quar.contains m.subj then quarantineAll m.subj true d1 else d1

/-- EPOCH_STATUS at the meridian (R413). -/
def epochStatusMsg (dev current : Nat) (d : Dev) : Dev :=
  if !d.fwHeld && d.isMeridian && d.fab.quar.contains dev && current == d.fab.cur.epoch then quarantineAll dev false d else d

/-- EPOCH_STATUS_SEND (R413): a quarantined device, every 1 ms. -/
def epochStatusOut (d : Dev) : Dev :=
  if d.fwHeld || !d.fab.quar.contains d.devId || d.now < d.fab.stAt then d
  else
    let st : Nat := match d.fab.staged with | some (e, _) => e | none => 0
    (d.setFab fun f => { f with stAt := d.now + msT 1 }).sendFc d.fab.holder 0x43 (be 4 d.fab.cur.epoch ++ be 4 st)

/-! ### Commands (Tables 11.3, 12.8) -/

/-- CSW_SET_CUT. -/
def cswSetCut (c : Cmd) (d : Dev) : Reply :=
  check d [(c.bad 0x01, .badHandle), (c.dirty 1 31, .badArg)]
    (.done (d.setCsw fun w => { w with cut := tset w.cut 0 c.hIdx (c.f 0 1) }) {})

/-- CSW_GET_STATUS (Table 11.5). -/
def cswGetStatus (c : Cmd) (d : Dev) : Reply :=
  let w := d.csw
  let held := bitsOf ((List.range 32).map fun k => d.outHeld (32 + k) && (tgetD w.out {} (32 + k)).since.isSome)
  check d [(c.bad 0x00, .badHandle)]
    (.done (d.setCsw fun x => { x with peak := 0 }) { record := some (le 8 w.phases ++ le 8 held ++ le 8 w.ctIn ++ le 8 w.ctOut ++
      le 8 w.ctAbort ++ le 2 w.peak ++ le 2 0 ++ le 4 (sat32 w.badCells) ++ List.replicate 16 0) })

/-- FAB_LINK_ENABLE (Table 12.4). -/
def fabLinkEnable (c : Cmd) (d : Dev) : Reply :=
  let x := d.getLink c.hIdx
  let r := x.obj.enable d.nowNs
  check d [(c.bad 0x16, .badHandle)]
    (let d1 := d.putLink c.hIdx { x with obj := r.obj, phase := if r.begins then .discover else x.phase }
     .done (if r.begins then d1.sendDiscover c.hIdx else d1) { status := r.status })

/-- FAB_LINK_DISABLE (Table 12.4). -/
def fabLinkDisable (c : Cmd) (d : Dev) : Reply :=
  let x := d.getLink c.hIdx
  let r := x.obj.disable d.nowNs (d.now + usT 8)
  let d1 := d.putLink c.hIdx { x with obj := r.obj, phase := .idle, phaseDue := none }
  check d [(c.bad 0x16, .badHandle)]
    (.done (if x.obj.st = .running then reachRefresh (d1.emit (.linkMsg c.hIdx 6 [])) else if r.begins then d1
      else d.putLink c.hIdx { x with obj := r.obj }) { status := r.status })

/-- FAB_GET_LINK (R514): with no peer or no delay yet the fields are open, log 42. -/
def fabGetLink (c : Cmd) (d : Dev) : Reply :=
  let x := d.getLink c.hIdx
  let p := match x.peer with | some (k, i, pl, q) => (b2n (!k), i, pl, q) | none => (Config.absent 3, Config.absent 4, Config.absent 5, Config.absent 6)
  check d [(c.bad 0x16, .badHandle)]
    (statusReply c d [fByte x.obj.st.code, fByte p.1, fIdx p.2.1, fIdx p.2.2.1, fIdx p.2.2.2, f8 ((x.delay.map (· / 65536)).getD (Config.absent 7)),
      fCnt x.reach.length, fCnt x.replays, fCnt x.resends, fCnt x.hcsBad, fCnt x.fecBad])

/-- FAB_SET_SYSTEM (R409, R410, Table 12.9): the role is the meridian's again; EV_MERIDIAN where that changes who holds it (log 129). -/
def fabSetSystem (c : Cmd) (d : Dev) : Reply :=
  let i := c.f 0 2; let m := c.f 2 2; let b := c.f 4 2
  check d [(c.bad 0x00, .badHandle), (decide (2047 < i) || decide (2047 < m) || decide (2047 < b) || b == m || c.dirty 6 26, .badArg),
      (i != d.fab.id && d.fab.link.any (fun l => l.2.obj.st != .stopped), .refusedBusy)]
    (let d1 := d.setFab fun f => { f with id := i, meridian := m, backup := b, holder := m, configured := true, hbSeen := d.now }
     .done (if m = d.fab.holder then d1 else (relayStop d1).raise 0x0608 sevMinor 0 [fIdx m, f8 d.fab.term]) {})

/-- The rows of a staged image (R420): destination and links, as far as they are well formed. -/
def stageRows : Nat → Bytes → Option (Tab (List Nat) × Bytes)
  | 0, b => some ([], b)
  | n + 1, b =>
    let dst := field b 0 2; let k := field b 2 2
    let ls := (List.range k).map fun i => field b (4 + 2 * i) 2
    if b.length < 4 + 2 * k || 2047 < dst || k = 0 || 512 < k || ls.any (fun l => decide (511 < l)) then none
    else match stageRows n (b.drop (4 + 2 * k)) with
      | some (t, r) => some (if (tget t dst).isSome then t else tput t dst ls, r)
      | none => none

/-- FAB_STAGE (R420). -/
def fabStage (pl : HostRead) (c : Cmd) (d : Dev) : Reply :=
  let b := pl.getD []
  let e := field b 0 4; let n := field b 4 2
  let rows := b.drop 16
  let r := stageRows n rows
  let used := match r with | some (_, rest) => rows.length - rest.length | none => 0
  let bad := pl.isNone || decide (b.length < 16) || n == 0 || decide (2048 < n) || !isZero b 6 6 || decide (e ≤ d.fab.cur.epoch) || r.isNone ||
    crc32c 0xFFFFFFFF (rows.take used) != field b 12 4
  check d [(c.bad 0x00, .badHandle), (bad, .badArg)]
    (.done (d.setFab fun f => { f with staged := some (e, match r with | some (t, _) => t | none => []) }) {})

/-- FAB_EPOCH_PREPARE (Table 12.7 steps 2 to 4). -/
def fabEpochPrepare (c : Cmd) (d : Dev) : Reply :=
  let e := c.f 0 4; let k := c.f 4 1; let t := c.f 8 8
  let map := (List.range 8).map fun i => c.f (16 + i) 1
  let pl := c.f 24 4
  let bad := e != d.fab.cur.epoch + 1 || k == 0 || decide (7 < k) || c.dirty 5 3 || c.dirty 28 4 || map.any (fun x => decide (32 ≤ x)) ||
    decide (t < d.nowNs + 5000000)
  check d [(c.bad 0x00, .badHandle), (bad, .badArg), (!d.isMeridian, .notReady), (d.fab.coord.isSome || d.fab.old.isSome || (d.fab.configured && d.time.step.isSome), .refusedBusy)]
    (let m : PrepareMsg := { src := d.devId, epoch := e, kinds := k, at_ns := t, classMap := map, excluded := pl, term := d.fab.term }
     let r := memberPrepare m d
     let d1 := r.2.setFab fun f => { f with
       coord := some { intake := some c.intake, epoch := e, at_ := (t : Int) * 65536, members := d.devId :: d.fwd.reachable, acks := [(d.devId, r.1)] } }
     .pend (d1.sendFcAll 0x40 (be 4 e ++ be 1 k ++ be 3 0 ++ be 8 t ++ map.flatMap (be 1) ++ be 4 pl ++ be 4 d.fab.term ++ be 4 0)))

/-- FAB_GET_STATUS (R514): roles bit 0 meridian, bit 1 backup; quarantined devices as a bitmap. -/
def fabGetStatus (c : Cmd) (d : Dev) : Reply :=
  let f := d.fab
  let st : Nat := match f.staged with | some (e, _) => e | none => 0
  check d [(c.bad 0x00, .badHandle)]
    (statusReply c d [fIdx f.id, fByte (b2n d.isMeridian + 2 * b2n (f.backup == f.id)), fCnt f.term, fCnt f.cur.epoch, fCnt st,
      fBitmap 2048 (fun n => f.quar.contains n), fCnt d.fwd.reachable.length, fCnt f.dupes, fCnt f.seqLoss, fCnt f.staleCells,
      f8 (d.holdTime / 65536)])

/-- FAB_SET_RESEQ (Table 12.8). -/
def fabSetReseq (c : Cmd) (d : Dev) : Reply :=
  let h := c.f 0 4
  check d [(c.bad 0x00, .badHandle), ((h != 0 && (decide (h < 4) || decide (25 < h))) || c.dirty 4 28, .badArg)]
    (.done (d.setFab fun f => { f with h := h }) {})

end Dev

/-- VOQ_ADMIT. -/
def execVoqAdmit (sl : Fin 32) (s : State) : Out := s.onDev (Dev.voqArrive sl)
/-- VOQ_DEQUEUE. -/
def execVoqDequeue (voq : Nat) (s : State) : Out := s.onDev (Dev.voqSend voq false)
/-- FRAME_TRANSMIT. -/
def execFrameTransmit (p : Fin 256) (underrun : Bool) (s : State) : Out := s.onDev (Dev.transmit p underrun)
/-- SWITCH_PHASE. -/
def execSwitchPhase (s : State) : Out := s.onDev Dev.switchPhase
/-- XPOINT_HOLD_EXPIRY. -/
def execXpointHoldExpiry (m j : Fin 64) (s : State) : Out := s.onDev (Dev.xpExpire m j)
/-- OUTPUT_HELD_TIMEOUT. -/
def execOutputHeldTimeout (j : Fin 64) (s : State) : Out := s.onDev (Dev.outputHeld j)
/-- EGRESS_START_TIMEOUT. -/
def execEgressStartTimeout (sl : Fin 32) (fid : Nat) (s : State) : Out := s.onDev (Dev.egressStart sl fid)
/-- CSW_SET_CUT, opcode 0x0600. -/
def execCswSetCut (src : Src) (s : State) : Out := s.onDev (Dev.runCmd 0x0600 src Dev.cswSetCut)
/-- CSW_GET_STATUS, opcode 0x0601. -/
def execCswGetStatus (src : Src) (s : State) : Out := s.onDev (Dev.runCmd 0x0601 src Dev.cswGetStatus)
/-- FABRIC_CELL_RECEIVE. -/
def execFabricCellReceive (l : Fin 512) (c : FabCell) (s : State) : Out := s.onDev (Dev.cellReceive l c)
/-- RETRY. -/
def execLinkRetry (l : Fin 512) (linkSeq : Nat) (s : State) : Out := s.onDev (Dev.linkRetry l linkSeq)
/-- ACK_IDLE_TIMEOUT. -/
def execAckIdleTimeout (l : Fin 512) (s : State) : Out := s.onDev (Dev.ackIdle l)
/-- RETRY_TIMEOUT. -/
def execRetryTimeout (l : Fin 512) (s : State) : Out := s.onDev (Dev.retryTimeout l)
/-- LINK_HCS_TIMEOUT. -/
def execLinkHcsTimeout (l : Fin 512) (s : State) : Out := s.onDev (Dev.linkSilent l)
/-- LINK_DOWN_NOTICE. -/
def execLinkDownNotice (l : Fin 512) (s : State) : Out := s.onDev (Dev.linkDrop l .notice)
/-- RESEQ_HOLD_EXPIRY. -/
def execReseqHoldExpiry (sl : Fin 32) (dev cls : Nat) (s : State) : Out := s.onDev (Dev.reseqSkip sl dev cls)
/-- LOST_CREDIT_RELEASE. -/
def execLostCreditRelease (p : Fin 256) (dev cls : Nat) (s : State) : Out := s.onDev (Dev.lostCredit p dev cls)
/-- DISCOVER. -/
def execDiscover (l : Fin 512) (m : DiscoverMsg) (s : State) : Out := s.onDev (Dev.discoverMsg l m)
/-- QUALIFICATION_END. -/
def execQualificationEnd (l : Fin 512) (fec hcs : Nat) (s : State) : Out := s.onDev (Dev.qualifyEnd l fec hcs)
/-- QUALIFICATION_RETRY. -/
def execQualificationRetry (l : Fin 512) (s : State) : Out := s.onDev (Dev.qualifyRetry l)
/-- LASER_INPUT_CHANGE. -/
def execLaserInputChange (oe : Fin 16) (m : Fin 4) (lost : Bool) (s : State) : Out := s.onDev (Dev.laserInput oe m lost)
/-- REACH. -/
def execReach (l : Fin 512) (map : List Nat) (s : State) : Out := s.onDev (Dev.reachMap l map)
/-- REACH_DELTA. -/
def execReachDelta (l : Fin 512) (dev : Nat) (on : Bool) (s : State) : Out := s.onDev (Dev.reachDelta l dev on)
/-- LINK_DELAY_MEASURE. -/
def execLinkDelayMeasure (l : Fin 512) (s : State) : Out := s.onDev (Dev.delayMeasure l)
/-- DELAY_REQ. -/
def execDelayReq (l : Fin 512) (seq held : Nat) (s : State) : Out := s.onDev (Dev.delayReqMsg l seq held)
/-- DELAY_RESP. -/
def execDelayResp (l : Fin 512) (seq : Nat) (peerRx peerTx : Int) (held : Nat) (s : State) : Out :=
  s.onDev (Dev.delayRespMsg l seq peerRx peerTx held)
/-- FABRIC_LINK_STOP_DONE. -/
def execFabricLinkStopDone (l : Fin 512) (s : State) : Out := s.onDev (Dev.linkStopDone l)
/-- PORT_STATE. -/
def execPortState (dev : Nat) (port : Fin 256) (down : Bool) (s : State) : Out := s.onDev (Dev.portStateMsg dev port down)
/-- PORT_VECTOR. -/
def execPortVector (dev : Nat) (v : BitVec 256) (s : State) : Out := s.onDev (Dev.portVectorMsg dev v)
/-- PORT_VECTOR_SEND. -/
def execPortVectorSend (s : State) : Out := s.onDev Dev.portVectorOut
/-- HEARTBEAT_SEND. -/
def execHeartbeatSend (s : State) : Out := s.onDev Dev.heartbeatOut
/-- HEARTBEAT. -/
def execHeartbeat (dev term epoch pending : Nat) (s : State) : Out := s.onDev fun d => (Dev.heartbeatIn dev term epoch pending d).logIn (.fc dev 0x30 16)
/-- HEARTBEAT_LOSS. -/
def execHeartbeatLoss (s : State) : Out := s.onDev Dev.heartbeatLost
/-- MERIDIAN_CLAIM. -/
def execMeridianClaim (dev term : Nat) (s : State) : Out := s.onDev fun d => (Dev.meridianClaim dev term d).logIn (.fc dev 0x31 8)
/-- EPOCH_PREPARE. -/
def execEpochPrepare (m : PrepareMsg) (s : State) : Out := s.onDev fun d => (Dev.epochPrepareMsg m d).logIn (.fc m.src 0x40 40)
/-- EPOCH_ACK. -/
def execEpochAck (dev epoch result : Nat) (s : State) : Out := s.onDev fun d => (Dev.epochAckMsg dev epoch result d).logIn (.fc dev 0x41 12)
/-- EPOCH_DECISION. -/
def execEpochDecision (s : State) : Out := s.onDev Dev.epochDecision
/-- EPOCH_ACTIVATE. -/
def execEpochActivate (s : State) : Out := s.onDev Dev.epochActivate
/-- EPOCH_RETENTION_END. -/
def execEpochRetentionEnd (s : State) : Out := s.onDev Dev.retentionEnd
/-- EPOCH_CANCEL. -/
def execEpochCancel (dev epoch : Nat) (s : State) : Out := s.onDev fun d => (Dev.epochCancelMsg dev epoch d).logIn (.fc dev 0x42 8)
/-- EPOCH_STATUS. -/
def execEpochStatus (dev current staged : Nat) (s : State) : Out := let _ := staged; s.onDev fun d => (Dev.epochStatusMsg dev current d).logIn (.fc dev 0x43 12)
/-- EPOCH_STATUS_SEND. -/
def execEpochStatusSend (s : State) : Out := s.onDev Dev.epochStatusOut
/-- QUARANTINE. -/
def execQuarantine (dev subject : Nat) (enter : Bool) (s : State) : Out := s.onDev fun d => (Dev.quarantineMsg dev subject enter d).logIn (.fc dev 0x44 8)
/-- OBSERVATION. -/
def execObservation (m : ObservationMsg) (s : State) : Out := s.onDev fun d => (Dev.observationMsg m d).logIn (.fc m.src 0x50 16)
/-- OBSERVATION_WINDOW. -/
def execObservationWindow (subjKind subj kind : Nat) (s : State) : Out := s.onDev (Dev.obsWindow subjKind subj kind)
/-- FAB_LINK_ENABLE, opcode 0x0602. -/
def execFabLinkEnable (src : Src) (s : State) : Out := s.onDev (Dev.runCmd 0x0602 src Dev.fabLinkEnable)
/-- FAB_LINK_DISABLE, opcode 0x0603. -/
def execFabLinkDisable (src : Src) (s : State) : Out := s.onDev (Dev.runCmd 0x0603 src Dev.fabLinkDisable)
/-- FAB_GET_LINK, opcode 0x0604. -/
def execFabGetLink (src : Src) (s : State) : Out := s.onDev (Dev.runCmd 0x0604 src Dev.fabGetLink)
/-- FAB_SET_SYSTEM, opcode 0x0605. -/
def execFabSetSystem (src : Src) (s : State) : Out := s.onDev (Dev.runCmd 0x0605 src Dev.fabSetSystem)
/-- FAB_STAGE, opcode 0x0606. -/
def execFabStage (src : Src) (pl : HostRead) (s : State) : Out := s.onDev (Dev.runCmd 0x0606 src (Dev.fabStage pl))
/-- FAB_EPOCH_PREPARE, opcode 0x0607. -/
def execFabEpochPrepare (src : Src) (s : State) : Out := s.onDev (Dev.runCmd 0x0607 src Dev.fabEpochPrepare)
/-- FAB_GET_STATUS, opcode 0x0608. -/
def execFabGetStatus (src : Src) (s : State) : Out := s.onDev (Dev.runCmd 0x0608 src Dev.fabGetStatus)
/-- FAB_SET_RESEQ, opcode 0x0609. -/
def execFabSetReseq (src : Src) (s : State) : Out := s.onDev (Dev.runCmd 0x0609 src Dev.fabSetReseq)

end Sys2Proof.Machine
end

