-- ==== Sys2Proof/Machine/Hbm.lean ====
section
/-! DEFINITION. In-package HBM: arbitration of requests, refresh and self-refresh, training, errors, freeze and degraded
service, return to service and retirement, shedding, and the commands of Table 10.9 (R333-R365). -/

namespace Sys2Proof.Machine

namespace Dev

/-! ### Events of state changes -/

/-- EV_HBM_BUDGET when the capacity falls below the reservations (R361). -/
def budgetWatch (d : Dev) : Dev :=
  let sum := ((List.range 8).map d.hbmReserve).sum
  let c := 5625 * d.hbmRunning
  if c < sum then
    if d.hbm.short then d
    else (d.setHbm fun h => { h with short := true }).raise 0x0505 sevMinor 0 (f8 c :: (List.range 8).map fun p => f8 (d.hbmReserve p / 100))
  else d.setHbm fun h => { h with short := false }

/-- The last 64 commands of a channel's log (Table 10.5). -/
def logCmds (k : Nat) (l : List HbmCmd) (d : Dev) : Dev :=
  d.modCh k fun c => let t := c.log ++ l; { c with log := t.drop (t.length - 64) }

def mkCmd (d : Dev) (op bank port flags addr : Nat) : HbmCmd :=
  { ns := d.nowNs % 2 ^ 32, op := op, bank := bank, port := port, flags := flags, row := Config.dramRow addr % 2 ^ 32,
    col := Config.dramCol addr % 2 ^ 16 }

/-- The waiting MEM_THAW of a channel completes. -/
def thawEnds (k : Nat) (st : Status) (d : Dev) : Dev := d.finish 0x0507 (chHandle k) { status := st }

/-- A channel freezes (R353): its unissued commands are discarded and re-served, a snapshot is kept, EV_HBM_FREEZE is raised. One that is
FROZEN, STOPPED or RETIRED takes no freeze cause (Table 10.7). -/
def freeze (k cause : Nat) (addr : Option Nat) (d : Dev) : Dev :=
  let c := d.getCh k
  if c.obj.st == .frozen || c.obj.st == .stopped || c.obj.st == .retired then d else
  let un := c.reqs.filter fun w => !w.issued
  let d1 := logCmds k (un.map fun w => d.mkCmd 0 w.req.bank w.req.port.val 2 w.req.addr) d
  let syn := d1.openBytes 32
  let snap : Snapshot := { cause := cause, discarded := un.length, addr := addr, time := d.sysTicks
                           syndrome := (List.range 8).map (fun i => field syn.1 (4 * i) 4), cmds := (d1.getCh k).log }
  let passing := c.obj.st == .starting || c.obj.st == .stopping
  let obj : Obj := { c.obj with
    st := .frozen, held := false, cancelled := c.obj.cancelled || c.obj.held, due := none
    since := if passing then c.obj.since else d.nowNs }
  let d2 := syn.2.modCh k fun x => { x with
    obj := obj, snap := some snap, snapRead := false, heldLost := 0, thaw := .none, reqs := x.reqs.filter (·.issued) }
  let d3 := (d2.raise 0x0500 sevMajor (chHandle k) [fByte cause, f8 (addr.getD 0xFFFFFFFFFFFFFFFF)]).raiseObj (chHandle k) obj .frozen false 0
  let d4 := d3.modCh k fun x => { x with obj := { x.obj with prev := .frozen, cancelled := false } }
  let d5 := if c.obj.st == .starting then thawEnds k .frozen d4 else d4
  let d6 := un.foldl (fun (x : Dev) w => serveElsewhere w x) d5.budgetWatch
  match d6.otherDown k with
  | some j => d6.raiseDouble (k, j)
  | none => d6

/-! ### Command slots (R341, R343) -/

/-- A refresh is issued: the bank is the sequencer's choice, which the manual leaves open. -/
def issueRefresh (k : Nat) (d : Dev) : Dev :=
  let b := d.openVal
  (logCmds k [d.mkCmd 6 (b.1.toNat % 256) 255 0 0] b.2).emit (.dram k 6 0)

/-- The next request of a channel (R341 steps 2 and 3): at urgency 3 the oldest; below, the first bank in rotating order with a request
of the highest urgency, its oldest. A running group of writes goes on until 16, unless a read at urgency 2 or above waits. -/
def pickReq (d : Dev) (c : HbmCh) : Option HbmWait :=
  let un := c.reqs.filter fun w => !w.issued
  let u (w : HbmWait) : Nat := d.urgency w.req.port.val w.at_
  let reads := un.filter fun w => !w.req.write
  let writes := un.filter fun w => w.req.write
  let l := if decide (0 < c.group) && decide (c.group < 16) && !writes.isEmpty && !(reads.any fun w => decide (2 ≤ u w)) then writes
           else if c.group == 16 && !reads.isEmpty then reads else un
  let top := (l.map u).foldl max 0
  if top = 3 then l.find? fun w => u w == 3
  else
    let cand := l.filter fun w => u w == top
    let dist (w : HbmWait) : Nat := (w.req.bank + 65536 - c.bank - 1) % 65536
    cand.foldl (fun (best : Option HbmWait) w =>
      match best with
      | none => some w
      | some b => if dist w < dist b then some w else best) none

/-- Bursts of 64 bytes a request takes: 1 to 4 (R334). -/
def burstsOf (r : HbmReq) : List Nat :=
  (List.range 4).filter fun k => r.granules.getLsbD (2 * k) || r.granules.getLsbD (2 * k + 1)

/-- A request is issued: one activate, its bursts, the last with auto-precharge (R334). -/
def issueReq (k : Nat) (w : HbmWait) (d : Dev) : Dev :=
  let r := w.req
  let bs := burstsOf r
  let op (last : Bool) : Nat := if r.write then (if last then 4 else 2) else (if last then 3 else 1)
  let cmds := d.mkCmd 0 r.bank r.port.val 0 r.addr ::
    bs.zipIdx.map fun p => d.mkCmd (op (p.2 + 1 == bs.length)) r.bank r.port.val 0 (hbmUnit r.addr + 64 * p.1)
  let d1 := d.modCh k fun c => { c with
    bank := r.bank, group := if r.write then c.group % 16 + 1 else 0
    reqs := c.reqs.map fun (x : HbmWait) => if x.id == w.id then { x with issued := true } else x }
  cmds.foldl (fun (x : Dev) m => x.emit (.dram k m.op r.addr)) (logCmds k cmds d1)

/-- Step 1 of R341 with R343: a refresh that cannot be postponed again, then one that fits a gap; whether one was issued. -/
def refreshStep (k : Nat) (d : Dev) : Bool × Dev :=
  let c := d.getCh k
  let every := Config.refreshTicks (d.getStack (k / 32)).temp
  let dueNow := decide (c.refAt ≤ d.now)
  if dueNow && c.refLate == 8 then (true, issueRefresh k (d.modCh k fun x => { x with refAt := d.now + every }))
  else
    let d1 := if dueNow then d.modCh k fun x => { x with refAt := d.now + every, refLate := x.refLate + 1 } else d
    let busy := c.reqs.any fun w => !w.issued && decide (2 ≤ d.urgency w.req.port.val w.at_)
    if decide (0 < (d1.getCh k).refLate) && !busy then
      (true, issueRefresh k (d1.modCh k fun x => { x with refLate := x.refLate - 1 }))
    else (false, d1)

/-- CHANNEL_COMMAND_SLOT: one slot of a channel's sequencer; a command/address parity error of the command freezes the channel (R353). -/
def commandSlot (k : Nat) (parityError : Bool) (d : Dev) : Dev :=
  if !d.chOpen k || (d.getStack (k / 32)).sr != .awake then d
  else
    let r := refreshStep k d
    let fail (x : Dev) (a : Option Nat) : Dev :=
      if parityError then
        freeze k 3 a (x.modCh k fun c => { c with
          log := c.log.dropLast ++ (c.log.getLast?.toList.map fun (m : HbmCmd) => { m with flags := m.flags ||| 1 }) })
      else x
    if r.1 then fail r.2 none
    else
      match r.2.pickReq (r.2.getCh k) with
      | none => r.2
      | some w => fail (issueReq k w r.2) none

/-- REFRESH_DEADLINE: a refresh postponed 8 times is issued first (R343). -/
def refreshDeadline (k : Nat) (d : Dev) : Dev :=
  let c := d.getCh k
  if d.chOpen k && decide (c.refAt ≤ d.now) && c.refLate == 8 then (refreshStep k d).2 else d

/-! ### Completion and errors (R342, R349-R353) -/

def eccCe (k a : Nat) (d : Dev) : Dev := (d.modCh k fun c => { c with ce := c.ce + 1 }).raise 0x0900 sevInfo 0 [f8 a]
def eccUe (k a : Nat) (d : Dev) : Dev := (d.modCh k fun c => { c with ue := c.ue + 1 }).raise 0x0901 sevMajor 0 [f8 a, fByte (Config.eccCode 4)]

/-- What the access meets at granule `g`: poison in the store shows as such. -/
def meetAt (d : Dev) (meet : List HbmMeet) (g : Nat) : HbmMeet :=
  match meet.getD (g / 32 % 8) .ok with
  | .parity => .parity
  | m => if d.poisoned (g / 32) then .poison else m

/-- A write also reaches the other copy of a duplicated unit, or marks it for rebuild (R337, R354). -/
def writeCopy (r : HbmReq) (d : Dev) : Dev :=
  let u := hbmUnit r.addr
  match d.areaAt u with
  | .dup q => if d.serves (hbmChOf q) q then applyWrite r (fun a => a - u + q) d else markUnit q d
  | _ => d

/-- A read meets poison: a packet cell is rebuilt and written back, a duplicated unit comes from its copy and is repaired, a single-copy
area fails (R352). -/
def readPoison (w : HbmWait) (d : Dev) : Dev :=
  let u := hbmUnit w.req.addr
  match d.elsewhere u with
  | (some b, d1) =>
    let d2 := hbmWrite u b d1
    hbmAnswer w (pickGranules w.req b) true ((List.range 8).foldl (fun (x : Dev) i => setPoison (u / 32 + i) false x) d2)
  | (none, d1) => hbmAnswer w [] false (lostUpdate (hbmChOf u) w.req.port.val d1)

/-- The granules of a write one after another (R351): the device, whether the write failed, and the granule that freezes the channel. -/
def writeGranules (k : Nat) (r : HbmReq) (meet : List HbmMeet) : List Nat → Dev → Bool → Dev × Bool × Option Nat
  | [], d, bad => (d, bad, none)
  | g :: t, d, bad =>
    let bs := granuleBytes r g
    let put (x : Dev) : Dev := bs.foldl (fun (y : Dev) p => y.hbmPutByte p.1 p.2) x
    if bs.length = 32 then writeGranules k r meet t (setPoison (g / 32) false (put d)) bad
    else match d.meetAt meet g with
      | .ce => writeGranules k r meet t (put (eccCe k g d)) bad
      | .ue => (eccUe k g (setPoison (g / 32) true d), true, some g)
      | .poison => writeGranules k r meet t (setPoison (g / 32) true d) true
      | _ => writeGranules k r meet t (put d) bad

/-- HBM_REQUEST_COMPLETE: an issued access completes with what its granules met. -/
def requestComplete (k id : Nat) (meet : List HbmMeet) (d0 : Dev) : Dev :=
  match (d0.getCh k).reqs.find? fun w => w.id == id && w.issued with
  | none => d0
  | some w =>
    let r := w.req
    let gs := granulesOf r
    let u := hbmUnit r.addr
    let d := d0.modCh k fun c => { c with
      reqs := c.reqs.filter (·.id != id)
      written := if c.thaw == .rebuild && r.write && !c.written.contains u then u :: c.written else c.written }
    let s := k / 32
    let fin (x : Dev) : Dev := drainStack s (x.modStack s fun y => { y with workAt := x.now })
    if gs.any fun g => d.meetAt meet g == .parity then fin (serveElsewhere w (freeze k 3 none d))
    else if r.write then
      let o := writeGranules k r meet gs d false
      match o.2.2 with
      | some g => fin (freeze k 2 (some g) (hbmAnswer w [] false o.1))
      | none => fin (hbmAnswer w [] (!o.2.1) (writeCopy r o.1))
    else
      let d1 := gs.foldl (fun (x : Dev) g => if x.meetAt meet g == .ce then eccCe k g x else x) d
      match gs.find? fun g => d1.meetAt meet g == .ue with
      | some g => fin (serveElsewhere w (freeze k 1 (some g) (eccUe k g d1)))
      | none => if gs.any fun g => d1.meetAt meet g == .poison then fin (readPoison w d1)
                else fin (hbmAnswer w (pickGranules r (d1.hbmRead u 256)) true d1)

/-! ### Self-refresh and training (R344-R348) -/

/-- SELF_REFRESH_ENTRY: a stack with no work for the idle time, and 10 µs after its last exit. -/
def selfRefreshEntry (s : Nat) (d : Dev) : Dev :=
  let x := d.getStack s
  let busy := !x.wait.isEmpty || d.hbm.ch.any fun c => decide (c.1 / 32 = s) && !c.2.reqs.isEmpty
  if x.sr == .awake && d.hbm.idleUs != 0 && !busy && decide (x.workAt + usT d.hbm.idleUs ≤ d.now) && decide (x.exitAt + usT 10 ≤ d.now) then
    d.modStack s fun y => { y with sr := .asleep }
  else d

/-- SELF_REFRESH_EXIT: the exit of a stack that is leaving, or must leave, ends; its requests go on. -/
def selfRefreshExit (s : Nat) (d : Dev) : Dev :=
  let x := d.getStack s
  if x.sr == .leaving || (x.sr == .asleep && d.mustWake s) then
    drainStack s (d.modStack s fun y => { y with sr := .awake, exitAt := d.now, workAt := d.now })
  else d

/-- MEM_SET_TRAINING completes once every channel uses its mode (Table 10.9). -/
def trainingEnds (d : Dev) : Dev := if d.hbm.ch.any fun c => c.2.pendMode.isSome then d else d.finish 0x0505 0 {}

/-- RETRAIN_PAUSE: due once per second in native mode, or to change the mode; taken while no request at urgency 2 or above waits, and
regardless once 200 ms overdue (R347, R348). -/
def retrainPause (k : Nat) (d : Dev) : Dev :=
  let c := d.getCh k
  let s := k / 32
  let dueNow := decide (c.retrainAt ≤ d.now) && (c.legacy.isNone || c.pendMode.isSome)
  let urgent := c.reqs.any fun w => decide (2 ≤ d.urgency w.req.port.val w.at_)
  let overdue := decide (c.retrainAt + msT 200 < d.now)
  if !dueNow || (d.getStack s).sr != .awake || (urgent && !overdue) then d
  else
    let d1 := d.modCh k fun x => { x with
      retrained := d.nowNs, retrainAt := d.now + secT 1, forced := if overdue then x.forced + 1 else x.forced }
    match c.pendMode with
    | none => logCmds k [d.mkCmd 7 0 255 0 0] d1
    | some m =>
      let d2 := (logCmds k [d.mkCmd 7 0 255 0 0] d1).modCh k fun x => { x with legacy := m, pendMode := none }
      (if m.isSome then d2.modStack s fun y => { y with loadTemp := y.temp, drift := false } else d2).trainingEnds

/-- A stack's temperature readout; in legacy mode a difference of more than 25 °C raises EV_HBM_DRIFT once (R348). -/
def stackTemp (s : Nat) (t : Int) (d : Dev) : Dev :=
  let x := d.getStack s
  let legacy := d.hbm.ch.any fun c => decide (c.1 / 32 = s) && c.2.legacy.isSome
  let d1 := d.modStack s fun y => { y with temp := t }
  if legacy && !x.drift && decide (25 < (t - x.loadTemp).natAbs) then
    (d1.modStack s fun y => { y with drift := true }).raise 0x0507 sevMinor 0 [fIdx s, f8i (t - x.loadTemp)]
  else d1

/-! ### Returning to service (Table 10.6) and retirement (R358) -/

/-- Step 2 of Table 10.6 begins. -/
def beginThaw (k : Nat) (d : Dev) : Dev :=
  d.modCh k fun c => { c with thaw := .training, obj := { c.obj with st := .starting, since := d.nowNs, failed := false } }

/-- THAW_TRAINING_DONE: the held writes are applied in order and the rebuild begins; a failed training freezes with cause 4. -/
def trainingDone (k : Nat) (ok : Bool) (d : Dev) : Dev :=
  let c := d.getCh k
  if c.obj.st != .starting || c.thaw != .training then d
  else if !ok then freeze k 4 none d
  else (c.held.foldl applyHeld d).modCh k fun x => { x with
    thaw := .rebuild, held := [], heldLost := 0, written := [], retrainAt := d.now + secT 1 }

/-- The cells a rebuild puts right: those of used closed stripes on the channel that were not written since. -/
def rebuildCells (k : Nat) (d : Dev) : List Nat :=
  ((d.buf.stripe.filter fun s => s.2.closed && s.1 % 32 == k % 32).map fun s => k / 32 * 2 ^ 34 + 256 * s.1).filter fun u =>
    !(d.getCh k).written.contains u

/-- The units a rebuild puts right: its cells, and marked duplicated units that were not written since. -/
def rebuildUnits (k : Nat) (d : Dev) : Dev :=
  let c := d.getCh k
  let d1 := (rebuildCells k d).foldl (fun (x : Dev) u => hbmWrite u (x.rebuilt u) x) d
  let copy (x : Dev) (u : Nat) : Dev := match x.areaAt u with | .dup q => hbmWrite u (x.hbmRead q 256) x | _ => x
  let d2 := (c.marked.filter fun u => !c.written.contains u).foldl copy d1
  d2.setBuf fun b => { b with stripe := b.stripe.map fun (s : Nat × Stripe) =>
    if s.2.closed && s.1 % 32 == k % 32 && s.1 % 8 == k / 32 then (s.1, { s.2 with parity := true }) else s }

/-- REBUILD_DONE (steps 4 and 5 of Table 10.6): the channel's cells of used stripes and its marked units are right again, granules of single-copy units that read as
uncorrectable are poisoned, and it is RUNNING; a retired channel frees its spare slot. -/
def rebuildDone (k : Nat) (bad : List Nat) (d : Dev) : Dev :=
  let c := d.getCh k
  if c.obj.st != .starting || c.thaw != .rebuild then d
  else
    let cells := (rebuildCells k d).length
    let lost := bad.filter fun g => hbmChOf g == k && d.areaAt g == .single
    let poison := lost.length
    let d1 := (lost.foldl (fun (x : Dev) g => setPoison (g / 32) true x) (rebuildUnits k d)).modCh k fun x => { x with
      thaw := .none, marked := [], written := [], snap := none, slot := none, obj := x.obj.started x.obj.since }
    thawEnds k .ok ((d1.raise 0x0501 sevInfo (chHandle k) [fCnt cells, fCnt poison]).raiseObj (chHandle k) c.obj .running false 0).budgetWatch

/-- The granules of the single-copy units of channel `k`: its share of the areas from 0x3_9780_0000 to the spare area (Table 10.1). -/
def singleGranules (k : Nat) : List Nat :=
  (List.range (1264 * 2 ^ 20 / 8192)).flatMap fun u => (List.range 8).map fun i => k / 32 * 2 ^ 34 + 0x397800000 + 8192 * u + 256 * (k % 32) + 32 * i

/-- RETIRE_SALVAGE_DONE (R358): granules of single-copy units that cannot be read, or all of them where training failed, carry the poison syndrome in the slot;
the held writes are applied to it, the channel is RETIRED and MEM_RETIRE completes. Firmware does it, so that it does not end while the triad is away. -/
def salvageDone (k : Nat) (trained : Bool) (bad : List Nat) (d : Dev) : Dev :=
  let c := d.getCh k
  match if d.fwHeld then none else c.salvage with
  | none => d
  | some n =>
    let lost := if trained then bad.filter fun g => hbmChOf g == k && d.areaAt g == .single else singleGranules k
    let d0 := lost.foldl (fun (x : Dev) g => setPoison (g / 32) true x) d
    let poison := (d0.hbm.poison.filter fun g => hbmChOf (32 * g) == k && d0.areaAt (32 * g) == .single).length
    let d1 := (c.held.foldl applyHeld d0).modCh k fun x => { x with
      salvage := none, slot := some n, held := [], heldLost := 0, marked := [], snap := none
      obj := { x.obj with st := .retired, prev := .retired, since := d.nowNs } }
    let d2 := (d1.raise 0x0502 sevMajor (chHandle k) [fIdx n, fCnt poison]).raiseObj (chHandle k)
      { c.obj with prev := .frozen, since := d.nowNs } .retired false 0
    (d2.finish 0x0508 (chHandle k) {}).budgetWatch

/-- CHANNEL_STOP_DONE: the transactions in flight of a STOPPING channel have completed, or 2 µs have passed (Table 10.7). -/
def chStopDone (k : Nat) (d : Dev) : Dev :=
  let c := d.getCh k
  if c.obj.st != .stopping || !(c.reqs.isEmpty || due d.now c.obj.due) then d
  else
    let o := c.obj.stopped d.nowNs
    let d1 := d.raiseObj (chHandle k) c.obj .stopped (!c.reqs.isEmpty) 0
    d1.modCh k fun x => { x with
      obj := o, reqs := [], thaw := if o.st = .starting then .training else .none, group := 0 }

/-! ### Shedding (R362) -/

/-- The first stack under pressure. -/
def pressed (d : Dev) : Option Nat := (List.range 8).find? fun s => decide (4 ≤ (d.getStack s).press)

def setLevel (n : Nat) (rise : Bool) (s : Nat) (d : Dev) : Dev :=
  (d.setHbm fun h => { h with level := n, levelAt := d.now }).raise 0x0506 (if rise then sevMajor else sevInfo) 0 [f8 n, fIdx s]

/-- SHED_RISE: pressure lasts 100 µs beyond the last change of level. -/
def shedRise (d : Dev) : Dev :=
  match d.pressed with
  | some s => if d.hbm.level < 4 ∧ d.hbm.levelAt + usT 100 ≤ d.now then setLevel (d.hbm.level + 1) true s d else d
  | none => if d.shortfallOn ∧ d.hbm.level < 4 ∧ d.hbm.levelAt + usT 100 ≤ d.now then setLevel (d.hbm.level + 1) true (Config.absent 8) d else d

/-- SHED_FALL: 10 ms in which no stack is under pressure. -/
def shedFall (d : Dev) : Dev :=
  if d.pressed.isNone ∧ !d.shortfallOn ∧ 0 < d.hbm.level ∧ max d.hbm.calmAt d.hbm.levelAt + msT 10 ≤ d.now then
    setLevel (d.hbm.level - 1) false (Config.absent 8) d
  else d

/-- PRESSURE_WINDOW: a window of 25 µs of a stack ends; at least 1% of its requests of P0 to P2 finished late, or not. -/
def pressureWindow (s completed late : Nat) (d : Dev) : Dev :=
  if d.now < (d.getStack s).winAt + usT 25 then d else
  let hit := decide (0 < completed) && decide (completed ≤ 100 * late)
  let was := d.pressed.isSome
  let d1 := d.modStack s fun x => { x with press := if hit then x.press + 1 else 0, winAt := d.now }
  let d2 := if was && d1.pressed.isNone then d1.setHbm fun h => { h with calmAt := d.now } else d1
  d2.shedRise

/-! ### Commands (Table 10.9) -/

/-- MEM_CH_ENABLE (Table 10.7). -/
def memChEnable (c : Cmd) (d : Dev) : Reply :=
  let k := c.hIdx
  let x := d.getCh k
  check d [(c.bad 0x15, .badHandle), (c.dirty 0 32, .badArg)]
    (match x.obj.st with
     | .running => .done d {}
     | .stopped => .done (beginThaw k d) { status := .pending }
     | .retired => .done (beginThaw k d) { status := .pending }
     | .stopping => .done (d.modCh k fun y => { y with obj := { y.obj with held := true } }) { status := .deferred }
     | _ => .done d { status := .refusedBusy })

/-- MEM_CH_DISABLE (Table 10.7, R355). -/
def memChDisable (c : Cmd) (d : Dev) : Reply :=
  let k := c.hIdx
  let x := d.getCh k
  let un := x.reqs.filter fun w => !w.issued
  let stop (e : Dev) : Dev :=
    let e1 := e.modCh k fun y => { y with
      obj := y.obj.beginStop d.nowNs (d.now + usT 2) false, reqs := y.reqs.filter (·.issued), thaw := .none }
    un.foldl (fun (z : Dev) w => serveElsewhere w z) e1.budgetWatch
  check d [(c.bad 0x15, .badHandle), (c.dirty 0 32, .badArg), (x.obj.st == .running && (d.otherDown k).isSome, .refusedBusy),
      (x.obj.st == .frozen && x.salvage.isSome, .refusedBusy)]
    (match x.obj.st with
     | .running => .done (stop d) {}
     | .starting => .done (stop (thawEnds k .cancelled d)) {}
     | .stopping => .done (d.modCh k fun y => { y with obj := { y.obj with held := false, cancelled := y.obj.cancelled || y.obj.held } }) {}
     | .stopped => .done d {}
     | .frozen =>
       let d1 := d.raiseObj (chHandle k) { x.obj with prev := .frozen, since := d.nowNs } .stopped false 0
       .done (d1.modCh k fun y => { y with snap := none, obj := { y.obj with st := .stopped, prev := .stopped, since := d.nowNs } }) {}
     | .retired => .done d { status := .refusedBusy })

/-- A percentile of latencies: the smallest that at least `num`/`den` of them do not exceed; 0 with none. -/
def percentile (l : List Nat) (num den : Nat) : Nat :=
  let s := l.insertionSort (· ≤ ·)
  s.getD ((num * s.length + den - 1) / den - 1) 0

/-- MEM_GET_STATUS (Table 10.9, R514). -/
def memGetStatus (c : Cmd) (d : Dev) : Reply :=
  let chans := if c.hType == 0x15 then [c.hIdx] else List.range 256
  let ch (k : Nat) : List Fld :=
    let x := d.getCh k
    [fByte x.obj.st.code, f8i (d.getStack (k / 32)).temp, fCnt x.forced, fCnt x.ce, fCnt x.ue, fCnt x.lost]
  let port (p : Nat) : List Fld :=
    let l := tgetD d.hbm.lat [] p
    [f8 (percentile l 50 100), f8 (percentile l 99 100), f8 (percentile l 9999 10000), fCnt (tgetD d.hbm.miss 0 p)]
  check d [((if c.hType == 0x15 then c.bad 0x15 else c.bad 0x00), .badHandle), (c.dirty 0 28, .badArg)]
    (statusReply c d (fArr (chans.map ch) ++ fArr ((List.range 8).map port) ++ [fByte d.hbm.level, f8 (5625 * d.hbmRunning)]))

/-- MEM_SET_PORT (R364, R360). -/
def memSetPort (c : Cmd) (d : Dev) : Reply :=
  let p := c.f 0 1; let t := c.f 4 4; let r := c.f 8 4
  let rg := hbmPortRange p
  let keep := r == 0xFFFFFFFF
  let bad := decide (7 < p) || c.dirty 1 3 || c.dirty 12 20 || (t != 0 && (decide (t < rg.1) || decide (rg.2.1 < t))) ||
    (!keep && (decide (p < 2) || decide (14400 < r)))
  let d1 := d.setHbm fun h => { h with port := h.port.zipIdx.map fun (x : HbmPort × Nat) =>
    if x.2 = p then { target := if t = 0 then x.1.target else t, reserve := if keep then x.1.reserve else r } else x.1 }
  check d [(c.bad 0x00, .badHandle), (bad, .badArg), (!d1.hbmBudgetOk, .budgetExceeded)] (.done d1.budgetWatch {})

/-- MEM_SET_POWER (R344). -/
def memSetPower (c : Cmd) (d : Dev) : Reply :=
  let t := c.f 0 4
  check d [(c.bad 0x00, .badHandle), ((t != 0 && decide (t < 10)) || decide (1000000 < t) || c.dirty 4 28, .badArg)]
    (.done (d.setHbm fun h => { h with idleUs := t }) {})

/-- A delay record of Table 10.3 for channel `k` is well formed. -/
def delayOk (b : Bytes) (k : Nat) : Bool :=
  field b 0 2 == k && isZero b 3 1 && isZero b 36 28 &&
  (List.range 8).all fun i => decide (field b (6 + 4 * i) 1 ≤ 200) && decide (field b (7 + 4 * i) 1 ≤ 200)

/-- MEM_SET_TRAINING (R348). -/
def memSetTraining (pl : HostRead) (c : Cmd) (d : Dev) : Reply :=
  let m := c.f 0 1
  let recs (k : Nat) : Bytes := slice (pl.getD []) (64 * k) 64
  let bad := decide (1 < m) || c.dirty 1 31 || (m == 1 && (pl.isNone || !(List.range 256).all fun k => delayOk (recs k) k))
  let want (k : Nat) : Option Bytes := if m = 1 then some (recs k) else none
  let put (x : Dev) (k : Nat) : Dev :=
    let y := x.getCh k
    let new := if y.legacy = want k then none else some (want k)
    if y.pendMode = new then x else (x.noteWrite c.intake (.training k y.pendMode)).modCh k fun y => { y with pendMode := new }
  let d1 := (List.range 256).foldl put (d.setHbm fun h => { h with mode := m == 1 })
  check d [(c.bad 0x00, .badHandle), (bad, .badArg), ((d.startedCmd 0x0505 fun _ => true).isSome, .refusedBusy)]
    (if d1.hbm.ch.any fun x => x.2.pendMode.isSome then .pend d1 else .done d1 {})

/-- A log entry of Table 10.5. -/
def cmdBytes (m : HbmCmd) : Bytes := le 4 m.ns ++ le 1 m.op ++ le 1 m.bank ++ le 1 m.port ++ le 1 m.flags ++ le 4 m.row ++ le 2 m.col ++ le 2 0

/-- MEM_GET_SNAPSHOT (Table 10.5). The trained values of native mode are open (log 4). -/
def memGetSnapshot (c : Cmd) (d : Dev) : Reply :=
  let k := c.hIdx
  let x := d.getCh k
  check d [(c.bad 0x15, .badHandle), (c.dirty 0 32, .badArg), (x.obj.st != .frozen || x.snap.isNone, .notReady)]
    (match x.snap with
     | none => .done d { status := .notReady }
     | some s =>
       let tr : Bytes × Dev := match x.legacy with
         | some b => (b, d)
         | none => let o := d.openBytes 33; (le 2 k ++ o.1.take 1 ++ [0] ++ o.1.drop 1 ++ List.replicate 28 0, o.2)
       .done (tr.2.modCh k fun y => { y with snapRead := true }) { record := some (
         le 2 k ++ le 1 s.cause ++ le 1 0 ++ le 4 s.discarded ++ le 8 (s.addr.getD 0xFFFFFFFFFFFFFFFF) ++ ts12 s.time ++ le 4 0 ++
         s.syndrome.flatMap (le 4) ++ slice (s.cmds.flatMap cmdBytes) 0 1024 ++ slice tr.1 0 64 ++ le 8 x.retrained ++
         leInt 1 (d.getStack (k / 32)).temp ++ List.replicate 375 0) })

/-- The force bit of MEM_THAW and MEM_RETIRE, and the payload's reserved bits (R356). -/
def forceBad (c : Cmd) : Bool := decide (1 < c.f 0 1) || c.dirty 1 31
def needSnapshot (x : HbmCh) (c : Cmd) : Bool := !bit (c.f 0 1) 0 && !x.snapRead

/-- MEM_THAW (R356, R357, Table 10.7). -/
def memThaw (c : Cmd) (d : Dev) : Reply :=
  let x := d.getCh c.hIdx
  check d [(c.bad 0x15, .badHandle), (forceBad c, .badArg), (x.obj.st == .frozen && needSnapshot x c, .notReady),
      (x.obj.st != .frozen || x.salvage.isSome, .refusedBusy)]
    (.pend (beginThaw c.hIdx (d.noteWrite c.intake (.chan c.hIdx x))))

/-- Spare slots in use or being filled on a stack (R358). -/
def slotsUsed (d : Dev) (s : Nat) : List Nat :=
  (d.hbm.ch.filter fun c => decide (c.1 / 32 = s)).flatMap fun c => c.2.slot.toList ++ c.2.salvage.toList

/-- MEM_RETIRE (R356, R358): the lowest free spare slot (log 12). -/
def memRetire (c : Cmd) (d : Dev) : Reply :=
  let k := c.hIdx
  let x := d.getCh k
  let free := x.slot.toList ++ (List.range 3).filter fun n => !(d.slotsUsed (k / 32)).contains n
  check d [(c.bad 0x15, .badHandle), (forceBad c, .badArg), (x.obj.st == .frozen && needSnapshot x c, .notReady),
      (x.obj.st != .frozen || x.salvage.isSome, .refusedBusy), (free.isEmpty, .noSpace)]
    (.pend ((d.noteWrite c.intake (.slot k x.slot)).modCh k fun y => { y with salvage := free.head?, slot := none }))

end Dev

/-! ### Meanings -/

/-- HBM_REQUEST. -/
def execHbmRequest (r : HbmReq) (s : State) : Out := s.onDev (Dev.hbmRequest r)
/-- CHANNEL_COMMAND_SLOT. -/
def execChannelCommandSlot (ch : Fin 256) (parityError : Bool) (s : State) : Out := s.onDev (Dev.commandSlot ch parityError)
/-- HBM_REQUEST_COMPLETE. -/
def execHbmRequestComplete (ch : Fin 256) (id : Nat) (meet : List HbmMeet) (s : State) : Out := s.onDev (Dev.requestComplete ch id meet)
/-- REFRESH_DEADLINE. -/
def execRefreshDeadline (ch : Fin 256) (s : State) : Out := s.onDev (Dev.refreshDeadline ch)
/-- SELF_REFRESH_ENTRY. -/
def execSelfRefreshEntry (st : Fin 8) (s : State) : Out := s.onDev (Dev.selfRefreshEntry st)
/-- SELF_REFRESH_EXIT. -/
def execSelfRefreshExit (st : Fin 8) (s : State) : Out := s.onDev (Dev.selfRefreshExit st)
/-- RETRAIN_PAUSE. -/
def execRetrainPause (ch : Fin 256) (s : State) : Out := s.onDev (Dev.retrainPause ch)
/-- THAW_TRAINING_DONE. -/
def execThawTrainingDone (ch : Fin 256) (ok : Bool) (s : State) : Out := s.onDev (Dev.trainingDone ch ok)
/-- REBUILD_DONE of channel `ch` of stack `st`: a retirement that ends leaves the persisted configuration (R358, R594). -/
def execRebuildDone (st : Fin 8) (ch : Fin 32) (bad : List Nat) (s : State) : Out :=
  let k := 32 * st.val + ch.val
  let c := s.dev.getCh k
  let back := c.obj.st == .starting && c.thaw == .rebuild && c.slot.isSome
  .next { s with
    dev := Dev.rebuildDone k bad s.dev
    nv := if back then s.dev.persist s.nv fun p => { p with retired := p.retired.filter (· != k) } else s.nv }
/-- RETIRE_SALVAGE_DONE, with the granules that cannot be read, or none where training failed: the retirement is recorded in the persisted
configuration (R358, R594). -/
def execRetireSalvageDone (ch : Fin 256) (bad : Option (List Nat)) (s : State) : Out :=
  .next { s with
    dev := Dev.salvageDone ch bad.isSome (bad.getD []) s.dev
    nv := if (s.dev.getCh ch).salvage.isSome && !s.dev.fwHeld then
            s.dev.persist s.nv fun p => { p with retired := p.retired.filter (· != ch.val) ++ [ch.val] }
          else s.nv }
/-- CHANNEL_STOP_DONE. -/
def execChannelStopDone (ch : Fin 256) (s : State) : Out := s.onDev (Dev.chStopDone ch)
/-- PRESSURE_WINDOW. -/
def execPressureWindow (st : Fin 8) (completed late : Nat) (s : State) : Out := s.onDev (Dev.pressureWindow st completed late)
/-- SHED_RISE. -/
def execShedRise (s : State) : Out := s.onDev Dev.shedRise
/-- SHED_FALL. -/
def execShedFall (s : State) : Out := s.onDev Dev.shedFall
/-- MEM_CH_ENABLE, opcode 0x0500. -/
def execMemChEnable (src : Src) (s : State) : Out := s.onDev (Dev.runCmd 0x0500 src Dev.memChEnable)
/-- MEM_CH_DISABLE, opcode 0x0501. -/
def execMemChDisable (src : Src) (s : State) : Out := s.onDev (Dev.runCmd 0x0501 src Dev.memChDisable)
/-- MEM_GET_STATUS, opcode 0x0502. -/
def execMemGetStatus (src : Src) (s : State) : Out := s.onDev (Dev.runCmd 0x0502 src Dev.memGetStatus)
/-- MEM_SET_PORT, opcode 0x0503. -/
def execMemSetPort (src : Src) (s : State) : Out := s.onDev (Dev.runCmd 0x0503 src Dev.memSetPort)
/-- MEM_SET_POWER, opcode 0x0504. -/
def execMemSetPower (src : Src) (s : State) : Out := s.onDev (Dev.runCmd 0x0504 src Dev.memSetPower)
/-- MEM_SET_TRAINING, opcode 0x0505: the delay records are part of the persisted configuration (R594). -/
def execMemSetTraining (src : Src) (pl : HostRead) (s : State) : Out :=
  let d := Dev.runCmd 0x0505 src (Dev.memSetTraining pl) s.dev
  let recs : Tab Bytes := if d.hbm.mode then (List.range 256).filterMap fun k =>
      (((d.getCh k).pendMode.getD (d.getCh k).legacy).map fun b => (k, b)) else []
  .next { s with
    dev := d
    nv := if d.hbm == s.dev.hbm then s.nv else s.dev.persist s.nv fun p => { p with legacy := recs } }
/-- MEM_GET_SNAPSHOT, opcode 0x0506. -/
def execMemGetSnapshot (src : Src) (s : State) : Out := s.onDev (Dev.runCmd 0x0506 src Dev.memGetSnapshot)
/-- MEM_THAW, opcode 0x0507. -/
def execMemThaw (src : Src) (s : State) : Out := s.onDev (Dev.runCmd 0x0507 src Dev.memThaw)
/-- MEM_RETIRE, opcode 0x0508. -/
def execMemRetire (src : Src) (s : State) : Out := s.onDev (Dev.runCmd 0x0508 src Dev.memRetire)

end Sys2Proof.Machine
end

