-- ==== Sys2Proof/Machine/Host.lean ====
section
/-! DEFINITION. The host interface: PCIe, BAR0, rings, mailboxes, interrupts, the interface reset and the commands of
chapter "Host interface" (R476-R506). -/

namespace Sys2Proof.Machine
namespace Dev

/-! ### State word -/

/-- HIF_STATE.STATE (Table 15.4); 0, not a listed code, while the endpoint has not answered. -/
def stateCode (d : Dev) : Nat :=
  if d.hif.reset.isSome then 4 else if d.hif.chrysalis then 3 else if !d.hif.up then 0 else if d.hif.headless then 2 else 1

/-! ### PCIe (R476, R477, R501) -/

/-- The configuration state after a PCIe function reset. -/
def cfgReset (d : Dev) : Dev :=
  { d with hif := { d.hif with
      msixEnable := false, msixFuncMask := false, msixUnmasked := [], msixPending := [], msixEntry := [], busMaster := false
      memEnable := false, bar0 := 0, bar2 := 0, mps := 0, mrrs := 2, d3hot := false } }

/-- What a configuration read of a register of Table 15.1 returns. The places of the fields within their words are those of the PCIe Base
Specification (PRESUMED, log 118); where it also sets bits the manual does not speak of, they read 0. -/
def cfgRead (d : Dev) : CfgReg → BitVec 32
  | .ids => 0x7100#16 ++ Config.vendorId
  | .command => BitVec.ofNat 32 (2 * b2n d.hif.memEnable + 4 * b2n d.hif.busMaster)
  | .classRev => 0x028000A1
  | .bar false false => d.hif.bar0.setWidth 32 ||| 4
  | .bar true false => d.hif.bar2.setWidth 32 ||| 4
  | .bar false true => (d.hif.bar0 >>> 32).setWidth 32
  | .bar true true => (d.hif.bar2 >>> 32).setWidth 32
  | .otherBar | .rom | .intPin | .other => 0
  | .msixControl => BitVec.ofNat 32 (63 + 2 ^ 14 * b2n d.hif.msixFuncMask + 2 ^ 15 * b2n d.hif.msixEnable)
  | .msixTable => 0x00000002
  | .msixPba => 0x00008002
  | .powerState => if d.hif.d3hot then 3 else 0
  | .deviceControl => (d.hif.mps.setWidth 32 <<< 5) ||| (d.hif.mrrs.setWidth 32 <<< 12)

/-- Messages held in the pending-bit array go out where no mask holds them any more: those of active vectors are sent, the
others dropped (R494). -/
def msixFlush (d : Dev) : Dev :=
  (d.hif.msixPending.filter fun v => d.hif.msixEnable && !d.hif.msixFuncMask && d.hif.msixUnmasked.contains v).foldl
    (fun x v =>
      let y := { x with hif := { x.hif with msixPending := x.hif.msixPending.filter (· != v) } }
      if y.hif.active.contains v then y.vecSend v else y) d

/-- A configuration request (R477): retry status before the endpoint answers, normal completion afterwards. A field that Table 15.1 does
not speak of reads an open value, and a payload or read request size outside Table 15.1 leaves the field as it is (log 118). -/
def pcieConfigRequest (q : CfgReq) (d : Dev) : Dev :=
  if !d.hif.answers then d.emit (.cfgReply true none)
  else
    let d1 := d.emit (.cfgReply false (match q with
      | .read .other => some ((Config.free d.fresh).setWidth 32)
      | .read r => some (d.cfgRead r)
      | _ => none))
    match q with
    | .read .other => d1.openVal.2
    | .read _ | .other => d1
    | .bar false b => { d1 with hif := { d1.hif with bar0 := b &&& ~~~0x3FFFFF } }
    | .bar true b => { d1 with hif := { d1.hif with bar2 := b &&& ~~~0xFFFF } }
    | .memEnable on => { d1 with hif := { d1.hif with memEnable := on } }
    | .sizes p r => { d1 with hif := { d1.hif with mps := if p ≤ 2 then p else d1.hif.mps, mrrs := if r ≤ 5 then r else d1.hif.mrrs } }
    | .msixControl e f => ({ d1 with hif := { d1.hif with msixEnable := e, msixFuncMask := f } }).msixFlush
    | .busMasterEnable => { d1 with hif := { d1.hif with busMaster := true } }
    | .d0 => { d1 with hif := { d1.hif with d3hot := false } }

/-- A trigger of the interface reset: it starts one and halts DMA channels 0 to 13, or joins the one in progress (R501, R549, Table 15.17
steps 1 and 2). -/
def ifaceReset (t : ResetTrigger) (m : Option (Fin 8)) (d : Dev) : Dev :=
  if !d.hif.answers then d
  else
    match d.hif.reset with
    | some i => { d with hif := { d.hif with reset := some { i with mboxes := i.mboxes ++ m.toList } } }
    | none =>
      let d1 := ({ d with hif := { d.hif with reset := some { trigger := t, mboxes := m.toList, lost := 0 } } }).setCause 42
      (List.range 14).foldl (fun (x : Dev) k => (x.dmaHaltCh k).2) d1

/-- FLR: the interface reset, and the PCIe configuration state reset even when it joins (R501). -/
def flr (d : Dev) : Dev := if d.hif.answers then (d.ifaceReset .flr none).cfgReset else d

/-- Clearing Bus Master Enable. -/
def busMasterDisable (d : Dev) : Dev :=
  if d.hif.answers && d.hif.busMaster then
    ({ d with hif := { d.hif with busMaster := false } }).ifaceReset .busMaster none else d

/-- Entry to D3hot. -/
def d3hotEntry (d : Dev) : Dev :=
  if d.hif.answers then ({ d with hif := { d.hif with d3hot := true } }).ifaceReset .d3hot none else d

/-- The mailbox a command was issued through, if one. -/
def cmdMbox (c : Cmd) : Option (Fin 8) := match c.src with | .mbox m => some m | .ring _ => none

/-- A mailbox at step 3: CANCELLED and without GO, unless its HIF_IFACE_RESET joined the reset. -/
def mboxCancel (joined : List (Fin 8)) (d : Dev) (m : Fin 8) : Dev :=
  let b := tgetD d.hif.mbox {} m
  if b.go && !joined.contains m then
    { d with hif := { d.hif with
        mbox := tset d.hif.mbox {} m { b with go := false, attached := false, status := Status.cancelled.code } } }
  else d

/-- Steps 3 and 4 of Table 15.17, once commands in execution leave host memory alone. -/
def ifaceResetQuiesced (d : Dev) : Dev :=
  match d.hif.reset with
  | none => d
  | some i =>
    let keep (c : Cmd) : Bool := match cmdMbox c with | some m => i.mboxes.contains m | none => false
    let n := i.lost + (d.hif.cmds.filter fun c => !c.detached && (cmdMbox c).isNone).length
    let d1 := (List.finRange 8).foldl (mboxCancel i.mboxes) d
    let d2 : Dev := { d1 with hif := { d1.hif with
      sq := [], cq := [], ev := none, punt := [], inj := []
      cmds := d1.hif.cmds.map fun c => if keep c then c else { c with detached := true }
      cause := 0, mask := BitVec.allOnes 43, vector := (List.range 43).map (BitVec.ofNat 6), gap := []
      active := [], gapHeld := [], resets := (d1.hif.resets + 1) % 256, reset := none } }
    let d3 := (d2.setCause 42).raise 0x0006 sevInfo 0
      [fByte (match i.trigger with | .mailbox => 0 | .flr => 1 | .hotReset => 2 | .linkDown => 3 | .busMaster => 4 | .d3hot => 5),
       fCnt n]
    (d3.hif.cmds.filter fun c => c.opcode == 3 && c.started && keep c).foldl (fun x c => x.complete c { result := n }) d3

/-! ### Doorbells (R481) -/

/-- EV_HIF_RING_FAULT (Table 15.21): cause 0 a doorbell value, 1 a failed read. -/
def ringFault (d : Dev) (kind idx cause : Nat) : Dev :=
  d.raise 0x0005 sevMajor 0 [fByte kind, fIdx idx, fByte cause]

/-- A head written by the host stays within the entries the device has written. -/
def headOk (size head tail v : Nat) : Bool :=
  decide (v < size) && decide ((v + size - head) % size ≤ (tail + size - head) % size)

/-- A doorbell access has an effect: the endpoint answers and no interface reset runs (R481). -/
def dbOpen (d : Dev) : Bool := d.hif.answers && d.hif.reset.isNone

/-- SQ_TAIL of ring `r` (R488, R481, R492). -/
def sqTailWrite (r v : Nat) (d0 : Dev) : Dev :=
  if !d0.dbOpen then d0
  else
    let d := d0.quietExit
    match tget d.hif.sq r with
    | none => d.ringFault 0 r 0
    | some q =>
      if q.stopped then d
      else if v < q.size then
        { d with hif := { d.hif with sq := tput d.hif.sq r { q with tail := v }, dbSqTail := tset d.hif.dbSqTail 0 r v } }
      else d.ringFault 0 r 0

/-- CQ_HEAD of ring `r` (R489, R481). -/
def cqHeadWrite (r v : Nat) (d0 : Dev) : Dev :=
  if !d0.dbOpen then d0
  else
    let d := d0.quietExit
    match tget d.hif.cq r with
    | none => d.ringFault 1 r 0
    | some q =>
      if headOk q.size q.head q.tail v then
        { d with hif := { d.hif with cq := tput d.hif.cq r { q with head := v }, dbCqHead := tset d.hif.dbCqHead 0 r v } }
      else d.ringFault 1 r 0

/-- AUX0 of block `i` below 8: head of punt ring `i` (R496, R481). -/
def puntHeadWrite (i v : Nat) (d0 : Dev) : Dev :=
  if !d0.dbOpen then d0
  else
    let d := d0.quietExit
    match tget d.hif.punt i with
    | none => d.ringFault 3 i 0
    | some q =>
      if headOk q.size q.head q.tail v then
        { d with hif := { d.hif with punt := tput d.hif.punt i { q with head := v }, dbAux0 := tset d.hif.dbAux0 0 i v } }
      else d.ringFault 3 i 0

/-- AUX0 of block `8 + i`: tail of inject ring `i` (R498, R481). -/
def injectTailWrite (i v : Nat) (d0 : Dev) : Dev :=
  if !d0.dbOpen then d0
  else
    let d := d0.quietExit
    match tget d.hif.inj i with
    | none => d.ringFault 4 i 0
    | some q =>
      if v < q.size then
        { d with hif := { d.hif with inj := tput d.hif.inj i { q with tail := v }, dbAux0 := tset d.hif.dbAux0 0 (8 + i) v } }
      else d.ringFault 4 i 0

/-- AUX1 of block 0: head of the event ring (R495, R481). -/
def eventHeadWrite (v : Nat) (d0 : Dev) : Dev :=
  if !d0.dbOpen then d0
  else
    let d := d0.quietExit
    match d.hif.ev with
    | none => d.ringFault 2 0 0
    | some q =>
      if headOk q.size q.head q.tail v then
        { d with hif := { d.hif with ev := some { q with head := v }, dbAux1 := v } }
      else d.ringFault 2 0 0

/-! ### Mailboxes (R483, R484) -/

/-- The command a mailbox's DATA spells (Table 15.22). -/
def mboxCmd (m : Fin 8) (b : Mbox) (op n : Nat) : Cmd :=
  { src := .mbox m, ring := 0, intake := n, opcode := op, fence := false, noIrq := false
    handle := if ownLayout op then 0 else field b.data 0 8, payload := if ownLayout op then 0 else field b.data 8 8
    inl := if ownLayout op then b.data else slice b.data 16 32 }

/-- MB_CTRL of mailbox `m`: with GO = 1 the command is taken in (R483, R463); an opcode not listed completes at once (R515). -/
def mbCtrlWrite (m : Fin 8) (w : BitVec 32) (d : Dev) : Dev :=
  let b := tgetD d.hif.mbox {} m
  if !d.hif.answers || b.go then d
  else
    let op := w.toNat % 65536
    let go := w.getLsbD 31
    let b' := { b with opcode := op, go := go, attached := go }
    let d1 := { d with hif := { d.hif with mbox := tset d.hif.mbox {} m b' } }
    if !go then d1
    else
      let c := mboxCmd m b op d.hif.intake
      let q := d1.quietExit
      let d2 : Dev := { q with hif := { q.hif with cmds := q.hif.cmds ++ [c], intake := q.hif.intake + 1 } }
      (if isOpcode op then d2 else d2.complete c { status := .badArg }).logIn (.mbox m op b.data)

/-- A word of DATA; writes while GO is 1 are ignored (R483). -/
def mbDataWrite (m : Fin 8) (off : Nat) (v : Bytes) (d : Dev) : Dev :=
  let b := tgetD d.hif.mbox {} m
  if b.go then d else { d with hif := { d.hif with mbox := tset d.hif.mbox {} m { b with data := patch b.data off v } } }

/-! ### Interrupt registers (R494) -/

/-- Writing 1s to HIF_INT_CAUSE. -/
def intCauseWrite (v : BitVec 64) (d : Dev) : Dev :=
  if d.hif.answers then
    ({ d with hif := { d.hif with cause := d.hif.cause &&& ~~~(v.setWidth 43) } }).vecUpdateAll else d

/-- Writing HIF_INT_MASK. -/
def intMaskWrite (v : BitVec 64) (d : Dev) : Dev :=
  ({ d with hif := { d.hif with mask := v.setWidth 43 } }).vecUpdateAll

/-- The end of a vector's GAP (R494). -/
def msixGapExpiry (v : Nat) (d : Dev) : Dev :=
  if d.hif.gapHeld.contains v && !d.vecInGap v then
    ({ d with hif := { d.hif with gapHeld := d.hif.gapHeld.filter (· != v) } }).vecSend v else d

/-- A write of a vector's entry in the BAR2 table: message address, message data and mask (R476, R494). -/
def msixVectorMask (v : Nat) (addr : BitVec 64) (data : BitVec 32) (masked : Bool) (d : Dev) : Dev :=
  if !d.hif.answers then d
  else
    let u := d.hif.msixUnmasked.filter (· != v)
    ({ d with hif := { d.hif with
      msixUnmasked := if masked then u else v :: u, msixEntry := tset d.hif.msixEntry (0, 0) v (addr, data) } }).msixFlush

/-! ### Intake of submission entries (R462, R488-R492) -/

/-- Free slots of a completion ring not reserved for an earlier entry (R489). -/
def cqFree (q : Cq) : Nat := q.size - 1 - (q.tail + q.size - q.head) % q.size - q.reserved

/-- Ring `r` holds an entry that the device can take (R489, R492). -/
def sqReady (d : Dev) (r : Nat) : Bool :=
  match tget d.hif.sq r with
  | none => false
  | some q => !q.stopped && q.head != q.tail &&
      (match tget d.hif.cq q.cq with | some k => decide (0 < cqFree k) | none => false)

/-- The ring the device serves next (R462): ring 0 up to four times in a turn, then the next non-empty ring among 1 to 15. -/
def sqTurn (d : Dev) : Option Nat :=
  let others := ((List.range 15).map fun k => 1 + (d.hif.rrLast + k) % 15).find? d.sqReady
  if d.sqReady 0 && (decide (d.hif.rrZero < 4) || others.isNone) then some 0 else others

/-- The turn pointers after ring `r` was served. -/
def sqServed (d : Dev) (r : Nat) : Dev :=
  if r = 0 then { d with hif := { d.hif with rrZero := if d.hif.rrZero < 4 then d.hif.rrZero + 1 else 1 } }
  else { d with hif := { d.hif with rrLast := r, rrZero := 0 } }

/-- The command an entry spells (Table 15.12). -/
def entryCmd (e : Bytes) (r n : Nat) : Cmd :=
  { src := .ring (field e 4 2), ring := r, intake := n, opcode := field e 0 2, fence := bit (field e 2 2) 0
    noIrq := bit (field e 2 2) 1, handle := field e 8 8, payload := field e 16 8, inl := slice e 32 32 }

/-- Why an entry is not executed at all (R490): its position among the causes. -/
def tagFault (d : Dev) (r tag : Nat) : Option Nat :=
  if 1023 < tag then some 0
  else if tag < 64 && r != 0 then some 1
  else if d.hif.cmds.any (fun c => c.src == .ring tag && !c.detached) then some 2
  else none

/-- The entry breaks Table 15.12 or names no opcode, and completes with BAD_ARG (R490). -/
def entryBad (e : Bytes) (r : Nat) : Bool :=
  field e 6 1 != r || decide (4 ≤ field e 2 2) || !isZero e 7 1 || !isZero e 24 8 || !isOpcode (field e 0 2)

/-- The device takes the next entry of ring `r` (R489-R492), when R462 gives the ring its turn. -/
def submissionTake (r : Nat) (entry : HostRead) (d : Dev) : Dev :=
  if !d.hif.up || d.hif.chrysalis || d.hif.reset.isSome || d.hif.headless || d.sqTurn != some r then d
  else match tget d.hif.sq r with
    | none => d
    | some q =>
      match entry with
      | none => ({ d with hif := { d.hif with sq := tput d.hif.sq r { q with stopped := true } } }).ringFault 0 r 1
      | some e =>
        let c := entryCmd e r d.hif.intake
        let d1 := ({ d with hif := { d.hif with
          sq := tput d.hif.sq r { q with head := (q.head + 1) % q.size }, intake := d.hif.intake + 1 } }).sqServed r |>.logIn (.wcp r e)
        match d.tagFault r (field e 4 2) with
        | some k => d1.raiseCounted 0x0004 sevMinor r 0 16 [fIdx r, fIdx q.head, fIdx (field e 4 2), fByte k, fCnt 0]
        | none =>
          match tget d1.hif.cq q.cq with
          | none => d1
          | some k =>
            let d2 : Dev := { d1 with hif := { d1.hif with
              cq := tput d1.hif.cq q.cq { k with reserved := k.reserved + 1 }, cmds := d1.hif.cmds ++ [c] } }
            if entryBad e r then d2.complete c { status := .badArg } else d2

/-! ### BAR0 accesses (R480) -/

/-- One aligned 4-byte word written whole to a register of 4 bytes or fewer. -/
def bar0Word (off : Nat) (w : BitVec 32) (d : Dev) : Dev :=
  let n := w.toNat
  if 0x0100 ≤ off ∧ off < 0x0200 then
    let r := (off - 0x0100) / 16
    match (off - 0x0100) % 16 with
    | 0 => d.sqTailWrite r (n % 65536)
    | 4 => d.cqHeadWrite r (n % 65536)
    | 8 => if r < 8 then d.puntHeadWrite r (n % 65536) else d.injectTailWrite (r - 8) (n % 65536)
    | 12 => if r = 0 then d.eventHeadWrite (n % 65536) else d
    | _ => d
  else if 0x1000 ≤ off ∧ off < 0x1800 then
    let m := Fin.ofNat 8 ((off - 0x1000) / 256)
    let o := (off - 0x1000) % 256
    if o = 0 then d.mbCtrlWrite m w else if 16 ≤ o then d.mbDataWrite m (o - 16) (le 4 n) else d
  else d

/-- The bytes of HIF_INT_VECTOR and HIF_INT_MOD that an access enables, register by register (R480, Table 15.11). -/
def bar0Narrow (off : Nat) (en : Nat → Bool) (data : BitVec 64) (size : Nat) (d : Dev) : Dev :=
  let byte (k : Nat) : Nat := (data.toNat / 256 ^ k) % 256
  let vec := (List.range size).foldl (fun (x : Dev) k =>
    if en k ∧ 0x2040 ≤ off + k ∧ off + k < 0x2040 + 43 then
      { x with hif := { x.hif with vector := x.hif.vector.set (off + k - 0x2040) (BitVec.ofNat 6 (byte k)) } } else x) d
  let gap := (List.range (size / 2)).foldl (fun (x : Dev) k =>
    if en (2 * k) ∧ en (2 * k + 1) ∧ 0x2080 ≤ off + 2 * k ∧ off + 2 * k < 0x2080 + 128 then
      { x with hif := { x.hif with
          gap := tset x.hif.gap 0 ((off + 2 * k - 0x2080) / 2) (byte (2 * k) + 256 * byte (2 * k + 1)) } } else x) vec
  if 0x2040 ≤ off ∧ off < 0x2080 then gap.vecUpdateAll else gap

/-- A BAR0 write but one of HIF_ALARM (R480): naturally aligned accesses of 4 or 8 bytes; each register all of whose bytes
are enabled is written. A 4-byte access writes the half of an 8-byte register that it names (log 57). -/
def bar0Write (off size : Nat) (be : BitVec 8) (data : BitVec 64) (d : Dev) : Dev :=
  let en (k : Nat) : Bool := be.getLsbD k
  let all (a b : Nat) : Bool := (List.range (b - a)).all fun k => en (a + k)
  if !d.hif.answers || !(size == 4 || size == 8) || off % size != 0 then d
  else if 0x2040 ≤ off ∧ off < 0x2100 then d.bar0Narrow off en data size
  else if !all 0 size then d
  else if off / 8 * 8 = 0x2000 then d.intCauseWrite (if off = 0x2004 then data <<< 32 else if size = 8 then data else data &&& 0xFFFFFFFF#64)
  else if off / 8 * 8 = 0x2008 then d.intMaskWrite (if size = 8 then data
    else if off = 0x200C then (data <<< 32) ||| (d.hif.mask.setWidth 64 &&& 0xFFFFFFFF#64)
    else (d.hif.mask.setWidth 64 &&& 0xFFFFFFFF00000000#64) ||| (data &&& 0xFFFFFFFF#64))
  else
    let hi (x : Dev) : Dev := if size = 8 then x.bar0Word (off + 4) ((data >>> 32).setWidth 32) else x
    if 0x1000 ≤ off ∧ off < 0x1800 ∧ off % 256 = 0 then d.bar0Word off (data.setWidth 32)
    else hi (d.bar0Word off (data.setWidth 32))

/-! ### Commands of Table 15.19 -/

/-- The range of `index`, `log2_entries` and the fields that must be 0 of a ring kind (Table 15.9): whether the request keeps
them. -/
def ringArgsOk (b : Bytes) : Bool :=
  let kind := field b 0 1; let idx := field b 1 1; let l2 := field b 2 1; let cq := field b 3 1
  let slot := field b 4 1; let pl := field b 5 1; let wb := field b 16 8
  let zero := isZero b 6 2 && isZero b 24 216 && field b 8 8 % 4096 == 0
  zero && (match kind with
    | 0 => decide (idx < 16) && decide (4 ≤ l2) && decide (l2 ≤ 12) && decide (cq < 16) && slot == 0 && pl == 0 && wb == 0
    | 1 => decide (idx < 16) && decide (4 ≤ l2) && decide (l2 ≤ 13) && cq == 0 && slot == 0 && pl == 0 && wb == 0
    | 2 => idx == 0 && decide (8 ≤ l2) && decide (l2 ≤ 16) && cq == 0 && slot == 0 && pl == 0 && wb % 8 == 0
    | 3 => decide (idx < 8) && decide (4 ≤ l2) && decide (l2 ≤ 12) && cq == 0 && decide (11 ≤ slot) && decide (slot ≤ 15) &&
        pl == 0 && wb == 0
    | 4 => decide (idx < 8) && decide (4 ≤ l2) && decide (l2 ≤ 12) && cq == 0 && decide (11 ≤ slot) && decide (slot ≤ 15) &&
        decide (pl < 32) && wb % 8 == 0
    | _ => false)

/-- Whether a ring of this kind and index exists. -/
def ringExists (d : Dev) (kind idx : Nat) : Bool :=
  match kind with
  | 0 => (tget d.hif.sq idx).isSome
  | 1 => (tget d.hif.cq idx).isSome
  | 2 => d.hif.ev.isSome
  | 3 => (tget d.hif.punt idx).isSome
  | _ => (tget d.hif.inj idx).isSome

/-- HIF_RING_CREATE (R486). -/
def hifRingCreate (c : Cmd) (d : Dev) : Reply :=
  let b := c.inl
  let kind := field b 0 1; let idx := field b 1 1; let size := 2 ^ field b 2 1; let base := field b 8 8
  let h := d.hif
  check d [(!ringArgsOk b || (kind == 0 && !d.ringExists 1 (field b 3 1)), .badArg), (d.ringExists kind idx, .refusedBusy)]
    (.done { d with hif := (match kind with
      | 0 => { h with sq := tput h.sq idx { size := size, cq := field b 3 1, base := base } }
      | 1 => { h with cq := tput h.cq idx { size := size, base := base } }
      | 2 => { h with ev := some { size := size, base := base, wb := field b 16 8 } }
      | 3 => { h with punt := tput h.punt idx { size := size, slot := 2 ^ field b 4 1, base := base } }
      | _ => { h with inj := tput h.inj idx { size := size, slot := 2 ^ field b 4 1, pipeline := field b 5 1, base := base,
                                              wb := field b 16 8 } }) } {})

/-- A ring that HIF_RING_DELETE must leave (R486): a submission ring that holds a tag, a completion ring that a submission
ring names, an inject ring with unread slots. -/
def ringInUse (d : Dev) (kind idx : Nat) : Bool :=
  match kind with
  | 0 => d.hif.cmds.any fun c => !c.detached && c.ring == idx && (cmdMbox c).isNone
  | 1 => d.hif.sq.any fun p => p.2.cq == idx
  | 4 => match tget d.hif.inj idx with | some q => q.head != q.tail | none => false
  | _ => false

/-- How many rings of a kind there can be (Table 15.9). -/
def ringLimit : Nat → Nat
  | 0 | 1 => 16
  | 2 => 1
  | 3 | 4 => 8
  | _ => 0

/-- HIF_RING_DELETE (R486). -/
def hifRingDelete (c : Cmd) (d : Dev) : Reply :=
  let kind := field c.inl 0 1; let idx := field c.inl 1 1; let h := d.hif
  check d [(!decide (idx < ringLimit kind), .badArg), (d.ringInUse kind idx, .refusedBusy)]
    (if d.ringExists kind idx then
      .done { d with hif := (match kind with
        | 0 => { h with sq := tdel h.sq idx }
        | 1 => { h with cq := tdel h.cq idx }
        | 2 => { h with ev := none }
        | 3 => { h with punt := tdel h.punt idx }
        | _ => { h with inj := tdel h.inj idx }) } { result := 1 }
     else .done d {})

/-- HIF_IFACE_RESET (R501): it starts or joins the reset and completes at step 4. -/
def hifIfaceReset (c : Cmd) (d : Dev) : Reply := .pend (d.ifaceReset .mailbox (cmdMbox c))

/-- The sum of the applied CIRs of the ring policers but that of ring `i` (R497). -/
def ringPolSum (d : Dev) (i : Nat) : Nat := ((d.hif.ringPol.filter (·.1 != i)).map (·.2.cir)).sum

/-- HIF_SET_PUNT (R497, R504, Table 15.20). -/
def hifSetPunt (c : Cmd) (d : Dev) : Reply :=
  let kind := c.f 0 1; let idx := c.f 1 1; let ring := c.f 2 1; let fl := c.f 3 1; let cbs := c.f 4 4; let cir := c.f 8 8
  let bad := decide (1 < kind) || (kind == 1 && (decide (8 ≤ idx) || ring != 0)) ||
    (kind == 0 && decide (8 ≤ ring) && ring != 0xFF) || decide (2 ≤ fl) || decide (cbs < 64) || decide (4194304 < cbs) ||
    cir == 0 || decide (200000000 < cir) || c.dirty 16 16
  let p : OwnPol := { cir := applied cir, cbs := cbs, add20 := bit fl 0, bucket := Bucket.full cbs d.now }
  check d [(c.bad 0x00, .badHandle), (bad, .badArg),
      (kind == 1 && decide (200000000 < d.ringPolSum idx + applied cir), .budgetExceeded)]
    (.done (if kind = 0 then
        { d with hif := { d.hif with trapPol := tput d.hif.trapPol idx p
                                     trapRing := if ring = 0xFF then tdel d.hif.trapRing idx else tput d.hif.trapRing idx ring } }
      else { d with hif := { d.hif with ringPol := tput d.hif.ringPol idx p } }) { result := applied cir })

/-- HIF_GET_PKT_STATUS (Table 15.19, R514). -/
def hifGetPktStatus (c : Cmd) (d : Dev) : Reply :=
  let row (t : Tab PktCount) (k : Nat) : List Fld :=
    let x := tgetD t {} k
    [fCnt x.frames, fCnt x.bytes, fCnt x.polDisc, fCnt x.fullDisc]
  check d [(c.bad 0x00, .badHandle)]
    (statusReply c d (fArr ((List.range 8).map (row d.hif.puntCount)) ++ fArr ((List.range 8).map (row d.hif.injCount))))

end Dev

/-- PCIE_CONFIG_REQUEST. -/
def execPcieConfigRequest (q : CfgReq) (s : State) : Out := s.onDev (Dev.pcieConfigRequest q)
/-- FLR. -/
def execFlr (s : State) : Out := s.onDev Dev.flr
/-- HOT_RESET. -/
def execHotReset (s : State) : Out := s.onDev (Dev.ifaceReset .hotReset none)
/-- PCIE_LINK_DOWN. -/
def execPcieLinkDown (s : State) : Out := s.onDev (Dev.ifaceReset .linkDown none)
/-- BUS_MASTER_DISABLE. -/
def execBusMasterDisable (s : State) : Out := s.onDev Dev.busMasterDisable
/-- D3HOT_ENTRY. -/
def execD3hotEntry (s : State) : Out := s.onDev Dev.d3hotEntry
/-- IFACE_RESET_QUIESCED. -/
def execIfaceResetQuiesced (s : State) : Out := s.onDev Dev.ifaceResetQuiesced
/-- SQ_TAIL_WRITE. -/
def execSqTailWrite (r : Fin 16) (v : BitVec 16) (s : State) : Out := s.onDev (Dev.sqTailWrite r v.toNat)
/-- CQ_HEAD_WRITE. -/
def execCqHeadWrite (r : Fin 16) (v : BitVec 16) (s : State) : Out := s.onDev (Dev.cqHeadWrite r v.toNat)
/-- PUNT_HEAD_WRITE. -/
def execPuntHeadWrite (i : Fin 8) (v : BitVec 16) (s : State) : Out := s.onDev (Dev.puntHeadWrite i v.toNat)
/-- INJECT_TAIL_WRITE. -/
def execInjectTailWrite (i : Fin 8) (v : BitVec 16) (s : State) : Out := s.onDev (Dev.injectTailWrite i v.toNat)
/-- EVENT_HEAD_WRITE. -/
def execEventHeadWrite (v : BitVec 16) (s : State) : Out := s.onDev (Dev.eventHeadWrite v.toNat)
/-- MB_CTRL_WRITE. -/
def execMbCtrlWrite (m : Fin 8) (w : BitVec 32) (s : State) : Out := s.onDev (Dev.mbCtrlWrite m w)
/-- HIF_INT_CAUSE_WRITE. -/
def execHifIntCauseWrite (v : BitVec 64) (s : State) : Out := s.onDev (Dev.intCauseWrite v)
/-- MSIX_GAP_EXPIRY. -/
def execMsixGapExpiry (v : Fin 64) (s : State) : Out := s.onDev (Dev.msixGapExpiry v)
/-- MSIX_VECTOR_MASK_WRITE. -/
def execMsixVectorMaskWrite (v : Fin 64) (w : MsixWrite) (s : State) : Out :=
  s.onDev (Dev.msixVectorMask v w.addr w.data w.masked)
/-- SUBMISSION_TAKE. -/
def execSubmissionTake (r : Fin 16) (entry : HostRead) (s : State) : Out := s.onDev (Dev.submissionTake r entry)
/-- HIF_RING_CREATE, opcode 0x0001. -/
def execHifRingCreate (src : Src) (s : State) : Out := s.onDev (Dev.runCmd 0x0001 src Dev.hifRingCreate)
/-- HIF_RING_DELETE, opcode 0x0002. -/
def execHifRingDelete (src : Src) (s : State) : Out := s.onDev (Dev.runCmd 0x0002 src Dev.hifRingDelete)
/-- HIF_IFACE_RESET, opcode 0x0003. -/
def execHifIfaceReset (src : Src) (s : State) : Out := s.onDev (Dev.runCmd 0x0003 src Dev.hifIfaceReset)
/-- HIF_SET_PUNT, opcode 0x0004. -/
def execHifSetPunt (src : Src) (s : State) : Out := s.onDev (Dev.runCmd 0x0004 src Dev.hifSetPunt)
/-- HIF_GET_PKT_STATUS, opcode 0x0005. -/
def execHifGetPktStatus (src : Src) (s : State) : Out := s.onDev (Dev.runCmd 0x0005 src Dev.hifGetPktStatus)

end Sys2Proof.Machine
end

