-- ==== Sys2Proof/Machine/PerfMon.lean ====
section
/-! DEFINITION. Performance monitoring: seconds, bins, thresholds and time steps (R87-R93, R98). -/

namespace Sys2Proof.Machine
namespace Dev

/-- UTC in whole seconds (R87, R422). -/
def utcNow (d : Dev) : Int := d.sysTicks / 65536000000000 - d.utcOffset

/-- A second counted for one end of a bin (R87): `n` is 1 to add it and -1 to take it back. -/
def binCount (far : Bool) (n : Int) (s : PmSec) (b : Bin) : Bin :=
  let add (x : Nat) (y : Nat) : Nat := ((x : Int) + n * y).toNat
  if far then { b with feEs := add b.feEs (b2n s.es), feSes := add b.feSes (b2n s.ses), feBbe := add b.feBbe s.bbe }
  else { b with neEs := add b.neEs (b2n s.es), neSes := add b.neSes (b2n s.ses), neBbe := add b.neBbe s.bbe }

/-- A second counted as unavailable for one end of a bin (R88). -/
def binUas (far : Bool) (n : Int) (b : Bin) : Bin :=
  if far then { b with feUas := ((b.feUas : Int) + n).toNat } else { b with neUas := ((b.neUas : Int) + n).toNat }

/-- `f` done to the two bins that a second belongs to (R89). -/
def onSec (q : Port) (s : PmSec) (f : Bin → Bin) : Port :=
  { q with bins15 := q.bins15.map fun b => if b.seq = s.seq15 then f b else b
           binsDay := q.binsDay.map fun b => if b.seq = s.seqDay then f b else b }

/-- The state of one end after a second, and the port with its bins (R88). -/
def endSecond (far : Bool) (e : PmEnd) (s : PmSec) (q : Port) : PmEnd × Port :=
  if e.unavail then
    let q1 := onSec q s (binUas far 1)
    if s.ses then ({ e with run := [] }, q1)
    else
      let run := s :: e.run
      if run.length = 10 then
        ({ unavail := false, run := [] }, run.foldl (fun r t => onSec r t fun b => binCount far 1 t (binUas far (-1) b)) q1)
      else ({ e with run := run }, q1)
  else
    let q1 := onSec q s (binCount far 1 s)
    if s.ses then
      let run := s :: e.run
      if run.length = 10 then
        ({ unavail := true, run := [] }, run.foldl (fun r t => onSec r t fun b => binUas far 1 (binCount far (-1) t b)) q1)
      else ({ e with run := run }, q1)
    else ({ e with run := [] }, q1)

/-- Near-end and far-end classification of the second a port has counted (Table 3.6). -/
def classify (q : Port) : PmSec × PmSec :=
  let ne : BitVec 9 := if q.otucn then 0x02F else 0x0C1
  let fe : BitVec 9 := if q.otucn then 0x010 else 0x100
  let mk (defect : Bool) (errs : Nat) : PmSec :=
    let ses := defect || (decide (0 < q.secBlocks) && decide (15 * q.secBlocks ≤ 100 * errs))
    { seq15 := q.secSeq15, seqDay := q.secSeqDay, es := defect || decide (0 < errs), ses := ses, bbe := if ses then 0 else errs }
  (mk (q.secRaw &&& ne != 0) q.secNe, mk (q.secRaw &&& fe != 0) (if q.otucn then q.secFe else 0))

/-- The (counter, end) pairs of a bin at or over their thresholds (R93): ES, SES, UAS, BBE; near end 0, far end 1. -/
def tcaReached (t : Tca) (b : Bin) : List (Nat × Nat) :=
  let hit (th n k e : Nat) : List (Nat × Nat) := if th != 0 && decide (th ≤ n) then [(k, e)] else []
  hit t.es b.neEs 0 0 ++ hit t.ses b.neSes 1 0 ++ hit t.uas b.neUas 2 0 ++ hit t.bbe b.neBbe 3 0 ++
  hit t.es b.feEs 0 1 ++ hit t.ses b.feSes 1 1 ++ hit t.uas b.feUas 2 1 ++ hit t.bbe b.feBbe 3 1

/-- EV_PM_TCA for the counters of the current bins that reach their thresholds for the first time (R93). -/
def tcaCheck (p : Nat) (day : Bool) (d : Dev) : Dev :=
  let q := d.getPort p
  let t := if day then q.tcaDay else q.tca15
  match (if day then q.binsDay else q.bins15) with
  | [] => d
  | b :: _ =>
    let new := (tcaReached t b).filter fun x => !t.raised.contains x
    let t1 := { t with raised := t.raised ++ new }
    new.foldl (fun x k => x.raisePort p 0x010A sevMinor [fByte (b2n day), .u 4 b.seq, fByte k.1, fByte k.2])
      (d.setPort p (if day then { q with tcaDay := t1 } else { q with tca15 := t1 }))

/-- Length of a bin type in seconds (R89). -/
def binLen (day : Bool) : Int := if day then 86400 else 900

/-- The sequence number of the bin of a type that the current UTC second belongs to: the next one where the boundary has come and the current
bins have not yet closed (R89, R90). -/
def seqNow (d : Dev) (day : Bool) (q : Port) : Nat :=
  let n := if day then d.pmSeqDay else d.pmSeq15
  match (if day then q.binsDay else q.bins15) with
  | b :: _ => if b.start / binLen day < d.utcNow / binLen day then (n + 1) % 2 ^ 32 else n
  | [] => n

/-- A new second begins for the port. -/
def newSecond (d : Dev) (q : Port) : Port :=
  { q with secUtc := d.utcNow, secSeq15 := d.seqNow false q, secSeqDay := d.seqNow true q, secRun := decide (q.obj.st = .running)
           secPart := false, secRaw := counted q, secBlocks := 0, secNe := 0, secFe := 0 }

/-- The second a port has counted, as it stands, put into its bins (R87, R91); one in which the port was not RUNNING throughout, or that is
only the rest of a second after a time step, is not counted (R91, R92). -/
def closeSecond (p : Nat) (d : Dev) : Dev :=
  let q := d.getPort p
  if !q.secRun || q.secPart then d
  else
    let s := classify q
    let q1 := onSec q s.1 fun b => { b with duration := b.duration + 1 }
    let n := endSecond false q1.near s.1 q1
    let f := endSecond true n.2.far s.2 n.2
    ((d.setPort p { f.2 with near := n.1, far := f.1 }).tcaCheck p false).tcaCheck p true

/-- PM_SECOND (R87): the second has ended. -/
def pmSecond (p : Nat) (d : Dev) : Dev :=
  if (d.getPort p).secUtc < d.utcNow then
    let d1 := if (d.getPort p).obj.st = .running then d.closeSecond p else d
    d1.modPort p (newSecond d)
  else d

/-- A bin opened at UTC second `t` with sequence number `n`. -/
def openBin (q : Port) (n : Nat) (t : Int) (incomplete : Bool) : Bin :=
  { flags := 0x20 + 8 * b2n (incomplete || decide (q.obj.st ≠ .running)), seq := n, start := t }

/-- The bins of a port with `new` put first: 32 recent 15-minute bins, 2 recent 24-hour bins are kept (R89). -/
def pushBins (day : Bool) (new : List Bin) (q : Port) : Port :=
  if day then { q with binsDay := (new ++ q.binsDay).take 3, tcaDay := { q.tcaDay with raised := [] } }
  else { q with bins15 := (new ++ q.bins15).take 33, tca15 := { q.tca15 with raised := [] } }

/-- The sequence number of a bin type (R90). -/
def pmSeq (d : Dev) (day : Bool) : Nat := if day then d.pmSeqDay else d.pmSeq15
def setPmSeq (d : Dev) (day : Bool) (n : Nat) : Dev :=
  if day then { d with pmSeqDay := n % 2 ^ 32 } else { d with pmSeq15 := n % 2 ^ 32 }

/-- PM_BIN_CLOSE (R89, R90): at a UTC boundary the current bins of all ports close together. -/
def pmBinClose (day : Bool) (d : Dev) : Dev :=
  let t := d.utcNow / binLen day * binLen day
  let cur := match (if day then (d.getPort 0).binsDay else (d.getPort 0).bins15) with | b :: _ => b.start | [] => 0
  if cur / binLen day < d.utcNow / binLen day then
    let n := (d.pmSeq day + 1) % 2 ^ 32
    (List.range 256).foldl (fun x p => x.modPort p fun q => pushBins day [openBin q n t false] q) (d.setPmSeq day n)
  else d

/-- PM_BIN_FINAL (R89): 10 s after the current bin opened, the closed ones are final. -/
def pmBinFinal (p : Nat) (day : Bool) (d : Dev) : Dev :=
  let fin (l : List Bin) : List Bin := match l with
    | b :: r => if b.start + 10 ≤ d.utcNow then b :: r.map fun x => { x with flags := putBit x.flags 5 false } else b :: r
    | [] => []
  d.modPort p fun q => if day then { q with binsDay := fin q.binsDay } else { q with bins15 := fin q.bins15 }

/-- The current bin of a port flagged (R92). -/
def flagBin (day : Bool) (bits : Nat) (q : Port) : Port :=
  let mark (l : List Bin) : List Bin := match l with
    | b :: r => { b with flags := b.flags ||| bits } :: r
    | [] => []
  if day then { q with binsDay := mark q.binsDay } else { q with bins15 := mark q.bins15 }

/-- The empty records of `k` bins skipped by a forward step that left the bin of sequence number `n` and boundary index `w`
(R92): one each, or one for all when more than 96; newest first. -/
def skippedBins (day : Bool) (n k : Nat) (w : Int) : List Bin :=
  if 96 < k then [{ flags := 2, seq := (n + k) % 2 ^ 32, start := (w + 1) * binLen day, skipped := k }]
  else ((List.range k).map fun i =>
    { flags := 2, seq := (n + 1 + i) % 2 ^ 32, start := (w + 1 + i) * binLen day : Bin }).reverse

/-- What a time step from UTC second `old` to `new` does to the bins of one type on all ports (R92). -/
def pmStepType (old new : Int) (day : Bool) (d : Dev) : Dev :=
  let w := old / binLen day
  let v := new / binLen day
  let n := d.pmSeq day
  let all (f : Port → Port) (x : Dev) : Dev := (List.range 256).foldl (fun y p => y.modPort p f) x
  if v = w then all (flagBin day 4) d
  else if v < w then
    all (fun q => pushBins day [openBin q ((n + 1) % 2 ^ 32) new false] (flagBin day 5 q)) (d.setPmSeq day (n + 1))
  else
    let k := (v - w - 1).toNat
    all (fun q => pushBins day (openBin q ((n + k + 1) % 2 ^ 32) new true :: skippedBins day n k w) (flagBin day 2 q))
      (d.setPmSeq day (n + k + 1))

/-- A time step (R92): the second it cuts is classified as it stands, then the bins act and every defined port raises EV_PM_TIME_STEP with the
sequence numbers of the 15-minute bins, also where the step closes a 24-hour bin (DESIGN CHOICE, log 122; which ports, log 18). The rest of a
second that the step begins is not classified; a step to a whole second begins a second that is. `d` holds the new time already. -/
def pmTimeStep (old : Int) (back : Bool) (sizeNs : Nat) (d : Dev) : Dev :=
  let d1 := (List.range 256).foldl (fun x p => if (x.getPort p).obj.st = .running then x.closeSecond p else x) d
  let n := d.pmSeq15
  let d2 := (d1.pmStepType old d.utcNow false).pmStepType old d.utcNow true
  (List.range 256).foldl (fun x p =>
    let y := x.modPort p fun q => { newSecond x q with secPart := decide (x.sysTicks % 65536000000000 ≠ 0) }
    if (y.getPort p).width = 0 then y
    else y.raisePort p 0x010B sevInfo [fByte (b2n (!back)), f8 sizeNs, .u 4 n, .u 4 d2.pmSeq15]) d2

/-- One record of Table 3.12. -/
def binRecord (p : Nat) (day : Bool) (q : Port) (b : Bin) : Bytes :=
  le 2 p ++ le 1 (b2n day) ++ le 1 (b.flags + 16 * b2n (!q.otucn)) ++ le 4 b.seq ++ leInt 8 b.start ++ le 4 b.duration ++
  le 4 b.neEs ++ le 4 b.neSes ++ le 4 b.neUas ++ le 4 b.feEs ++ le 4 b.feSes ++ le 4 b.feUas ++ le 4 b.skipped ++
  le 8 b.neBbe ++ le 8 (if q.otucn then b.feBbe else 0)

/-- PM_GET_BINS (R98). A from_seq that names no kept bin begins at the newest kept bin whose number is not above it (DESIGN CHOICE, log 122). -/
def pmGetBins (c : Cmd) (d : Dev) : Reply :=
  let p := c.hIdx
  let q := d.getPort p
  let day := c.f 0 1 == 1
  let n := c.f 1 1
  let lim := if day then 3 else 33
  let bins := if day then q.binsDay else q.bins15
  let sel := ((if c.f 4 4 = 0 then bins else bins.filter fun b => decide (b.seq ≤ c.f 4 4)).take n)
  check d [(c.bad 0x01, .badHandle),
      (decide (1 < c.f 0 1) || n == 0 || decide (lim < n) || c.dirty 2 2 || c.dirty 8 24, .badArg)]
    (.done d { result := sel.length, record := some (sel.flatMap (binRecord p day q)) })

/-- PM_SET_TCA (R93, R98): a counter of the current bin that is at its new threshold already is reported at once. -/
def pmSetTca (c : Cmd) (d : Dev) : Reply :=
  let t (old : Tca) : Tca := { old with es := c.f 4 4, ses := c.f 8 4, uas := c.f 12 4, bbe := c.f 16 8 }
  check d [(c.bad 0x01, .badHandle), (decide (1 < c.f 0 1) || c.dirty 1 3 || c.dirty 24 8, .badArg)]
    (.done ((d.modPort c.hIdx fun q => if c.f 0 1 = 1 then { q with tcaDay := t q.tcaDay } else { q with tca15 := t q.tca15 }).tcaCheck
      c.hIdx (c.f 0 1 == 1)) {})

end Dev

/-- PM_SECOND. -/
def execPmSecond (p : Fin 256) (s : State) : Out := s.onDev (Dev.pmSecond p)
/-- PM_BIN_CLOSE. -/
def execPmBinClose (day : Bool) (s : State) : Out := s.onDev (Dev.pmBinClose day)
/-- PM_BIN_FINAL. -/
def execPmBinFinal (p : Fin 256) (day : Bool) (s : State) : Out := s.onDev (Dev.pmBinFinal p day)
/-- PM_GET_BINS, opcode 0x010A. -/
def execPmGetBins (src : Src) (s : State) : Out := s.onDev (Dev.runCmd 0x010A src Dev.pmGetBins)
/-- PM_SET_TCA, opcode 0x010B. -/
def execPmSetTca (src : Src) (s : State) : Out := s.onDev (Dev.runCmd 0x010B src Dev.pmSetTca)

end Sys2Proof.Machine
end

