-- ==== Sys2Proof/Machine/Time.lean ====
section
/-! DEFINITION. Transit: steps, the servo and its sources, PTP ports, the reference signals, the time relay and the commands of Table 13.5
(R422-R460). The filter of the servo is outside the model: the last sample stands for the filtered offset (log 26). -/

namespace Sys2Proof

/-- Codes of the sources in events and records: the kinds of Table 13.3, then the relay and the 10 MHz input (log 27). -/
def TimeSource.code : TimeSource → Nat
  | .none => 0 | .ptp _ => 1 | .pps => 2 | .relay => 3 | .freqIn => 4

end Sys2Proof

namespace Sys2Proof.Machine

/-- Ticks in picoseconds. -/
def tPs (t : Int) : Int := t * 1000 / 65536

/-- The interval of a log message interval, in ticks (R433). -/
def ivl (log : Int) : Nat := if log < 0 then secT 1 / 2 ^ (-log).toNat else secT 1 * 2 ^ log.toNat

/-- Codes of the servo states: their order in Table 13.2. -/
def Servo.code : Servo → Nat
  | .freerun => 0 | .acquiring => 1 | .locked => 2 | .holdover => 3 | .expired => 4

/-- Codes of the PTP port states: those of IEEE 1588-2019, PRESUMED (log 28); a port that is off reads DISABLED. -/
def PtpSt.code : PtpSt → Nat
  | .off => 3 | .listening => 4 | .master => 6 | .passive => 7 | .slave => 9

/-- Whether a list of numbers comes before another of its length. -/
def lexLt : List Nat → List Nat → Bool
  | a :: r, b :: q => decide (a < b) || (a == b && lexLt r q)
  | _, _ => false

/-- The size of an accepted step at its apply time (R459). -/
def PendStep.size (p : PendStep) : Int := if p.absolute then p.value - (p.applyNs : Int) * 65536 else p.value

namespace Dev

/-- The device is part of a system, and it is the time root (R451). -/
def inSystem (d : Dev) : Bool := d.fab.configured
def isRoot (d : Dev) : Bool := !d.inSystem || d.time.root == d.devId

/-- A HEARTBEAT shows a pending epoch, the device's own where it is the meridian (R442). -/
def epochShown (d : Dev) : Bool := if d.isMeridian then d.fab.coord.isSome else d.time.pendEpoch

/-! ### Steps (R424, R442-R444, R92, R324) -/

/-- What a step of UTC from second `old` does to an accounting set (R324); `d` holds the new time. -/
def acctStepSet (old : Int) (back : Bool) (sizeNs : Nat) (s : Nat) (d : Dev) : Dev :=
  match tget d.sch.acct s with
  | none => d
  | some a =>
    let len : Int := 60 * a.mins
    let w := old / len
    let v := d.utcSec / len
    let told (n m : Nat) (x : Dev) : Dev :=
      x.raise 0x040C sevInfo (setHandle s) [fByte (b2n (!back)), f8 sizeNs, .u 4 n, .u 4 m]
    if v = w then told a.seq a.seq (d.putAcct s { a with flags := a.flags ||| 4, ends := nextBoundary d.utcSec a.mins })
    else if v < w then told a.seq ((a.seq + 1) % 2 ^ 32) (acctClose s 5 d.utcSec 0 d)
    else
      let k := (v - w - 1).toNat
      let d1 := acctClose s 2 d.utcSec 8 d
      let n := (a.seq + k + 1) % 2 ^ 32
      let empty (i skip : Nat) : Option Bool × AcctRec :=
        (none, { flags := 2, seq := (a.seq + 1 + i) % 2 ^ 32, start := (w + 1 + i) * len, durMs := 0, skipped := skip, pairs := [] })
      let es := if k = 0 then [] else if 96 < k then [empty (k - 1) k] else (List.range k).map fun i => empty i 0
      told a.seq n (match tget d1.sch.acct s with
        | some b => d1.putAcct s { b with seq := n, closed := b.closed ++ es }
        | none => d1)

/-- A step of UTC of `sizeNs` from second `old`, done to bins and accounting intervals (R92, R324, R422). -/
def utcStepped (old : Int) (back : Bool) (sizeNs : Nat) (d : Dev) : Dev :=
  (List.range 64).foldl (fun (x : Dev) s => acctStepSet old back sizeNs s x) (d.pmTimeStep old back sizeNs)

/-- Accounting intervals whose boundary has come are closed before time moves. -/
def acctAll (d : Dev) : Dev := (List.range 64).foldl (fun (x : Dev) s => acctBoundary s x) d

/-- A step of `size` ticks applied to system time now (R443, R444); below 1 µs it is slewed and no step (R459). A trigger that has begun keeps
its spacing in elapsed time (R424). -/
def applyStep (size : Int) (seq : Nat) (late : Bool) (d : Dev) : Dev :=
  if size.natAbs < usT 1 then d
  else
    let d0 := d.acctAll
    let old := d0.utcNow
    let d1 := d0.setTime fun t => { t with
      off := t.off + size, hist := ((d.now, size) :: t.hist).take 8, cut := t.cut || decide (8 ≤ t.hist.length) }
    let d2 : Dev := { d1 with pe := { d1.pe with trig := d1.pe.trig.map fun (x : Nat × Trigger) =>
      (x.1, if x.2.begun then { x.2 with start := x.2.start + size } else x.2) } }
    (utcStepped old (decide (size < 0)) (size.natAbs / 65536) d2).raise 0x0702 sevInfo 0
      [f8i (size.tdiv 65536), .u 4 seq, fFlag late]

/-- The UTC offset and leap flags a source gives (R422): a change of the offset is a step of UTC. -/
def setUtc (u : Int) (l61 l59 : Bool) (d : Dev) : Dev :=
  if u = d.time.utc then d.setTime fun t => { t with leap61 := l61, leap59 := l59 }
  else
    let d0 := d.acctAll
    utcStepped d0.utcNow (decide (d0.time.utc < u)) ((u - d0.time.utc).natAbs * 1000000000)
      (d0.setTime fun t => { t with utc := u, leap61 := l61, leap59 := l59 })

/-- A step is accepted at the root, or on a standalone device (R443). -/
def acceptStep (absolute : Bool) (applyNs : Nat) (value : Int) (intake : Option Nat) (d : Dev) : Dev :=
  d.setTime fun t => { t with
    step := some { seq := t.stepSeq, absolute := absolute, applyNs := applyNs, value := value, intake := intake }
    stepSeq := (t.stepSeq + 1) % 256 }

/-- The automatic step onto a source whose offset is `off`, with auto-step on and the offset at least 1 µs; otherwise it is slewed
(Table 13.2). On the root of a system it goes through a notice, and waits for an epoch change (R442, R443; log 29). -/
def autoStep (off : Int) (d : Dev) : Dev :=
  if !d.time.autoStep || off.natAbs < usT 1 then d
  else if !d.inSystem || !d.isRoot then
    applyStep (-off) d.time.stepSeq false (d.setTime fun t => { t with stepSeq := (t.stepSeq + 1) % 256 })
  else if d.epochShown || d.time.step.isSome then d.setTime fun t => { t with autoWait := some (-off) }
  else acceptStep false (d.nowNs + 10000000) (-off) none d

/-- TIME_STEP_APPLY (R443): the accepted step at its apply time by system time; an automatic step that waited is accepted once no epoch
change is pending (R442). -/
def timeStepApply (d : Dev) : Dev :=
  match d.time.step with
  | some p =>
    if d.nowNs < p.applyNs then d
    else
      let d1 := applyStep p.size p.seq false (d.setTime fun t => { t with step := none, doneStep := some (d.time.root, p.seq) })
      match p.intake with
      | none => d1
      | some k => match d1.hif.cmds.find? (·.intake == k) with
        | some c => d1.complete c {}
        | none => d1
  | none =>
    match d.time.autoWait with
    | some v => if d.epochShown then d else acceptStep false (d.nowNs + 10000000) v none (d.setTime fun t => { t with autoWait := none })
    | none => d

/-- TIME_STEP_NOTICE (R443): the root's step is noted once, or applied on receipt when its time has passed. -/
def stepNotice (m : StepNotice) (d : Dev) : Dev :=
  let key := (m.src, m.seq)
  if !d.inSystem || m.resent || m.src != d.time.root || m.src == d.devId || d.time.doneStep == some key then d
  else if (match d.time.step with | some p => p.seq == m.seq && p.intake.isNone | none => false) then d
  else
    let p : PendStep := { seq := m.seq, absolute := m.mode == 1, applyNs := m.apply_ns
                          value := (m.sec * 1000000000 + m.ns) * 65536 + m.frac, intake := none }
    if d.nowNs < m.apply_ns then d.setTime fun t => { t with step := some p }
    else applyStep p.size m.seq true (d.setTime fun t => { t with step := none, doneStep := some key })

/-- LEAP_SECOND (R425): at the end of the UTC day the offset moves by one second and nothing steps; the second in progress ends. -/
def leapSecond (positive : Bool) (d : Dev) : Dev :=
  if positive then
    if d.time.leap61 && d.utcNow % 86400 = 0 then
      (List.range 256).foldl (fun (x : Dev) p => x.modPort p fun q => { q with secUtc := q.secUtc - 1 })
        (d.setTime fun t => { t with utc := t.utc + 1, leap61 := false })
    else d
  else if d.time.leap59 && d.utcNow % 86400 = 86399 then d.setTime fun t => { t with utc := t.utc - 1, leap59 := false }
  else d

/-! ### Sources and the servo (R437-R441, R451) -/

/-- The SLAVE port used among those that are valid: the lowest (log 27). -/
def ptpValid (d : Dev) : Option Nat :=
  d.time.valid.foldl (fun (m : Option Nat) s => match s, m with
    | .ptp p, some q => some (min p q)
    | .ptp p, none => some p
    | _, m => m) none

/-- The best phase source of the device itself (R437): priority 1 is highest, 0 means never; PTP before 1PPS at equal priority (log 27). -/
def localBest (d : Dev) : TimeSource :=
  let t := d.time
  let pps := t.valid.contains .pps && t.prioPps != 0
  match if t.prioPtp = 0 then none else d.ptpValid with
  | some p => if pps && decide (t.prioPps < t.prioPtp) then .pps else .ptp p
  | none => if pps then .pps else .none

/-- The source the servo should use (R437). -/
def bestSource (d : Dev) : TimeSource :=
  if d.isRoot then d.localBest else if d.time.valid.contains .relay then .relay else .none

/-- EV_TIME_STATE (Table 13.9). -/
def toServo (s : Servo) (d : Dev) : Dev :=
  (d.setTime fun t => { t with servo := s }).raise 0x0700 (if s = .holdover || s = .expired then sevMajor else sevInfo) 0
    [fByte d.time.servo.code, fByte s.code]

/-- EV_TIME_SOURCE (Table 13.9). -/
def toSource (s : TimeSource) (d : Dev) : Dev :=
  (d.setTime fun t => { t with source := s }).raise 0x0701 sevMinor 0 [fByte d.time.source.code, fByte s.code]

/-- The last offset of a source. -/
def sampleOf (d : Dev) (s : TimeSource) : Int := match d.time.samples.find? (·.1 == s) with | some x => x.2 | none => 0

/-- The candidate a device sends (Table 13.3): its SLAVE port's Announce data set, or its 1PPS and ToD input. Accuracy and variance of the
latter are IEEE 1588's unknown, PRESUMED (log 28). -/
def ownCandidate (d : Dev) : CandidateMsg :=
  match d.localBest with
  | .ptp p => match (d.getT p).foreign with
    | some (m, _) => { src := d.devId, kind := 1, prio := d.time.prioPtp, clockClass := m.clockClass, accuracy := m.accuracy
                       variance := m.variance, gm := m.gm, steps := m.stepsRemoved }
    | none => { src := d.devId, kind := 0, prio := 0, clockClass := 0, accuracy := 0, variance := 0, gm := 0, steps := 0 }
  | .pps => { src := d.devId, kind := 2, prio := d.time.prioPps, clockClass := d.time.classPps, accuracy := 0xFE, variance := 0xFFFF
              gm := 0, steps := 0 }
  | _ => { src := d.devId, kind := 0, prio := 0, clockClass := 0, accuracy := 0, variance := 0, gm := 0, steps := 0 }

/-- The servo takes up a change of the valid sources (Table 13.2). A better source that becomes valid is a change of source; a relay that is
lost raises EV_TIME_SOURCE (R454; log 27). -/
def servoSelect (d : Dev) : Dev :=
  let best := d.bestSource
  let lost := best = .none && d.time.source = .relay
  if best = d.time.source then d
  else
    match d.time.servo with
    | .freerun | .expired =>
      if best = .none then d.setTime fun t => { t with source := best }
      else autoStep (d.sampleOf best) (d.setTime fun t => { t with source := best, servo := .acquiring, offset := d.sampleOf best })
    | .holdover => if best = .none then d.setTime fun t => { t with source := best }
                   else (toSource best d).setTime fun t => { t with servo := .acquiring, offset := d.sampleOf best }
    | .acquiring =>
      if best = .none then toServo .freerun (if lost then toSource best d else d.setTime fun t => { t with source := best })
      else (toSource best d).setTime fun t => { t with offset := d.sampleOf best }
    | .locked =>
      if best = .none then toServo .holdover (if lost then toSource best d else d.setTime fun t => { t with source := best })
      else (toSource best d).setTime fun t => { t with servo := .acquiring, offset := d.sampleOf best }

/-- The order of candidates: the data set, then the priority, then the rest (R451; log 28). -/
def candKey (c : CandidateMsg) : List Nat := [c.clockClass, c.accuracy, c.variance, c.prio, c.gm, c.steps, c.src]

/-- The device learns the time root (R451): a change raises EV_TIME_ROOT and never steps. -/
def learnRoot (root seq : Nat) (d : Dev) : Dev :=
  let d1 := d.setTime fun t => { t with rootSeq := seq }
  if root = d.time.root then d1
  else
    let d2 := (d1.setTime fun t => { t with
      root := root, valid := t.valid.filter (· != .relay), rLink := none, rRun := 0, rDelay := none }).raise 0x0703 sevMinor 0 [fIdx root]
    servoSelect d2

/-- The meridian's firmware takes a candidate and names the root (R451, R454). -/
def candTake (c : CandidateMsg) (d : Dev) : Dev :=
  if !d.isMeridian || d.hif.headless then d
  else
    let d1 := d.setTime fun t => { t with cands := if c.kind = 0 then tdel t.cands c.src else tput t.cands c.src c }
    let best := d1.time.cands.foldl (fun (m : Option CandidateMsg) x =>
      match m with
      | none => some x.2
      | some y => if lexLt (candKey x.2) (candKey y) then some x.2 else some y) none
    match best with
    | none => d1
    | some b =>
      if b.src = d1.time.root then d1
      else
        let n := (d1.time.rootSeq + 1) % 65536
        learnRoot b.src n (d1.sendFcAll 0x75 (be 2 b.src ++ be 2 n))

/-- TIME_CANDIDATE at each change of the best source (R451). -/
def tellCandidate (d : Dev) : Dev :=
  let c := d.ownCandidate
  if !d.inSystem || d.time.told == some c || (d.time.told.isNone && c.kind == 0) then d
  else
    let d1 := d.setTime fun t => { t with told := some c }
    if d1.isMeridian then candTake c d1
    else d1.sendFc d1.fab.holder 0x74 (be 1 c.kind ++ be 1 c.prio ++ be 2 0 ++ be 1 c.clockClass ++ be 1 c.accuracy ++
      be 2 c.variance ++ be 8 c.gm ++ be 2 c.steps ++ be 2 0)

/-- After any change of sources. -/
def sourcesChanged (d : Dev) : Dev := tellCandidate (servoSelect d)

/-- A sample of a phase source: system time less the source's. -/
def sample (s : TimeSource) (off : Int) (d : Dev) : Dev :=
  d.setTime fun t => { t with
    samples := (s, off) :: t.samples.filter (·.1 != s), offset := if t.source == s then off else t.offset }

/-- A phase source becomes valid (R438). -/
def sourceValid (s : TimeSource) (d : Dev) : Dev :=
  if d.time.valid.contains s then d else sourcesChanged (d.setTime fun t => { t with valid := t.valid ++ [s] })

/-- A source is lost (R438); the loss of the 10 MHz and of the 1PPS input raises EV_TIME_REF_LOST (Table 13.9). -/
def sourceGone (s : TimeSource) (d : Dev) : Dev :=
  if s = .freqIn then
    if d.time.freqOk then (d.setTime fun t => { t with freqOk := false }).raise 0x0704 sevMajor 0 [fByte 2] else d
  else if !d.time.valid.contains s then d
  else
    let d1 := d.setTime fun t => { t with valid := t.valid.filter (· != s) }
    sourcesChanged (if s = .pps then d1.raise 0x0704 sevMajor 0 [fByte 3] else d1)

/-- SERVO_LOCK (Table 13.2). -/
def servoLock (d : Dev) : Dev := if d.time.servo = .acquiring then toServo .locked d else d

/-- HOLDOVER_LIMIT (Table 13.2). -/
def holdoverLimit (d : Dev) : Dev := if d.time.servo = .holdover then toServo .expired d else d

/-! ### PTP ports (R430-R436, R448-R450) -/

/-- The instance of a BC port. -/
def instOf (d : Dev) (t : TPort) : Option PtpInst := match t.inst with | some i => tget d.time.inst i | none => none

/-- A lane of the port failed its timestamp calibration: the port takes no part in PTP (R427). -/
def calBad (d : Dev) (p : Nat) : Bool := (d.lanesOf p).any fun l => (d.getLane l).calBad

/-- The port is a BC port that takes part, with its instance (R427, R431). -/
def bcPort (d : Dev) (p : Nat) : Option PtpInst :=
  let t := d.getT p
  if (t.role == 1 || t.role == 2) && !d.calBad p then d.instOf t else none

/-- A message of domain `n` is for BC port `p`. -/
def bcTakes (d : Dev) (p n : Nat) : Bool := match d.bcPort p with | some i => i.domain == n | none => false

/-- The clockClass the device announces of itself (R441, R458): 248 in FREERUN as IEEE 1588 gives it, PRESUMED (log 28). -/
def ownClass (d : Dev) : Nat :=
  match d.time.servo with
  | .holdover => d.time.classHold
  | .expired => d.time.classExp
  | _ => match d.time.source with
    | .pps => d.time.classPps
    | .relay => d.time.rClass
    | _ => 248

/-- The data set of the instance's own clock. -/
def ownDataset (d : Dev) (i : PtpInst) : AnnounceMsg :=
  { gm := i.clockId, prio1 := i.prio1, prio2 := i.prio2, clockClass := d.ownClass, accuracy := 0xFE, variance := 0xFFFF, stepsRemoved := 0
    srcId := i.clockId, srcPort := 0, utcOffset := some d.time.utc, leap61 := d.time.leap61, leap59 := d.time.leap59 }

/-- The order of data sets (IEEE 1588-2019, PRESUMED; log 28): G.8275.1 and G.8275.2 compare a local priority, 128 for a received data set,
in place of priority1. -/
def dsKey (i : PtpInst) (own : Bool) (m : AnnounceMsg) : List Nat :=
  if 2 ≤ i.profile then
    [m.clockClass, m.accuracy, m.variance, m.prio2, if own then i.localPrio else 128, m.gm, m.stepsRemoved, m.srcId, m.srcPort]
  else [m.prio1, m.clockClass, m.accuracy, m.variance, m.prio2, m.gm, m.stepsRemoved, m.srcId, m.srcPort]

/-- The data set a port receives: the last Announce within three intervals (IEEE 1588-2019, PRESUMED; log 28). -/
def heard (d : Dev) (p : Nat) : Option AnnounceMsg :=
  match (d.getT p).foreign with
  | some (m, t) => if d.now < t + 3 * ivl (d.getT p).logAnn then some m else none
  | none => none

/-- The ports of an instance. -/
def instPorts (d : Dev) (k : Nat) : List Nat := (List.range 256).filter fun p => (d.getT p).inst == some k && (d.bcPort p).isSome

/-- The best data set an instance receives, with its port. -/
def instBest (d : Dev) (k : Nat) (i : PtpInst) : Option (Nat × AnnounceMsg) :=
  (d.instPorts k).foldl (fun (b : Option (Nat × AnnounceMsg)) p =>
    match if (d.getT p).role == 1 then d.heard p else none, b with
    | some m, some x => if lexLt (dsKey i false m) (dsKey i false x.2) then some (p, m) else some x
    | some m, none => some (p, m)
    | none, b => b) none

/-- The state the best master clock algorithm gives a port (IEEE 1588-2019, PRESUMED; log 28). -/
def ptpDecision (d : Dev) (i : PtpInst) (best : Option (Nat × AnnounceMsg)) (p : Nat) : PtpSt :=
  let own := d.ownDataset i
  let t := d.getT p
  if t.role = 2 then .master
  else
    match best with
    | none => if i.slaveOnly then .listening else .master
    | some (q, m) =>
      if i.slaveOnly then (if p = q then .slave else .listening)
      else if own.clockClass < 128 then
        match d.heard p with
        | some e => if lexLt (dsKey i true own) (dsKey i false e) then .master else .passive
        | none => .master
      else if lexLt (dsKey i true own) (dsKey i false m) then .master
      else if p = q then .slave
      else if (d.heard p).any fun e => e.gm == m.gm then .passive
      else .master

/-- A port takes a PTP state (Table 13.9). -/
def setPtp (p : Nat) (st : PtpSt) (d : Dev) : Dev :=
  let t := d.getT p
  if t.st = st then d
  else
    let d1 := (d.putT p { t with
      st := st, slaveAt := d.now, syncAt := d.now, syncs := 0, resps := 0, two := none, passive := none
      asymRaised := false }).raisePort p 0x0708 sevInfo [fIdx p, fIdx (t.inst.getD 0), fByte st.code]
    if t.st = .slave then sourceGone (.ptp p) d1 else d1

/-- The best master clock algorithm of instance `k`, run by firmware (R432): not while the device is headless. -/
def bmca (k : Nat) (d : Dev) : Dev :=
  match if d.hif.headless then none else tget d.time.inst k with
  | none => d
  | some i =>
    let b := d.instBest k i
    (d.instPorts k).foldl (fun (x : Dev) p => setPtp p (d.ptpDecision i b p) x) d

/-- The mean path delay of a port: the average of its last 16 exchanges (R448). -/
def meanDelay (t : TPort) : Option Int := if t.delays.isEmpty then none else some (t.delays.foldl (· + ·) 0 / t.delays.length)

/-- The exchange that gives path delay on a port brings `x` (R448). -/
def delayDone (p : Nat) (x : Int) (d : Dev) : Dev :=
  d.modT p fun t => { t with delays := (x :: t.delays).take 16, resps := t.resps + 1, dreq := none, preq := none, presp := none }

/-- A SLAVE port becomes a valid source after 2 s with Sync and delay responses at no less than half their rates (Table 13.1). -/
def slaveCheck (p : Nat) (d : Dev) : Dev :=
  let t := d.getT p
  let el := d.now - t.slaveAt
  if t.st != .slave || d.time.valid.contains (.ptp p) || el < secT 2 then d
  else if el ≤ 2 * t.syncs * ivl t.logSync && el ≤ 2 * t.resps * ivl t.logDelay then sourceValid (.ptp p) d
  else d.putT p { t with slaveAt := d.now, syncs := 0, resps := 0 }

/-- The passive offset and EV_TIME_ASYM (R450). -/
def passiveSample (p : Nat) (off : Int) (d : Dev) : Dev :=
  let t := d.getT p
  let big := (tPs off).natAbs
  let over' := t.thr != 0 && decide (t.thr < big)
  let d1 := d.putT p { t with passive := some off, asymRaised := if over' then true else if 2 * big < t.thr then false else t.asymRaised }
  if over' && !t.asymRaised then d1.raisePort p 0x0706 sevMinor [fIdx p, f8i (tPs off), f8i t.thr] else d1

/-- A whole Sync: master's time `t1` with corrections, receive time `rx` at the reference plane (R426, R428, R448-R450). -/
def syncDone (p : Nat) (t1 rx : Int) (d : Dev) : Dev :=
  let t := d.getT p
  let t12 := rx + psT t.ingress - t1
  let d1 := d.putT p { t with t12 := some t12, syncAt := d.now, syncs := t.syncs + 1, two := none }
  match meanDelay t with
  | none => slaveCheck p d1
  | some m =>
    match t.st with
    | .slave => slaveCheck p (sample (.ptp p) (t12 - m - psT t.asym) d1)
    | .passive | .master => passiveSample p (m + psT t.asym - t12) d1
    | _ => d1

/-- PTP_SYNC (R30, R432): the receive time is the system time of the step; a TC's correction is made as the frame leaves. -/
def ptpSync (p : Nat) (m : PtpMsg) (d : Dev) : Dev :=
  if !d.bcTakes p m.domain then d
  else if m.twoStep then d.modT p fun t => { t with two := some (m.seq, d.sysTicks, m.corr, m.srcId, m.srcPort) }
  else syncDone p (m.origin + m.corr) d.sysTicks d

/-- PTP_FOLLOW_UP. -/
def ptpFollowUp (p : Nat) (m : PtpMsg) (d : Dev) : Dev :=
  match if d.bcTakes p m.domain then (d.getT p).two else none with
  | some (n, rx, corr, id, q) => if n = m.seq && id = m.srcId && q = m.srcPort then syncDone p (m.origin + m.corr + corr) rx d else d
  | none => d

/-- A unicast session that still runs. -/
def sessionOn (d : Dev) (i : PtpInst) (p msg : Nat) : Bool := i.sessions.any fun s => s.port == p && s.msg == msg && decide (d.now < s.ends)

/-- PTP_DELAY_REQ: a MASTER port answers with the receive time; in G.8275.2 within a granted session (R432, R433). Message codes are those
of IEEE 1588: 0 Sync, 1 Delay_Req, 2 Pdelay_Req, 3 Pdelay_Resp, 8 Follow_Up, 9 Delay_Resp, 10 Pdelay_Resp_Follow_Up, 11 Announce,
12 Signaling, 13 Management. -/
def ptpDelayReq (p : Nat) (m : PtpMsg) (d : Dev) : Dev :=
  let t := d.getT p
  match if d.bcTakes p m.domain then d.bcPort p else none with
  | some i =>
    if t.st = .master && i.profile != 1 && (i.profile != 3 || d.sessionOn i p 9) then
      d.emit (.ptp p 9 [m.domain, m.seq, d.sysTicks + psT t.ingress, m.corr, m.srcId, m.srcPort])
    else d
  | none => d

/-- PTP_DELAY_RESP: the port's own request is answered (R448). -/
def ptpDelayResp (p : Nat) (m : PtpMsg) (reqId reqPort : Nat) (d : Dev) : Dev :=
  let t := d.getT p
  match if d.bcTakes p m.domain then d.bcPort p else none, t.dreq, t.t12 with
  | some i, some (n, t3), some t12 =>
    if n = m.seq && reqId = i.clockId && reqPort = t.portNo then slaveCheck p (delayDone p ((t12 + (m.origin - m.corr - t3)) / 2) d) else d
  | _, _, _ => d

/-- The port measures peer delay: a BC port of the peer-delay profile, or a peer-to-peer TC (R430, R448). -/
def peerDelay (d : Dev) (p : Nat) : Bool :=
  let t := d.getT p
  !d.calBad p && (t.role == 4 || ((t.role == 1 || t.role == 2) && match d.instOf t with | some i => i.profile == 1 | none => false))

/-- PTP_PDELAY (R432, R448). -/
def ptpPdelay (p : Nat) (k : PdelayKind) (m : PtpMsg) (d : Dev) : Dev :=
  let t := d.getT p
  if !d.peerDelay p || (t.role != 4 && !d.bcTakes p m.domain) then d
  else
    let rx := d.sysTicks + psT t.ingress
    match k, t.preq with
    | .req, _ =>
      let tx := d.sysTicks + psT t.egress
      if t.oneStep then d.emit (.ptp p 3 [m.domain, m.seq, 0, m.corr + (tx - rx), m.srcId, m.srcPort])
      else (d.emit (.ptp p 3 [m.domain, m.seq, rx, 0, m.srcId, m.srcPort])).emit (.ptp p 10 [m.domain, m.seq, tx, m.corr, m.srcId, m.srcPort])
    | .resp, some (n, t1) =>
      if n != m.seq then d
      else if m.twoStep then d.putT p { t with presp := some (m.seq, m.origin - m.corr, rx) }
      else slaveCheck p (delayDone p ((rx - t1 - m.corr) / 2) d)
    | .respFollowUp, some (n, t1) =>
      match t.presp with
      | some (k, t2, t4) => if n = m.seq && k = m.seq then slaveCheck p (delayDone p (((t4 - t1) - (m.origin + m.corr - t2)) / 2) d) else d
      | none => d
    | _, none => d

/-- PTP_ANNOUNCE (R422, R432). -/
def ptpAnnounce (p domain : Nat) (m : AnnounceMsg) (d : Dev) : Dev :=
  let t := d.getT p
  if !d.bcTakes p domain then d
  else
    let d1 := bmca (t.inst.getD 0) (d.putT p { t with foreign := some (m, d.now) })
    tellCandidate (match m.utcOffset with
      | some u => if d1.time.source = .ptp p || (d1.time.source = .none && (d1.getT p).st = .slave) then setUtc u m.leap61 m.leap59 d1 else d1
      | none => d1)

/-- The data set a MASTER port announces: the parent's, one step further, or the clock's own. -/
def announced (d : Dev) (k : Nat) (i : PtpInst) : AnnounceMsg :=
  match (d.instPorts k).find? fun p => (d.getT p).st == .slave with
  | some p => match d.heard p, d.time.servo with
    | some m, .acquiring | some m, .locked => { m with stepsRemoved := m.stepsRemoved + 1 }
    | _, _ => d.ownDataset i
  | none => d.ownDataset i

/-- The messages sent when an interval elapses (R433, R434). -/
def ptpOut (p k : Nat) (i : Option PtpInst) (d : Dev) : Dev :=
  let t := d.getT p
  let n := t.seq.getD k 0
  let dom := match i with | some x => x.domain | none => 0
  let tx := d.sysTicks + psT t.egress
  match k, i with
  | 0, some _ => if t.oneStep then d.emit (.ptp p 0 [dom, n, tx]) else (d.emit (.ptp p 0 [dom, n, 0])).emit (.ptp p 8 [dom, n, tx])
  | 1, some _ => (d.emit (.ptp p 1 [dom, n, 0])).putT p { t with dreq := some (n, tx) }
  | 2, _ => (d.emit (.ptp p 2 [dom, n, 0])).putT p { t with preq := some (n, tx), presp := none }
  | 3, some x =>
    let m := d.announced (t.inst.getD 0) x
    d.emit (.ptp p 11 [dom, n, m.gm, m.prio1, m.prio2, m.clockClass, m.accuracy, m.variance, m.stepsRemoved, d.time.utc,
      b2n d.time.leap61, b2n d.time.leap59])
  | _, _ => d

/-- PTP_MESSAGE_SEND (R433): 0 Sync, 1 Delay_Req, 2 peer delay, 3 Announce. Delay_Req leaves in every state in which the port hears a
master (R448, R450; log 27). -/
def ptpSend (p k : Nat) (d0 : Dev) : Dev :=
  let t0 := d0.getT p
  if d0.now < t0.dueAt.getD k 0 then d0
  else
    let d := if k = 3 then bmca (t0.inst.getD 4) d0 else d0
    let t := d.getT p
    let i := d.bcPort p
    let log := match k with | 0 => t.logSync | 3 => t.logAnn | _ => t.logDelay
    let d1 := d.putT p { t with seq := t.seq.set k ((t.seq.getD k 0 + 1) % 65536), dueAt := t.dueAt.set k (d.now + ivl log) }
    let e2e := match i with | some x => x.profile != 1 | none => false
    let uni (msg : Nat) : Bool := match i with | some x => x.profile != 3 || d.sessionOn x p msg | none => false
    let go : Bool := match k with
      | 0 => t.st = .master && uni 0
      | 1 => e2e && (t.st = .slave || t.st = .passive || (t.st = .master && t.t12.isSome))
      | 2 => d.peerDelay p
      | _ => t.st = .master && uni 11
    if go then
      let x := ptpOut p k i d
      let y := x.getT p
      x.putT p { y with seq := (d1.getT p).seq, dueAt := (d1.getT p).dueAt }
    else if i.isSome || d.peerDelay p then d1 else d

/-- UNICAST_NEGOTIATION (R432, R433): firmware grants a request while fewer than 4,096 sessions run, and ends a session on request. -/
def unicast (p peer msg : Nat) (grant : Bool) (durS : Nat) (d : Dev) : Dev :=
  let t := d.getT p
  match if d.hif.headless then none else d.bcPort p, t.inst with
  | some i, some k =>
    if i.profile != 3 then d
    else
      let live := i.sessions.filter fun s => decide (d.now < s.ends) && !(s.port == p && s.peer == peer && s.msg == msg)
      let put (l : List Session) (x : Dev) : Dev := x.setTime fun y => { y with inst := tput y.inst k { i with sessions := l } }
      if !grant then (put live d).emit (.ptp p 12 [i.domain, peer, msg, 0, 1])
      else if t.st = .master && decide (live.length < 4096) then
        (put (live ++ [{ port := p, peer := peer, msg := msg, ends := d.now + secT durS }]) d).emit (.ptp p 12 [i.domain, peer, msg, durS, 0])
      else d.emit (.ptp p 12 [i.domain, peer, msg, 0, 0])
  | _, _ => d

/-- PTP_MANAGEMENT (R432): answered from the data sets; the identifiers are those of IEEE 1588, PRESUMED (log 28), and a request for another
one is answered without fields. -/
def ptpManage (p id : Nat) (d : Dev) : Dev :=
  let t := d.getT p
  match if d.hif.headless then none else d.bcPort p with
  | none => d
  | some i =>
    let m := d.announced (t.inst.getD 0) i
    let body : List Int := match id with
      | 0x2000 => [i.prio1, i.prio2, i.domain, i.clockId, b2n i.slaveOnly, d.ownClass]
      | 0x2001 => [m.stepsRemoved, d.time.offset, (meanDelay t).getD 0]
      | 0x2002 => [m.gm, m.clockClass, m.accuracy, m.variance, m.prio1, m.prio2]
      | 0x2003 => [d.time.utc, b2n d.time.leap61, b2n d.time.leap59]
      | 0x2004 => [t.portNo, t.st.code, t.logDelay, t.logAnn, t.logSync, (meanDelay t).getD 0]
      | _ => []
    d.emit (.ptp p 13 ([(i.domain : Int), id] ++ body))

/-! ### Reference signals (R438, R445-R447, R652) -/

/-- SOURCE_LOST_TIMEOUT (Table 13.1); the relay is also lost when its servo has coasted for 1 s (R453). -/
def sourceTimeout (s : TimeSource) (d : Dev) : Dev :=
  let t := d.time
  match s with
  | .none => d
  | .ptp p =>
    let x := d.getT p
    if x.st = .slave && decide (x.syncAt + 3 * ivl x.logSync ≤ d.now) then
      sourceGone s (d.putT p { x with slaveAt := d.now, syncs := 0, resps := 0 }) else d
  | .pps => if t.ppsAt + msT 1100 ≤ d.now then sourceGone s (d.setTime fun y => { y with ppsGood := 0, ppsLast := none, todSec := none }) else d
  | .relay =>
    if t.rAt + msT 50 ≤ d.now || (t.rExch < 16 && t.rSince + secT 1 ≤ d.now) then sourceGone s (d.setTime fun y => { y with rRun := 0 }) else d
  | .freqIn => sourceGone .freqIn d

/-- PPS_IN (R447): `t` is the time of the edge at the ball. -/
def ppsIn (t : Int) (d : Dev) : Dev :=
  let x := t + psT d.time.ppsInPs
  let good := match d.time.ppsLast with
    | some u => decide ((x - u - secT 1).natAbs ≤ usT 1)
    | none => false
  d.setTime fun y => { y with ppsLast := some x, ppsAt := d.now, ppsGood := if good then y.ppsGood else 0 }

/-- TOD_IN (R447): the message describes the pulse just passed; the third good pulse whose message agrees makes the source valid, two
messages in a row that disagree lose it (Table 13.1). A message agrees when its second follows the one before (log 27). -/
def todIn (sec : Nat) (utc : Int) (d : Dev) : Dev :=
  match if d.time.todIn then d.time.ppsLast else none with
  | none => d
  | some x =>
    let agree := match d.time.todSec with | some s => s + 1 == sec | none => true
    let bad := if agree then 0 else d.time.todBad + 1
    let good := if agree then d.time.ppsGood + 1 else 0
    let d1 := d.setTime fun y => { y with todSec := some sec, todBad := bad, ppsGood := good }
    let d2 := if agree then sample .pps (x - secT sec) d1 else d1
    let d3 := if d2.time.source = .pps then setUtc utc d2.time.leap61 d2.time.leap59 d2 else d2
    if 2 ≤ bad then sourceGone .pps d3 else if 3 ≤ good then sourceValid .pps d3 else d3

/-- FREQ_IN_VALID (Table 13.1). -/
def freqValid (d : Dev) : Dev := d.setTime fun t => { t with freqOk := true }

/-- PPS_OUT_SECOND (R447): the pulse, with its width and cable compensation, and the ToD message. -/
def ppsOut (d : Dev) : Dev :=
  let s := d.sysTicks / 65536000000000
  if s = d.time.ppsOut then d
  else
    let d1 := (d.setTime fun t => { t with ppsOut := s }).emit (.timePin 0 (s * 65536000000000 - psT d.time.ppsOutPs))
    if d.time.todOut then d1.emit (.timePin 1 s) else d1

/-- REF_LOSS (R423, R652): Transit falls back from reference 0 to 1; lanes and engines use the lowest reference still present and stay
locked. The event has a choice for references 0 and 1 only (log 27). -/
def refLoss (r : RefName) (d : Dev) : Dev :=
  match r with
  | .pcie => d.setTime fun t => { t with pcieRef := false }
  | .sref k =>
    if !d.time.sref.getD k.val false then d
    else
      let d1 := (d.setTime fun t => { t with
        sref := t.sref.set k.val false, transit := if k.val = 0 && t.transit = 0 then 1 else t.transit }).setAlarm 8
      if k.val < 2 then d1.raise 0x0704 sevMajor 0 [fByte k.val] else d1

/-- ESMC_PDU_SEND (R446): the information PDU of each second, or the event PDU of a change. -/
def esmcSend (p : Nat) (d : Dev) : Dev :=
  let t := d.getT p
  if !t.esmc then d
  else if t.esmcNew then (d.putT p { t with esmcNew := false }).emit (.esmc p t.ql true)
  else if t.esmcAt ≤ d.now then (d.putT p { t with esmcAt := d.now + secT 1 }).emit (.esmc p t.ql false)
  else d

/-- ESMC_PDU (R446): the level before the first is open (log 42). -/
def esmcIn (p ql : Nat) (d : Dev) : Dev :=
  let t := d.getT p
  if !t.esmc || t.rxQl = some ql then d
  else (d.putT p { t with rxQl := some ql }).raisePort p 0x0707 sevMinor [fIdx p, fByte (t.rxQl.getD (Config.absent 22)), fByte ql]

/-! ### The relay (R451-R454) -/

/-- TIME_SYNC_SEND (R452, R453): to each device on the lowest-numbered link that reaches it, with the step notice while one is pending
(R443); the origin time is that of the cell's departure (`linkSend`), and both traceable flags say that the servo is LOCKED (log 129). -/
def timeSyncOut (d : Dev) : Dev :=
  let t := d.time
  if !d.inSystem || t.root != d.devId || d.now < t.syncAt then d
  else
    let d1 := d.setTime fun y => { y with syncSeq := (y.syncSeq + 1) % 65536, syncAt := d.now + secT 1 / 128 }
    d.fwd.reachable.foldl (fun (x : Dev) n =>
      match (List.range 512).find? fun l => d.inMask n l with
      | none => x
      | some l =>
        let y := x.sendFc n 0x70 (be 2 d.devId ++ be 2 t.syncSeq ++ beTime d.sysTicks ++ be 8 0 ++ beI 2 t.utc ++
          be 1 (b2n t.leap61 + 2 * b2n t.leap59 + 12 * b2n (t.servo == .locked)) ++ be 1 d.ownClass) (some l)
        match t.step with
        | some p =>
          let ns := p.value / 65536
          y.sendFc n 0x73 (be 1 p.seq ++ be 1 (b2n p.absolute) ++ be 2 0 ++ be 8 p.applyNs ++ beI 8 (ns.tdiv 1000000000) ++
            beI 4 (ns.tmod 1000000000) ++ be 2 (p.value % 65536).toNat ++ be 2 0) (some l)
        | none => y) d1

/-- TIME_SYNC (R422, R438, R452, R453). -/
def timeSyncIn (m : TimeSyncMsg) (d : Dev) : Dev :=
  if !d.inSystem || d.isRoot || m.root != d.time.root || m.resent then d
  else
    let t := d.time
    let fresh := t.rLink != some m.link.val
    let run := if !fresh && m.seq == (t.rLast + 1) % 65536 then t.rRun + 1 else 1
    let d1 := d.setTime fun y => { y with
      rLink := some m.link.val, rSince := if fresh then d.now else y.rSince, rExch := if fresh then 0 else y.rExch
      rDelay := if fresh then none else y.rDelay, rLast := m.seq, rRun := run, rAt := d.now, rClass := m.clockClass
      rDiff := some (d.sysTicks - (m.origin + m.corr)) }
    let d2 := setUtc m.utc m.leap61 m.leap59 d1
    match d2.time.rDelay with
    | none => d2
    | some x =>
      let d3 := sample .relay (d.sysTicks - (m.origin + m.corr) - x) d2
      if 4 ≤ run then sourceValid .relay d3 else d3

/-- TIME_DELAY_REQ_SEND (R452). -/
def timeReqOut (d : Dev) : Dev :=
  let t := d.time
  if !d.inSystem || d.isRoot || t.rLink.isNone || d.now < t.reqAt then d
  else (d.setTime fun y => { y with
    rReq := some (t.rSeq, d.sysTicks), rSeq := (t.rSeq + 1) % 65536, reqAt := d.now + secT 1 / 128 }).sendFc t.root 0x71 (be 2 t.rSeq ++ be 2 0) t.rLink

/-- TIME_DELAY_REQ at the root (R452): answered on the link the root uses for that device (R453), and not where its cell was resent. -/
def timeReqIn (dev seq : Nat) (resent : Bool) (d : Dev) : Dev :=
  if d.inSystem && d.time.root == d.devId && !resent then
    d.sendFc dev 0x72 (be 2 seq ++ be 2 0 ++ beTime d.sysTicks ++ be 8 0) ((List.range 512).find? fun l => d.inMask dev l)
  else d

/-- TIME_DELAY_RESP (R452, R453): the path delay counts after 16 exchanges on the link; one from a resent cell is never used. -/
def timeRespIn (seq : Nat) (rxTime corr : Int) (resent : Bool) (d : Dev) : Dev :=
  match d.time.rReq, d.time.rDiff with
  | some (n, t), some x =>
    if n != seq || resent then d
    else d.setTime fun y => { y with
      rReq := none, rExch := y.rExch + 1
      rDelay := if 16 ≤ y.rExch + 1 then some ((x + (rxTime - corr - t)) / 2) else y.rDelay }
  | _, _ => d

/-- TIME_ROOT from the meridian (R451, R452). -/
def timeRootIn (dev root seq : Nat) (resent : Bool) (d : Dev) : Dev :=
  if resent || dev != d.fab.holder || (seq != d.time.rootSeq && decide (32768 ≤ seqDiff seq d.time.rootSeq)) then d else learnRoot root seq d

/-! ### Commands (Table 13.5) -/

/-- TIME_SET_INSTANCE (R456). -/
def timeSetInstance (c : Cmd) (d : Dev) : Reply :=
  let k := c.hIdx; let pr := c.f 0 1
  let named := (List.range 256).any fun p => (d.getT p).inst == some k
  let old := match tget d.time.inst k with | some i => i.sessions | none => []
  let i : PtpInst := { profile := pr, domain := c.f 1 1, prio1 := c.f 2 1, prio2 := c.f 3 1, localPrio := c.f 4 1, slaveOnly := bit (c.f 5 1) 0
                       clockId := c.f 8 8, sessions := if pr = 3 then old else [] }
  check d [(c.bad 0x17, .badHandle),
      ((decide (3 < pr) && pr != 0xFF) || decide (1 < c.f 5 1) || c.dirty 6 2 || c.dirty 16 16, .badArg), (pr == 0xFF && named, .refusedBusy)]
    (.done (if pr = 0xFF then d.setTime fun t => { t with inst := tdel t.inst k }
            else bmca k (d.setTime fun t => { t with inst := tput t.inst k i })) {})

/-- TIME_SET_PORT (Table 13.6, R435): a port whose instance or role changes begins anew. -/
def timeSetPort (c : Cmd) (d : Dev) : Reply :=
  let p := c.hIdx; let t := d.getT p
  let i := c.f 0 1; let role := c.f 1 1; let fl := c.f 2 1; let no := c.f 6 2
  let ls := signed 1 (c.f 3 1); let ld := signed 1 (c.f 4 1); let la := signed 1 (c.f 5 1); let asym := signed 4 (c.f 8 4)
  let out (x lo hi : Int) : Bool := decide (x < lo) || decide (hi < x)
  let noInst := if i = 0xFF then role == 1 || role == 2 else decide (3 < i) || (tget d.time.inst i).isNone
  let twice := i != 0xFF && (List.range 256).any fun q => q != p && (d.getT q).inst == some i && (d.getT q).portNo == no
  let udp := match tget d.time.inst i with | some x => x.profile == 3 | none => false
  let bad := decide (4 < role) || decide (3 < fl) || out ls (-7) 4 || out ld (-7) 4 || out la (-3) 4 || no == 0 || no == 65535 ||
    out asym (-1000000) 1000000 || noInst || twice || (bit fl 0 && d.ptpProtected p udp) || c.dirty 21 1 || c.dirty 24 8
  let inst := if i = 0xFF then none else some i
  let base : TPort := if t.inst = inst && t.role = role then t else
    { rxQl := t.rxQl, noTrailer := t.noTrailer, esmcAt := t.esmcAt, st := if role = 1 || role = 2 then .listening else .off }
  let new : TPort := { base with
    inst := inst, role := role, oneStep := bit fl 0, esmc := bit fl 1, logSync := ls, logDelay := ld, logAnn := la, portNo := no, asym := asym
    ingress := signed 4 (c.f 12 4), egress := signed 4 (c.f 16 4), ql := c.f 20 1, thr := c.f 22 2
    esmcNew := t.esmcNew || (bit fl 1 && t.ql != c.f 20 1) }
  check d [(c.bad 0x01, .badHandle), (bad, .badArg)]
    (let d1 := d.putT p new
     let d2 := if t.st = .slave && new.st != .slave then sourceGone (.ptp p) d1 else d1
     .done (match inst with | some k => bmca k d2 | none => d2) {})

/-- TIME_SET_SOURCE (Table 13.7). -/
def timeSetSource (c : Cmd) (d : Dev) : Reply :=
  let fl := c.f 3 1; let bw := c.f 4 2; let sl := c.f 6 2; let h := c.f 8 4; let w := c.f 12 2
  let bad := decide (3 < fl) || decide (bw < 10) || decide (10000 < bw) || sl == 0 || decide (10000 < sl) || decide (h < 10) ||
    decide (10000 < h) || w == 0 || decide (1000 < w) || c.dirty 16 16
  check d [(c.bad 0x00, .badHandle), (bad, .badArg)]
    (.done (sourcesChanged (d.setTime fun t => { t with
      prioPtp := c.f 0 1, prioPps := c.f 1 1, classPps := c.f 2 1, autoStep := bit fl 0, useFreq := bit fl 1, bw := bw, slew := sl
      holdNs := h, window := w, classHold := c.f 14 1, classExp := c.f 15 1 })) {})

/-- TIME_SET_IO (R458, R445). -/
def timeSetIo (c : Cmd) (d : Dev) : Reply :=
  let o := (List.range 4).map fun k => (c.f (3 * k) 2, c.f (3 * k + 2) 1)
  let w := c.f 12 4; let a := signed 4 (c.f 16 4); let b := signed 4 (c.f 20 4)
  let bad := o.any (fun x => (decide (255 < x.1) && x.1 != 0xFFFF) || decide (2 < x.2)) || w == 0 || decide (500000 < w) ||
    decide (1000000 < a.natAbs) || decide (1000000 < b.natAbs) || decide (3 < c.f 24 1) || c.dirty 25 7
  check d [(c.bad 0x00, .badHandle), (bad, .badArg)]
    (.done (d.setTime fun t => { t with
      synce := o.map fun (x : Nat × Nat) => (if x.1 = 0xFFFF then none else some x.1, x.2)
      ppsWidth := w, ppsInPs := a, ppsOutPs := b, todIn := bit (c.f 24 1) 0, todOut := bit (c.f 24 1) 1 }).synceSquelch {})

/-- TIME_STEP (R442, R459). -/
def timeStep (c : Cmd) (d : Dev) : Reply :=
  let mode := c.f 0 1; let at_ := c.f 8 8; let rel := mode == 0
  let sec := if rel then signed 8 (c.f 16 8) else (c.f 16 8 : Int)
  let ns := if rel then signed 4 (c.f 24 4) else (c.f 24 4 : Int)
  let bad := decide (1 < mode) || c.dirty 1 7 || c.dirty 30 2 || (at_ != 0 && decide (at_ < d.nowNs + 10000000)) ||
    decide (999999999 < ns.natAbs) || (!rel && decide (2 ^ 48 ≤ sec.natAbs))
  check d [(c.bad 0x00, .badHandle), (bad, .badArg), (!d.isRoot, .notReady), (d.epochShown || d.time.step.isSome, .refusedBusy)]
    (.pend (acceptStep (!rel) (if at_ = 0 then d.nowNs + 10000000 else at_) ((sec * 1000000000 + ns) * 65536 + c.f 28 2) (some c.intake) d))

/-- An instance's data sets as TIME_GET_STATUS writes them (log 30). -/
def instFields (d : Dev) (k : Nat) : List Fld :=
  match tget d.time.inst k with
  | none => 
    [fByte (Config.absent 10), fByte (Config.absent 11), fByte (Config.absent 12), fByte (Config.absent 13), fByte (Config.absent 14),
     fByte (Config.absent 15), f8 (Config.absent 16), f8 (Config.absent 17), fByte (Config.absent 18), fIdx (Config.absent 19)]
  | some i =>
    let m := d.announced k i
    [fByte i.profile, fByte i.domain, fByte i.prio1, fByte i.prio2, fByte i.localPrio, fByte (b2n i.slaveOnly), f8 i.clockId, f8 m.gm,
     fByte m.clockClass, fIdx m.stepsRemoved]

/-- TIME_GET_STATUS (R456, R514): frequency and error estimate are the servo's, open to the model (log 4, log 26); the step history has
eight places, the newest first, each with the system time just after the step. -/
def timeGetStatus (c : Cmd) (d : Dev) : Reply :=
  let t := d.time
  let isInst := c.hType == 0x17
  let hist := (List.range 8).map fun k => match t.hist[k]? with
    | some x => [f8 (ns64 (x.1 + t.off - ((t.hist.take k).map (·.2)).sum)), f8i (x.2.tdiv 65536)]
    | none => [f8 (Config.absent 23), f8 (Config.absent 24)]
  let a := d.openVal
  let b := a.2.openVal
  let sets := if isInst then [d.instFields c.hIdx] else (List.range 4).map d.instFields
  check d [(if isInst then c.bad 0x17 else c.bad 0x00, .badHandle), (isInst && (tget t.inst c.hIdx).isNone, .badHandle)]
    (statusReply c d ([fByte t.servo.code, fByte t.source.code, fIdx t.root, f8i (t.offset.tdiv 65536), f8 a.1.toNat, f8 b.1.toNat, f8i t.utc] ++
      fArr hist ++ fArr sets) fun x => { x with fresh := x.fresh + 2 })

/-- TIME_GET_PORT (R456, R514): a delay in ns, the passive offset in ps, open fields where there is none (log 42), whether the calibration holds. -/
def timeGetPort (c : Cmd) (d : Dev) : Reply :=
  let t := d.getT c.hIdx
  check d [(c.bad 0x01, .badHandle)]
    (statusReply c d [fByte t.st.code, f8i (((meanDelay t).map (·.tdiv 65536)).getD (Config.absent 20)), f8i ((t.passive.map tPs).getD (Config.absent 21)), fByte (t.rxQl.getD (Config.absent 22)),
      fByte (b2n (!d.calBad c.hIdx)), fCnt t.noTrailer])

end Dev

/-- REF_LOSS. -/
def execRefLoss (r : RefName) (s : State) : Out := s.onDev (Dev.refLoss r)
/-- PTP_SYNC. -/
def execPtpSync (p : Fin 256) (m : PtpMsg) (s : State) : Out := s.onDev (Dev.ptpSync p m)
/-- PTP_FOLLOW_UP. -/
def execPtpFollowUp (p : Fin 256) (m : PtpMsg) (s : State) : Out := s.onDev (Dev.ptpFollowUp p m)
/-- PTP_DELAY_REQ. -/
def execPtpDelayReq (p : Fin 256) (m : PtpMsg) (s : State) : Out := s.onDev (Dev.ptpDelayReq p m)
/-- PTP_DELAY_RESP. -/
def execPtpDelayResp (p : Fin 256) (m : PtpMsg) (reqId reqPort : Nat) (s : State) : Out := s.onDev (Dev.ptpDelayResp p m reqId reqPort)
/-- PTP_PDELAY. -/
def execPtpPdelay (p : Fin 256) (k : PdelayKind) (m : PtpMsg) (s : State) : Out := s.onDev (Dev.ptpPdelay p k m)
/-- PTP_ANNOUNCE. -/
def execPtpAnnounce (p : Fin 256) (domain : Nat) (m : AnnounceMsg) (s : State) : Out := s.onDev (Dev.ptpAnnounce p domain m)
/-- PTP_MESSAGE_SEND. -/
def execPtpMessageSend (p : Fin 256) (kind : Fin 4) (s : State) : Out := s.onDev (Dev.ptpSend p kind)
/-- SOURCE_LOST_TIMEOUT. -/
def execSourceLostTimeout (t : TimeSource) (s : State) : Out := s.onDev (Dev.sourceTimeout t)
/-- SERVO_LOCK. -/
def execServoLock (s : State) : Out := s.onDev Dev.servoLock
/-- HOLDOVER_LIMIT. -/
def execHoldoverLimit (s : State) : Out := s.onDev Dev.holdoverLimit
/-- TIME_STEP_APPLY. -/
def execTimeStepApply (s : State) : Out := s.onDev Dev.timeStepApply
/-- LEAP_SECOND. -/
def execLeapSecond (positive : Bool) (s : State) : Out := s.onDev (Dev.leapSecond positive)
/-- PPS_IN. -/
def execPpsIn (t : Int) (s : State) : Out := s.onDev (Dev.ppsIn t)
/-- TOD_IN. -/
def execTodIn (seconds : Nat) (utc : Int) (s : State) : Out := s.onDev (Dev.todIn seconds utc)
/-- FREQ_IN_EDGE_LOSS. -/
def execFreqInEdgeLoss (s : State) : Out := s.onDev (Dev.sourceGone .freqIn)
/-- FREQ_IN_VALID. -/
def execFreqInValid (s : State) : Out := s.onDev Dev.freqValid
/-- PPS_OUT_SECOND. -/
def execPpsOutSecond (s : State) : Out := s.onDev Dev.ppsOut
/-- ESMC_PDU_SEND. -/
def execEsmcPduSend (p : Fin 256) (s : State) : Out := s.onDev (Dev.esmcSend p)
/-- ESMC_PDU. -/
def execEsmcPdu (p : Fin 256) (ql : Nat) (s : State) : Out := s.onDev (Dev.esmcIn p ql)
/-- TIME_SYNC_SEND. -/
def execTimeSyncSend (s : State) : Out := s.onDev Dev.timeSyncOut
/-- TIME_SYNC. -/
def execTimeSync (m : TimeSyncMsg) (s : State) : Out := s.onDev (Dev.timeSyncIn m)
/-- TIME_DELAY_REQ_SEND. -/
def execTimeDelayReqSend (s : State) : Out := s.onDev Dev.timeReqOut
/-- TIME_DELAY_REQ. -/
def execTimeDelayReq (dev seq : Nat) (resent : Bool) (s : State) : Out := s.onDev (Dev.timeReqIn dev seq resent)
/-- TIME_DELAY_RESP. -/
def execTimeDelayResp (seq : Nat) (r : RespTime) (resent : Bool) (s : State) : Out := s.onDev (Dev.timeRespIn seq r.rxTime r.corr resent)
/-- TIME_STEP_NOTICE. -/
def execTimeStepNotice (m : StepNotice) (s : State) : Out := s.onDev (Dev.stepNotice m)
/-- TIME_CANDIDATE (R451), unless its cell was resent (R452). -/
def execTimeCandidate (m : CandidateMsg) (s : State) : Out := s.onDev fun d => if m.resent then d else Dev.candTake m d
/-- TIME_ROOT. -/
def execTimeRoot (dev : Nat) (r : RootName) (resent : Bool) (s : State) : Out := s.onDev (Dev.timeRootIn dev r.root r.seq resent)
/-- UNICAST_NEGOTIATION. -/
def execUnicastNegotiation (p : Fin 256) (peer msgType : Nat) (grant : Bool) (durationS : Nat) (s : State) : Out :=
  s.onDev (Dev.unicast p peer msgType grant durationS)
/-- PTP_MANAGEMENT. -/
def execPtpManagement (p : Fin 256) (id : Nat) (s : State) : Out := s.onDev (Dev.ptpManage p id)
/-- TIME_SET_INSTANCE, opcode 0x0700. -/
def execTimeSetInstance (src : Src) (s : State) : Out := s.onDev (Dev.runCmd 0x0700 src Dev.timeSetInstance)
/-- TIME_SET_PORT, opcode 0x0701. -/
def execTimeSetPort (src : Src) (s : State) : Out := s.onDev (Dev.runCmd 0x0701 src Dev.timeSetPort)
/-- TIME_SET_SOURCE, opcode 0x0702. -/
def execTimeSetSource (src : Src) (s : State) : Out := s.onDev (Dev.runCmd 0x0702 src Dev.timeSetSource)
/-- TIME_SET_IO, opcode 0x0703. -/
def execTimeSetIo (src : Src) (s : State) : Out := s.onDev (Dev.runCmd 0x0703 src Dev.timeSetIo)
/-- TIME_STEP, opcode 0x0704. -/
def execTimeStep (src : Src) (s : State) : Out := s.onDev (Dev.runCmd 0x0704 src Dev.timeStep)
/-- TIME_GET_STATUS, opcode 0x0705. -/
def execTimeGetStatus (src : Src) (s : State) : Out := s.onDev (Dev.runCmd 0x0705 src Dev.timeGetStatus)
/-- TIME_GET_PORT, opcode 0x0706. -/
def execTimeGetPort (src : Src) (s : State) : Out := s.onDev (Dev.runCmd 0x0706 src Dev.timeGetPort)

end Sys2Proof.Machine
end

