-- ==== Sys2Proof/Machine/Security.lean ====
section
/-! DEFINITION. Commands that change what a device reset keeps, tamper, the security commands, MACsec's commands and the test port
(R626-R641, R655). -/

namespace Sys2Proof.Machine

/-- Execute the command that waits under this opcode and source with a handler that may change fuses, flash or the tamper latch. -/
def State.runNv (op : Nat) (src : Src) (h : Cmd → Nv → Dev → Nv × Reply) (s : State) : Out :=
  match s.dev.nextCmd op src with
  | none => .next s
  | some c =>
    match s.dev.gateCmd c with
    | some st => .next { s with dev := s.dev.complete c { status := st } }
    | none => let r := h c s.nv s.dev; .next { s with nv := r.1, dev := Dev.settle c r.2 }

namespace Dev

/-- `check` for a handler of `State.runNv`. -/
def checkNv (nv : Nv) (d : Dev) (tests : List (Bool × Status)) (go : Nv × Reply) : Nv × Reply :=
  match tests.find? (·.1) with
  | some t => (nv, .done d { status := t.2 })
  | none => go

/-! ### Tamper (R635-R639) -/

/-- The latch word of Table 21.5. -/
def latchWord (nv : Nv) : Nat := nv.latch.toNat % 2 ^ 24 + 2 ^ 24 * nv.tamperLog.length

/-- Sources of a set whose response is to zeroise (R635). -/
def zeroising (d : Dev) (src : BitVec 4) : Bool := src &&& ~~~d.sec.alarmOnly != 0#4

/-- A key operation completes TAMPERED while such a source fires (R639). -/
def tamperHeld (d : Dev) : Bool := d.zeroising d.sec.firing

/-- The key operations (R639). -/
def isKeyOp (o : Nat) : Bool := decide (0x0B08 ≤ o) && decide (o ≤ 0x0B0B)

/-- Every SA of every port and the KEK are overwritten (R636). -/
def zeroise (d : Dev) : Dev :=
  { d with sec := { d.sec with kek := none, mac := d.sec.mac.map fun (m : Nat × Mac) => (m.1, { m.2 with sa := [], peer := [], txAn := none }) } }

/-- The frame that port `p` is encrypting at a zeroisation, the next of its transmit queue (log 33), is ended with an inverted FCS and counted (R636). -/
def cutFrame (p : Nat) (d : Dev) : Dev :=
  let m := d.getMac p
  match tgetD d.tx [] p with
  | [] => d
  | f :: r =>
    let st := (d.getPort p).obj.st
    if m.on && !m.closed && !macPlain m f.bytes && (st == .running || st == .stopping) then
      let g := tcStage p f d
      match g.2.macsecSend p true g.1 with
      | (some b, e) => (({ e with tx := tset e.tx [] p r } : Dev).emit (.lineFrame p b.1 b.2 true)).dropPort p 35 f.len
      | (none, _) => d
    else d

/-- A key operation that was taken and not released is withdrawn: its slot or selection is as it was before it, which the zeroisation leaves clear, and it
completes TAMPERED, in place of a completion that waits (R639). -/
def keyOpAbort (c : Cmd) (d : Dev) : Dev :=
  let d1 : Dev := { d with hif := { d.hif with heldDone := d.hif.heldDone.filter (·.1 != c.intake) } }
  d1.complete c { status := .tampered }

/-- Fail-closed of every port brought up to date (R634). -/
def macEvalAll (d : Dev) : Dev := (List.range 256).foldl (fun (x : Dev) p => x.macEval p 1) d

/-- Ports that a zeroisation makes fail-closed. -/
def closing (d : Dev) : Nat := (d.sec.mac.filter fun m => m.2.on && !m.2.closed).length

/-- EV_TAMPER: response 0 zeroise or 1 alarm, state 0 start-up, 1 running, 2 sleep or 3 key operation (Table 21.7). -/
def tamperEvent (src : BitVec 4) (alarm : Bool) (st n : Nat) (d : Dev) : Dev :=
  d.raise 0x0B00 sevCritical 0 [fByte src.toNat, fByte (b2n alarm), fByte st, fCnt n]

/-- The device enters Chrysalis: only the ROM runs (R603). -/
def enterChrysalis (cause : Nat) (d : Dev) : Dev :=
  ({ d with hif := { d.hif with chrysalis := true, answers := true, up := false, bootPhase := 0xD }
            fw := { d.fw with causes := if bit d.fw.causes cause then d.fw.causes else d.fw.causes + 2 ^ cause, hostBoot := false, buffer := [] }
            sec := { d.sec with idKey := false, kek := none } }).emit (.bootPhase 0xD)

end Dev

/-- The latch and, while an entry is left, the tamper log take a start-up tamper at a BOOT_PHASE (R637). -/
def Nv.burn (n : Nv) (src : BitVec 4) (phase : Nat) : Nv :=
  let l := (n.latch &&& ~~~(0xF00#32)) ||| src.setWidth 32 ||| BitVec.ofNat 32 (256 * (phase % 16))
  if n.tamperLog.length < 32 then { n with latch := l, tamperLog := n.tamperLog ++ [src.toNat + 256 * (phase % 16)] }
  else { n with latch := l ||| 0x8000#32 }

/-- Sources begin to fire before READY (R637): in device reset and where the device halted they are latched, logged and the keys cleared;
otherwise the device enters Chrysalis. -/
def State.tamperStart (src : BitVec 4) (s : State) : State :=
  let d := s.dev
  let n := s.nv.burn src d.hif.bootPhase
  let k := d.closing
  let d1 : Dev := ({ d with sec := { d.sec with idKey := false } }).zeroise
  let d2 := (d1.tamperEvent src false 0 k).setAlarm 1
  { s with nv := n, dev := if d.hif.chrysalis then d2.enterChrysalis 2 else d2 }

/-- Sources begin to fire after READY (R636, R638, R639). -/
def State.tamperRun (src : BitVec 4) (s : State) : State :=
  let d := s.dev
  if d.zeroising src then
    let ops := d.hif.cmds.filter fun c => Dev.isKeyOp c.opcode
    let st := if !ops.isEmpty then 3 else if d.pwr.quiet then 2 else 1
    let n : Nv := { s.nv with latch := s.nv.latch ||| src.setWidth 32 ||| (if ops.isEmpty then 0#32 else 0x10#32) }
    let k := d.closing
    let d1 := (((List.range 256).foldl (fun (x : Dev) p => x.cutFrame p) (if d.pwr.quiet then d.quietExit else d)).zeroise.tamperEvent src false st k).setAlarm 1
    let d2 := d1.macEvalAll
    { s with nv := n, dev := ops.foldl (fun (x : Dev) c => x.keyOpAbort c) d2 }
  else
    { s with nv := { s.nv with latch := s.nv.latch ||| src.setWidth 32 }
             dev := (d.tamperEvent src true (if d.pwr.quiet then 2 else 1) 0).setAlarm 1 }

/-- TAMPER_DETECT: the sources that fire now; those that did not fire before are detected (R635-R639, log 33). -/
def State.tamper (src : BitVec 4) (s : State) : State :=
  let new := src &&& ~~~s.dev.sec.firing
  let s1 : State := { s with dev := { s.dev with sec := { s.dev.sec with firing := src } } }
  if new = 0#4 then s1 else if s.dev.hif.up then s1.tamperRun new else s1.tamperStart new

/-- A source that fires for a moment (log 33). -/
def State.tamperPulse (src : BitVec 4) (s : State) : State :=
  let was := s.dev.sec.firing
  let s1 := { s with dev := { s.dev with sec := { s.dev.sec with firing := was &&& ~~~src } } }.tamper (was ||| src)
  { s1 with dev := { s1.dev with sec := { s1.dev.sec with firing := was } } }

namespace Dev

/-! ### Security commands (Table 21.6) -/

/-- SEC_GET_IDENTITY (R629): serial, public key, then the certificate's length and bytes (log 33). -/
def secGetIdentity (c : Cmd) (d : Dev) : Reply :=
  check d [(c.bad 0x00, .badHandle), (!d.sec.idKey, .notReady)]
    (statusReply c d [.raw 8 (slice Config.serial 0 8), .raw 1 (slice Config.identityPub 0 97), .u 4 (Config.certificate.take 1024).length,
      .raw 1 (Config.certificate.take 1024)])

/-- The body of an attestation record (R629), its fields in the order R629 names them, packed as R514 packs a record (log 33). -/
def attestation (nv : Nv) (nonce : Bytes) (d : Dev) : List Fld :=
  let i := imgHeader d.fw.image
  [.raw 1 nonce] ++
  fArr (i.comps.map fun c => [fByte c.type, .u 4 (tgetD d.fw.comps c.version c.type), .raw 1 c.digest]) ++
  d.fw.bankVer.map (fun v => .u 4 v) ++
  fArr (d.pe.module.map fun m => [fIdx m.1, .raw 1 (Config.sha384 m.2.image)]) ++
  [.raw 1 ((List.range 4).flatMap fun k => slice (Config.verifyKey k) 0 49), fByte nv.revoked.toNat, fByte nv.minVer,
   .raw 8 (slice Config.serial 0 8), .u 4 (Config.certificate.take 1024).length, .raw 1 (Config.certificate.take 1024),
   .raw 2 ((List.range 32).flatMap fun k => le 2 (nv.tamperLog.getD k 0)), .u 4 (latchWord nv)]

/-- SEC_ATTEST (R629): the record, then the identity key's signature over its SHA-384. -/
def secAttest (nv : Nv) (c : Cmd) (d : Dev) : Reply :=
  check d [(c.bad 0x00, .badHandle), (!d.sec.idKey, .notReady)]
    (let r := d.statusRecord c.opcode (d.attestation nv c.inl)
     .done d { record := some (r ++ slice (Config.identitySign (Config.sha384 r)) 0 96) })

/-- Key `k` signed the running control firmware, or an image in a slot that is TRIAL or GOOD (R627). -/
def keyInUse (nv : Nv) (d : Dev) (k : Nat) : Bool :=
  (imgHeader d.fw.image).key == k ||
  [false, true].any fun b => let x := slot nv d b; (x.st == .trial || x.st == .good) && (imgHeader x.image).key == k

/-- SEC_REVOKE_KEY (R627). -/
def secRevokeKey (pl : HostRead) (c : Cmd) (nv : Nv) (d : Dev) : Nv × Reply :=
  let b := pl.getD []
  let t := field b 0 1; let g := field b 1 1
  let bad := pl.isNone || c.dirty 0 32 || decide (3 < t) || decide (3 < g) || !isZero b 2 6 || t == g || nv.revoked.getLsbD t ||
    nv.revoked.getLsbD g
  checkNv nv d [(c.bad 0x00, .badHandle), (bad, .badArg), (keyInUse nv d t, .refusedBusy),
      (!Config.ecdsaVerify (Config.verifyKey g) (Config.sha384 (slice b 0 16)) (slice b 16 96) ||
        slice b 8 8 != slice Config.serial 0 8, .verifyFailed)]
    ({ nv with revoked := nv.revoked ||| BitVec.ofNat 4 (2 ^ t) }, .done (d.raise 0x0B03 sevInfo 0 [fIdx t]) {})

/-- SEC_RAISE_MIN (R627). -/
def secRaiseMin (c : Cmd) (nv : Nv) (d : Dev) : Nv × Reply :=
  let v := c.f 0 1
  let o := slot nv d (!d.hif.fwSlot)
  let bad := decide (1 < c.f 1 1) || c.dirty 2 30 || decide (v < nv.minVer) || decide (64 < v) || decide ((imgHeader d.fw.image).sec < v)
  checkNv nv d [(c.bad 0x00, .badHandle), (bad, .badArg),
      (nv.trial.isSome || (o.st == .good && decide ((imgHeader o.image).sec < v) && c.f 1 1 == 0), .refusedBusy)]
    ({ nv with minVer := v }, .done d {})

/-- SEC_SET_TAMPER (R635, Table 21.6): kept in the persisted configuration. -/
def secSetTamper (c : Cmd) (nv : Nv) (d : Dev) : Nv × Reply :=
  let r := (List.range 4).map fun k => c.f k 1
  let a : BitVec 4 := BitVec.ofNat 4 (bitsOf (r.map (· == 1)))
  checkNv nv d [(c.bad 0x00, .badHandle), (r.any (fun (x : Nat) => decide (1 < x)) || c.dirty 4 28, .badArg)]
    (d.persist nv fun p => { p with alarmOnly := a }, .done { d with sec := { d.sec with alarmOnly := a } } {})

/-- SEC_GET_TAMPER (Table 21.6): latch, responses, tamper log. -/
def secGetTamper (nv : Nv) (c : Cmd) (d : Dev) : Reply :=
  check d [(c.bad 0x00, .badHandle)]
    (statusReply c d ([.u 4 (latchWord nv)] ++ (List.range 4).map (fun k => fByte (b2n (d.sec.alarmOnly.getLsbD k))) ++
      [.raw 2 ((List.range 32).flatMap fun k => le 2 (nv.tamperLog.getD k 0))]))

/-- SEC_TAMPER_CLEAR (R636): the bit of a source that still fires stays. -/
def secTamperClear (c : Cmd) (nv : Nv) (d : Dev) : Nv × Reply :=
  checkNv nv d [(c.bad 0x00, .badHandle), (c.dirty 0 32, .badArg)]
    ({ nv with latch := nv.latch &&& (0xFFFFFFE0#32 ||| d.sec.firing.setWidth 32) }, .done d {})

/-! ### MACsec commands -/

/-- MACSEC_SET_PORT (R631, Table 21.3). -/
def macsecSetPort (c : Cmd) (d : Dev) : Reply :=
  let p := c.hIdx
  let m := d.getMac p
  let on := c.f 0 1 == 1; let xpn := c.f 1 1 == 1
  let bad := decide (1 < c.f 0 1) || decide (1 < c.f 1 1) || decide (2 < c.f 2 1) || decide (8 ≤ c.f 3 1) ||
    !(c.f 4 1 == 0 || c.f 4 1 == 30 || c.f 4 1 == 50) || c.dirty 5 3 || decide (2 ^ 30 < c.f 16 4)
  let m1 : Mac := { m with
    on := on, xpn := xpn, validate := c.f 2 1, flags := c.f 3 1, conf := c.f 4 1, sci := c.f 8 8, window := c.f 16 4
    bypass := (List.range 6).map fun k => c.f (20 + 2 * k) 2 }
  let m2 : Mac := if xpn = m.xpn then m1 else { m1 with sa := [], peer := [], txAn := none }
  check d [(c.bad 0x01, .badHandle), (bad, .badArg), ((on != m.on || xpn != m.xpn) && (d.getPort p).obj.st != .stopped, .refusedBusy)]
    (.done ((d.putMac p m2).macEval p 0) {})

/-- MACSEC_KEK_AGREE (R632). -/
def macsecKekAgree (pl : HostRead) (c : Cmd) (d : Dev) : Reply :=
  let k := slice (Config.kekOf (slice (pl.getD []) 0 97)) 0 32
  check d [(c.bad 0x00, .badHandle), (d.tamperHeld, .tampered), (pl.isNone || c.dirty 0 32, .badArg), (!d.sec.idKey, .notReady)]
    (.done { d with sec := { d.sec with kek := some k } } { result := unLe (slice (Config.sha384 k) 0 8) })

/-- The SA a MACSEC_SA_INSTALL payload gives under a key (Table 21.4). -/
def newSa (m : Mac) (b key : Bytes) : Sa :=
  { key := slice key 0 32, salt := if m.xpn then slice b 16 12 else [], pn := field b 8 8, ssci := if m.xpn then field b 4 4 else 0
    low := field b 8 8, exhausted := decide (pnEnd m ≤ field b 8 8) }

/-- MACSEC_SA_INSTALL (R633): check, unwrap, commit. -/
def macsecSaInstall (pl : HostRead) (c : Cmd) (d : Dev) : Reply :=
  let p := c.hIdx / 4; let ch := c.hIdx % 4
  let m := d.getMac p
  let b := pl.getD []
  let an := field b 0 1; let wrapped := field b 1 1 == 1; let peer := field b 72 8
  let other := ch != 0 && (match tget m.peer ch with | some x => x != peer | none => false)
  let bad := pl.isNone || c.dirty 0 32 || decide (3 < an) || decide (1 < field b 1 1) || !isZero b 2 2 || !isZero b 28 4 ||
    !isZero b 80 16 || (!wrapped && !isZero b 64 8) || (ch == 0 && peer != 0) || other
  let key : Option Bytes := if wrapped then (match d.sec.kek with | some k => Config.keyUnwrap k (slice b 32 40) | none => none)
    else some (slice b 32 32)
  check d [(c.bad 0x1B, .badHandle), (d.tamperHeld, .tampered), (bad, .badArg), (wrapped && d.sec.kek.isNone, .notReady),
      (key.isNone, .verifyFailed)]
    (let a := newSa m b (key.getD [])
     let warn := ch == 0 && decide (pnWarn m ≤ a.pn)
     let m1 : Mac := { m with sa := tput m.sa (ch * 4 + an) { a with warned := warn }, peer := if ch = 0 then m.peer else tput m.peer ch peer }
     let d1 := d.putMac p m1
     let d2 := if warn then d1.raise 0x0B02 sevMinor (handle 0x1B c.hIdx) [fIdx an, f8 a.pn] else d1
     .done (d2.macEval p 0) {})

/-- MACSEC_SA_DELETE (R633); a channel that holds no SA any more takes any peer. -/
def macsecSaDelete (c : Cmd) (d : Dev) : Reply :=
  let p := c.hIdx / 4; let ch := c.hIdx % 4; let an := c.f 0 1
  let m := d.getMac p
  let sa := tdel m.sa (ch * 4 + an)
  let left := sa.any fun x => x.1 / 4 == ch
  check d [(c.bad 0x1B, .badHandle), (d.tamperHeld, .tampered), (decide (3 < an) || c.dirty 1 31, .badArg)]
    (.done ((d.putMac p { m with
      sa := sa, peer := if left then m.peer else tdel m.peer ch
      txAn := if ch = 0 && m.txAn == some an then none else m.txAn }).macEval p 0) {})

/-- MACSEC_TX_SELECT (R633): channel 0 only, and an AN that holds an SA (log 33). -/
def macsecTxSelect (c : Cmd) (d : Dev) : Reply :=
  let p := c.hIdx / 4; let an := c.f 0 1
  let m := d.getMac p
  check d [(c.bad 0x1B, .badHandle), (d.tamperHeld, .tampered), (c.hIdx % 4 != 0 || decide (3 < an) || c.dirty 1 31, .badArg),
      ((tget m.sa an).isNone, .notReady)]
    (.done ((d.putMac p { m with txAn := some an }).macEval p 0) {})

/-- MACSEC_GET_STATUS (Table 21.6): per AN whether it holds an SA and its next PN; fail-closed; the port's MACSEC_RX counts by cause. -/
def macsecGetStatus (c : Cmd) (d : Dev) : Reply :=
  let m := d.getMac (c.hIdx / 4)
  let row (k : Nat) : List Fld :=
    match tget m.sa (c.hIdx % 4 * 4 + k) with | some a => [fFlag true, f8 a.pn] | none => [fFlag false, f8 0]
  check d [(c.bad 0x1B, .badHandle)]
    (statusReply c d (fArr ((List.range 4).map row) ++ [fFlag m.closed] ++ m.rx.map fCnt))

/-! ### The test port (R655) -/

/-- JTAG_INSTRUCTION: EXTEST is refused while HIF_STATE reads READY or HEADLESS. -/
def loadIr (i : JtagIr) (d : Dev) : Dev :=
  let refused := i == .extest && (d.stateCode == 1 || d.stateCode == 2)
  { d with jtag := { ir := if refused then .bypass else i } }

end Dev

/-- TAMPER_DETECT. -/
def execTamperDetect (sources : TamperSet) (s : State) : Out := .next (s.tamper sources)
/-- SEC_GET_IDENTITY, opcode 0x0B00. -/
def execSecGetIdentity (src : Src) (s : State) : Out := s.onDev (Dev.runCmd 0x0B00 src Dev.secGetIdentity)
/-- SEC_ATTEST, opcode 0x0B01. -/
def execSecAttest (src : Src) (s : State) : Out := s.onDev (Dev.runCmd 0x0B01 src (Dev.secAttest s.nv))
/-- SEC_REVOKE_KEY, opcode 0x0B02. -/
def execSecRevokeKey (src : Src) (pl : HostRead) (s : State) : Out := s.runNv 0x0B02 src (Dev.secRevokeKey pl)
/-- SEC_RAISE_MIN, opcode 0x0B03. -/
def execSecRaiseMin (src : Src) (s : State) : Out := s.runNv 0x0B03 src Dev.secRaiseMin
/-- SEC_SET_TAMPER, opcode 0x0B04. -/
def execSecSetTamper (src : Src) (s : State) : Out := s.runNv 0x0B04 src Dev.secSetTamper
/-- SEC_GET_TAMPER, opcode 0x0B05. -/
def execSecGetTamper (src : Src) (s : State) : Out := s.onDev (Dev.runCmd 0x0B05 src (Dev.secGetTamper s.nv))
/-- SEC_TAMPER_CLEAR, opcode 0x0B06, at a moment when the sources `firing` fire. -/
def execSecTamperClear (src : Src) (firing : TamperSet) (s : State) : Out := (s.tamper firing).runNv 0x0B06 src Dev.secTamperClear
/-- MACSEC_SET_PORT, opcode 0x0B07. -/
def execMacsecSetPort (src : Src) (s : State) : Out := s.onDev (Dev.runCmd 0x0B07 src Dev.macsecSetPort)
/-- MACSEC_KEK_AGREE, opcode 0x0B08. -/
def execMacsecKekAgree (src : Src) (pl : HostRead) (s : State) : Out := s.onDev (Dev.runCmd 0x0B08 src (Dev.macsecKekAgree pl))
/-- MACSEC_SA_INSTALL, opcode 0x0B09. -/
def execMacsecSaInstall (src : Src) (pl : HostRead) (s : State) : Out := s.onDev (Dev.runCmd 0x0B09 src (Dev.macsecSaInstall pl))
/-- MACSEC_SA_DELETE, opcode 0x0B0A. -/
def execMacsecSaDelete (src : Src) (s : State) : Out := s.onDev (Dev.runCmd 0x0B0A src Dev.macsecSaDelete)
/-- MACSEC_TX_SELECT, opcode 0x0B0B. -/
def execMacsecTxSelect (src : Src) (s : State) : Out := s.onDev (Dev.runCmd 0x0B0B src Dev.macsecTxSelect)
/-- MACSEC_GET_STATUS, opcode 0x0B0C. -/
def execMacsecGetStatus (src : Src) (s : State) : Out := s.onDev (Dev.runCmd 0x0B0C src Dev.macsecGetStatus)
/-- JTAG_INSTRUCTION. -/
def execJtagInstruction (i : JtagIr) (s : State) : Out := s.onDev (Dev.loadIr i)

end Sys2Proof.Machine
end

