-- ==== Sys2Proof/Machine/Flags.lean ====
section
/-! DEFINITION. The block's flags: the word of HIF_STATE, the alarm register and the conditions that set its bits again, ALARM_N (R480, R482,
R636, Tables 15.4 and 15.7). -/

namespace Sys2Proof.Machine
namespace Dev

/-- Two HBM channels of one number are not RUNNING (R355). -/
def hbmDouble (d : Dev) : Bool := (List.range 32).any fun j => decide (2 ≤ ((List.range 8).filter fun s => !d.chanUp s j).length)

/-- The conditions of R482 and R636 that persist: bits TAMPER, THERMAL, RATE_SHORTFALL, HBM_DOUBLE, REF_LOST. -/
def persisting (nv : Nv) (d : Dev) : List Nat :=
  (if nv.latch &&& 0x1F#32 = 0#32 then [] else [1]) ++ (if d.pwr.sites.any fun t => decide (420 ≤ t) then [2] else []) ++
  (if d.shortfallOn then [3] else []) ++ (if d.hif.up && d.hbmDouble then [4] else []) ++ (if d.time.sref.any (!·) then [8] else [])

/-- HIF_ALARM written: its 1s clear bits, and what persists sets its bit again (R482). -/
def alarmWrite (nv : Nv) (v : BitVec 64) (d : Dev) : Dev :=
  if !d.hif.answers then d
  else
    let d1 : Dev := { d with hif := { d.hif with alarm := d.hif.alarm &&& ~~~(v.setWidth 9) } }
    (d1.persisting nv).foldl setAlarm d1

/-- BAR0_REGISTER_WRITE (R480); of HIF_ALARM a 4-byte access writes the half it names, and the lower half holds all of its bits (log 57). -/
def bar0Register (nv : Nv) (off size : Nat) (be : BitVec 8) (data : BitVec 64) (d : Dev) : Dev :=
  if off = 0x3000 && ((size == 8 && be == 0xFF#8) || (size == 4 && be &&& 0x0F#8 == 0x0F#8)) then d.alarmWrite nv data else d.bar0Write off size be data

/-- ALARM_N is asserted (R482). -/
def alarmN (d : Dev) : Bool := d.hif.alarm != 0#9

/-- The voters (Table 15.4). -/
def votersMask (d : Dev) : Nat := bitsOf ((List.range 3).map fun k => (d.getTri k).role == .voter)

/-- HIF_STATE (Table 15.4). -/
def stateWord (d : Dev) : Nat :=
  d.stateCode + 64 * b2n d.hif.fwSlot + 128 * b2n d.alarmN + 256 * d.votersMask + 2 ^ 24 * d.hif.resets + 2 ^ 32 * d.hif.bootPhase

/-! ### Reads (R11, R480) -/

/-- The value of the 8-byte register of Table 15.2 at `off`, a multiple of 8: RO and W1C fields read the current value, RW fields the last
value written, RSV and WO fields and every unlisted offset 0 (Table 0.5). -/
def bar0Reg (d : Dev) (off : Nat) : Nat :=
  let h := d.hif
  let vec (i : Nat) : Nat := if i < 43 then (h.vector.getD i 0).toNat else 0
  if off = 0 then 0x7100 * 2 ^ 16 + 0xA1 * 2 ^ 8
  else if off = 0x08 then d.stateWord
  else if off = 0x10 then h.restartMs % 2 ^ 32 * 2 ^ 32 + h.readyMs % 2 ^ 32
  else if 0x100 ≤ off ∧ off < 0x200 then
    let r := (off - 0x100) / 16
    if off % 16 = 0 then tgetD h.dbSqTail 0 r + 2 ^ 32 * tgetD h.dbCqHead 0 r
    else tgetD h.dbAux0 0 r + (if r = 0 then 2 ^ 32 * h.dbAux1 else 0)
  else if 0x1000 ≤ off ∧ off < 0x1800 then
    let b := tgetD h.mbox {} ((off - 0x1000) / 256)
    let o := off % 256
    if o = 0 then b.opcode + 2 ^ 31 * b2n b.go + 2 ^ 32 * b.status else if o = 8 then b.result else field b.data (o - 16) 8
  else if off = 0x2000 then h.cause.toNat
  else if off = 0x2008 then h.mask.toNat
  else if 0x2040 ≤ off ∧ off < 0x2080 then ((List.range 8).map fun k => vec (off - 0x2040 + k) * 256 ^ k).sum
  else if 0x2080 ≤ off ∧ off < 0x2100 then ((List.range 4).map fun k => tgetD h.gap 0 ((off - 0x2080) / 2 + k) * 65536 ^ k).sum
  else if off = 0x3000 then h.alarm.toNat
  else 0

/-- What a BAR0 read of `size` bytes at `off` returns: naturally aligned accesses of 4 or 8 bytes read the registers of the word, every other
read returns 0; no read has a side effect (R480). -/
def bar0Read (d : Dev) (off size : Nat) : BitVec 64 :=
  if (size != 4 && size != 8) || off % size != 0 then 0
  else if size = 8 then BitVec.ofNat 64 (d.bar0Reg off)
  else BitVec.ofNat 64 (d.bar0Reg (off / 8 * 8) / 256 ^ (off % 8) % 2 ^ 32)

/-- What a BAR2 read of 4 bytes at `off` returns: the entries of the MSI-X table at 0x0000, 16 bytes each, and the pending-bit array at
0x8000 (Table 15.1; the layout of an entry is the PCIe Base Specification's, PRESUMED, log 118). -/
def bar2Read (d : Dev) (off : Nat) : BitVec 32 :=
  let v := off / 16
  let e := tgetD d.hif.msixEntry (0, 0) v
  if off % 4 ≠ 0 then 0
  else if off < 0x400 then
    match off % 16 with
    | 0 => e.1.setWidth 32
    | 4 => (e.1 >>> 32).setWidth 32
    | 8 => e.2
    | _ => if d.hif.msixUnmasked.contains v then 0 else 1
  else if off = 0x8000 ∨ off = 0x8004 then
    BitVec.ofNat 32 (bitsOf ((List.range 32).map fun k => d.hif.msixPending.contains ((off - 0x8000) * 8 + k)))
  else 0

end Dev

/-- HIF_ALARM_WRITE. -/
def execHifAlarmWrite (v : BitVec 64) (s : State) : Out := s.onDev (Dev.alarmWrite s.nv v)
/-- BAR0_REGISTER_WRITE. -/
def execBar0RegisterWrite (off size : Nat) (be : BitVec 8) (data : BitVec 64) (s : State) : Out :=
  s.onDev (Dev.bar0Register s.nv off size be data)

end Sys2Proof.Machine
end

