-- ==== Sys2Proof/Machine/Power.lean ====
section
/-! DEFINITION. The throughput governor, the rail monitors, the temperatures, the quiet state and the commands of Table 20.6
(R608-R625). -/

namespace Sys2Proof.Machine
namespace Dev

def setPwr (d : Dev) (f : Pwr → Pwr) : Dev := { d with pwr := f d.pwr }
def getLoop (d : Dev) (fwd : Bool) : Loop := if fwd then d.pwr.loopF else d.pwr.loopQ
def putLoop (d : Dev) (fwd : Bool) (l : Loop) : Dev := d.setPwr fun p => if fwd then { p with loopF := l } else { p with loopQ := l }

/-! ### The governor (R611-R615) -/

/-- Inboxes that hold at least 8 descriptors, with the tick since which (R612). -/
def noteBacklog (d : Dev) : Dev :=
  let on := (List.range 64).filter fun e => decide (8 ≤ (d.getEng e).inbox.length)
  d.setPwr fun p => { p with backlog := on.map fun e => (e, (tget p.backlog e).getD d.now) }

/-- Some inbox has held 8 descriptors for 100 µs (R612). -/
def backlogged (d : Dev) : Bool := d.pwr.backlog.any fun x => decide (x.2 + usT 100 ≤ d.now)

/-- The setpoint a loop wants after a sample (R611): rate in 1/10,000, target in 1/1,000,000; `high` is the end of 100 µs above the target. -/
def nextV (p : Pwr) (l : Loop) (rate target : Nat) (high : Bool) : Nat :=
  let raise := 5 * ((target - 100 * rate + 4999) / 5000)
  let v := if 100 * rate < target then l.v + raise else if high then l.v - 5 else l.v
  if p.fixed || p.quiet then p.floor else if l.short then 800 else max p.floor (min 800 v)

/-- The 64 crickets of a die, the forwarding die's being 0 to 63, read in 1/10,000 of their slow-corner rates (R32). -/
def readCrickets (fwd : Bool) (rates : List Nat) (d : Dev) : Dev :=
  let base := if fwd then 0 else 64
  d.setPwr fun p => { p with crickets := p.crickets.take base ++ (List.range 64).map (fun k => rates.getD k 0) ++ p.crickets.drop (base + 64) }

/-- The lowest relative rate among the 64 crickets of a die (R611). -/
def lowestRate (d : Dev) (fwd : Bool) : Nat :=
  match (d.pwr.crickets.drop (if fwd then 0 else 64)).take 64 with
  | [] => 0
  | x :: l => l.foldl min x

/-- GOVERNOR_LOOP: `rates` are the readings of the die's crickets and `offered` the ratio, in 1/10,000, of the rate that each unit of the die is offered to
the rate it guarantees; one sample of a loop, which runs from phase 0x5 of bring-up on (R609, R611). A loop whose regulator does not answer keeps
the setpoint last acknowledged (R613). -/
def governorLoop (fwd : Bool) (rates offered : List Nat) (d0 : Dev) : Dev :=
  if !d0.hif.up then d0
  else
    let d := (if fwd then d0.noteBacklog else d0).readCrickets fwd rates
    let rate := d.lowestRate fwd
    let need := offered.foldl max 0
    let p := d.pwr
    let l := d.getLoop fwd
    let n := if fwd && p.boost != 100 && d.backlogged then max need (100 * p.boost) else need
    let target := n * (100 + p.margin)
    let above := decide (target + 30000 < 100 * rate)
    let since (on : Bool) (was : Option Nat) : Option Nat := if on then some (was.getD d.now) else none
    let highAt := since above l.highAt
    let high := match highAt with | some t => decide (t + usT 100 ≤ d.now) | none => false
    let v := if l.faulted then l.acked else nextV p l rate target high
    let l1 : Loop := { l with
      v := v, rate := rate, need := n, target := target / 100, highAt := if high then some d.now else highAt
      lowAt := since (decide (100 * rate < target) && v == 800) l.lowAt, okAt := since (decide (target ≤ 100 * rate)) l.okAt }
    if v = l.sent then d.putLoop fwd l1
    else (d.putLoop fwd { l1 with sent := v, setAt := d.now, lower := min l.sent v }).emit (.avs fwd v)

/-- AVS_TELEMETRY_READ: every 1 ms the regulator's telemetry is read, and a setpoint that it did not acknowledge is sent again; after three in
a row EV_GOV_AVS_FAULT is raised once until a transaction succeeds (R613). -/
def avsTelemetry (fwd ack : Bool) (mv ma : Nat) (d : Dev) : Dev :=
  if !d.hif.up then d
  else
    let l := { d.getLoop fwd with tmv := mv, tma := ma }
    if ack then d.putLoop fwd { l with acked := l.sent, nacks := 0, faulted := false }
    else
      let n := l.nacks + 1
      let now := decide (3 ≤ n) && !l.faulted
      let l1 : Loop := if decide (3 ≤ n) then { l with nacks := n, faulted := true, v := l.acked, sent := l.acked } else { l with nacks := n }
      let d1 := (d.putLoop fwd l1).emit (.avs fwd l1.sent)
      if now then d1.raise 0x0C01 sevMajor 0 [fByte (b2n (!fwd)), f8 l.acked] else d1

/-- EV_GOV_SHORTFALL for want of margin: domain 0 forwarding or 1 queueing, cause 0, no lane, rate and target in hundredths (Table 20.8). -/
def shortfallEvent (fwd cleared : Bool) (d : Dev) : Dev :=
  let l := d.getLoop fwd
  d.raise 0x0C00 (if cleared then sevInfo else sevMajor) 0
    [fByte (b2n (!fwd)), fByte 0, fIdx (Config.absent 9), f8 (l.rate / 100), f8 (l.target / 100), fFlag cleared]

/-- SHORTFALL_START: 100 µs below the target with the setpoint at 0.80 V (R615). -/
def shortfallStart (fwd : Bool) (d : Dev) : Dev :=
  let l := d.getLoop fwd
  match l.lowAt with
  | some t =>
    if !l.short && decide (t + usT 100 ≤ d.now) then ((d.putLoop fwd { l with short := true }).setAlarm 3).shortfallEvent fwd false else d
  | none => d

/-- SHORTFALL_END: 100 ms at or above the target (R615). -/
def shortfallEnd (fwd : Bool) (d : Dev) : Dev :=
  let l := d.getLoop fwd
  match l.okAt with
  | some t =>
    if l.short && decide (t + msT 100 ≤ d.now) then
      (({ d.putLoop fwd { l with short := false } with hbm := { d.hbm with calmAt := d.now } }).shortfallEvent fwd true)
    else d
  | none => d

/-! ### Rails (R617) -/

/-- Nominal voltages of the rails with a fixed one, and absolute maxima, in mV (Table 20.1). -/
def railNominal (k : Nat) : Nat := [620, 620, 800, 900, 1050, 1200, 1800, 1200].getD k 0
def railMax (k : Nat) : Nat := [880, 880, 880, 990, 1160, 1320, 1980, 1320].getD k 0
/-- Tolerance in 0.1 mV around a nominal voltage (Table 20.1). -/
def railTol (k v : Nat) : Nat := match k with | 0 | 1 => 100 | 3 => v * 10 * 2 / 100 | 6 | 7 => v * 10 * 5 / 100 | _ => v * 10 * 3 / 100

/-- The nominal voltage of a rail now: for a core rail the setpoint last acknowledged (R617). -/
def nominalNow (d : Dev) (k : Nat) : Nat := match k with | 0 => d.pwr.loopF.acked | 1 => d.pwr.loopQ.acked | _ => railNominal k

/-- 5 µs of a core rail's transaction have not passed (R617). -/
def railSlewing (d : Dev) (k : Nat) : Bool :=
  match k with | 0 => decide (d.now < d.pwr.loopF.setAt + usT 5) | 1 => decide (d.now < d.pwr.loopQ.setAt + usT 5) | _ => false

/-- RAIL_SAMPLE: EV_PWR_RAIL after 100 µs outside the tolerance, and cleared after 1 ms back inside. -/
def railSample (k mv : Nat) (d : Dev) : Dev :=
  let r := { d.pwr.rail.getD k {} with mv := mv }
  let put (x : Rail) : Dev := d.setPwr fun p => { p with rail := p.rail.set k x }
  let told (clear : Bool) (x : Rail) : Dev := (put x).raise 0x0C02 (if clear then sevInfo else sevMajor) 0 [fIdx k, f8 mv, fFlag clear]
  if d.railSlewing k then put r
  else
    let v := d.nominalNow k
    if decide (railTol k v < 10 * (max mv v - min mv v)) then
      let t := r.outAt.getD d.now
      let r1 : Rail := { r with outAt := some t, inAt := none }
      if !r.raised && decide (t + usT 100 ≤ d.now) then told false { r1 with raised := true } else put r1
    else
      let t := r.inAt.getD d.now
      let r1 : Rail := { r with inAt := some t, outAt := none }
      if r.raised && decide (t + msT 1 ≤ d.now) then told true { r1 with raised := false } else put r1

/-- SUPPLY_GLITCH trips the detector: above the absolute maximum, or below 80% of the nominal voltage, the lower of two setpoints while the rail
is slewed (R617). -/
def glitches (d : Dev) (k mv : Nat) : Bool :=
  let v := if d.railSlewing k then (match k with | 0 => d.pwr.loopF.lower | _ => d.pwr.loopQ.lower) else d.nominalNow k
  decide (railMax k < mv) || decide (100 * mv < 80 * v)

/-! ### Temperatures (R618, R619) -/

/-- EV_THERMAL at the warning threshold, and its re-arming 5 °C below: site, temperature in 0.01 °C, threshold in °C (R619). -/
def thermalWarn (d : Dev) : Dev :=
  let w : Int := 4 * d.pwr.warn
  match (List.range 64).find? fun k => decide (w ≤ d.pwr.sites.getD k 0) with
  | some k =>
    if d.pwr.warned then d
    else (d.setPwr fun p => { p with warned := true }).raise 0x0C03 sevMajor 0 [fIdx k, f8i (25 * d.pwr.sites.getD k 0), f8 d.pwr.warn]
  | none => if d.pwr.sites.all fun t => decide (t ≤ w - 20) then d.setPwr fun p => { p with warned := false } else d

/-- THERMTRIP (R619): the pin, no line lane or fabric lane driven any more, every HBM stack in self-refresh. -/
def thermTrip (d : Dev) : Dev :=
  let d1 := (List.range 768).foldl (fun (x : Dev) l => x.emit (.laneDrive l false)) (d.emit (.pin 1 true))
  (List.range 8).foldl (fun (x : Dev) s => x.modStack s fun y => { y with sr := .asleep }) (d1.setPwr fun p => { p with trip := true })

/-- TEMPERATURE_SAMPLE: the junction sites in 0.25 °C and the HBM stacks in °C; a value that is not given stays. -/
def temperatures (sites hbm : List Int) (d : Dev) : Dev :=
  let d1 := d.setPwr fun p => { p with sites := (List.range 64).map fun k => sites.getD k (p.sites.getD k 0) }
  let d2 := (List.range 8).foldl (fun (x : Dev) s => match hbm[s]? with | some t => x.stackTemp s t | none => x) d1
  let hot (t : Int) : Bool := d2.pwr.sites.any fun x => decide (t ≤ x)
  let d3 := d2.thermalWarn
  let d4 := if hot 420 then d3.setAlarm 2 else d3
  if hot 460 && !d4.pwr.trip then d4.thermTrip else d4

/-- A junction is below −40 °C or above 125 °C (R619). -/
def tempTamper (d : Dev) : Bool := d.pwr.sites.any fun t => decide (t < -160) || decide (500 < t)

/-! ### The quiet state (R621, R622, R569) -/

/-- An engine without work enters its gated state (R221, R621). -/
def gateEngine (e : Nat) (d : Dev) : Dev :=
  let x := d.getEng e
  if x.obj.st = .running && !x.gated && !x.busy && !x.traceFull then
    let d1 := d.traceRec e 0x01 0 0xFFFF []
    d1.setEng e { d1.getEng e with gated := true, gatedAt := d.now }
  else d

/-- The conditions of R621 but the time. -/
def quietOk (d : Dev) : Bool :=
  d.hif.up && !d.pwr.quiet && d.hif.cmds.isEmpty && !(d.dma.ch.any fun c => c.2.obj.st == .running) && d.dma.queue.isEmpty &&
  !(d.dma.cv.any fun u => u.1 != 0 && u.2.scan.isSome)

/-- QUIET_ENTRY. -/
def quietEntry (d : Dev) : Dev :=
  if d.pwr.quietMs = 0 || !d.quietOk || decide (d.now < d.pwr.busyAt + msT d.pwr.quietMs) then d
  else
    let floorV (l : Loop) : Loop := { l with v := d.pwr.floor }
    let d1 := d.setPwr fun p => { p with quiet := true, quietAt := d.now, loopF := floorV p.loopF, loopQ := floorV p.loopQ }
    let d2 := (List.range 64).foldl (fun (x : Dev) e => x.gateEngine e) d1
    let d3 := if d.hbm.idleUs = 0 then d2
      else (List.range 8).foldl (fun (x : Dev) s =>
        if (x.getStack s).sr == .awake && (x.getStack s).wait.isEmpty then x.modStack s fun y => { y with sr := .asleep } else x) d2
    (d3.triRunning.foldl (fun (x : Dev) k => x.triTrace 0x01 0 0 k) d3).quietEvent true

/-! ### Commands (Table 20.6) -/

/-- A pipeline is power-gated: STOPPED, or RUNNING while all its ports are STOPPED; a port that drains keeps it powered, since gating loses no frame
(R140, Tables 4.6 and 20.4). -/
def pipeGated (d : Dev) (k : Nat) : Bool :=
  match (d.getPipe k).obj.st with
  | .stopped => true
  | .running => !(d.port.any fun q => q.1 / 8 == k && q.2.obj.st != .stopped)
  | _ => false

/-- PWR_GET_STATUS (R514, R624): the current and power of a rail without telemetry are open; then the sites in 0.01 °C, the loops, and per
state of Table 20.4 the units in it. -/
def pwrGetStatus (c : Cmd) (d : Dev) : Reply :=
  let free (k : Nat) : Nat := (Config.free (d.fresh + k)).toNat
  let rail (k : Nat) : List Fld :=
    let mv := f8 (d.pwr.rail.getD k {}).mv
    match k with
    | 0 => [f8 d.pwr.loopF.sent, mv, f8 d.pwr.loopF.tma, f8 (d.pwr.loopF.tmv * d.pwr.loopF.tma / 1000)]
    | 1 => [f8 d.pwr.loopQ.sent, mv, f8 d.pwr.loopQ.tma, f8 (d.pwr.loopQ.tmv * d.pwr.loopQ.tma / 1000)]
    | k => [f8 (railNominal k), mv, f8 (free (2 * k)), f8 (free (2 * k + 1))]
  let loop (l : Loop) : List Fld := [f8 (l.rate / 100), f8 (l.need / 100), f8 (l.target / 100), fFlag l.short]
  check d [(c.bad 0x00, .badHandle)]
    (statusReply c d (fArr ((List.range 8).map rail) ++ fArr ((List.range 64).map fun k => [f8i (25 * d.pwr.sites.getD k 0)]) ++
      fArr [loop d.pwr.loopF, loop d.pwr.loopQ] ++
      [.u 4 5, fBitmap 256 (fun p => (d.getPort p).width != 0 && (d.getPort p).obj.st == .stopped),
       fBitmap 32 (fun k => d.hif.up && d.pipeGated k),
       fBitmap 64 (fun e => (d.getEng e).gated), fBitmap 8 (fun s => (d.getStack s).sr == .asleep), fBitmap 1 (fun _ => d.pwr.quiet)])
      fun x => { x with fresh := x.fresh + 16 })

/-- GOV_SET (R614, Table 20.7). -/
def govSet (c : Cmd) (d : Dev) : Reply :=
  let m := c.f 1 1; let f := c.f 2 2; let b := c.f 4 1; let q := c.f 8 4
  let bad := decide (1 < c.f 0 1) || decide (m < 5) || decide (25 < m) || decide (f < 620) || decide (800 < f) || decide (b < 100) ||
    decide (140 < b) || c.dirty 5 3 || decide (60000 < q) || c.dirty 12 20
  check d [(c.bad 0x00, .badHandle), (bad, .badArg)]
    (.done (d.setPwr fun p => { p with fixed := c.f 0 1 == 1, margin := m, floor := f, boost := b, quietMs := q }) {})

/-- PWR_SET_THERMAL (R619). -/
def pwrSetThermal (c : Cmd) (d : Dev) : Reply :=
  let w := c.f 0 1
  check d [(c.bad 0x00, .badHandle), (decide (w < 80) || decide (104 < w) || c.dirty 1 31, .badArg)]
    (.done (d.setPwr fun p => { p with warn := w }).thermalWarn {})

end Dev

/-- GOVERNOR_LOOP. -/
def execGovernorLoop (fwd : Bool) (rates offered : List Nat) (s : State) : Out := s.onDev (Dev.governorLoop fwd rates offered)
/-- AVS_TELEMETRY_READ. -/
def execAvsTelemetryRead (fwd ack : Bool) (mv ma : Nat) (s : State) : Out := s.onDev (Dev.avsTelemetry fwd ack mv ma)
/-- SHORTFALL_START. -/
def execShortfallStart (fwd : Bool) (s : State) : Out := s.onDev (Dev.shortfallStart fwd)
/-- SHORTFALL_END. -/
def execShortfallEnd (fwd : Bool) (s : State) : Out := s.onDev (Dev.shortfallEnd fwd)
/-- RAIL_SAMPLE. -/
def execRailSample (rail : Fin 8) (mv : Nat) (s : State) : Out := s.onDev (Dev.railSample rail mv)
/-- SUPPLY_GLITCH: the detector is tamper source 1. -/
def execSupplyGlitch (rail : Fin 8) (mv : Nat) (s : State) : Out := if s.dev.glitches rail mv then .next (s.tamperPulse 2#4) else .next s
/-- TEMPERATURE_SAMPLE: a temperature out of range is tamper source 3. -/
def execTemperatureSample (sites hbmTemps : List Int) (s : State) : Out :=
  let d := s.dev.temperatures sites hbmTemps
  .next ({ s with dev := d }.tamper ((d.sec.firing &&& 0x7#4) ||| (if d.tempTamper then 0x8#4 else 0#4)))
/-- QUIET_ENTRY. -/
def execQuietEntry (s : State) : Out := s.onDev Dev.quietEntry
/-- PWR_GET_STATUS, opcode 0x0C00. -/
def execPwrGetStatus (src : Src) (s : State) : Out := s.onDev (Dev.runCmd 0x0C00 src Dev.pwrGetStatus)
/-- GOV_SET, opcode 0x0C01. -/
def execGovSet (src : Src) (s : State) : Out := s.onDev (Dev.runCmd 0x0C01 src Dev.govSet)
/-- PWR_SET_THERMAL, opcode 0x0C02. -/
def execPwrSetThermal (src : Src) (s : State) : Out := s.onDev (Dev.runCmd 0x0C02 src Dev.pwrSetThermal)

end Sys2Proof.Machine
end

