-- ==== Sys2Proof/Machine/Dma.lean ====
section
/-! DEFINITION. The DMA engine and its channels, the exporters, and the check-value units (R37-R40, R464-R466, R534-R555). -/

namespace Sys2Proof.Machine

/-! ### CRCs (Table 17.6) -/

/-- `n` steps of a reflected and of a plain CRC register of 64 bits. -/
def crcRefl (p : BitVec 64) : Nat → BitVec 64 → BitVec 64
  | 0, c => c
  | n + 1, c => crcRefl p n (if c.getLsbD 0 then (c >>> 1) ^^^ p else c >>> 1)

def crcPlain (p : BitVec 64) : Nat → BitVec 64 → BitVec 64
  | 0, c => c
  | n + 1, c => crcPlain p n (if c.getLsbD 63 then (c <<< 1) ^^^ p else c <<< 1)

/-- A byte taken into the running value of polynomial `poly`. -/
def cvByte (poly : Nat) (c : BitVec 64) (b : Byte) : BitVec 64 :=
  match poly with
  | 0 => crcRefl 0xEDB88320#64 8 (c ^^^ b.setWidth 64)
  | 1 => crcRefl 0x82F63B78#64 8 (c ^^^ b.setWidth 64)
  | _ => crcPlain 0x42F0E1EBA9EA3693#64 8 (c ^^^ (b.setWidth 64 <<< 56))

/-- Initial running value and final XOR. -/
def cvInit (poly : Nat) : BitVec 64 := if poly < 2 then 0xFFFFFFFF#64 else 0#64
def cvRun (poly : Nat) (c : BitVec 64) (bs : Bytes) : BitVec 64 := bs.foldl (cvByte poly) c
def cvFinal (poly : Nat) (c : BitVec 64) : BitVec 64 := c ^^^ cvInit poly

/-! ### The address space (R37, Tables 1.7 and 1.8) -/

/-- The SRAM windows: base, size, and whether they belong to the forwarding die. -/
def sramWindows : List (Nat × Nat × Bool) :=
  [(0x400000000000, 64 * 2 ^ 20, true), (0x400100000000, 48 * 2 ^ 20, true), (0x400200000000, 24 * 2 ^ 20, true),
   (0x400300000000, 4 * 2 ^ 20, true), (0x400400000000, 16 * 2 ^ 20, true), (0x400500000000, 4 * 2 ^ 20, true),
   (0x500000000000, 256 * 2 ^ 20, false), (0x500100000000, 16 * 2 ^ 20, false), (0x500200000000, 16 * 2 ^ 20, false),
   (0x500300000000, 8 * 2 ^ 20, false)]

def inWindow (w : Nat × Nat × Bool) (a : Nat) : Bool := decide (w.1 ≤ a) && decide (a < w.1 + w.2.1)
def sramWindow (a : Nat) : Option (Nat × Nat × Bool) := sramWindows.find? fun w => inWindow w a
/-- Control memory of channels A, B, C. -/
def ctrlMem (a : Nat) : Bool := (List.range 3).any fun n => inWindow (0x600000000000 + n * 2 ^ 32, 64 * 2 ^ 20, false) a

/-- The six blocks of 1 MiB units that unit 0 scrubs (R551): the address of block `k`, 0 to 159. -/
def scrubAddr (k : Nat) : Nat :=
  let go := (sramWindows.take 6).foldl (fun (x : Option Nat × Nat) w =>
    match x.1 with
    | some _ => x
    | none => let n := w.2.1 / 2 ^ 20; if x.2 < n then (some (w.1 + x.2 * 2 ^ 20), 0) else (none, x.2 - n)) (none, k)
  go.1.getD 0

/-- Where one byte of a burst lies: host memory, a device address, or nowhere, with the address to report. -/
inductive Loc where
  | host (a : Nat)
  | dev (a : Nat)
  | bad (a : Nat)
  deriving DecidableEq, Repr

/-- What one byte reads as: it may be uncorrectable, or not readable at all. -/
inductive Got where
  | ok (b : Byte)
  | ue
  | bad
  deriving DecidableEq, Repr

/-- The byte at pointer value `x` under an area code, 0 for none (R539; Table 10.1 places the areas, log 34). -/
def locOf (area x : Nat) : Loc :=
  if area = 0 then (if 2 ^ 63 ≤ x then .host (x - 2 ^ 63) else .dev x)
  else
    let r := hbmAreas.getD (area - 1) (0, 0, false)
    let size := if r.2.2 then 4 * r.2.1 else 8 * r.2.1
    if x < size then .dev (hbmPrim r.1 x) else .bad (hbmPrim r.1 x)

/-- The region of Table 1.7 a byte lies in. -/
def regionOf : Loc → Nat
  | .host _ => 0
  | .dev a => 1 + a / 2 ^ 44
  | .bad _ => 99

namespace Dev

/-! ### Reading the device (R39, R40, R352) -/

/-- The record of Table 7.3 as a word; of a free cell only USED is known (log 130). -/
def recBytes (n j : Nat) : Option CellRec → Bytes
  | some r => le 8 (2 ^ 63 + b2n r.head * 2 ^ 62 + b2n r.shared * 2 ^ 61 + r.next % 2 ^ 30 * 2 ^ 31 + r.owner % 2 ^ 23 * 2 ^ 8 + r.refcnt % 256)
  | none => (List.range 7).map (fun k => Config.openByte n (j + k)) ++ [Config.openByte n (j + 7) &&& 0x7F#8]

/-- Byte `y` of the record of stripe `s` (R236). -/
def stripeByte (d : Dev) (n j s y : Nat) : Byte :=
  let x := tgetD d.buf.stripe {} s
  if y < 8 then ([x.written.setWidth 8, BitVec.ofNat 8 (b2n x.closed + 2 * b2n x.parity)]).getD y 0
  else (recBytes n (j - y % 8) (tget x.recs (y / 8 - 1))).getD (y % 8) 0

/-- The descriptor of the frame whose head pointer is `p`, and the head pointer of the next frame in its queue (R270, Table 8.2). -/
def descAt (d : Dev) (p : Nat) : Option (QEntry × Nat) :=
  d.qs.q.findSome? fun q => ((q.2.chain.zip ((q.2.chain.drop 1).map (·.ptr) ++ [endPtr])).find? fun e => e.1.ptr == p)

/-- A frame descriptor as bytes (Table 8.2). -/
def descBytes (e : QEntry) (next : Nat) : Bytes :=
  le 4 (e.ptr + b2n e.shared * 2 ^ 31) ++ le 4 next ++ le 4 (e.cls * 2 ^ 29 + e.len * 2 ^ 15 + e.quota * 2) ++ le 4 e.arrival

/-- Byte `y` of the export ring of a set: record `i` ever written lies in slot `i` modulo 4 (R322, log 130). -/
def ringByte (a : Acct) (s y : Nat) : Option Byte :=
  let sz := ringBytes a.n / 4
  ((a.ring.zipIdx.find? fun r => (a.wrote - 1 - r.2) % 4 == y / sz).map fun r => acctBytes s a.n r.1).bind fun b => b[y % sz]?

/-- Byte `x` of the area at stack offset `b`, as the model holds it; none where its bytes are open (log 35). -/
def areaByte (d : Dev) (n j b x : Nat) : Option Byte :=
  if b = 0x300000000 then some (d.stripeByte n j (x / 64) (x % 64))
  else if b = 0x330000000 then (d.descAt (hbmPtr (x / 16 / 7) (x / 16 % 7))).map fun e => (descBytes e.1 e.2).getD (x % 16) 0
  else if b = 0x3A4800000 then
    d.sch.acct.findSome? fun s => if s.2.ringAt ≤ x ∧ x < s.2.ringAt + ringBytes s.2.n then ringByte s.2 s.1 (x - s.2.ringAt) else none
  else none

/-- The area table's row an address lies in. -/
def areaRow (a : Nat) : Option (Nat × Nat × Bool) := hbmAreas.find? fun r => decide (r.1 ≤ a % 2 ^ 34) && decide (a % 2 ^ 34 < r.1 + r.2.1)

/-- Areas whose bytes HBM holds as such, or as the tables of R135 and R316. -/
def byteArea (b : Nat) : Bool := b == 0x397800000 || b == 0x39C800000 || b == 0x3C4800000 || b == 0x3E4800000

/-- Byte `j` of the `n`-th open run, at HBM address `a` of its primary. -/
def hbmView (d : Dev) (n j a : Nat) : Byte :=
  match areaRow a with
  | none => d.hbmByte a
  | some (b, _, _) => if byteArea b then d.hbmByte a else (d.areaByte n j b (hbmOffset b a)).getD (Config.openByte n j)

/-- The words of the table windows and of the node states that hold an uncorrectable error (R40, Tables 5.4 and 18.4): the words of the entry where the
model keeps the error by entry (log 130). -/
def badTableWords (d : Dev) : List Nat :=
  (d.fwd.ue.flatMap fun i => match i with
    | .word x => [x]
    | .nh k => [nhWord k]
    | .ecmp g => [(0x400201000000 + 4 * g) / 8 * 8]
    | .node k => [0x500200000000 + 16 * k, 0x500200000000 + 16 * k + 8]
    | _ => []) ++
  (d.sch.pol.filterMap fun p => if p.2.ue then some (0x400400000000 + 8 * p.1) else none) ++
  d.fwd.tbl.acl.flatMap fun e => if e.2.copyUe then (List.range 5).map fun k => aclWord e.1 + 8 * k else []

/-- A word of an SRAM window holds an uncorrectable error (R40, R252). -/
def wordBad (d : Dev) (w : Nat) : Bool :=
  d.badTableWords.contains w ||
  (inWindow (0x500300000000, 8 * 2 ^ 20, false) w && (match tget d.buf.cell ((w - 0x500300000000) / 8) with | some r => r.bad | none => false)) ||
  (inWindow (0x500000000000, 256 * 2 ^ 20, false) w &&
    (match tget d.buf.cell ((w - 0x500000000000) / 256) with | some r => r.dataBad.contains (w / 8 % 32) | none => false))

/-- The code by which EV_ECC_UE names the structure of an SRAM word. -/
def wordEcc (w : Nat) : Nat :=
  Config.eccCode (if w < 0x400100000000 then 0 else if w < 0x400200000000 then 1 else if w < 0x400201000000 then 9 else if w < 0x400300000000 then 10
    else if w < 0x400400000000 then 3 else if w < 0x400500000000 then 5 else if w < 0x500000000000 then 7 else if w < 0x500100000000 then 11
    else if w < 0x500200000000 then 6 else if w < 0x500300000000 then 7 else 2)

/-- A byte of an SRAM window: cells and their records as the model holds them, the other structures by open bytes (log 35). -/
def sramView (d : Dev) (n j a : Nat) : Byte :=
  if inWindow (0x500000000000, 256 * 2 ^ 20, false) a then
    let k := (a - 0x500000000000) / 256
    match d.buf.frame.find? fun f => f.2.cells.contains k with
    | some f => ((cellList f.2.fl).getD (f.2.cells.idxOf k) []).getD (a % 256) 0
    | none => Config.openByte n j
  else if inWindow (0x500300000000, 8 * 2 ^ 20, false) a then (recBytes n (j - a % 8) (tget d.buf.cell ((a - 0x500300000000) / 8))).getD (a % 8) 0
  else Config.openByte n j

/-- Byte `j` of the `n`-th open run at device address `a`, read by a DMA channel or a scan. A duplicated area is read from the other copy where one cannot
be read, a packet cell is rebuilt where its channel is out of service (Table 10.4); control memory has open bytes, which only a scan may read. -/
def devByte (d : Dev) (n j a : Nat) : Got :=
  if a < 2 ^ 37 then
    let u := hbmUnit a
    let good (x : Nat) : Bool := d.serves (hbmChOf x) (hbmUnit x) && !d.poisoned (x / 32)
    match d.areaAt a with
    | .unmapped => .bad
    | .dup q =>
      let prim := if (areaRow a).any (fun r => decide (a % 2 ^ 34 < r.1 + r.2.1 / 2)) then a else q + a % 256
      if good a || good (q + a % 256) then .ok (d.hbmView n j prim) else .ue
    | .packet _ =>
      if good a then .ok (d.hbmByte a)
      else if d.serves (hbmChOf u) u then .ue
      else match (d.elsewhere u).1 with | some b => .ok (b.getD (a % 256) 0) | none => .ue
    | _ => if good a then .ok (d.hbmView n j a) else .ue
  else if (sramWindow a).isSome then (if d.wordBad (a / 8 * 8) then .ue else .ok (d.sramView n j a))
  else if ctrlMem a then .ok (Config.openByte n j)
  else .bad

/-! ### Channels (R534-R549) -/

def setDma (d : Dev) (f : DmaSt → DmaSt) : Dev := { d with dma := f d.dma }
def getDma (d : Dev) (k : Nat) : DmaCh := tgetD d.dma.ch {} k
def putDma (d : Dev) (k : Nat) (c : DmaCh) : Dev := d.setDma fun x => { x with ch := tset x.ch {} k c }
def dmaHandle (k : Nat) : Nat := handle 0x18 k

/-- A channel that can use the engine: RUNNING and not waiting for a line without requests (R464, R541). -/
def dmaReady (d : Dev) (k : Nat) : Bool :=
  let c := d.getDma k
  c.obj.st == .running && (match c.waits with | some l => decide (0 < tgetD d.dma.lines 0 l) | none => true)

/-- The channel whose turn it is: the holder, or the next ready one in rotation (R464). -/
def dmaTurn (d : Dev) : Option Nat :=
  match d.dma.holder with
  | some k => some k
  | none => ((List.range 16).map fun i => (d.dma.lastHeld + 1 + i) % 16).find? d.dmaReady

/-- The engine given to channel `k`, whose turn begins unless it holds it already. -/
def dmaTake (k : Nat) (d : Dev) : Dev :=
  if d.dma.holder = some k then d
  else
    let c := d.getDma k
    (d.putDma k { c with turns := c.turns + 1 }).setDma fun x => { x with holder := some k, lastHeld := k, turnAt := d.now }

/-- The engine given up by channel `k`. -/
def dmaRelease (k : Nat) (d : Dev) : Dev := if d.dma.holder = some k then d.setDma fun x => { x with holder := none } else d

/-- The instruction channel `k` executes now, if it is its turn and the instruction has opcode `op`; past the last one stands END (R536). -/
def dmaNow (k op : Nat) (d : Dev) : Option Bytes :=
  let c := d.getDma k
  let i := c.prog.getD c.pc (List.replicate 32 0)
  if c.obj.st == .running && d.dmaTurn == some k && field i 0 1 == op then some i else none

/-- EV_DMA_STOP (Table 17.9). -/
def dmaStopEvent (k : Nat) (d : Dev) : Dev :=
  let c := d.getDma k
  d.raise 0x0800 (if c.last == .ok || c.last == .cancelled then sevInfo else sevMinor) (dmaHandle k) [fByte c.last.code, fIdx c.lastPc, f8 c.fault]

/-- A channel begins to stop by itself: a fault or a spent budget (Table 17.5); it gives up the engine. -/
def dmaFail (k : Nat) (st : Status) (addr : Nat) (d : Dev) : Dev :=
  let c := d.getDma k
  dmaRelease k ({ d.putDma k { c with
    obj := c.obj.beginStop d.nowNs (d.now + usT 2) true, last := st, lastPc := c.pc, fault := addr } with pwr := { d.pwr with busyAt := d.now } })

/-- EV_ADDR_FAULT (R39). -/
def addrFault (requester : Nat) (write : Bool) (addr : Nat) (d : Dev) : Dev :=
  d.raise 0x0003 sevMinor 0 [fIdx requester, fByte (b2n write), f8 addr]

/-- What R537 resets. -/
def dmaFresh (c : DmaCh) : DmaCh :=
  { c with pc := 0, src := 0, dst := 0, srcArea := 0, dstArea := 0, loops := [], mode := 0, planes := 0, elem := 0, stride := 0, waits := none }

/-- END (R549). -/
def dmaEnd (k : Nat) (d : Dev) : Dev :=
  match d.dmaNow k 0 with
  | none => d
  | some _ =>
    let x := d.dmaTake k
    let c := x.getDma k
    let d1 := (x.putDma k { c with last := .ok, lastPc := c.pc, fault := 0 }).dmaStopEvent k
    let d2 := d1.raiseObj (dmaHandle k) { c.obj with since := d.nowNs } .stopped false 0
    let o : Obj := { c.obj with st := .stopped, prev := .stopped, since := d.nowNs, failed := false }
    dmaRelease k ({ d2.putDma k { d2.getDma k with obj := o } with pwr := { d2.pwr with busyAt := d.now } })

/-- LOOP (R540). -/
def dmaLoop (k : Nat) (d : Dev) : Dev :=
  match d.dmaNow k 2 with
  | none => d
  | some i =>
    let x := d.dmaTake k
    let c := x.getDma k
    let n := field i 4 4; let target := field i 8 2
    if n = 0 then x.putDma k { c with pc := target }
    else
      let v := (tget c.loops c.pc).getD (n - 1)
      if 0 < v then x.putDma k { c with pc := target, loops := tput c.loops c.pc (v - 1) }
      else x.putDma k { c with pc := c.pc + 1, loops := tdel c.loops c.pc }

/-- WAIT (R541). -/
def dmaWait (k : Nat) (d : Dev) : Dev :=
  match d.dmaNow k 3 with
  | none => d
  | some i =>
    let x := d.dmaTake k
    let c := x.getDma k
    let l := field i 4 1
    let n := tgetD x.dma.lines 0 l
    if 0 < n then (x.putDma k { c with pc := c.pc + 1, waits := none }).setDma fun y => { y with lines := tset y.lines 0 l (n - 1) }
    else dmaRelease k (x.putDma k { c with waits := some l })

/-- A direct message of a vector, subject to its masks and GAP (R541, R494). -/
def directMsix (v : Nat) (d : Dev) : Dev :=
  if d.vecInGap v then { d with hif := { d.hif with gapHeld := if d.hif.gapHeld.contains v then d.hif.gapHeld else v :: d.hif.gapHeld } }
  else d.vecSend v

/-- SIGNAL (R541). -/
def dmaSignal (k : Nat) (d : Dev) : Dev :=
  match d.dmaNow k 4 with
  | none => d
  | some i =>
    let x := d.dmaTake k
    let c := x.getDma k
    let y := x.putDma k { c with pc := c.pc + 1 }
    match field i 4 1 with
    | 0 => y.raise 0x0801 sevInfo (dmaHandle k) [f8 (field i 8 8)]
    | 1 => y.directMsix (field i 5 1)
    | _ => y.dmaRequest (field i 5 1)

/-- SHUFFLE (R542). -/
def dmaShuffle (k : Nat) (d : Dev) : Dev :=
  match d.dmaNow k 5 with
  | none => d
  | some i =>
    let x := d.dmaTake k
    let c := x.getDma k
    x.putDma k { c with pc := c.pc + 1, mode := field i 4 1, planes := field i 5 1, elem := field i 6 1, stride := field i 8 4 }

/-! ### MOVE (R539, R542, R543, R545) -/

/-- A shift unit: the places of its bytes in the order they are read, where each byte written comes from, the places they go to, and the
number of the first byte among those read from host memory. -/
structure ShiftUnit where
  reads : List Loc
  pick : List Nat
  writes : List Loc
  at_ : Nat

/-- How a burst ends: with everything moved, or at a fault: address, direction and whether it is an address fault. -/
structure MoveEnd where
  moved : Nat := 0
  fault : Option (Nat × Bool × Bool) := none

/-- The place of byte `j` of a run from pointer `p`; a FIXED pointer stays on its word. -/
def ptrLoc (area p : Nat) (fixed : Bool) (j : Nat) : Loc := locOf area ((p + if fixed then j % 8 else j) % 2 ^ 64)

/-- The shift units of a burst of `len` bytes of channel `c` (R542, R543, Table 17.2). -/
def shiftUnits (c : DmaCh) (len : Nat) (sFix dFix : Bool) : List ShiftUnit :=
  let src (j : Nat) : Loc := ptrLoc c.srcArea c.src sFix j
  let dst (j : Nat) : Loc := ptrLoc c.dstArea c.dst dFix j
  let per := len / c.planes
  match c.mode with
  | 0 => (List.range ((len + 255) / 256)).map fun u =>
      let n := min 256 (len - 256 * u)
      { reads := (List.range n).map fun j => src (256 * u + j), pick := List.range n, writes := (List.range n).map fun j => dst (256 * u + j)
        at_ := 256 * u }
  | 1 => [{ reads := (List.range len).map fun t => src (t / per * c.stride + t % per)
            pick := (List.range len).map fun t => let e := t / c.elem; e % c.planes * per + e / c.planes * c.elem + t % c.elem
            writes := (List.range len).map dst, at_ := 0 }]
  | 2 => [{ reads := (List.range len).map src
            pick := (List.range len).map fun t => (t % per / c.elem * c.planes + t / per) * c.elem + t % c.elem
            writes := (List.range len).map fun t => dst (t / per * c.stride + t % per), at_ := 0 }]
  | _ => [{ reads := (List.range len).map src, pick := List.range len, writes := (List.range len).map dst, at_ := 0 }]

/-- A 512-byte block transposed as 64 words of 64 bits (Table 17.2), block after block. -/
def transposed (bs : Bytes) : Bytes :=
  (List.range bs.length).map fun t =>
    let b := t / 512 * 512; let i := t % 512 / 8
    BitVec.ofNat 8 (bitsOf ((List.range 8).map fun m => (bs.getD (b + (8 * (t % 8) + m) * 8 + i / 8) 0).getLsbD (i % 8)))

/-- A write that Table 1.9 allows: a host's program writes host memory and the host scratch area, a firmware program also all HBM and the SRAM windows. -/
def dmaMayWrite (fw : Bool) : Loc → Bool
  | .host _ => true
  | .dev a => (decide (a < 2 ^ 37) && decide (0x3E4800000 ≤ a % 2 ^ 34) && decide (a % 2 ^ 34 < 0x3E6800000)) ||
      (fw && (decide (a < 2 ^ 37) || (sramWindow a).isSome))
  | .bad _ => false

def locAddr : Loc → Nat
  | .host a => a + 2 ^ 63
  | .dev a => a
  | .bad a => a

/-- Bytes and their places gathered into runs; a run of HBM bytes ends with its granule, one of an SRAM with its word. -/
def runsOf : List (Loc × Byte) → List (Loc × Bytes)
  | [] => []
  | (l, b) :: r =>
    match runsOf r with
    | [] => [(l, [b])]
    | (l', bs) :: t =>
      let joins := match l, l' with
        | .host x, .host y => decide (x + 1 = y)
        | .dev x, .dev y => decide (x + 1 = y) && decide (y % (if y < 2 ^ 37 then 32 else 8) ≠ 0)
        | _, _ => false
      if joins then (l, b :: bs) :: t else (l, [b]) :: (l', bs) :: t

/-- A run within a granule written to HBM through P6: false when the write is reported failed (R351, R354, Table 10.4). -/
def hbmPut (a : Nat) (bs : Bytes) (d : Dev) : Bool × Dev :=
  let u := hbmUnit a
  let k := hbmChOf u
  let r : HbmReq := { port := 6, addr := a, write := true, granules := BitVec.ofNat 8 (2 ^ (a % 256 / 32)), data := bs, bank := 0 }
  if d.areaAt a == .unmapped then (false, d)
  else if d.serves k u then (if d.poisoned (a / 32) && bs.length != 32 then (false, d) else (true, applyWrite r id d))
  else match d.areaAt a with
    | .single => (true, (holdWrite k (.req r) d).2)
    | .dup q => if d.serves (hbmChOf q) q then (true, markUnit u (applyWrite r (fun x => x - u + q) d)) else (false, d)
    | _ => (true, d)

/-- The address of the other copy of a byte of a duplicated area. -/
def otherCopy (d : Dev) (a : Nat) : Option Nat := match d.areaAt a with | .dup q => some (q + a % 256) | _ => none

/-- A run within a word written to an SRAM window by firmware: a word that is uncorrectable is not merged with, and is good again once it is written whole
(R571, R572). What the write puts into a structure is open (log 130). -/
def sramPut (a : Nat) (bs : Bytes) (d : Dev) : Bool × Dev :=
  let w := a / 8 * 8
  let corrected := if d.fwd.ce.contains w then (d.setFwd fun f => { f with ce := f.ce.filter (· != w) }).raise 0x0900 sevInfo 0 [f8 w] else d
  if bs.length = 8 then (true, corrected.setFwd fun f => { f with ue := f.ue.filter (· != .word w) })
  else if d.wordBad w then (false, d.raise 0x0901 sevMajor 0 [f8 w, fByte (wordEcc w)])
  else (true, corrected)

/-- The runs of a shift unit written in order: the address of a failed write, if one fails. Through an area pointer both copies of a duplicated area are
written (R539). -/
def writeRuns (both : Bool) : List (Loc × Bytes) → Dev → Option Nat × Dev
  | [], d => (none, d)
  | (l, bs) :: r, d =>
    match l with
    | .host a => writeRuns both r (d.emit (.hostWrite a bs))
    | .dev a =>
      let w := if a < 2 ^ 37 then hbmPut a bs d else sramPut a bs d
      if w.1 then writeRuns both r (match if both then d.otherCopy a else none with | some b => (hbmPut b bs w.2).2 | none => w.2) else (some a, w.2)
    | .bad a => (some a, d)

/-- The bytes a shift unit reads, or its first fault. `region` is where the source began; `host` are the bytes host memory answers. -/
def readUnit (d : Dev) (n region : Nat) (host : HostRead) (u : ShiftUnit) : Except (Nat × Bool × Bool) Bytes :=
  (u.reads.zipIdx.foldl (fun (acc : Except (Nat × Bool × Bool) Bytes) p =>
    match acc with
    | .error e => .error e
    | .ok bs =>
      if regionOf p.1 != region then .error (locAddr p.1, false, true)
      else match p.1 with
        | .host a => match host with | some h => .ok (h.getD (u.at_ + p.2) 0 :: bs) | none => .error (a + 2 ^ 63, false, false)
        | .dev a => match if ctrlMem a then .bad else d.devByte n (u.at_ + p.2) a with | .ok b => .ok (b :: bs) | .ue => .error (a, false, false) | .bad => .error (a, false, true)
        | .bad a => .error (a, false, true)) (.ok [])).map List.reverse

/-- One shift unit moved; after a fault nothing more. `fw` says a firmware program runs, `both` that the destination is a duplicated area's pointer. -/
def moveUnit (fw both : Bool) (n sReg dReg : Nat) (shuffle : Bytes → Bytes) (host : HostRead) (x : MoveEnd × Dev) (u : ShiftUnit) : MoveEnd × Dev :=
  if x.1.fault.isSome then x
  else match x.2.readUnit n sReg host u with
    | .error e => ({ x.1 with fault := some e }, x.2)
    | .ok bs =>
      let out := shuffle (u.pick.map fun k => bs.getD k 0)
      match u.writes.find? fun l => regionOf l != dReg || !dmaMayWrite fw l with
      | some l => ({ x.1 with fault := some (locAddr l, true, true) }, x.2)
      | none =>
        let w := writeRuns both (runsOf (u.writes.zip out)) x.2
        match w.1 with
        | some a => ({ x.1 with fault := some (a, true, false) }, w.2)
        | none => ({ x.1 with moved := x.1.moved + u.writes.length }, w.2)

/-- A burst breaks R542, or makes an area pointer FIXED (R539). -/
def moveBad (c : DmaCh) (len : Nat) (sFix dFix : Bool) : Bool :=
  let unit := if c.mode = 3 then 512 else c.planes * c.elem
  (c.mode != 0 && (sFix || dFix || len % unit != 0 || decide (16384 < len))) || (sFix && c.srcArea != 0) || (dFix && c.dstArea != 0)

/-- The pointers MOVE loads (R539): an area flag makes the pointer an area pointer, a load without it a device address (log 34). -/
def moveLoad (i : Bytes) (c : DmaCh) : DmaCh :=
  let fl := field i 1 1
  { c with
    src := if bit fl 2 then field i 8 8 else c.src, dst := if bit fl 3 then field i 16 8 else c.dst
    srcArea := if bit fl 4 then field i 24 1 else if bit fl 2 then 0 else c.srcArea
    dstArea := if bit fl 5 then field i 25 1 else if bit fl 3 then 0 else c.dstArea }

/-- MOVE: the whole burst in one step, so that a halt falls between bursts (log 34). -/
def dmaMove (k : Nat) (host : HostRead) (d : Dev) : Dev :=
  match d.dmaNow k 1 with
  | none => d
  | some i =>
    let x := d.dmaTake k
    let c := moveLoad i (x.getDma k)
    let len := field i 4 4
    let sFix := bit (field i 1 1) 0; let dFix := bit (field i 1 1) 1
    let y := x.putDma k c
    if len = 0 then y.putDma k { c with pc := c.pc + 1 }
    else if moveBad c len sFix dFix then dmaFail k .badArg 0 y
    else
      let r := (shiftUnits c len sFix dFix).foldl (moveUnit (decide (14 ≤ k)) (decide (1 ≤ c.dstArea) && decide (c.dstArea ≤ 5)) d.fresh (regionOf (ptrLoc c.srcArea c.src sFix 0)) (regionOf (ptrLoc c.dstArea c.dst dFix 0))
        (if c.mode = 3 then transposed else id) host) ({}, y)
      let z : Dev := { r.2 with fresh := r.2.fresh + 1 }
      match r.1.fault with
      | some (a, w, isAddr) =>
        let z1 := dmaFail k .badArg a (z.putDma k { c with moved := c.moved + r.1.moved })
        if isAddr then z1.addrFault k w a else z1
      | none =>
        let sAdv := if sFix then 0 else if c.mode = 1 then len / c.planes else len
        let dAdv := if dFix then 0 else if c.mode = 2 then len / c.planes else len
        z.putDma k { c with
          pc := c.pc + 1, moved := c.moved + len, src := (c.src + sAdv) % 2 ^ 64, dst := (c.dst + dAdv) % 2 ^ 64 }

/-! ### Channel events -/

/-- DMA_RUN_BUDGET_EXPIRY: a turn as long as the run budget ends with TIMEOUT (R464, R544). -/
def dmaBudget (k : Nat) (d : Dev) : Dev :=
  let c := d.getDma k
  if d.dma.holder = some k && c.obj.st == .running && decide (d.dma.turnAt + usT c.budget ≤ d.now) then dmaFail k .timeout 0 d else d

/-- DMA_CHANNEL_START_DONE. -/
def dmaStarted (k : Nat) (d : Dev) : Dev :=
  let c := d.getDma k
  if c.obj.st == .starting then
    (d.raiseObj (dmaHandle k) c.obj .running false 0).putDma k { c with obj := c.obj.started d.nowNs }
  else d

/-- DMA_CHANNEL_STOP_DONE: the shift-unit boundary; a held enable restarts from instruction 0. -/
def dmaStopped (k : Nat) (d : Dev) : Dev :=
  let c := d.getDma k
  if c.obj.st == .stopping then
    let d1 := ((d.dmaRelease k).dmaStopEvent k).raiseObj (dmaHandle k) c.obj .stopped false 0
    let o := c.obj.stopped d.nowNs
    { d1.putDma k (if o.st = .starting then dmaFresh { c with obj := o } else { c with obj := o }) with pwr := { d1.pwr with busyAt := d.now } }
  else d

/-! ### Commands of a channel (Table 17.8) -/

/-- A line that Table 17.3 opens to a host's channel. -/
def lineOpen (l : Nat) : Bool := decide (l ≤ 4) || (decide (8 ≤ l) && decide (l ≤ 18)) || (decide (24 ≤ l) && decide (l ≤ 31))

/-- Instruction `i` at index `k` keeps Table 17.1 and R536. -/
def dmaInstrOk (k : Nat) (i : Bytes) : Bool :=
  let fl := field i 1 1
  let plain := fl == 0
  isZero i 2 2 &&
  match field i 0 1 with
  | 0 => plain && isZero i 4 28
  | 1 =>
    let sa := field i 24 1; let da := field i 25 1
    let area (on : Bool) (a : Nat) : Bool := if on then decide (1 ≤ a) && decide (a ≤ 10) else a == 0
    decide (fl < 64) && decide (field i 4 4 ≤ 65536) && area (bit fl 4) sa && area (bit fl 5) da && isZero i 26 6 &&
      !(bit fl 0 && bit fl 4) && !(bit fl 1 && bit fl 5)
  | 2 => plain && decide (field i 8 2 < k) && isZero i 10 22
  | 3 => plain && lineOpen (field i 4 1) && isZero i 5 27
  | 4 => plain && isZero i 6 2 && isZero i 16 16 && (match field i 4 1 with
    | 0 => field i 5 1 == 0
    | 1 => decide (field i 5 1 < 64)
    | 2 => decide (8 ≤ field i 5 1) && decide (field i 5 1 ≤ 15)
    | _ => false)
  | 5 =>
    let e := field i 6 1
    plain && isZero i 7 1 && isZero i 12 20 && (match field i 4 1 with
      | 1 | 2 => decide (2 ≤ field i 5 1) && decide (field i 5 1 ≤ 16) && (e == 1 || e == 2 || e == 4 || e == 8) && field i 8 4 % e == 0
      | 0 | 3 => field i 5 1 == 0 && e == 0 && field i 8 4 == 0
      | _ => false)
  | _ => false

/-- The LOOP ranges of a program, and whether it keeps R536. -/
def loopsOf (p : List Bytes) : List (Nat × Nat) := (p.zipIdx.filter fun i => field i.1 0 1 == 2).map fun i => (field i.1 8 2, i.2)
def dmaProgOk (p : List Bytes) : Bool :=
  let l := loopsOf p
  (p.zipIdx.all fun i => dmaInstrOk i.2 i.1) && decide (l.length ≤ 8) &&
  l.all fun a => l.all fun b => !decide (a.2 < b.2) || decide (a.2 < b.1) || decide (b.1 ≤ a.1)

/-- DMA_LOAD (R535, R536). -/
def dmaLoad (pl : HostRead) (c : Cmd) (d : Dev) : Reply :=
  let k := c.hIdx; let n := c.f 0 2; let b := c.f 2 1
  let p := (List.range n).map fun i => slice (pl.getD []) (32 * i) 32
  let x := d.getDma k
  check d [(c.bad 0x18, .badHandle), (decide (k < 14) && (n == 0 || decide (256 < n) || decide (100 < b) || c.dirty 3 29 || pl.isNone || !dmaProgOk p), .badArg),
      (decide (14 ≤ k) || x.obj.st != .stopped, .refusedBusy)]
    (.done (d.putDma k { x with prog := p, budget := if b = 0 then 100 else b }) {})

/-- DMA_ENABLE (R537, Table 17.5). -/
def dmaEnable (c : Cmd) (d : Dev) : Reply :=
  let k := c.hIdx
  let x := d.getDma k
  let r := x.obj.enable d.nowNs
  check d [(c.bad 0x18, .badHandle), (decide (k < 14) && c.dirty 0 32, .badArg), (decide (k < 14) && x.prog.isEmpty, .notReady), (decide (14 ≤ k), .refusedBusy)]
    (.done (d.putDma k (if r.begins then dmaFresh { x with obj := r.obj } else { x with obj := r.obj })) { status := r.status })

/-- DMA_HALT (Table 17.5). -/
def dmaHalt (c : Cmd) (d : Dev) : Reply :=
  let k := c.hIdx
  let r := d.dmaHaltCh k
  check d [(c.bad 0x18, .badHandle), (decide (k < 14) && c.dirty 0 32, .badArg), (decide (14 ≤ k), .refusedBusy)]
    (.done { r.2 with pwr := { d.pwr with busyAt := d.now } } { status := r.1.status })

/-- DMA_GET_STATUS (Table 17.8, R514). -/
def dmaGetStatus (c : Cmd) (d : Dev) : Reply :=
  let x := d.getDma c.hIdx
  check d [(c.bad 0x18, .badHandle), (decide (14 ≤ c.hIdx), .refusedBusy)]
    (statusReply c d ([fByte x.obj.st.code, fIdx x.pc, f8 x.src, f8 x.dst, fByte x.mode, fByte x.last.code, fIdx x.lastPc, f8 x.moved,
      fCnt x.turns] ++ fArr ((List.range 32).map fun l => [fCnt (tgetD d.dma.lines 0 l)])))

/-! ### The exporters (R547, R548) -/

/-- Bytes written to the host scratch area from byte `x` on (R337). -/
def scratchPut (x : Nat) (bs : Bytes) (d : Dev) : Dev :=
  (writeRuns false (runsOf (bs.zipIdx.map fun p => (Loc.dev (hbmPrim 0x3E4800000 (x + p.2)), p.1))) d).2

/-- COUNTER_EXPORT: the period of stream `k` elapses; the snapshot is complete at once, so no period is skipped. -/
def counterExport (k : Nat) (d : Dev) : Dev :=
  match tget d.dma.exp k with
  | none => d
  | some s =>
    if d.now < s.next then d
    else
      let bs := (List.range s.count).flatMap fun i => let p := tgetD d.cnt {} (s.base + i); le 8 p.pkts ++ le 8 p.bytes
      let d1 : Dev := if s.clear then { d with cnt := (List.range s.count).foldl (fun (t : Tab Pair) i => tset t {} (s.base + i) {}) d.cnt } else d
      ((d1.scratchPut (k * 2 ^ 20) bs).setDma fun y => { y with exp := tput y.exp k { s with next := s.next + msT s.period, done := s.done + 1 } }).dmaRequest k

/-- The highest of a list of temperatures. -/
def hottest (l : List Int) : Int := match l with | [] => 0 | a :: r => r.foldl max a

/-- Whole degrees of a site, as a signed byte (R502). -/
def degree (t : Int) : Bytes := leInt 1 (t / 4)

/-- The rate margin of a loop: by how many percent its rate is above its need, the least of both loops, within a signed byte (log 36). -/
def rateMargin (d : Dev) : Int :=
  let m (l : Loop) : Int := if l.need = 0 then 127 else max (-128) (min 127 (((l.rate : Int) - l.need) * 100 / l.need))
  min (m d.pwr.loopF) (m d.pwr.loopQ)

/-- The values of codes 0x10 to 0x40 of the SMBus health set (Table 15.18); the package power is an estimate that the manual leaves open. -/
def healthByte (d : Dev) : List (Nat × Bytes) :=
  [(0x10, degree (hottest d.pwr.sites)), (0x11, leInt 1 (hottest ((List.range 8).map fun s => (d.getStack s).temp)))] ++
  ((List.range 8).map fun k => (0x20 + k, le 2 (d.pwr.rail.getD k {}).mv)) ++
  [(0x30, le 2 (Config.free d.fresh).toNat), (0x31, leInt 1 d.rateMargin), (0x40, d.pwr.sites.flatMap degree)]

/-- TELEMETRY_EXPORT: one record into the ring of 256. -/
def telemetryExport (d : Dev) : Dev :=
  match tget d.dma.exp 4 with
  | none => d
  | some s =>
    if d.now < s.next then d
    else
      let r := slice (ts12 d.sysTicks ++ d.healthByte.flatMap (·.2)) 0 128
      let d1 : Dev := { d.scratchPut (4 * 2 ^ 20 + s.done % 256 * 128) r with fresh := d.fresh + 1 }
      (d1.setDma fun y => { y with exp := tput y.exp 4 { s with next := s.next + msT s.period, done := s.done + 1 } }).dmaRequest 4

/-- DMA_SET_EXPORT (R547, R548, Table 17.8). -/
def dmaSetExport (c : Cmd) (d : Dev) : Reply :=
  let k := c.f 0 1; let fl := c.f 1 1; let p := c.f 4 4; let b := c.f 8 4; let n := c.f 12 4
  let bad := decide (4 < k) || decide (3 < fl) || c.dirty 2 2 || p == 0 || decide (60000 < p) ||
    (if k = 4 then n != 0 else n == 0 || decide (65536 < n) || decide (67108864 < b + n)) || c.dirty 16 16
  check d [(c.bad 0x00, .badHandle), (bad, .badArg)]
    (.done (d.setDma fun x => { x with
      exp := if bit fl 0 then tput x.exp k { clear := bit fl 1, period := p, base := b, count := n, next := d.now + msT p } else tdel x.exp k }) {})

/-- MAILBOX_POST: a running thread's post is one request (R211, R465). -/
def mailboxPost (e t m : Nat) (d : Dev) : Dev :=
  match d.acts e t with | some _ => (d.issue e t).dmaRequest (24 + m) | none => d

/-! ### Check-value units (R466, R550-R553) -/

def getCv (d : Dev) (u : Nat) : CvUnit := tgetD d.dma.cv {} u
def putCv (d : Dev) (u : Nat) (c : CvUnit) : Dev := d.setDma fun x => { x with cv := tset x.cv {} u c }

/-- A range of the device address space is wholly mapped (R37, R552). -/
def wholeMapped (d : Dev) (a n : Nat) : Bool :=
  let band (s : Nat) : Bool := decide (s * 2 ^ 34 + d.buf.hbmGib / 8 * 2 ^ 30 < a + n) && decide (a < s * 2 ^ 34 + 0x300000000) && decide (d.buf.hbmGib < 96)
  (decide (a + n ≤ 2 ^ 37) && !(List.range 8).any band) ||
  (sramWindows.any fun w => inWindow w a && decide (a + n ≤ w.1 + w.2.1)) ||
  (List.range 3).any fun k => let b := 0x600000000000 + k * 2 ^ 32; decide (b ≤ a) && decide (a + n ≤ b + 64 * 2 ^ 20)

/-- The first byte of a device range that is not mapped (R39): where the band above the packet region of a stack begins. -/
def firstUnmapped (d : Dev) (a n : Nat) : Nat :=
  let l := (List.range 8).filterMap fun s =>
    let x := max a (s * 2 ^ 34 + d.buf.hbmGib / 8 * 2 ^ 30)
    if x < a + n ∧ x < s * 2 ^ 34 + 0x300000000 ∧ d.buf.hbmGib < 96 then some x else none
  l.min?.getD a

/-- Host scans that wait or run. -/
def scansHeld (d : Dev) : Nat := d.dma.queue.length + ((List.range 4).filter fun u => (d.getCv u).scan.isSome).length

/-- Units 1 to 3 without a scan take those that wait, the longest waiting first (R466). -/
def cvFill (d : Dev) : Dev :=
  [1, 2, 3].foldl (fun (x : Dev) u =>
    match (x.getCv u).scan, x.dma.queue with
    | none, s :: r => (x.putCv u { x.getCv u with scan := some s }).setDma fun y => { y with queue := r }
    | _, _ => x) d

/-- CV_SCAN (R552). -/
def cvScan (c : Cmd) (d : Dev) : Reply :=
  let a := c.f 0 8; let n := c.f 8 6; let p := c.f 14 1; let fl := c.f 15 1
  let host := decide (2 ^ 63 ≤ a)
  let bad := a % 8 != 0 || n % 8 != 0 || decide (n < 8) || decide (2 ^ 48 - 8 < n) || decide (2 < p) || decide (7 < fl) ||
    (!host && !d.wholeMapped a n)
  let s : Scan := { intake := c.intake, addr := a, len := n, poly := p, flags := fl, expected := c.f 24 8
                    run := if bit fl 2 then c.f 16 8 else (cvInit p).toNat }
  check d [(c.bad 0x00, .badHandle), (bad, .badArg), (decide (64 ≤ d.scansHeld), .noSpace)]
    (.pend (d.setDma fun x => { x with queue := x.queue ++ [s] }).cvFill)

/-- The bytes of a device range as a scan reads them, with the words that are uncorrectable. -/
def scanBytes (d : Dev) (a n : Nat) : Bytes × List Nat :=
  ((List.range n).map fun j => (match d.devByte d.fresh j (a + j) with | .ok b => b | _ => Config.openByte d.fresh j),
   ((List.range (n / 8)).map fun w => a + 8 * w).filter fun w => d.devByte d.fresh 0 w == .ue)

/-- A scan ends: its unit is free, its command completes (R553). -/
def scanEnds (u : Nat) (s : Scan) (d : Dev) : Dev :=
  let fin := (cvFinal s.poly (BitVec.ofNat 64 s.run)).toNat
  let miss := bit s.flags 0 && (fin != s.expected || s.ue != 0)
  let c := d.getCv u
  let d1 := d.putCv u { scan := none, done := c.done + 1, bad := c.bad + b2n miss }
  let d2 := if miss && bit s.flags 1 then d1.raise 0x0803 sevMajor 0 [f8 s.addr, f8 s.len, f8 s.expected, f8 fin] else d1
  let r : Resp := { status := if miss then .verifyFailed else .ok, result := fin, extra := s.run + 2 ^ 64 * sat32 s.ue + 2 ^ 96 * sat32 s.segs }
  let d3 := match d2.hif.cmds.find? (·.intake == s.intake) with | some k => d2.complete k r | none => d2
  d3.cvFill

/-- CV_SEGMENT_END: a segment of at most 16 MiB ends; `host` are its bytes when it lies in host memory. A scan with bytes left goes behind
those that wait. -/
def cvSegmentEnd (u : Nat) (host : HostRead) (d : Dev) : Dev :=
  match if u = 0 then none else (d.getCv u).scan with
  | none => d
  | some s =>
    let n := min (16 * 2 ^ 20) (s.len - s.done)
    let a := s.addr + s.done
    let isHost := decide (2 ^ 63 ≤ s.addr)
    let lost := !isHost && !d.wholeMapped a n
    if lost || (isHost && host.isNone) then
      let d1 := (d.putCv u { d.getCv u with scan := none }).addrFault (16 + u) false (if lost then d.firstUnmapped a n else a)
      let d2 := match d1.hif.cmds.find? (·.intake == s.intake) with | some k => d1.complete k { status := .badArg } | none => d1
      d2.cvFill
    else
      let b := if isHost then (slice (host.getD []) 0 n, []) else d.scanBytes a n
      let s1 : Scan := { s with done := s.done + n, run := (cvRun s.poly (BitVec.ofNat 64 s.run) b.1).toNat, ue := s.ue + b.2.length, segs := s.segs + 1 }
      let d1 : Dev := b.2.foldl (fun (x : Dev) w => x.raise 0x0901 sevMajor 0 [f8 w, fByte (if w < 2 ^ 37 then Config.eccCode 4 else wordEcc w)]) { d with fresh := d.fresh + 1 }
      if s1.done < s.len then
        (if d.dma.queue.isEmpty then d1.putCv u { d1.getCv u with scan := some s1 }
         else ((d1.putCv u { d1.getCv u with scan := none }).setDma fun x => { x with queue := x.queue ++ [s1] }).cvFill)
      else scanEnds u s1 d1

/-- Words of a range of an SRAM window that hold a correctable error: corrected and written back (R551, R570). -/
def scrubCe (a n : Nat) (d : Dev) : Dev :=
  let hit := d.fwd.ce.filter fun w => decide (a ≤ w) && decide (w < a + n)
  hit.foldl (fun (x : Dev) w => x.raise 0x0900 sevInfo 0 [f8 w])
    { d with fwd := { d.fwd with ce := d.fwd.ce.filter fun w => !(decide (a ≤ w) && decide (w < a + n)) } }

/-- An uncorrectable word of a table window, found by the scrub: reported, and firmware rebuilds what it holds (R551, R184). -/
def scrubUe (w : Nat) (d : Dev) : Dev :=
  let i := (w - 0x400400000000) / 8
  let d1 := if inWindow (0x400400000000, 16 * 2 ^ 20, true) w then d.shadowNeed (.policer i)
    else if inWindow (0x400300000000, 40 * 98304, true) w then d.shadowNeed (.tcam ((w - 0x400300000000) / 40)) else d
  d1.raise 0x0901 sevMajor 0 [f8 w, fByte (wordEcc w)]

/-- SCRUB_BLOCK: unit 0 reads its next block (R551); it pauses in the quiet state (R621). Uncorrectable words go to firmware. -/
def scrubBlock (d : Dev) : Dev :=
  if d.pwr.quiet then d
  else
    let a := scrubAddr d.dma.scrub
    let words := d.badTableWords.filter fun w => decide (a ≤ w) && decide (w < a + 2 ^ 20)
    let d1 := words.foldl (fun (x : Dev) w => scrubUe w x) (d.scrubCe a (2 ^ 20))
    d1.setDma fun x => { x with scrub := (x.scrub + 1) % 160 }

/-- SRAM_SCRUB: a word of an SRAM that unit 0 does not scrub (R570). -/
def sramScrub (a : Nat) (d : Dev) : Dev := if (match sramWindow a with | some w => !w.2.2 | none => false) then d.scrubCe (a / 8 * 8) 8 else d

/-- CV_GET_STATUS (Table 17.8): serving 0 firmware, 1 host, nothing open (log 42); unit 0 always serves firmware. -/
def cvGetStatus (c : Cmd) (d : Dev) : Reply :=
  let u := c.hIdx
  let x := d.getCv u
  let serving := if u = 0 then 0 else if x.scan.isSome then 1 else Config.absent 25
  let at_ := if u = 0 then scrubAddr d.dma.scrub else match x.scan with | some s => s.addr + s.done | none => 0
  check d [(c.bad 0x19, .badHandle)]
    (statusReply c d [fByte serving, f8 at_, f8 (match x.scan with | some s => s.done | none => 0), fCnt x.done, fCnt x.bad,
      fCnt d.dma.queue.length])

end Dev

/-- END. -/
def execDmaEnd (ch : Fin 16) (s : State) : Out := s.onDev (Dev.dmaEnd ch)
/-- MOVE. -/
def execDmaMove (ch : Fin 16) (host : HostRead) (s : State) : Out := s.onDev (Dev.dmaMove ch host)
/-- LOOP. -/
def execDmaLoop (ch : Fin 16) (s : State) : Out := s.onDev (Dev.dmaLoop ch)
/-- WAIT. -/
def execDmaWait (ch : Fin 16) (s : State) : Out := s.onDev (Dev.dmaWait ch)
/-- SIGNAL. -/
def execDmaSignal (ch : Fin 16) (s : State) : Out := s.onDev (Dev.dmaSignal ch)
/-- SHUFFLE. -/
def execDmaShuffle (ch : Fin 16) (s : State) : Out := s.onDev (Dev.dmaShuffle ch)
/-- DMA_RUN_BUDGET_EXPIRY. -/
def execDmaRunBudgetExpiry (ch : Fin 16) (s : State) : Out := s.onDev (Dev.dmaBudget ch)
/-- DMA_CHANNEL_START_DONE. -/
def execDmaChannelStartDone (ch : Fin 16) (s : State) : Out := s.onDev (Dev.dmaStarted ch)
/-- DMA_CHANNEL_STOP_DONE. -/
def execDmaChannelStopDone (ch : Fin 16) (s : State) : Out := s.onDev (Dev.dmaStopped ch)
/-- DMA_LOAD, opcode 0x0800. -/
def execDmaLoad (src : Src) (pl : HostRead) (s : State) : Out := s.onDev (Dev.runCmd 0x0800 src (Dev.dmaLoad pl))
/-- DMA_ENABLE, opcode 0x0801. -/
def execDmaEnable (src : Src) (s : State) : Out := s.onDev (Dev.runCmd 0x0801 src Dev.dmaEnable)
/-- DMA_HALT, opcode 0x0802. -/
def execDmaHalt (src : Src) (s : State) : Out := s.onDev (Dev.runCmd 0x0802 src Dev.dmaHalt)
/-- DMA_GET_STATUS, opcode 0x0803. -/
def execDmaGetStatus (src : Src) (s : State) : Out := s.onDev (Dev.runCmd 0x0803 src Dev.dmaGetStatus)
/-- DMA_SET_EXPORT, opcode 0x0804. -/
def execDmaSetExport (src : Src) (s : State) : Out := s.onDev (Dev.runCmd 0x0804 src Dev.dmaSetExport)
/-- COUNTER_EXPORT. -/
def execCounterExport (stream : Fin 4) (s : State) : Out := s.onDev (Dev.counterExport stream)
/-- TELEMETRY_EXPORT. -/
def execTelemetryExport (s : State) : Out := s.onDev Dev.telemetryExport
/-- MAILBOX_POST. -/
def execMailboxPost (e : Fin 64) (t : Fin 16) (m : Fin 8) (s : State) : Out := s.onDev (Dev.mailboxPost e t m)
/-- CV_SEGMENT_END. -/
def execCvSegmentEnd (u : Fin 4) (host : HostRead) (s : State) : Out := s.onDev (Dev.cvSegmentEnd u host)
/-- SCRUB_BLOCK. -/
def execScrubBlock (s : State) : Out := s.onDev Dev.scrubBlock
/-- CV_SCAN, opcode 0x0808. -/
def execCvScan (src : Src) (s : State) : Out := s.onDev (Dev.runCmd 0x0808 src Dev.cvScan)
/-- CV_GET_STATUS, opcode 0x0809. -/
def execCvGetStatus (src : Src) (s : State) : Out := s.onDev (Dev.runCmd 0x0809 src Dev.cvGetStatus)
/-- SRAM_SCRUB. -/
def execSramScrub (addr : Nat) (s : State) : Out := s.onDev (Dev.sramScrub addr)

end Sys2Proof.Machine
end

