-- ==== Sys2Proof/Machine/Triad.lean ====
section
/-! DEFINITION. The control triad: voting, checkpoints, roles, swaps and the compare pair; the start of a triad restart; bridge lanes and
flits; fault injection (chapter "Control triad, fault containment and interruption bounds"). -/

namespace Sys2Proof.Machine

/-- The code of a role, in the order of Table 18.1 (log 37). -/
def Role.code : Role → Nat
  | .voter => 0 | .selftest => 1 | .resync => 2 | .standby => 3 | .failed => 4

namespace Dev

def setTri (d : Dev) (f : Triad → Triad) : Dev := { d with tri := f d.tri }
def roleIs (d : Dev) (r : Role) (k : Nat) : Bool := (d.getTri k).role == r
def voters (d : Dev) : List Nat := (List.range 3).filter (d.roleIs .voter)
/-- The channel in SELFTEST. -/
def tested (d : Dev) : Option Nat := (List.range 3).find? (d.roleIs .selftest)

/-! ### Roles (R561, Table 18.1) -/

/-- Channel `k` takes role `r` (EV_TRIAD_ROLE: 0 outvoted, 1 own error, 2 swap, 3 self-test failed, 4 digest, 5 recalled). -/
def setRole (k : Nat) (r : Role) (cause : Nat) (d : Dev) : Dev :=
  let o := (d.getTri k).role
  let d1 := triTrace 0x11 o.code r.code k (d.modTri k fun c => { c with role := r, at_ := d.now })
  let d2 := d1.raise 0x0910 (if r = .failed then sevMajor else sevMinor) (handle 0x1A k) [fByte o.code, fByte r.code, fByte cause]
  if d2.voters.length = 3 then d2.setTri fun t => { t with allSince := d.now } else d2

/-- The same for a change to which no listed cause applies: the cause is open (log 37). -/
def setRoleOpen (k : Nat) (r : Role) (d : Dev) : Dev := let v := d.openVal; v.2.setRole k r (v.1.toNat % 256)

/-- EV_TRIAD_ROLLBACK when outputs resume or a restart ends the freeze: attempt, checkpoint time, nanoseconds frozen (log 37). -/
def rollbackEvent (d : Dev) : Dev :=
  d.raise 0x0911 (if d.tri.attempt = 2 then sevMajor else sevMinor) 0 [fIdx d.tri.attempt, f8 d.tri.cpNs, f8 ((d.now - d.tri.frozenAt) / 65536)]

/-- A triad restart begins: step 1 of Table 18.3 (R565, R566). -/
def beginRestart (cause : RestartCause) (kind : RestartKind) (intake : Option Nat) (d0 : Dev) : Dev :=
  if d0.tri.restart.isSome then d0
  else
    let d := if d0.hif.frozen then d0.rollbackEvent else d0
    let r : Restart := { cause := cause, kind := kind, intake := intake, began := d.now }
    let d1 := d.setTri fun t => { t with
      restart := some r, restarts := t.restarts + 1, copies := [], released := [], attempt := 0, recalled := false, overrun := false
      swapDue := if d.tested.isSome then d.now else t.swapDue }
    let d2 : Dev := { d1 with hif := { d1.hif with headless := true, frozen := false } }
    (d2.triRunning.foldl (fun (x : Dev) k => x.triTrace 0x13 1 0 k) d2).setCause 42

/-- VOTER `k` leaves voting for cause 0 or 1; without two other VOTERs a triad restart begins (R559, R565, Table 18.1). -/
def leaveVote (k cause : Nat) (d : Dev) : Dev :=
  if !d.roleIs .voter k then d
  else if d.voters.length < 3 then d.beginRestart .doubleFault .same none
  else
    let times := d.now :: (d.getTri k).outvoted.filter fun t => decide (d.now < t + secT 3600)
    let d1 := (d.modTri k fun c => { c with outvoted := times }).setTri fun t => { t with
      copies := t.copies.map fun x => (x.1, x.2.filter (·.1 != k)), released := t.released.map fun x => (x.1, x.2.1, x.2.2.1, x.2.2.2.filter (· != k)) }
    d1.setRole k (if 3 ≤ times.length then .failed else .resync) cause

/-- A STANDBY channel that differs goes back to RESYNC. -/
def standbyBad (k : Nat) (d : Dev) : Dev := if d.roleIs .standby k then d.setRole k .resync 4 else d

/-! ### The compare pair (R564) -/

/-- Outputs resume. -/
def resume (d : Dev) : Dev :=
  if d.hif.frozen then
    let d1 := d.rollbackEvent
    (({ d1 with hif := { d1.hif with frozen := false } }).setTri fun t => { t with attempt := 0, recalled := false }).releaseDone
  else d

/-- A first disagreement freezes every output; a second one recalls the channel in SELFTEST, whose swap runs again later. -/
def disagree (d : Dev) : Dev :=
  match d.tested with
  | none => d.beginRestart .doubleFault .same none
  | some t =>
    if d.tri.attempt = 0 then
      let d1 := d.setTri fun x => { x with attempt := 1, frozenAt := d.now, rollbacks := x.rollbacks + 1, copies := [] }
      let d2 : Dev := { d1 with hif := { d1.hif with frozen := true } }
      d.voters.foldl (fun (x : Dev) k => x.triTrace 0x12 0 0 k) d2
    else
      (d.setTri fun x => { x with attempt := 2, recalled := true, recalls := x.recalls + 1, copies := [], swapDue := d.now }).setRole t .voter 5

/-! ### Voting (R557, R558) -/

/-- The content two of the copies share. -/
def agreed : List (Nat × BitVec 64) → Option (BitVec 64)
  | [] => none
  | c :: r => if r.any fun x => x.2 == c.2 then some c.2 else agreed r

/-- Output `n` is released with content `y`: VOTERs that differ are outvoted, those missing become due, a STANDBY that differs resyncs. -/
def releaseOutput (n : Nat) (y : BitVec 64) (d : Dev) : Dev :=
  let l := tgetD d.tri.copies [] n
  let vs := d.voters
  let wait := vs.filter fun k => !l.any (·.1 == k)
  let d1 := d.setTri fun t => { t with copies := tdel t.copies n, released := tput t.released n (y, d.now, wait) }
  let bad := l.filter fun c => c.2 != y
  (bad.foldl (fun (x : Dev) c => if x.hif.headless then x else (x.leaveVote c.1 0).standbyBad c.1) d1).resume

/-- The copies of output `n` compared. While one channel is in SELFTEST both others must agree. -/
def settleOutput (n : Nat) (d : Dev) : Dev :=
  let vs := d.voters
  let l := (tgetD d.tri.copies [] n).filter fun c => vs.contains c.1
  match agreed l with
  | some y => d.releaseOutput n y
  | none => if l.length = vs.length && decide (2 ≤ l.length) then (if vs.length = 2 then d.disagree else d.beginRestart .doubleFault .same none) else d

/-- OUTPUT_COPY (R557, R564). -/
def outputCopy (ch n : Nat) (x : BitVec 64) (d : Dev) : Dev :=
  if d.hif.headless || !(d.roleIs .voter ch || d.roleIs .standby ch) then d
  else
    match tget d.tri.released n with
    | some (y, t, wait) =>
      if x = y then d.setTri fun z => { z with released := tput z.released n (y, t, wait.filter (· != ch)) }
      else if d.roleIs .standby ch then d.standbyBad ch
      else if wait.contains ch then d.leaveVote ch 0
      else if d.hif.frozen then (if d.tri.recalled then d.leaveVote ch 0 else d.disagree)
      else d
    | none =>
      let l := tgetD d.tri.copies [] n
      if l.any (·.1 == ch) then d
      else (d.setTri fun z => { z with copies := tput z.copies n (l ++ [(ch, x)]) }).settleOutput n

/-- VOTE_TIMEOUT (R557): the copy has not come 10 µs after the release. -/
def voteTimeout (ch : Nat) (d : Dev) : Dev :=
  if d.fwHeld then d
  else if d.tri.released.any fun x => x.2.2.2.contains ch && decide (x.2.2.1 + usT 10 ≤ d.now) then d.leaveVote ch 0
  else d

/-- A checkpoint is committed with digest `y` (R558, Table 18.1); the log keeps the inputs since the older of the last two, and all of them while a channel
catches up (R562). -/
def commit (y : BitVec 64) (dig : Nat → BitVec 64) (d : Dev) : Dev :=
  let last := d.tri.cpAt
  let mark := decide (99 ≤ d.tri.cpCount)
  let d1 := d.setTri fun t => { t with
    cpOld := last, log := if (List.range 3).any fun k => d.roleIs .resync k || d.roleIs .standby k then t.log else t.log.filter fun x => decide (last ≤ x.at_)
    cpAt := d.now, cpNs := d.nowNs, commits := t.commits + 1, cpCount := if mark then 0 else t.cpCount + 1, released := t.released.filter fun x => !x.2.2.2.isEmpty }
  let takers := (List.range 3).filter fun k => d.roleIs .voter k || d.roleIs .standby k
  let d2 := if mark then takers.foldl (fun (x : Dev) k => x.triTrace 0x14 0 0 k) d1 else d1
  (List.range 3).foldl (fun (x : Dev) k =>
    if x.roleIs .standby k then (if dig k != y then x.standbyBad k else if (x.getTri k).at_ ≤ last then x.setRole k .voter 4 else x)
    else if x.roleIs .voter k && dig k != y then x.leaveVote k 0
    else x) d2

/-- CHECKPOINT (R558, R569): every 10 ms, or sooner once the input log is full; none is taken in low power. -/
def checkpoint (a b c : BitVec 64) (d : Dev) : Dev :=
  if d.fwHeld || d.pwr.quiet || (decide (d.now < d.tri.cpAt + msT 10) && !d.logFull) then d
  else
    let dig (k : Nat) : BitVec 64 := [a, b, c].getD k 0
    let vs := d.voters
    match agreed (vs.map fun k => (k, dig k)) with
    | some y => d.commit y dig
    | none => if vs.length = 2 then d.disagree else if vs.length = 3 then d.beginRestart .doubleFault .same none else d

/-- CHANNEL_UE (R559): a VOTER leaves voting; a STANDBY channel begins again; during a restart step 2 begins again (R567). -/
def channelUe (k : Nat) (d : Dev) : Dev :=
  if d.hif.headless then d
  else if d.roleIs .voter k then d.leaveVote k 1
  else if d.roleIs .standby k then d.setRole k .resync 1
  else d

/-! ### Swaps and RESYNC (R562, R563) -/

/-- SWAP_DUE: the next channel leaves voting once the period elapsed and all three are VOTER, for 1 s where the swap had to wait. -/
def swapDue (d : Dev) : Dev :=
  let t := d.tri
  if d.fwHeld || d.pwr.quiet || t.swapMin = 0 || decide (d.now < t.swapDue) || d.voters.length != 3 ||
      !(decide (t.allSince ≤ t.swapDue) || decide (t.allSince + secT 1 ≤ d.now)) then d
  else
    let k := t.swapNext
    ((d.setTri fun x => { x with swapDue := d.now + secT (60 * x.swapMin) }).modTri k fun c => { c with swapAt := d.nowNs }).setRole k .selftest 2

/-- SELFTEST_END, after 250 ms. -/
def selftestEnd (k : Nat) (ok : Bool) (d : Dev) : Dev :=
  if d.hif.headless || !d.roleIs .selftest k || decide (d.now < (d.getTri k).at_ + msT 250) then d
  else
    let d1 := d.modTri k fun c => if ok then { c with stOk := c.stOk + 1 } else { c with stBad := c.stBad + 1 }
    (d1.setTri fun t => { t with swapNext := (k + 1) % 3 }).setRole k .resync (if ok then 2 else 3)

/-- RESYNC_DONE: the channel enters STANDBY, or its retest failed. -/
def resyncDone (k : Nat) (ok : Bool) (d : Dev) : Dev :=
  if d.hif.headless || !d.roleIs .resync k then d
  else if ok then d.setRoleOpen k .standby else d.setRole k .failed 3

/-- HEADLESS_TIMEOUT (R36): 120 s from the first restart of the sequence. -/
def headlessTimeout (d : Dev) : Dev :=
  match d.tri.restart with
  | some r => if r.began + secT 120 ≤ d.now && !d.tri.overrun then (d.setTri fun t => { t with overrun := true }).setAlarm 0 else d
  | none => d

/-! ### The die bridge (R18-R22, R573, R574) -/

def bLane (x : BGroup) (l : Nat) : BLane := x.lane.getD l { st := .failed }
def bCount (x : BGroup) (s : LaneSt) : Nat := (x.lane.filter fun l => l.st == s).length

/-- A lane in service fails: a spare is swapped in, or the group goes on with its good lanes; it carries nothing until SPARE_SWAP_DONE; below
19 good lanes pipeline `g` is declared failed, under an open cause (R21, R22, R573; log 38). -/
def laneFail (g l cause : Nat) (d : Dev) : Dev :=
  let x := d.getGroup g
  if (bLane x l).st != .service then d
  else
    let spare := x.lane.findIdx? fun y => y.st == .spare
    let l1 := x.lane.set l { bLane x l with st := .failed, goodAt := none, triedAt := d.now }
    let l2 := match spare with | some s => l1.set s { bLane x s with st := .service } | none => l1
    let y : BGroup := { x with lane := l2, stalled := true }
    let d1 := (d.putGroup g y).raise 0x0902 sevMinor 0 [fIdx g, fIdx l, fIdx (spare.getD 0xFFFFFFFF), fCnt (bCount y .spare), fByte cause]
    if bCount y .service < 19 then let v := d1.openVal; v.2.failPipe g (v.1.toNat % 256) else d1

/-- BRIDGE_LANE_FAIL. -/
def bridgeLaneFail (g l : Nat) (c : BridgeCause) (d : Dev) : Dev :=
  laneFail g l (match c with | .lock => 0 | .retries => 1 | .eye => 2) d

/-- SPARE_SWAP_DONE: the group carries again, and what waited for it goes on (R18, R21). -/
def spareSwapDone (g : Nat) (d : Dev) : Dev :=
  (List.range 8).foldl (fun x s => drainStack s x) (d.putGroup g { d.getGroup g with stalled := false })

/-- LANE_EYE_CHECK: the margin is kept; below the production threshold a lane in service fails. -/
def laneEyeCheck (g l : Nat) (margin : Int) (below : Bool) (d : Dev) : Dev :=
  let x := d.getGroup g
  let d1 := d.putGroup g { x with lane := x.lane.set l { bLane x l with margin := margin } }
  if below then laneFail g l 2 d1 else d1

/-- LANE_RETRAIN: every 10 s; after 1 s of checks without error the lane is a spare. -/
def laneRetrain (g l : Nat) (ok : Bool) (d : Dev) : Dev :=
  let x := d.getGroup g
  let y := bLane x l
  if y.st != .failed then d
  else
    let z : BLane := match ok, y.goodAt with
      | false, _ => { y with goodAt := none, triedAt := d.now }
      | true, none => if y.triedAt + secT 10 ≤ d.now then { y with goodAt := some d.now, triedAt := d.now } else y
      | true, some t => if t + secT 1 ≤ d.now then { y with st := .spare, goodAt := none } else y
    d.putGroup g { x with lane := x.lane.set l z }

/-- The lane that carries flit `seq`: the lanes in service take the flits in turn (log 128). -/
def flitLane (x : BGroup) (seq : Nat) : Nat :=
  let s := (List.range x.lane.length).filter fun l => (bLane x l).st == .service
  s.getD (seq % max 1 s.length) 0

/-- A flit retry counted on its lane; more than 64 within 1 ms fail the lane (R573). -/
def flitRetry (g seq : Nat) (d : Dev) : Dev :=
  let x := d.getGroup g
  let l := flitLane x seq
  let y := bLane x l
  let r := d.now :: y.recent.filter fun t => decide (d.now < t + msT 1)
  let d1 := d.putGroup g { x with lane := x.lane.set l { y with retries := y.retries + 1, recent := r } }
  if 64 < r.length then laneFail g l 1 d1 else d1

/-- FLIT_RECEIVE (R20): an intact flit in sequence is accepted and acknowledged, an earlier one acknowledged again; otherwise the sender, which
holds it, is asked once to resend. What it acknowledges, the numbers below its `ackSeq`, leaves the retry buffer of the other direction. A group being remapped carries nothing
(R21). -/
def flitReceive (g : Nat) (toQueueing : Bool) (f : Flit) (d : Dev) : Dev :=
  let x := d.getGroup g
  let i := b2n toQueueing
  let want := x.rxSeq.getD i 0
  let held (k : Nat) : List Nat := x.held.getD k []
  let freed := x.held.set (1 - i) ((held (1 - i)).filter fun s => decide (f.ackSeq ≤ s))
  if x.stalled then d
  else if f.crcOk && f.seq == want then
    (d.putGroup g { x with
      rxSeq := x.rxSeq.set i (want + 1), asked := x.asked.set i false
      held := freed.set i ((held i).filter fun s => decide (f.seq < s)) }).emit (.flit g toQueueing f.seq false)
  else if f.crcOk && decide (f.seq < want) then (d.putGroup g { x with held := freed }).emit (.flit g toQueueing f.seq false)
  else
    let d1 := if x.asked.getD i false then d
      else (d.putGroup g { x with asked := x.asked.set i true }).emit (.flit g toQueueing want true)
    d1.flitRetry g want

/-! ### Commands (R578, R579) -/

/-- The status fields of one control channel (Table 18.7). -/
def triFields (d : Dev) (k : Nat) : List Fld :=
  let c := d.getTri k
  [fByte c.role.code, fCnt (c.outvoted.filter fun t => decide (d.now < t + secT 3600)).length, fCnt c.stOk, fCnt c.stBad, f8 c.swapAt]

/-- TRIAD_GET_STATUS. -/
def triadGetStatus (c : Cmd) (d : Dev) : Reply :=
  let ks := if c.hType = 0x1A then [c.hIdx] else List.range 3
  let t := d.tri
  check d [(c.bad 0x00 && c.bad 0x1A, .badHandle)]
    (statusReply c d (fArr (ks.map d.triFields) ++ [fCnt t.commits, fCnt t.rollbacks, fCnt t.recalls, fCnt t.restarts, fCnt t.journal.length]))

/-- TRIAD_SET_SWAP. -/
def triadSetSwap (c : Cmd) (d : Dev) : Reply :=
  let m := c.f 0 2
  check d [(c.bad 0x00, .badHandle), (decide (1440 < m) || c.dirty 2 30, .badArg)]
    (.done (d.setTri fun t => { t with swapMin := m, swapDue := d.now + secT (60 * m) }) {})

/-- This device's FAB_EPOCH_PREPARE is in progress (Table 18.7). -/
def preparing (d : Dev) : Bool := match d.fab.coord with | some k => k.intake.isSome | none => false

/-- TRIAD_RESTART. -/
def triadRestart (c : Cmd) (d : Dev) : Reply :=
  check d [(c.bad 0x00, .badHandle), (c.dirty 0 32, .badArg), (d.preparing || d.pe.roll.isSome, .refusedBusy)]
    (.pend (d.beginRestart .command .same (some c.intake)))

/-- A trace record as bytes (R568, Table 6.9): core and data beyond the two arguments are open (log 37). -/
def triTraceBytes (n k : Nat) (t : TriTrace) : Bytes :=
  ts12 t.time ++ le 1 t.type ++ [Config.openByte n k &&& 3] ++ le 2 0xFFFF ++
  (if t.type = 0x11 then le 1 t.a ++ le 1 t.b else if t.type = 0x13 then le 1 t.a ++ le 1 0 else le 2 0) ++ List.replicate 14 0

/-- TRIAD_TRACE_READ: the 512 records by place in the buffer, the write index before and after the copy in the result (log 21). -/
def triadTraceRead (c : Cmd) (d : Dev) : Reply :=
  let x := d.getTri c.hIdx
  let rec' (i : Nat) : Bytes :=
    let age := (x.traceAt + 511 - i) % 512
    match x.trace[age]? with | some t => triTraceBytes d.fresh i t | none => List.replicate 32 0
  check d [(c.bad 0x1A, .badHandle)]
    (.done { d with fresh := d.fresh + 1 } { record := some ((List.range 512).flatMap rec'), result := x.traceAt + x.traceAt * 2 ^ 32 })

/-- BRIDGE_GET_STATUS. -/
def bridgeGetStatus (c : Cmd) (d : Dev) : Reply :=
  let x := d.getGroup c.hIdx
  let code : LaneSt → Nat := fun s => match s with | .service => 0 | .spare => 1 | .failed => 2
  check d [(c.bad 0x03, .badHandle)]
    (statusReply c d (fArr (x.lane.map fun l => [fByte (code l.st), fCnt l.retries, f8i l.margin]) ++ [fCnt (bCount x .spare)]))

/-- The queue of an active-set word is reinitialised empty from its configuration; its credit balance is lost (Table 18.4). -/
def reinitQueue (q a : Nat) (d : Dev) : Dev :=
  let x := d.getQ q
  ({ d with qs := { d.qs with q := tput d.qs.q q { x with
    chain := [], parked := [], idleDue := none, balance := 0, demand := 0, grantSeq := 0, emptyAt := d.now } } }).raise 0x0901 sevMajor 0 [f8 a, fByte (Config.eccCode 6), f8 q]

/-- An uncorrectable error in the word at an SRAM address (Tables 18.4 and 5.4; logs 39, 125): a lookup that reads it acts on it and reports it; a line of
the extended-table cache is read again from HBM. -/
def sramUe (a : Nat) (d : Dev) : Dev :=
  let w := a / 8 * 8
  if inWindow (0x400400000000, 16 * 2 ^ 20, true) a then
    let i := (a - 0x400400000000) / 8
    { d with sch := { d.sch with pol := tset d.sch.pol {} i { tgetD d.sch.pol {} i with ue := true } } }
  else if inWindow (0x500200000000, 16 * 2 ^ 20, false) a then
    let n := (a - 0x500200000000) / 16
    (d.shadowNeed (.node n)).raise 0x0901 sevMajor 0 [f8 w, fByte (Config.eccCode 7)]
  else if inWindow (0x500100000000, 16 * 2 ^ 20, false) a then
    let v := d.openVal
    let hot := (v.2.qs.q.filter fun x => Queue.isHot x.2).map (·.1)
    match hot[v.1.toNat % (hot.length + 1)]? with
    | some q => reinitQueue q w v.2
    | none => v.2
  else if inWindow (0x500000000000, 256 * 2 ^ 20, false) a || inWindow (0x500300000000, 8 * 2 ^ 20, false) a then
    let k := if a < 0x500300000000 then (a - 0x500000000000) / 256 else (a - 0x500300000000) / 8
    match tget d.buf.cell k with
    | some r => { d with buf := { d.buf with cell := tput d.buf.cell k (if a < 0x500300000000 then { r with dataBad := (w / 8 % 32) :: r.dataBad } else { r with bad := true }) } }
    | none => d.shadowNeed (.word w)
  else if inWindow (0x400200000000, 16 * 2 ^ 20, true) a then d.shadowNeed (.nh ((a - 0x400200000000) / 8))
  else if inWindow (0x400201000000, 2 ^ 20, true) a then
    let g := (w - 0x400201000000) / 4
    (d.shadowNeed (.ecmp g)).shadowNeed (.ecmp (g + 1))
  else if inWindow (0x400300000000, 40 * 98304, true) a then
    let i := (a - 0x400300000000) / 40
    (d.modAcl i fun e => { e with copyUe := true })
  else if inWindow (0x400500000000, 4 * 2 ^ 20, true) a then
    d.setFwd fun x => { x with cache := x.cache.eraseIdx ((a - 0x400500000000) / 128) }
  else d.shadowNeed (.word w)

/-- An error injected at a device address: at an SRAM word or at an HBM granule (R579, R349, R570). -/
def injectError (ue : Bool) (a : Nat) (d : Dev) : Dev :=
  if a < 2 ^ 37 then
    let k := hbmChOf a
    let g := a / 32 * 32
    if ue then (let d1 := eccUe k g (setPoison (g / 32) true d); if (d.getCh k).obj.st == .running then d1.freeze k 1 (some g) else d1) else eccCe k g d
  else if ue then d.sramUe a
  else { d with fwd := { d.fwd with ce := if d.fwd.ce.contains (a / 8 * 8) then d.fwd.ce else d.fwd.ce ++ [a / 8 * 8] } }

/-- DIAG_INJECT (R579, Table 18.8). -/
def diagInject (c : Cmd) (d : Dev) : Reply :=
  let kind := c.f 0 1; let t := c.f 1 1; let i := c.f 4 4; let a := c.f 8 8
  let addrBad := if a < 2 ^ 37 then (d.areaAt a == .unmapped) else (sramWindow a).isNone
  let bad := match kind with
    | 0 | 1 => t != 0 || i != 0 || addrBad
    | 2 => decide (2 < t) || i != 0 || a != 0
    | 3 => decide (31 < i) || decide (39 < t) || a != 0 || (bLane (d.getGroup i) t).st != .service
    | 4 => t != 0 || decide (255 < i) || a != 0
    | _ => true
  let busy := match kind with
    | 2 => d.voters.length != 3
    | 4 => (d.otherDown i).isSome || (d.getCh i).obj.st != .running
    | _ => false
  check d [(c.bad 0x00, .badHandle), (bad || c.dirty 2 2 || c.dirty 16 16, .badArg), (busy, .refusedBusy)]
    (.done (match kind with
      | 0 => d.injectError false a
      | 1 => d.injectError true a
      | 2 => d.leaveVote t 0
      | 3 => laneFail i t 0 d
      | _ => d.freeze i 3 none) {})

end Dev

/-- OUTPUT_COPY. -/
def execOutputCopy (ch : Fin 3) (number : Nat) (content : BitVec 64) (s : State) : Out := s.onDev (Dev.outputCopy ch number content)
/-- VOTE_TIMEOUT. -/
def execVoteTimeout (ch : Fin 3) (s : State) : Out := s.onDev (Dev.voteTimeout ch)
/-- CHECKPOINT. -/
def execCheckpoint (digestA digestB digestC : BitVec 64) (s : State) : Out := s.onDev (Dev.checkpoint digestA digestB digestC)
/-- CHANNEL_UE. -/
def execChannelUe (ch : Fin 3) (s : State) : Out := s.onDev (Dev.channelUe ch)
/-- SWAP_DUE. -/
def execSwapDue (s : State) : Out := s.onDev Dev.swapDue
/-- SELFTEST_END. -/
def execSelftestEnd (ch : Fin 3) (passed : Bool) (s : State) : Out := s.onDev (Dev.selftestEnd ch passed)
/-- RESYNC_DONE. -/
def execResyncDone (ch : Fin 3) (passed : Bool) (s : State) : Out := s.onDev (Dev.resyncDone ch passed)
/-- HEADLESS_TIMEOUT. -/
def execHeadlessTimeout (s : State) : Out := s.onDev Dev.headlessTimeout
/-- BRIDGE_LANE_FAIL. -/
def execBridgeLaneFail (g : Fin 32) (lane : Fin 40) (c : BridgeCause) (s : State) : Out := s.onDev (Dev.bridgeLaneFail g lane c)
/-- SPARE_SWAP_DONE: the group carries again, and what waited for it goes on (R18, R21). -/
def execSpareSwapDone (g : Fin 32) (s : State) : Out := s.onDev (Dev.spareSwapDone g)
/-- LANE_EYE_CHECK. -/
def execLaneEyeCheck (g : Fin 32) (lane : Fin 40) (margin : Int) (below : Bool) (s : State) : Out := s.onDev (Dev.laneEyeCheck g lane margin below)
/-- LANE_RETRAIN. -/
def execLaneRetrain (g : Fin 32) (lane : Fin 40) (ok : Bool) (s : State) : Out := s.onDev (Dev.laneRetrain g lane ok)
/-- FLIT_RECEIVE. -/
def execFlitReceive (g : Fin 32) (toQueueing : Bool) (f : Flit) (s : State) : Out := s.onDev (Dev.flitReceive g toQueueing f)
/-- TRIAD_GET_STATUS, opcode 0x0910. -/
def execTriadGetStatus (src : Src) (s : State) : Out := s.onDev (Dev.runCmd 0x0910 src Dev.triadGetStatus)
/-- TRIAD_SET_SWAP, opcode 0x0911. -/
def execTriadSetSwap (src : Src) (s : State) : Out := s.onDev (Dev.runCmd 0x0911 src Dev.triadSetSwap)
/-- TRIAD_RESTART, opcode 0x0912. -/
def execTriadRestart (src : Src) (s : State) : Out := s.onDev (Dev.runCmd 0x0912 src Dev.triadRestart)
/-- TRIAD_TRACE_READ, opcode 0x0913. -/
def execTriadTraceRead (src : Src) (s : State) : Out := s.onDev (Dev.runCmd 0x0913 src Dev.triadTraceRead)
/-- BRIDGE_GET_STATUS, opcode 0x0914. -/
def execBridgeGetStatus (src : Src) (s : State) : Out := s.onDev (Dev.runCmd 0x0914 src Dev.bridgeGetStatus)
/-- DIAG_INJECT, opcode 0x0915. -/
def execDiagInject (src : Src) (s : State) : Out := s.onDev (Dev.runCmd 0x0915 src Dev.diagInject)

end Sys2Proof.Machine
end

