-- ==== Sys2Proof/Machine/Boot.lean ====
section
/-! DEFINITION. Reset, bring-up and host boot, recovery, firmware slots, the return of the triad, images relayed over the fabric and parser
patches (chapter "Bring-up, firmware slots and in-service upgrade"). -/

namespace Sys2Proof.Machine
namespace Dev

/-! ### Slots and directory (R584-R590) -/

/-- Bytes a slot image may have at most (R584, R593). -/
def slotMax (d : Dev) : Nat := if d.fw.hostBoot then 130023424 else min ((Config.flashBytes - 8388608) / 2) 130023424

/-- The running control firmware's component of an image. -/
def ctlComp (b : Bytes) : Option Comp := (imgHeader b).comps.find? fun c => c.type == 1
def imgFmt (b : Bytes) : Nat := match ctlComp b with | some c => c.fmt | none => 0

/-- Why the image in slot `b` cannot be booted (R588, R590); a container that is no slot image counts as a failed signature (log 40). -/
def slotVerify (nv : Nv) (d : Dev) (b : Bool) : Option Nat :=
  let x := (slot nv d b).image
  match verifyImg nv x with
  | some c => some c
  | none => if slotShape (imgHeader x) then none else some 1

/-- A directory update (R585). -/
def dirUpdate (nv : Nv) : Nv := { nv with generation := (nv.generation + 1) % 2 ^ 32 }

def markBad (nv : Nv) (d : Dev) (b : Bool) (cause : Nat) : Nv × Dev := putSlot nv d b { slot nv d b with st := .bad, cause := cause }

/-- The choice of R590: fuses and flash after it, the slot that boots, and the fall-backs on the way (slot left, cause of Table 19.14). -/
def chooseSlot (count : Bool) (nv : Nv) (d : Dev) : (Nv × Dev) × Option Bool × List (Nat × Nat) :=
  let s0 := nv.trial.getD nv.current
  let n1 := if count && nv.trial.isSome then dirUpdate { nv with tries := nv.tries + 1 } else nv
  let used := count && nv.trial.isSome && decide (3 < n1.tries)
  let p1 : Nv × Dev := if used then (let p := markBad n1 d (s0 == 1) 4; ({ p.1 with trial := none }, p.2)) else (n1, d)
  let s := if used then nv.current else s0
  let f1 : List (Nat × Nat) := if used then [(s0, 3)] else []
  match slotVerify p1.1 p1.2 (s == 1) with
  | none => (p1, some (s == 1), f1)
  | some c =>
    let p2 := markBad p1.1 p1.2 (s == 1) c
    let p3 : Nv × Dev := (dirUpdate { p2.1 with trial := none }, p2.2)
    let o := !(s == 1)
    let st := (slot p3.1 p3.2 o).st
    if (st == .written || st == .good) && (slotVerify p3.1 p3.2 o).isNone then (({ p3.1 with current := b2n o }, p3.2), some o, f1 ++ [(s, c - 1)])
    else (p3, none, f1 ++ [(s, c - 1)])

/-- EV_FW_FALLBACK and the alarm bit for each fall-back (R590, R607). -/
def fallbackEvents (l : List (Nat × Nat)) (d : Dev) : Dev :=
  l.foldl (fun (x : Dev) f => (x.raise 0x0A02 sevMajor 0 [fByte f.1, fByte f.2]).setAlarm 5) d

/-- The control firmware and the controllers of slot `b` run. -/
def runSlot (nv : Nv) (b : Bool) (d : Dev) : Dev :=
  let i := (slot nv d b).image
  { d with
    hif := { d.hif with fwSlot := b }
    fw := { d.fw with
      image := i, fmt := imgFmt i
      comps := (imgHeader i).comps.foldl (fun (t : Tab Nat) c => tput t c.type c.version) [] } }

def ctlVersion (d : Dev) : Nat := tgetD d.fw.comps 0 1

/-- The persisted configuration that the running firmware reads in its slot's region, or its defaults and the cause (R594, Table 19.14). -/
def readConfig (nv : Nv) (readable : Bool) (d : Dev) : Persist × Option Nat :=
  match if readable then (if d.hif.fwSlot then nv.regionB else nv.regionA) else none with
  | none => ({}, some 0)
  | some (f, p) => if f = d.fw.fmt ∨ f + 1 = d.fw.fmt then (p, none) else ({}, some 1)

/-- EV_CFG_DEFAULTS, where the firmware starts from defaults. -/
def defaultsEvent (c : Option Nat) (d : Dev) : Dev :=
  match c with | some k => d.raise 0x0A06 sevMajor 0 [fByte (b2n d.hif.fwSlot), fByte k] | none => d

/-- The tick at which the confirmation time of a trial expires (R599). -/
def confirmAt (nv : Nv) (d : Dev) : Option Nat :=
  if nv.trial.isSome && nv.confirmMin != 0 then some (d.now + secT (60 * nv.confirmMin)) else none

/-! ### Bring-up (R589-R592) -/

/-- The BOOT_PHASE balls take these values in turn. -/
def phases (l : List Nat) (d : Dev) : Dev :=
  l.foldl (fun (x : Dev) v => ({ x with hif := { x.hif with bootPhase := v } }).emit (.bootPhase v)) d

/-- The device halts in a phase (R592): BOOT_PHASE alternates between 0xF and it. -/
def halt (phase : Nat) (d : Dev) : Dev := d.phases [phase, 0xF]

/-- Spare slots of retired channels: the first three of each stack (R358). -/
def retiredSlot (l : List Nat) (k : Nat) : Option Nat :=
  let n := ((l.takeWhile (· != k)).filter fun j => j / 32 == k / 32).length
  if n < 3 then some n else none

/-- Phases 0x6 and 0x8 for the HBM channels: all RUNNING but those retired; retraining spaced evenly through a second (R347, R359). -/
def bringHbm (e : BootEnv) (p : Persist) (new : List Nat) (d : Dev) : Dev :=
  let st : Tab HbmStack := (List.range 8).map fun s =>
    let t : Int := ((e.cold.find? fun c => c.1 == s).map (·.2)).getD 0
    (s, { temp := t, loadTemp := t, workAt := d.now, exitAt := d.now })
  let ch : Tab HbmCh := (List.range 256).map fun k =>
    let gone := p.retired.contains k
    let o : ObjSt := if gone then .retired else .running
    (k, { obj := { st := o, prev := o, since := d.nowNs }, slot := if gone then retiredSlot p.retired k else none
          refAt := d.now + Config.refreshTicks (tgetD st {} (k / 32)).temp, retrainAt := d.now + secT 1 * (k + 1) / 256
          legacy := tget p.legacy k })
  let d1 := d.setHbm fun h => { h with ch := ch, stack := st, mode := !p.legacy.isEmpty }
  let d2 := if e.cold.isEmpty then d1 else
    (List.range 8).foldl (fun (x : List Fld × Dev) s =>
      match e.cold.find? fun c => c.1 == s with
      | some c => (x.1 ++ [f8i c.2], x.2)
      | none => let v := x.2.openVal; (x.1 ++ [f8 v.1.toNat], v.2)) ([], d1) |> fun r => r.2.raise 0x0508 sevMinor 0 r.1
  (new.foldl (fun (x : Dev) k => x.raise 0x0502 sevMajor (chHandle k) [fIdx ((retiredSlot p.retired k).getD 0xFFFFFFFF), fCnt 0]) d2).budgetWatch

/-- Phases 0x7 to 0xA: every object in its bring-up state and every timer at its start (R589). -/
def bringObjects (e : BootEnv) (d : Dev) : Dev :=
  let run : Obj := { st := .running, prev := .running, since := d.nowNs }
  let pass := [e.chanPass.1, e.chanPass.2.1, e.chanPass.2.2]
  let links : Tab FLink := (List.range 512).filterMap fun l =>
    if e.light.any (fun k => k.val == l) then
      some (l, { obj := { st := .starting, prev := .stopped, since := d.nowNs }, phase := .discover }) else none
  let tri : Tab TriCh := (List.range 3).filterMap fun k => if pass.getD k false then some (k, { role := .voter, at_ := d.now }) else none
  links.foldl (fun (x : Dev) l => x.sendDiscover l.1) { d with
    pipe := (List.range 32).map fun p => (p, { obj := run, extStamp := d.now, lastHandoff := d.now })
    pe := { d.pe with eng := (List.range 64).map fun k => (k, { obj := run, idleSince := d.now }) }
    buf := { d.buf with spillStamp := d.now, passAt := d.now }
    fab := { d.fab with link := links, light := e.light.map (·.val), hbSeen := d.now }
    tri := { d.tri with
      ch := tri, cpAt := d.now, cpNs := d.nowNs, commits := 1, swapDue := d.now + secT 900, allSince := d.now }
    pwr := { d.pwr with busyAt := d.now } }

/-- Bring-up reaches READY (phase 0xB, R479): HIF_READY_TIME, EV_FW_BOOT, and the units that failed phase 0xA declared failed (R592). -/
def becomeReady (e : BootEnv) (nv : Nv) (fall : Bool) (d : Dev) : Dev :=
  let d1 : Dev := { d with
    hif := { d.hif with
      up := true, answers := true, chrysalis := false, readyMs := e.readyMs, readyAt := d.now }
    fw := { d.fw with causes := 0, env := none, buffer := [], confirmDue := confirmAt nv d } }
  let d2 := d1.raise 0x0A00 (if fall then sevMajor else sevInfo) 0 [fByte (b2n d1.hif.fwSlot), fIdx d1.ctlVersion, fFlag fall]
  let d3 := e.pipeFail.foldl (fun (x : Dev) p => failPipe p.val 2 x) d2
  e.engFail.foldl (fun (x : Dev) k => engineFailure k.val .selfTest x) d3

end Dev

/-- Phases 0x3 to 0xB, once a control firmware was chosen. -/
def State.bootRest (e : BootEnv) (b : Bool) (fall : List (Nat × Nat)) (s : State) : State :=
  let n := ([e.chanPass.1, e.chanPass.2.1, e.chanPass.2.2].filter id).length
  if n < 2 then { s with dev := s.dev.halt 3 }
  else
    let d0 := (s.dev.phases [3, 4, 5, 6, 7, 8, 9, 0xA, 0xB]).runSlot s.nv b
    let off : Int := msT e.timeMs.val - d0.now
    let d1 : Dev := { d0 with
      time := { d0.time with off := off }
      fw := { d0.fw with bankVer := List.replicate 8 (tgetD d0.fw.comps 0 6) } }
    let cfg := d1.readConfig s.nv e.cfgReadable
    let new := (e.trainFail.map (·.val)).dedup.filter fun k => !cfg.1.retired.contains k
    let p : Persist := { cfg.1 with retired := cfg.1.retired ++ new }
    let nv := if new.isEmpty then s.nv else d1.persist s.nv fun _ => p
    let d2 := (d1.fallbackEvents fall).bringHbm e p new
    let d3 := (d2.bringObjects e).defaultsEvent cfg.2
    let d4 : Dev := { d3 with sec := { d3.sec with idKey := true, alarmOnly := p.alarmOnly } }
    let d5 := if nv.latch &&& 0x1F#32 = 0#32 then d4 else d4.setAlarm 1
    { s with nv := nv, dev := d5.becomeReady e nv !fall.isEmpty }

/-- Bring-up under the boot source sampled (R582, R590, R593, R603). -/
def State.boot (e : BootEnv) (s : State) : State :=
  let d0 : Dev := { s.dev.phases [1] with
    fw := { s.dev.fw with bootSrc := e.bootSrc.val, smbAddr := e.smbAddr.val } }
  let src := if e.bootSrc = 3 ∧ s.nv.ignoreSrc then 0 else e.bootSrc.val
  let lost : Option (BitVec 4 × Nat) :=
    match e.tamper with
    | some t => some (BitVec.ofNat 4 t.1.val, t.2.val)
    | none => if s.dev.sec.firing = 0#4 then none else some (s.dev.sec.firing, 1)
  if !e.romOk then { s with dev := d0.halt 1 }
  else
    match lost with
    | some (srcs, phase) =>
      let s1 := { s with dev := { d0 with hif := { d0.hif with bootPhase := phase } } }.tamperStart srcs
      { s1 with dev := { s1.dev with hif := { s1.dev.hif with readyMs := e.readyMs } }.enterChrysalis 2 }
    | none =>
      if src = 0 then
        let d1 := d0.phases [2]
        let c := d1.chooseSlot true { s.nv with ignoreSrc := false }
        match c.2.1 with
        | some b => { s with nv := c.1.1, dev := c.1.2 }.bootRest e b c.2.2
        | none => { s with nv := c.1.1, dev := { c.1.2 with hif := { c.1.2.hif with readyMs := e.readyMs } }.enterChrysalis 1 }
      else if src = 1 then
        let d1 := d0.phases [0xC]
        { s with dev := { d1 with
            hif := { d1.hif with chrysalis := true, answers := true }
            fw := { d1.fw with hostBoot := true, causes := 8, env := some e }
            sec := { d1.sec with idKey := true } } }
      else { s with dev := { d0 with hif := { d0.hif with readyMs := e.readyMs } }.enterChrysalis 0 }

/-- BRING_UP (R581): with the rails valid, from device reset. -/
def State.bringUp (e : BootEnv) (s : State) : State :=
  if !e.railsValid || s.dev.hif.up || s.dev.hif.answers || s.dev.hif.bootPhase != 0 then s else s.boot e

/-- DEVICE_RESET (R581, Table 19.4): every device state but fuses, flash and the latched tamper status; a slot being written is EMPTY. -/
def State.deviceReset (s : State) : State :=
  let fresh (x : FwSlot) : FwSlot := if x.st = .writing then {} else x
  let d0 : Dev := { now := s.dev.now, fresh := s.dev.fresh, out := s.dev.out, sec := { firing := s.dev.sec.firing } }
  let d1 := if s.dev.pwr.trip then d0.emit (.pin 1 false) else d0
  { s with nv := { s.nv with slotA := fresh s.nv.slotA, slotB := fresh s.nv.slotB }, dev := d1.emit (.bootPhase 0) }

/-- RECOVERY_RESET (R604): after a successful recovery boot of slot A. -/
def State.recoveryReset (s : State) : State := if s.dev.fw.resetDue.isSome then s.deviceReset else s

/-! ### The triad returns (R566, R567, R597-R599) -/

namespace Dev

/-- The command that waits for a restart, a relay or a patch. -/
def waiting (d : Dev) (k : Option Nat) : Option Cmd :=
  match k with | some n => d.hif.cmds.find? (·.intake == n) | none => none

/-- Complete it. -/
def answer (k : Option Nat) (r : Resp) (d : Dev) : Dev := match d.waiting k with | some c => d.complete c r | none => d

/-- A rollout that the restart interrupted is rolled back and its command cancelled: the device, and whether there was one (R225). -/
def rollBack (d : Dev) : Dev × Bool :=
  match d.pe.roll with
  | none => (d, false)
  | some r =>
    let d1 := (r.done ++ r.todo.take 1).foldl (fun (x : Dev) e => x.modEng e fun y => { y with
      excluded := none, image := if y.obj.st == .running then tput y.image r.module (placed r.old) else y.image }) d
    let d2 : Dev := { d1 with pe := { d1.pe with roll := none, module := tput d1.pe.module r.module r.old } }
    let d3 := d2.raise 0x0303 sevMajor (handle 0x0C r.module) [fCnt r.old.version, fCnt r.new.version, fCnt r.done.length, fByte 1]
    (answer (some r.intake) { status := .cancelled } d3, true)

/-- Roles after step 6 of Table 18.3. -/
def restartRoles (pass : List Bool) (d : Dev) : Dev :=
  (List.range 3).foldl (fun (x : Dev) k =>
    let ok := pass.getD k false
    if ok then (if x.roleIs .voter k then x else x.setRoleOpen k .voter) else if x.roleIs .failed k then x else x.setRole k .failed 3) d

/-- The code of a restart's cause (Table 18.9). -/
def restartCode : RestartCause → Nat
  | .doubleFault => 0 | .command => 1 | .activation => 2

/-- One write of the undo journal taken back (Table 18.3 step 4). -/
def undoWord (w : JWord) (d : Dev) : Dev :=
  match w with
  | .queue q old => { d with qs := { d.qs with q := match old with | some x => tput d.qs.q q x | none => tdel d.qs.q q } }
  | .group g old => d.setFwd fun x => { x with
      switches := x.switches.filter (·.group != g), ecmp := match old with | some e => tput x.ecmp g e | none => tdel x.ecmp g }
  | .batch => match d.fwd.batch with | some b => (freeReserved b d).setFwd fun x => { x with batch := none } | none => d
  | .training k old => d.modCh k fun c => { c with pendMode := old }
  | .chan k old => d.modCh k fun _ => old
  | .slot k old => d.modCh k fun c => { c with salvage := none, slot := old }

/-- The writes of the command of intake `k` undone, the newest first. -/
def undo (k : Nat) (d : Dev) : Dev :=
  ((d.tri.journal.filter (·.intake == k)).reverse).foldl (fun (x : Dev) e => x.undoWord e.word) d

/-- Commands that need no data-path write: LANE_MEASURE, PORT_MEASURE_RTT and CV_SCAN (R518). -/
def noWrites (op : Nat) : Bool := op == 0x0105 || op == 0x0106 || op == 0x0808

/-- What R518 does with the commands in execution when the triad returns: one that needs no write runs again from its start; MEM_RETIRE, whose copies firmware
still makes, is undone and cancelled; every other one that the model holds in execution has made its writes when it was taken up and completes with its own
status (log 104). -/
def settleCmds (d : Dev) : Dev :=
  (d.hif.cmds.filter (·.started)).foldl (fun (x : Dev) c =>
    if noWrites c.opcode then
      let y : Dev := { x with hif := { x.hif with
        heldDone := x.hif.heldDone.filter (·.1 != c.intake)
        cmds := x.hif.cmds.map fun e => if e.intake = c.intake then { e with started := false, ended := false } else e } }
      y.setDma fun m => { m with
        queue := m.queue.filter (·.intake != c.intake)
        cv := m.cv.map fun u => (u.1, if u.2.scan.any (·.intake == c.intake) then { u.2 with scan := none } else u.2) }
    else if c.opcode = 0x0508 ∧ !c.ended then (x.undo c.intake).complete c { status := .cancelled }
    else x) d

/-- Steps 4, 6 and 7 of Table 18.3 on the device. -/
def triadBack (r : Restart) (pass : List Bool) (d : Dev) : Dev :=
  let d1 := d.restartRoles pass
  let d2 := d1.setTri fun t => { t with
    cpAt := d.now, cpNs := d.nowNs, commits := t.commits + 1, restart := none, cpOld := d.now, log := [] }
  let d3 : Dev := { d2 with hif := { d2.hif with headless := false, restartMs := (d.now - r.began) / msT 1 } }
  let d4 := (d3.settleCmds.releaseDone).rollBack
  let d5 := (d4.1.setCause 42).raise 0x0912 sevMajor 0
    [fByte (restartCode r.cause), f8 ((d.now - r.began) / 65536), fByte (bitsOf ((List.range 3).map (d1.roleIs .voter))), fCnt (b2n d4.2)]
  if d.tri.overrun then (d5.raise 0x0903 sevMajor 0 [f8 ((d.now - r.began) / 65536)]).setTri fun t => { t with overrun := false } else d5

end Dev

/-- Controllers (component types 2 to 5) whose version differs between two running sets (Table 19.10). -/
def swapTypes (x y : Tab Nat) : List Nat := [2, 3, 4, 5].filter fun t => tget x t != tget y t

/-- Steps 3 to 7 into slot `b`, after the fall-backs `fall`: a new slot's configuration is read, its controllers swapped in (R597, R599). With `swapOk` false a
controller swap of the trial slot fails: every swapped unit returns to its old code and the device reverts, the command waiting for VERIFY_FAILED. -/
def State.returnInto (r : Restart) (pass : List Bool) (swapOk b : Bool) (fall : List (Nat × Nat)) (s : State) : State :=
  let old := s.dev.hif.fwSlot
  let oldComps := s.dev.fw.comps
  let oldFmt := s.dev.fw.fmt
  let d1 := s.dev.runSlot s.nv b
  let moved := b != old || r.kind == .trial
  let drop := moved && d1.fw.accept && decide (d1.fw.fmt < oldFmt)
  let cfg : Persist × Option Nat := if drop then ({}, some 2) else d1.readConfig s.nv true
  let nv := if moved then d1.persist s.nv fun _ => cfg.1 else s.nv
  let won := r.kind == .trial && fall.isEmpty
  let d2 : Dev := { d1 with
    sec := if moved then { d1.sec with alarmOnly := cfg.1.alarmOnly } else d1.sec
    fw := { d1.fw with
      accept := false, confirmDue := if won then Dev.confirmAt nv d1 else if moved || !fall.isEmpty then none else d1.fw.confirmDue } }
  let d3 := (d2.triadBack r pass).fallbackEvents fall
  let d4 := if moved then d3.defaultsEvent cfg.2 else d3
  if won && !swapOk && !(swapTypes oldComps d4.fw.comps).isEmpty then
    let comps := [2, 3, 4, 5].foldl (fun (t : Tab Nat) k => match tget oldComps k with | some v => tput t k v | none => tdel t k) d4.fw.comps
    { s with nv := nv, dev := ({ d4 with fw := { d4.fw with comps := comps } } : Dev).beginRestart .activation (.revert 5) r.intake }
  else
  let d5 := if moved || !fall.isEmpty then
      d4.raise 0x0A00 (if fall.isEmpty then sevInfo else sevMajor) 0 [fByte (b2n b), fIdx d4.ctlVersion, fFlag !fall.isEmpty] else d4
  { s with nv := nv
           dev := d5.answer r.intake (match r.kind with
             | .trial => if won then { status := .ok, result := d5.ctlVersion } else { status := .verifyFailed }
             | .revert 5 => { status := .verifyFailed }
             | _ => {}) }

/-- TRIAD_RETURN (R566, R567, R590): fewer than two channels pass step 2 and it begins again, up to three attempts; otherwise the slot is chosen
without the count of tries, and with no slot that verifies the device enters Chrysalis. -/
def State.triadReturn (pass : List Bool) (swapOk : Bool) (s : State) : State :=
  match s.dev.tri.restart with
  | none => s
  | some r =>
    if 3 < r.tries then s
    else if (pass.filter id).length < 2 then
      { s with dev := s.dev.setTri fun t => { t with restart := some { r with tries := r.tries + 1 } } }
    else
      let p : (Nv × Dev) × List (Nat × Nat) := match r.kind, s.nv.trial with
        | .revert c, some t =>
          let q := Dev.putSlot (Dev.dirUpdate { s.nv with trial := none }) s.dev (t == 1) { Dev.slot s.nv s.dev (t == 1) with st := .written }
          (q, [(t, c)])
        | _, _ => ((s.nv, s.dev), [])
      let c := Dev.chooseSlot false p.1.1 p.1.2
      match c.2.1 with
      | some b => { s with nv := c.1.1, dev := c.1.2 }.returnInto r pass swapOk b (p.2 ++ c.2.2)
      | none =>
        let d : Dev := { now := s.dev.now, fresh := s.dev.fresh, out := s.dev.out, sec := { firing := s.dev.sec.firing } }
        { s with nv := c.1.1, dev := d.enterChrysalis 1 }

namespace Dev

/-! ### Firmware commands (R596-R601, Table 19.13) -/

/-- CONFIRM_TIMEOUT (R599): only while the triad runs. -/
def confirmTimeout (d : Dev) : Dev :=
  if d.fwHeld || !due d.now d.fw.confirmDue then d
  else
    let x := d.beginRestart .activation (.revert 4) none
    { x with fw := { x.fw with confirmDue := none } }

/-- PARSER_BANK_SWAP (R601): at least 100 µs after the last write. -/
def parserSwap (d : Dev) : Dev :=
  match d.fw.patch with
  | none => d
  | some p =>
    if d.now < p.at_ + usT 100 then d
    else
      let d1 : Dev := { d with fw := { d.fw with
        patch := none, bankVer := d.fw.bankVer.set p.bank p.version, banks := d.fw.banks.set p.bank p.image } }
      answer (some p.intake) {} (d1.raise 0x0A05 sevInfo 0 [fIdx p.bank, fIdx (d.fw.bankVer.getD p.bank 0), fIdx p.version])

/-- The code of a slot state, in the order of Table 19.4 (log 40). -/
def slotCode : SlotSt → Nat
  | .empty => 0 | .writing => 1 | .written => 2 | .trial => 3 | .good => 4 | .bad => 5

/-- The directory record (Table 19.3). -/
def dirBytes (nv : Nv) (d : Dev) : Bytes :=
  let a := slot nv d false; let b := slot nv d true
  let r := le 4 0x52444E51 ++ le 4 nv.generation ++ le 1 nv.current ++ le 1 (nv.trial.getD 0xFF) ++ le 1 nv.tries ++ le 1 (b2n nv.ignoreSrc) ++
    le 1 (slotCode a.st) ++ le 1 (slotCode b.st) ++ le 1 a.cause ++ le 1 b.cause ++ le 2 nv.confirmMin ++ le 2 a.fmt ++ le 2 b.fmt ++ le 2 0 ++
    le 4 a.len ++ le 4 b.len ++ le 4 a.crc ++ le 4 b.crc ++ List.replicate 20 0
  r ++ le 4 (crc32c 0xFFFFFFFF r)

/-- Bytes of the image staging buffer in use: the slots of host boot and the chunks of a relay (R595). -/
def staged (d : Dev) : Nat :=
  (if d.fw.hostBoot then d.fw.hbA.len + d.fw.hbB.len else 0) + (match d.fab.relay with | some r => (r.chunks.map (·.2.length)).sum | none => 0)

/-- FW_GET_STATUS. -/
def fwGetStatus (nv : Nv) (c : Cmd) (d : Dev) : Reply :=
  let fmt (r : Option (Nat × Persist)) : Fld := .u 2 (match r with | some x => x.1 | none => 0)
  check d [(c.bad 0x00, .badHandle)]
    (statusReply c d ([.raw 8 (dirBytes nv d)] ++ (List.range 6).map (fun k => .u 4 (tgetD d.fw.comps 0 (k + 1))) ++
      d.fw.bankVer.map (fun v => .u 4 v) ++ [fmt nv.regionA, fmt nv.regionB, f8 Config.flashBytes, f8 d.staged]))

/-- An image written to slot `b`, with its events (R596). -/
def writeSlot (b : Bool) (img : Bytes) (relayed : Bool) (nv : Nv) (d : Dev) : Nv × Dev :=
  let i := imgHeader img
  let p := putSlot (dirUpdate (dirUpdate nv)) d b
    { slot nv d b with st := .written, fmt := imgFmt img, len := img.length, crc := crc32c 0xFFFFFFFF img, image := img }
  (p.1, p.2.raise 0x0A01 sevInfo 0 [fByte (b2n b), fIdx i.version, fIdx i.id, fFlag relayed])

/-- The shape of a slot image (R596). -/
def slotImage (img : Bytes) : Bool := imgShape (imgHeader img) img.length && slotShape (imgHeader img)

/-- FW_WRITE (R596, R599): `ok1` and `ok2` say whether the first and second read-back match. -/
def fwWrite (pl : HostRead) (ok1 ok2 : Bool) (c : Cmd) (nv : Nv) (d : Dev) : Nv × Reply :=
  let len := c.f 0 4
  let img := slice (pl.getD []) 0 len
  let b := !d.hif.fwSlot
  checkNv nv d [(c.bad 0x00, .badHandle), (c.dirty 8 24 || pl.isNone, .badArg), (nv.trial.isSome, .refusedBusy),
      (decide (d.slotMax < len), .noSpace), (crc32c 0xFFFFFFFF img != c.f 4 4, .verifyFailed), (!slotImage img, .badArg)]
    (if ok1 || ok2 then let p := writeSlot b img false nv d; (p.1, .done p.2 { result := b2n b })
     else let p := putSlot (dirUpdate (dirUpdate nv)) d b {}; (p.1, .done p.2 { status := .verifyFailed }))

/-- A relayed image is being stored (R598). -/
def storing (d : Dev) : Bool := match d.fab.relay with | some r => r.keep && !r.finished && r.intake.isNone | none => false

/-- FW_ACTIVATE (R597, R598). -/
def fwActivate (c : Cmd) (nv : Nv) (d : Dev) : Nv × Reply :=
  let m := c.f 0 2; let fl := c.f 2 1
  let b := !d.hif.fwSlot
  let o := slot nv d b
  let older := decide (o.fmt < d.fw.fmt) && nv.trial.isNone && fl == 0
  let busy := nv.trial.isSome || d.storing || d.pe.roll.isSome || d.fw.patch.isSome || d.preparing
  checkNv nv d [(c.bad 0x00, .badHandle), (decide (1440 < m) || decide (1 < fl) || c.dirty 3 29 || older, .badArg),
      (o.st != .written && o.st != .good, .notReady), (busy, .refusedBusy)]
    (let p := putSlot (dirUpdate { nv with trial := some (b2n b), tries := 0, confirmMin := m }) d b { o with st := .trial }
     let d1 : Dev := { p.2 with fw := { p.2.fw with accept := fl == 1 } }
     (p.1, .pend (d1.beginRestart .activation .trial (some c.intake))))

/-- FW_CONFIRM (R599): both configuration regions are written in the running format (R594). -/
def fwConfirm (c : Cmd) (nv : Nv) (d : Dev) : Nv × Reply :=
  checkNv nv d [(c.bad 0x00, .badHandle), (c.dirty 0 32, .badArg)]
    (match nv.trial with
     | none => (nv, .done d {})
     | some t =>
       let p := putSlot (dirUpdate { nv with current := t, trial := none }) d (t == 1) { slot nv d (t == 1) with st := .good }
       let d1 : Dev := { p.2 with fw := { p.2.fw with confirmDue := none } }
       (d1.persist p.1 id, .done (d1.raise 0x0A03 sevInfo 0 [fByte t, fIdx d.ctlVersion]) {}))

/-- FW_REVERT (R599). -/
def fwRevert (nv : Nv) (c : Cmd) (d : Dev) : Reply :=
  check d [(c.bad 0x00, .badHandle), (c.dirty 0 32, .badArg), (nv.trial.isNone, .refusedBusy)]
    (.pend (d.beginRestart .activation (.revert 6) (some c.intake)))

/-- PARSER_PATCH (R601). -/
def parserPatch (nv : Nv) (pl : HostRead) (c : Cmd) (d : Dev) : Reply :=
  let img := slice (pl.getD []) 0 (c.f 0 4)
  let go (base : Bool) (r : Reply) : Reply :=
    check d [(c.bad 0x00, .badHandle), (c.dirty 4 28 || pl.isNone || base, .badArg), (d.fw.patch.isSome, .refusedBusy)] r
  match if (verifyImg nv img).isNone then oneComp img 9 else none with
  | none => go false (.done d { status := .verifyFailed })
  | some (i, p) =>
    let new := Config.applyDelta (d.fw.banks.getD p.arg []) (compBytes img p)
    go (decide (7 < p.arg) || i.base != d.fw.bankVer.getD p.arg 0 || !Config.parserGraphOk new)
      (.pend { d with fw := { d.fw with
        patch := some { bank := p.arg, version := p.version, image := new, at_ := d.now, intake := c.intake } } })

/-! ### Relayed images (R417, R602) -/

/-- Place of a device in the relay's order: ascending from the meridian, wrapping at 2,047. -/
def relayKey (d : Dev) (n : Nat) : Nat := (n + 2047 - d.fab.holder) % 2048

/-- The next reachable device after `x` in that order, up to the meridian. -/
def relayNext (d : Dev) (x : Nat) : Option Nat :=
  (d.fwd.reachable.filter fun n => n != d.fab.holder && (x == d.fab.holder || decide (d.relayKey x < d.relayKey n))).foldl
    (fun (b : Option Nat) n => match b with | some y => if d.relayKey n < d.relayKey y then some n else b | none => some n) none

def setRelay (d : Dev) (r : Option Relay) : Dev := d.setFab fun f => { f with relay := r }

/-- A chunk goes to the successor. -/
def relaySend (r : Relay) (x k : Nat) (b : Bytes) (d : Dev) : Dev :=
  d.sendFc x 0x60 (be 4 r.image ++ be 4 k ++ be 4 r.count ++ be 2 b.length ++ be 2 0 ++ be 4 (crc32c 0xFFFFFFFF b) ++ b)

/-- Chunks that are held go to the successor while fewer than 8 are unacknowledged. -/
def relayPump : Nat → Dev → Dev
  | 0, d => d
  | n + 1, d =>
    match d.fab.relay with
    | none => d
    | some r =>
      match r.succ, tget r.chunks r.nextIdx with
      | some x, some b =>
        if r.sent.length < 8 then
          relayPump n ((relaySend r x r.nextIdx b d).setRelay (some { r with
            sent := tput r.sent r.nextIdx d.now, nextIdx := r.nextIdx + 1, heard := if r.sent.isEmpty then d.now else r.heard }))
        else d
      | _, _ => d

/-- The relay has ended at the meridian: FW_RELAY completes (R602). -/
def relayDone (r : Relay) (d : Dev) : Dev :=
  let skipped := r.skipped.length
  let reached := d.fwd.reachable.length - skipped
  let d1 := (d.setRelay none).raise 0x0A04 sevInfo 0 [fIdx r.image, fCnt reached, fCnt skipped]
  answer r.intake { result := reached + 2 ^ 32 * skipped } d1

/-- The last device tells the meridian once it holds the whole image; a meridian with no successor left is done. -/
def relayTail (d : Dev) : Dev :=
  match d.fab.relay with
  | none => d
  | some r =>
    if r.succ.isSome then d
    else if r.intake.isSome then relayDone r d
    else if r.finished then d.sendFc d.fab.holder 0x61 (be 4 r.image ++ be 4 (r.count - 1) ++ be 1 1 ++ be 3 0)
    else d

/-- FW_RELAY (R602): staged as R596, stored locally with flag bit 0, relayed in chunks of 4,096 bytes. -/
def fwRelay (pl : HostRead) (c : Cmd) (nv : Nv) (d : Dev) : Nv × Reply :=
  let len := c.f 0 4; let fl := c.f 8 1
  let img := slice (pl.getD []) 0 len
  checkNv nv d [(c.bad 0x00, .badHandle), (decide (1 < fl) || c.dirty 9 23 || pl.isNone, .badArg), (!d.isMeridian, .notReady),
      ((fl == 1 && nv.trial.isSome) || (match d.fab.relay with | some r => !r.finished | none => false), .refusedBusy),
      (decide (d.slotMax < len), .noSpace), (crc32c 0xFFFFFFFF img != c.f 4 4, .verifyFailed), (!slotImage img, .badArg)]
    (let p := if fl = 1 then writeSlot (!d.hif.fwSlot) img false nv d else (nv, d)
     let n := (len + 4095) / 4096
     let r : Relay := { image := (imgHeader img).id, count := n, intake := some c.intake, keep := fl == 1
                        chunks := (List.range n).map (fun k => (k, (img.drop (4096 * k)).take 4096))
                        succ := d.relayNext d.fab.holder, heard := d.now }
     match settle c (.pend (p.2.setRelay (some r))) with
     | d1 => (p.1, .pend (relayTail (relayPump 8 d1))))

/-- RELAY_CHUNK from the predecessor (R417, R602). -/
def relayChunk (dev image idx count crc : Nat) (b : Bytes) (nv : Nv) (d : Dev) : Nv × Dev :=
  if d.fwHeld || d.isMeridian || nv.trial.isSome || crc32c 0xFFFFFFFF b != crc || decide (count ≤ idx) ||
      decide (522190848 < d.staged + b.length) then (nv, d)
  else
    let r0 : Relay := match d.fab.relay with
      | some r => if r.image = image && r.count = count then r else
          { image := image, count := count, succ := d.relayNext d.devId, heard := d.now }
      | none => { image := image, count := count, succ := d.relayNext d.devId, heard := d.now }
    let r := { r0 with chunks := tput r0.chunks idx b }
    let d1 := (d.setRelay (some r)).sendFc dev 0x61 (be 4 image ++ be 4 idx ++ be 1 0 ++ be 3 0)
    let d2 := relayPump 8 d1
    let img := r.chunks.flatMap (·.2)
    if r.chunks.length = count && !r.finished then
      let d3 := d2.setFab fun f => { f with relay := f.relay.map fun (x : Relay) => { x with finished := true } }
      if slotImage img && img.length ≤ d.slotMax then
        let p := writeSlot (!d.hif.fwSlot) img true nv d3
        (p.1, relayTail p.2)
      else (nv, d3)
    else (nv, d2)

/-- RELAY_ACK: the end of the relay at the meridian, or a chunk acknowledged by the successor. -/
def relayAck (dev image idx : Nat) (complete : Bool) (d : Dev) : Dev :=
  match d.fab.relay with
  | none => d
  | some r =>
    if d.fwHeld || r.image != image then d
    else if complete then (if r.intake.isSome then relayDone r d else d)
    else if r.succ = some dev then relayPump 8 (d.setRelay (some { r with sent := tdel r.sent idx, heard := d.now }))
    else d

/-- RELAY_RESEND: after 200 ms. -/
def relayResend (idx : Nat) (d : Dev) : Dev :=
  match d.fab.relay with
  | none => d
  | some r =>
    match r.succ, tget r.sent idx, tget r.chunks idx with
    | some x, some t, some b =>
      if !d.fwHeld && decide (t + msT 200 ≤ d.now) then (relaySend r x idx b d).setRelay (some { r with sent := tput r.sent idx d.now }) else d
    | _, _, _ => d

/-- RELAY_SKIP_TIMEOUT: a successor that acknowledged nothing for 2 s is skipped; the chain goes on at the next reachable device. -/
def relaySkip (d : Dev) : Dev :=
  match d.fab.relay with
  | none => d
  | some r =>
    match r.succ with
    | none => d
    | some x =>
      if d.fwHeld || r.sent.isEmpty || decide (d.now < r.heard + secT 2) then d
      else
        let first := (r.sent.map (·.1)).foldl min r.nextIdx
        let d1 := (d.setRelay (some { r with succ := d.relayNext x, sent := [], nextIdx := 0, heard := d.now })).raise 0x060B sevMinor 0
          [fIdx x, fIdx first]
        relayTail (relayPump 8 (observe 0 3 x d1))

/-! ### Recovery (R603-R605) -/

/-- The device is in Chrysalis, not waiting for a host's image. -/
def inChrysalis (d : Dev) : Bool := d.hif.chrysalis && !d.fw.hostBoot

/-- BOOT_PHASE while a download writes the flash, and after it (Table 19.9). -/
def flashPhase (on : Bool) (d : Dev) : Dev :=
  let v := if on then 0xE else if d.fw.hostBoot then 0xC else 0xD
  if d.hif.bootPhase = v then d else d.phases [v]

def setRecov (d : Dev) (f : Recovery → Recovery) : Dev := { d with fw := { d.fw with recov := f d.fw.recov } }

/-- Bytes with `v` at `off`; what lies between is erased flash (0xFF). -/
def flashPut (old : Bytes) (off : Nat) (v : Bytes) : Bytes :=
  old.take off ++ List.replicate (off - old.length) 0xFF ++ v ++ old.drop (off + v.length)

/-- FW_RECOVERY_WRITE (R604, Table 19.11): `chunk` is what the ROM reads from the host. -/
def recoveryWrite (chunk : HostRead) (ok : Bool) (c : Cmd) (nv : Nv) (d : Dev) : Nv × Reply :=
  let t := c.f 0 1; let off := c.f 4 4; let len := c.f 8 4
  let b := slice (chunk.getD []) 0 len
  let size := if t = 0 then (Config.flashBytes - 8388608) / 2 else 130023424
  let bad := decide (1 < t) || off % 65536 != 0 || len == 0 || decide (65536 < len) || decide (size < off + len) || (t == 1 && !d.fw.hostBoot)
  checkNv nv d [(!d.hif.chrysalis, .notReady), (bad, .badArg), (t == 0 && d.fw.recov.busy && d.fw.recov.smbus, .refusedBusy),
      (chunk.isNone || crc32c 0xFFFFFFFF b != c.f 24 4, .verifyFailed)]
    (if t = 1 then (nv, .done ({ d with fw := { d.fw with buffer := flashPut d.fw.buffer off b } }.setRecov fun r => { r with bytes := max r.bytes (off + len) }) {})
     else
       let a := nv.slotA
       let img := flashPut (if a.st = .writing then a.image else []) off (if ok then b else List.replicate b.length 0xFF)
       let n1 := if a.st = .writing then nv else dirUpdate nv
       let d1 := (d.setRecov fun r => { r with busy := true, smbus := false, bytes := max r.bytes (off + len) }).flashPhase true
       ({ n1 with slotA := { a with st := .writing, image := img } }, .done d1 { status := if ok then .ok else .verifyFailed }))

/-- FW_RECOVERY_STATUS: causes and bytes written in the result, the directory record and the tamper latch in DATA (log 40). -/
def recoveryStatus (nv : Nv) (c : Cmd) (d : Dev) : Reply :=
  let _ := c
  check d [(!d.hif.chrysalis, .notReady)]
    (.done d { result := d.fw.causes + 2 ^ 32 * d.fw.recov.bytes, data := some (dirBytes nv d ++ le 4 (latchWord nv)) })

/-- Slot A boots next: WRITTEN, current, no trial, BOOT_SRC 0b11 ignored once; the device resets within 10 ms (R604). -/
def recoverSlotA (img : Bytes) (nv : Nv) (d : Dev) : Nv × Dev :=
  ({ dirUpdate nv with
      current := 0, trial := none, ignoreSrc := true
      slotA := { nv.slotA with st := .written, fmt := imgFmt img, len := img.length, crc := crc32c 0xFFFFFFFF img, image := img } },
   ({ d with fw := { d.fw with resetDue := some (d.now + msT 10) } }).setRecov fun r => { r with busy := false })

/-- SMB_RECOVERY_BEGIN, code 0xE0 (R605, Table 19.12). -/
def smbBegin (len crc : Nat) (pec : Bool) (nv : Nv) (d : Dev) : Nv × Dev :=
  let r := d.fw.recov
  if !d.inChrysalis || !pec || (r.busy && !r.smbus) || decide ((Config.flashBytes - 8388608) / 2 < len) then (nv, d.emit (.smbus none false))
  else
    ({ dirUpdate nv with slotA := { nv.slotA with st := .writing, image := [] } },
     ((d.setRecov fun _ => { smbus := true, busy := true, bytes := 0, len := len, crc := crc, code := 1 }).flashPhase true).emit (.smbus (some []) false))

/-- SMB_RECOVERY_DATA, code 0xE1. -/
def smbData (b : Bytes) (pec : Bool) (nv : Nv) (d : Dev) : Nv × Dev :=
  let r := d.fw.recov
  if !d.inChrysalis || !pec || !r.busy || !r.smbus || b.length != 32 then (nv, d.emit (.smbus none false))
  else
    ({ nv with slotA := { nv.slotA with image := nv.slotA.image ++ b } },
     (d.setRecov fun x => { x with bytes := x.bytes + 32 }).emit (.smbus (some []) false))

/-- SMB_RECOVERY_FINISH, code 0xE2: as FW_RECOVERY_BOOT mode 0. -/
def smbFinish (pec : Bool) (nv : Nv) (d : Dev) : Nv × Dev :=
  let r := d.fw.recov
  let img := slice nv.slotA.image 0 r.len
  if !d.inChrysalis || !pec || !r.busy || !r.smbus then (nv, d.emit (.smbus none false))
  else if nv.slotA.image.length < r.len ∨ crc32c 0xFFFFFFFF img ≠ r.crc then
    (nv, ((d.setRecov fun x => { x with busy := false, code := 3 }).flashPhase false).emit (.smbus (some []) false))
  else
    let p := recoverSlotA img nv d
    (p.1, ((p.2.setRecov fun x => { x with code := 4 }).flashPhase false).emit (.smbus (some []) false))

/-- SMB_RECOVERY_STATUS, code 0xE3. -/
def smbStatus (d : Dev) : Dev := d.emit (.smbus (if d.inChrysalis then some (le 1 d.fw.recov.code) else none) (!d.hif.answers))

end Dev

/-- FW_RECOVERY_BOOT (R593, R604): mode 0 checks slot A and resets the device; mode 1 verifies the host's image, and bring-up goes on from phase
0x2 with it as slot A. -/
def State.recoveryBoot (src : Src) (s : State) : State :=
  match s.dev.nextCmd 0x0A12 src with
  | none => s
  | some c =>
    let d := s.dev
    let len := c.f 0 4; let crc := c.f 4 4; let mode := c.f 8 1
    let say (r : Resp) : State := { s with dev := d.complete c r }
    match d.gateCmd c with
    | some st => say { status := st }
    | none =>
      if !d.hif.chrysalis then say { status := .notReady }
      else if 1 < mode ∨ (mode = 1 ∧ ¬ d.fw.hostBoot) then say { status := .badArg }
      else if mode = 0 then
        let img := slice s.nv.slotA.image 0 len
        if d.fw.recov.busy ∧ d.fw.recov.smbus then say { status := .refusedBusy }
        else if s.nv.slotA.image.length < len ∨ crc32c 0xFFFFFFFF img ≠ crc then say { status := .verifyFailed }
        else
          let p := Dev.recoverSlotA img s.nv d
          { s with nv := p.1, dev := (p.2.flashPhase false).complete c {} }
      else
        let img := slice d.fw.buffer 0 len
        if d.fw.buffer.length < len ∨ crc32c 0xFFFFFFFF img ≠ crc ∨ (verifyImg s.nv img).isSome ∨ ¬ slotShape (imgHeader img) then
          say { status := .verifyFailed }
        else
          match d.fw.env with
          | none => say { status := .notReady }
          | some e =>
            let x : FwSlot := { st := .good, fmt := Dev.imgFmt img, len := len, crc := crc, image := img }
            let d1 : Dev := (d.complete c {}).phases [2]
            let s1 : State := { s with
              nv := { s.nv with current := 0, trial := none, ignoreSrc := false }
              dev := { d1 with fw := { d1.fw with hbA := x, hbB := {}, buffer := [] } } }
            let s2 := s1.bootRest e false []
            if s2.dev.hif.up then { s2 with dev := s2.dev.setCause 42 } else s2

/-- BRING_UP. -/
def execBringUp (e : BootEnv) (s : State) : Out := .next (s.bringUp e)
/-- DEVICE_RESET. -/
def execDeviceReset (s : State) : Out := .next s.deviceReset
/-- RECOVERY_RESET. -/
def execRecoveryReset (s : State) : Out := .next s.recoveryReset
/-- TRIAD_RETURN. -/
def execTriadReturn (a b c : ChanReturn) (s : State) : Out :=
  .next (s.triadReturn [a.pass, b.pass, c.pass] (decide (2 ≤ ([a, b, c].filter (·.swapOk)).length)))
/-- CONFIRM_TIMEOUT. -/
def execConfirmTimeout (s : State) : Out := s.onDev Dev.confirmTimeout
/-- PARSER_BANK_SWAP. -/
def execParserBankSwap (s : State) : Out := s.onDev Dev.parserSwap
/-- FW_GET_STATUS, opcode 0x0A00. -/
def execFwGetStatus (src : Src) (s : State) : Out := s.onDev (Dev.runCmd 0x0A00 src (Dev.fwGetStatus s.nv))
/-- FW_WRITE, opcode 0x0A01. -/
def execFwWrite (src : Src) (pl : HostRead) (readBackOk1 readBackOk2 : Bool) (s : State) : Out :=
  s.runNv 0x0A01 src (Dev.fwWrite pl readBackOk1 readBackOk2)
/-- FW_ACTIVATE, opcode 0x0A02. -/
def execFwActivate (src : Src) (s : State) : Out := s.runNv 0x0A02 src Dev.fwActivate
/-- FW_CONFIRM, opcode 0x0A03. -/
def execFwConfirm (src : Src) (s : State) : Out := s.runNv 0x0A03 src Dev.fwConfirm
/-- FW_REVERT, opcode 0x0A04. -/
def execFwRevert (src : Src) (s : State) : Out := s.onDev (Dev.runCmd 0x0A04 src (Dev.fwRevert s.nv))
/-- FW_RELAY, opcode 0x0A05. -/
def execFwRelay (src : Src) (pl : HostRead) (s : State) : Out := s.runNv 0x0A05 src (Dev.fwRelay pl)
/-- PARSER_PATCH, opcode 0x0A06. -/
def execParserPatch (src : Src) (pl : HostRead) (s : State) : Out := s.onDev (Dev.runCmd 0x0A06 src (Dev.parserPatch s.nv pl))
/-- FW_RECOVERY_WRITE, opcode 0x0A10. -/
def execFwRecoveryWrite (src : Src) (chunk : HostRead) (readBackOk : Bool) (s : State) : Out :=
  s.runNv 0x0A10 src (Dev.recoveryWrite chunk readBackOk)
/-- FW_RECOVERY_STATUS, opcode 0x0A11. -/
def execFwRecoveryStatus (src : Src) (s : State) : Out := s.onDev (Dev.runCmd 0x0A11 src (Dev.recoveryStatus s.nv))
/-- FW_RECOVERY_BOOT, opcode 0x0A12. -/
def execFwRecoveryBoot (src : Src) (s : State) : Out := .next (s.recoveryBoot src)
/-- RELAY_CHUNK. -/
def execRelayChunk (dev image idx count crc : Nat) (data : Bytes) (s : State) : Out :=
  let r := Dev.relayChunk dev image idx count crc data s.nv s.dev
  .next { s with nv := r.1, dev := r.2.logIn (.fc dev 0x60 (24 + data.length)) }
/-- RELAY_ACK. -/
def execRelayAck (dev image idx : Nat) (complete : Bool) (s : State) : Out := s.onDev fun d => (Dev.relayAck dev image idx complete d).logIn (.fc dev 0x61 16)
/-- RELAY_RESEND. -/
def execRelayResend (idx : Nat) (s : State) : Out := s.onDev (Dev.relayResend idx)
/-- RELAY_SKIP_TIMEOUT. -/
def execRelaySkipTimeout (s : State) : Out := s.onDev Dev.relaySkip
/-- SMB_RECOVERY_BEGIN. -/
def execSmbRecoveryBegin (len crc : Nat) (pecOk : Bool) (s : State) : Out :=
  let r := Dev.smbBegin len crc pecOk s.nv s.dev
  .next { s with nv := r.1, dev := r.2 }
/-- SMB_RECOVERY_DATA. -/
def execSmbRecoveryData (d : Bytes) (pecOk : Bool) (s : State) : Out :=
  let r := Dev.smbData d pecOk s.nv s.dev
  .next { s with nv := r.1, dev := r.2 }
/-- SMB_RECOVERY_FINISH. -/
def execSmbRecoveryFinish (pecOk : Bool) (s : State) : Out :=
  let r := Dev.smbFinish pecOk s.nv s.dev
  .next { s with nv := r.1, dev := r.2 }
/-- SMB_RECOVERY_STATUS. -/
def execSmbRecoveryStatus (s : State) : Out := s.onDev Dev.smbStatus

end Sys2Proof.Machine
end

