-- ==== Sys2Proof/Machine/System.lean ====
section
/-! DEFINITION. DEV_GET_INFO, OBJ_GET_STATE, the inject rings and the SMBus health set (R487, R498, R502, R522). -/

namespace Sys2Proof.Machine
namespace Dev

/-- DEV_GET_INFO (R487): part, stepping, control firmware, controllers of types 2 to 5, interface version (log 41). -/
def devGetInfo (c : Cmd) (d : Dev) : Reply :=
  let v (k : Nat) : Nat := tgetD d.fw.comps Config.romVersion.toNat k
  check d [(c.bad 0x00, .badHandle), (c.dirty 0 32, .badArg)]
    (.done d { record := some (pack [.u 2 0x7100, .u 2 0xA1, .u 4 (v 1), .u 4 (v 2), .u 4 (v 3), .u 4 (v 4), .u 4 (v 5), .u 4 Config.wcpVersion.toNat])
               result := Config.wcpVersion.toNat })

/-- The stoppable object a handle names (R519). -/
def objOf (d : Dev) (t i : Nat) : Option Obj :=
  match t with
  | 0x01 => some (d.getPort i).obj
  | 0x03 => some (d.getPipe i).obj
  | 0x0A => some (d.getEng i).obj
  | 0x0F => some (d.getQ i).obj
  | 0x15 => some (d.getCh i).obj
  | 0x16 => some (d.getLink i).obj
  | 0x18 => some (d.getDma i).obj
  | _ => none

/-- OBJ_GET_STATE (R522). -/
def objGetState (c : Cmd) (d : Dev) : Reply :=
  match d.objOf c.hType c.hIdx with
  | none => .done d { status := .badHandle }
  | some o =>
    check d [(c.bad c.hType || (c.hType == 0x0F && queueBad c), .badHandle), (c.dirty 0 32, .badArg)]
      (.done d { result := o.st.code + 256 * b2n o.held })

/-! ### Inject rings (R498, R500) -/

/-- The ring whose turn it is: round robin over those that hold unread slots. -/
def injTurn (d : Dev) : Option Nat :=
  (List.range 8).map (fun k => (d.hif.injLast + 1 + k) % 8) |>.find? fun i =>
    match tget d.hif.inj i with | some q => q.head != q.tail | none => false

/-- A slot header breaks Table 15.15. -/
def injBad (h : Bytes) (q : InjRing) : Bool :=
  let mode := field h 0 1; let len := field h 2 2; let target := field h 4 4; let encap := field h 8 4
  decide (1 < mode) || decide (len < 64) || decide (16383 < len) || decide (q.slot < len + 28) || !isZero h 12 20 ||
  (if mode = 0 then decide (7 < field h 1 1) || decide (2 ^ 19 ≤ target) || (encap != 0xFFFFFFFF && decide (2 ^ 20 ≤ encap)) else decide (255 < target))

/-- INJECT_SLOT_READ: `hdr` is the slot's header as read, `f` its frame. -/
def injectSlot (i : Nat) (hdr : HostRead) (f : RxFrame) (d : Dev) : Dev :=
  match tget d.hif.inj i with
  | none => d
  | some q =>
    if d.injTurn != some i || d.hif.reset.isSome || decide (d.now < d.hif.injPace) then d
    else
      let h := slice (hdr.getD []) 0 32
      let len := field h 2 2
      let head := if q.head + 1 = q.size then 0 else q.head + 1
      let bad := hdr.isNone || injBad h q
      let pace := if bad then d.now else d.now + len * 65536 / 25
      let d1 : Dev := { d.quietExit with hif := { d.quietExit.hif with
        inj := tput d.hif.inj i { q with head := head }, injLast := i, injPace := pace } }
      let home := 8 * q.pipeline
      let enter (e : Dev) : Dev :=
        let p := if field h 0 1 = 0 then home else field h 4 4
        let b := slice f.raw 0 (len - 4)
        let g := e.newFlight (.inject i p) { f with len := len, raw := b ++ fcs b }
        let fl : Flight := if field h 0 1 = 0 then { g with
            stage := 12, cls := field h 1 1, dec := .unicast (field h 4 4), encap := if field h 8 4 = 0xFFFFFFFF then none else some (field h 8 4) } else g
        let x := e.getPipe (p / 8)
        let n := tgetD e.hif.injCount {} i
        { e.setPipe (p / 8) { x with emits := x.emits ++ [fl] } with
          fids := e.fids + 1
          hif := { e.hif with injCount := tset e.hif.injCount {} i { n with frames := n.frames + 1, bytes := n.bytes + len } } }
      let d2 := if bad then d1.dropPipe q.pipeline 42 len else enter d1
      (d2.emit (.hostWrite q.wb (le 8 head))).setCause (25 + i)

/-! ### SMBus (R477, R502, Table 15.18) -/

/-- The protocol and value of a code of the health set. -/
def healthCode (d : Dev) (c : Nat) : Option (SmbProto × Bytes) :=
  if c = 0 then some (.word, le 2 0x7100)
  else if c = 1 then some (.byte, le 1 0xA1)
  else if c = 2 then some (.byte, le 1 d.stateWord)
  else if c = 3 then some (.byte, le 1 d.hif.bootPhase)
  else if c = 4 then some (.word, le 2 d.hif.alarm.toNat)
  else if c = 0x50 then some (.block, le 8 (if d.hif.up then (d.now - d.hif.readyAt) / secT 1 else 0))
  else match tget d.healthByte c with
    | some b => some (if b.length = 1 then .byte else if b.length = 2 then .word else .block, b)
    | none => none

/-- SMBUS_HEALTH_READ: before the interface answers SCL is held low and the address NACKed; an unknown code or another protocol is NACKed. -/
def smbusHealth (p : SmbProto) (c : Nat) (d : Dev) : Dev :=
  if !d.hif.answers then d.emit (.smbus none true)
  else
    let d1 : Dev := if c = 0x30 then { d with fresh := d.fresh + 1 } else d
    match d.healthCode c with
    | some (q, b) => d1.emit (.smbus (if q = p then some b else none) false)
    | none => d1.emit (.smbus none false)

end Dev

/-- The idle tick: with no command waiting, 1 ns of elapsed time passes while the device runs (log 1). -/
def State.idle (s : State) : State :=
  if s.dev.hif.up then { s with dev := { s.dev with now := s.dev.now + nsT 1 } } else s

/-- DEV_GET_INFO, opcode 0x0000. -/
def execDevGetInfo (src : Src) (s : State) : Out := s.onDev (Dev.runCmd 0x0000 src Dev.devGetInfo)
/-- OBJ_GET_STATE, opcode 0x0006. -/
def execObjGetState (src : Src) (s : State) : Out := s.onDev (Dev.runCmd 0x0006 src Dev.objGetState)
/-- INJECT_SLOT_READ. -/
def execInjectSlotRead (i : Fin 8) (hdr : HostRead) (f : RxFrame) (s : State) : Out := s.onDev (Dev.injectSlot i hdr f)
/-- SMBUS_HEALTH_READ. -/
def execSmbusHealthRead (p : SmbProto) (code : BitVec 8) (s : State) : Out := s.onDev (Dev.smbusHealth p code.toNat)

end Sys2Proof.Machine
end

