-- ==== Sys2Proof/Machine/Dispatch.lean ====
section
/-! DEFINITION. The effect of each command: one arm per constructor of `Instr`, in the table's order. -/

namespace Sys2Proof.Machine
open Sys2Proof

/-- What a command does to everything but the queue. -/
def exec (i : Instr) (s : State) : Host.Outcome State Fault Refusal :=
  match i with
  | .bringUp e => Sys2Proof.Machine.execBringUp e s
  | .deviceReset => Sys2Proof.Machine.execDeviceReset s
  | .recoveryReset => Sys2Proof.Machine.execRecoveryReset s
  | .pcieConfigRequest q => Sys2Proof.Machine.execPcieConfigRequest q s
  | .flr => Sys2Proof.Machine.execFlr s
  | .hotReset => Sys2Proof.Machine.execHotReset s
  | .pcieLinkDown => Sys2Proof.Machine.execPcieLinkDown s
  | .busMasterDisable => Sys2Proof.Machine.execBusMasterDisable s
  | .d3hotEntry => Sys2Proof.Machine.execD3hotEntry s
  | .ifaceResetQuiesced => Sys2Proof.Machine.execIfaceResetQuiesced s
  | .sqTailWrite r v => Sys2Proof.Machine.execSqTailWrite r v s
  | .cqHeadWrite r v => Sys2Proof.Machine.execCqHeadWrite r v s
  | .puntHeadWrite r v => Sys2Proof.Machine.execPuntHeadWrite r v s
  | .injectTailWrite r v => Sys2Proof.Machine.execInjectTailWrite r v s
  | .eventHeadWrite v => Sys2Proof.Machine.execEventHeadWrite v s
  | .mbCtrlWrite m w => Sys2Proof.Machine.execMbCtrlWrite m w s
  | .hifIntCauseWrite v => Sys2Proof.Machine.execHifIntCauseWrite v s
  | .hifAlarmWrite v => Sys2Proof.Machine.execHifAlarmWrite v s
  | .bar0RegisterWrite off size be data => Sys2Proof.Machine.execBar0RegisterWrite off size be data s
  | .msixGapExpiry v => Sys2Proof.Machine.execMsixGapExpiry v s
  | .submissionTake r entry => Sys2Proof.Machine.execSubmissionTake r entry s
  | .devGetInfo src => Sys2Proof.Machine.execDevGetInfo src s
  | .hifRingCreate src => Sys2Proof.Machine.execHifRingCreate src s
  | .hifRingDelete src => Sys2Proof.Machine.execHifRingDelete src s
  | .hifIfaceReset src => Sys2Proof.Machine.execHifIfaceReset src s
  | .hifSetPunt src => Sys2Proof.Machine.execHifSetPunt src s
  | .hifGetPktStatus src => Sys2Proof.Machine.execHifGetPktStatus src s
  | .objGetState src => Sys2Proof.Machine.execObjGetState src s
  | .injectSlotRead r hdr f => Sys2Proof.Machine.execInjectSlotRead r hdr f s
  | .smbusHealthRead p code => Sys2Proof.Machine.execSmbusHealthRead p code s
  | .smbRecoveryBegin len crc pecOk => Sys2Proof.Machine.execSmbRecoveryBegin len crc pecOk s
  | .smbRecoveryData d pecOk => Sys2Proof.Machine.execSmbRecoveryData d pecOk s
  | .smbRecoveryFinish pecOk => Sys2Proof.Machine.execSmbRecoveryFinish pecOk s
  | .smbRecoveryStatus => Sys2Proof.Machine.execSmbRecoveryStatus s
  | .portSetMode src => Sys2Proof.Machine.execPortSetMode src s
  | .portEnable src => Sys2Proof.Machine.execPortEnable src s
  | .portDisable src => Sys2Proof.Machine.execPortDisable src s
  | .portSetAbilities src => Sys2Proof.Machine.execPortSetAbilities src s
  | .portGetStatus src => Sys2Proof.Machine.execPortGetStatus src s
  | .laneMeasure src => Sys2Proof.Machine.execLaneMeasure src s
  | .portMeasureRtt src => Sys2Proof.Machine.execPortMeasureRtt src s
  | .portSetLimits src => Sys2Proof.Machine.execPortSetLimits src s
  | .laneMeasureDone p recs => Sys2Proof.Machine.execLaneMeasureDone p recs s
  | .rttMeasureDone p rtts => Sys2Proof.Machine.execRttMeasureDone p rtts s
  | .lanesReady p => Sys2Proof.Machine.execLanesReady p s
  | .portStopDone p => Sys2Proof.Machine.execPortStopDone p s
  | .abilityFrame l control status => Sys2Proof.Machine.execAbilityFrame l control status s
  | .trainFrame l control status adapt rxReady => Sys2Proof.Machine.execTrainFrame l control status adapt rxReady s
  | .readyFrame l w rx => Sys2Proof.Machine.execReadyFrame l w rx s
  | .abilityTimeout p => Sys2Proof.Machine.execAbilityTimeout p s
  | .trainTimeout p => Sys2Proof.Machine.execTrainTimeout p s
  | .trainingRestartDelay p => Sys2Proof.Machine.execTrainingRestartDelay p s
  | .autonegPage p abilities page => Sys2Proof.Machine.execAutonegPage p abilities page s
  | .autonegTimeout p => Sys2Proof.Machine.execAutonegTimeout p s
  | .partnerGoneTimeout p => Sys2Proof.Machine.execPartnerGoneTimeout p s
  | .laneSignalChange l present => Sys2Proof.Machine.execLaneSignalChange l present s
  | .codewordReceive l errors erasures => Sys2Proof.Machine.execCodewordReceive l errors erasures s
  | .otucFrame p o => Sys2Proof.Machine.execOtucFrame p o s
  | .faultOrderedSet p remote column => Sys2Proof.Machine.execFaultOrderedSet p remote column s
  | .defectDeclare p d => Sys2Proof.Machine.execDefectDeclare p d s
  | .defectClear p d => Sys2Proof.Machine.execDefectClear p d s
  | .linkDownPersist p => Sys2Proof.Machine.execLinkDownPersist p s
  | .holdoffExpiry p => Sys2Proof.Machine.execHoldoffExpiry p s
  | .wtrExpiry p => Sys2Proof.Machine.execWtrExpiry p s
  | .pmSecond p => Sys2Proof.Machine.execPmSecond p s
  | .pmBinClose day => Sys2Proof.Machine.execPmBinClose day s
  | .pmBinFinal p day => Sys2Proof.Machine.execPmBinFinal p day s
  | .frmSetTti src pl => Sys2Proof.Machine.execFrmSetTti src pl s
  | .frmSetActions src => Sys2Proof.Machine.execFrmSetActions src s
  | .frmGetDefects src => Sys2Proof.Machine.execFrmGetDefects src s
  | .pmGetBins src => Sys2Proof.Machine.execPmGetBins src s
  | .pmSetTca src => Sys2Proof.Machine.execPmSetTca src s
  | .frameReceive p f overrun => Sys2Proof.Machine.execFrameReceive p f overrun s
  | .extLookupReply pl fid r => Sys2Proof.Machine.execExtLookupReply pl fid r s
  | .extLate pl fid => Sys2Proof.Machine.execExtLate pl fid s
  | .excursionReturn pl fid => Sys2Proof.Machine.execExcursionReturn pl fid s
  | .frameHandoff pl => Sys2Proof.Machine.execFrameHandoff pl s
  | .egressDelivery pl aclKey profile cntPort steered fn => Sys2Proof.Machine.execEgressDelivery pl aclKey profile cntPort steered fn s
  | .frameTransmit p underrun => Sys2Proof.Machine.execFrameTransmit p underrun s
  | .flitReceive g toQueueing f => Sys2Proof.Machine.execFlitReceive g toQueueing f s
  | .batchCommit => Sys2Proof.Machine.execBatchCommit s
  | .viewRelease => Sys2Proof.Machine.execViewRelease s
  | .ecmpGroupSwitch g => Sys2Proof.Machine.execEcmpGroupSwitch g s
  | .ecmpRebalance g => Sys2Proof.Machine.execEcmpRebalance g s
  | .pipeFailure pl c => Sys2Proof.Machine.execPipeFailure pl c s
  | .pipeSelfTestDone pl ok => Sys2Proof.Machine.execPipeSelfTestDone pl ok s
  | .pipeStopDone pl => Sys2Proof.Machine.execPipeStopDone pl s
  | .pipeEnable src => Sys2Proof.Machine.execPipeEnable src s
  | .pipeDisable src => Sys2Proof.Machine.execPipeDisable src s
  | .pipeGetStatus src => Sys2Proof.Machine.execPipeGetStatus src s
  | .pipeSetHash src => Sys2Proof.Machine.execPipeSetHash src s
  | .nhSet src => Sys2Proof.Machine.execNhSet src s
  | .ecmpSetGroup src pl => Sys2Proof.Machine.execEcmpSetGroup src pl s
  | .frrForce src => Sys2Proof.Machine.execFrrForce src s
  | .dropGetCounters src => Sys2Proof.Machine.execDropGetCounters src s
  | .tblCreate src => Sys2Proof.Machine.execTblCreate src s
  | .tblDestroy src => Sys2Proof.Machine.execTblDestroy src s
  | .tblBatchApply src pl => Sys2Proof.Machine.execTblBatchApply src pl s
  | .tblGetStatus src => Sys2Proof.Machine.execTblGetStatus src s
  | .tblRead src => Sys2Proof.Machine.execTblRead src s
  | .tblSetAgeing src => Sys2Proof.Machine.execTblSetAgeing src s
  | .vrfSet src => Sys2Proof.Machine.execVrfSet src s
  | .tblSetExtRate src => Sys2Proof.Machine.execTblSetExtRate src s
  | .tblSetProfile src => Sys2Proof.Machine.execTblSetProfile src s
  | .cntRead src => Sys2Proof.Machine.execCntRead src s
  | .learnRequestApply t => Sys2Proof.Machine.execLearnRequestApply t s
  | .ageingSweep t => Sys2Proof.Machine.execAgeingSweep t s
  | .tcamScrub idx => Sys2Proof.Machine.execTcamScrub idx s
  | .shadowRebuild r => Sys2Proof.Machine.execShadowRebuild r s
  | .peEnable src => Sys2Proof.Machine.execPeEnable src s
  | .peDisable src => Sys2Proof.Machine.execPeDisable src s
  | .peGetStatus src => Sys2Proof.Machine.execPeGetStatus src s
  | .peModuleLoad src pl => Sys2Proof.Machine.execPeModuleLoad src pl s
  | .fnSet src => Sys2Proof.Machine.execFnSet src s
  | .peSetSlots src => Sys2Proof.Machine.execPeSetSlots src s
  | .pePatch src pl => Sys2Proof.Machine.execPePatch src pl s
  | .peThreadRestore src => Sys2Proof.Machine.execPeThreadRestore src s
  | .peTraceRead src => Sys2Proof.Machine.execPeTraceRead src s
  | .peTraceConfig src => Sys2Proof.Machine.execPeTraceConfig src s
  | .fnSetTrigger src => Sys2Proof.Machine.execFnSetTrigger src s
  | .triggerInvocation t => Sys2Proof.Machine.execTriggerInvocation t s
  | .startRegisterWrite e t => Sys2Proof.Machine.execStartRegisterWrite e t s
  | .releaseMask e mask => Sys2Proof.Machine.execReleaseMask e mask s
  | .peFork e t entry => Sys2Proof.Machine.execPeFork e t entry s
  | .peJoin e t child => Sys2Proof.Machine.execPeJoin e t child s
  | .peEmit e t dst f at_ => Sys2Proof.Machine.execPeEmit e t dst f at_ s
  | .mailboxPost e t m => Sys2Proof.Machine.execMailboxPost e t m s
  | .threadVerdict e t x => Sys2Proof.Machine.execThreadVerdict e t x s
  | .threadFault e t cause offset addr issues => Sys2Proof.Machine.execThreadFault e t cause offset addr issues s
  | .watchdog e t offset issues => Sys2Proof.Machine.execWatchdog e t offset issues s
  | .supervisorHandle e => Sys2Proof.Machine.execSupervisorHandle e s
  | .engineFailure e c => Sys2Proof.Machine.execEngineFailure e c s
  | .engineReenable e => Sys2Proof.Machine.execEngineReenable e s
  | .engineSelfTestDone e ok => Sys2Proof.Machine.execEngineSelfTestDone e ok s
  | .engineStopDone e => Sys2Proof.Machine.execEngineStopDone e s
  | .idleGate e => Sys2Proof.Machine.execIdleGate e s
  | .patchEngineDrained e crcOk => Sys2Proof.Machine.execPatchEngineDrained e crcOk s
  | .voqAdmit sl => Sys2Proof.Machine.execVoqAdmit sl s
  | .stripeCloseTimeout sl => Sys2Proof.Machine.execStripeCloseTimeout sl s
  | .voqDequeue voq => Sys2Proof.Machine.execVoqDequeue voq s
  | .scarabPass hbm => Sys2Proof.Machine.execScarabPass hbm s
  | .queueAgeingSweep => Sys2Proof.Machine.execQueueAgeingSweep s
  | .bufSetPool src => Sys2Proof.Machine.execBufSetPool src s
  | .bufSetQuota src => Sys2Proof.Machine.execBufSetQuota src s
  | .bufSetClass src => Sys2Proof.Machine.execBufSetClass src s
  | .bufSetSojourn src => Sys2Proof.Machine.execBufSetSojourn src s
  | .bufGetStatus src => Sys2Proof.Machine.execBufGetStatus src s
  | .bufGetQuota src => Sys2Proof.Machine.execBufGetQuota src s
  | .bufGetDrops src => Sys2Proof.Machine.execBufGetDrops src s
  | .activationComplete qid => Sys2Proof.Machine.execActivationComplete qid s
  | .activeIdleTimeout qid => Sys2Proof.Machine.execActiveIdleTimeout qid s
  | .destFlushTimeout dev => Sys2Proof.Machine.execDestFlushTimeout dev s
  | .reservationRelease dev => Sys2Proof.Machine.execReservationRelease dev s
  | .creditReqRefresh voq => Sys2Proof.Machine.execCreditReqRefresh voq s
  | .grantIssue p => Sys2Proof.Machine.execGrantIssue p s
  | .creditReq m => Sys2Proof.Machine.execCreditReq m s
  | .creditGrant m => Sys2Proof.Machine.execCreditGrant m s
  | .creditReturn m => Sys2Proof.Machine.execCreditReturn m s
  | .queueStartDone qid => Sys2Proof.Machine.execQueueStartDone qid s
  | .queueStopDone qid => Sys2Proof.Machine.execQueueStopDone qid s
  | .qEnable src => Sys2Proof.Machine.execQEnable src s
  | .qDisable src => Sys2Proof.Machine.execQDisable src s
  | .qGetStatus src => Sys2Proof.Machine.execQGetStatus src s
  | .qSetActive src => Sys2Proof.Machine.execQSetActive src s
  | .qPin src => Sys2Proof.Machine.execQPin src s
  | .qSetEgressMap src => Sys2Proof.Machine.execQSetEgressMap src s
  | .qSetCredit src => Sys2Proof.Machine.execQSetCredit src s
  | .qGetCreditStatus src => Sys2Proof.Machine.execQGetCreditStatus src s
  | .egressSelection p => Sys2Proof.Machine.execEgressSelection p s
  | .watchedSample => Sys2Proof.Machine.execWatchedSample s
  | .hotQueueSweep => Sys2Proof.Machine.execHotQueueSweep s
  | .histogramAdd => Sys2Proof.Machine.execHistogramAdd s
  | .acctBoundary set => Sys2Proof.Machine.execAcctBoundary set s
  | .acctExport set => Sys2Proof.Machine.execAcctExport set s
  | .schSet src => Sys2Proof.Machine.execSchSet src s
  | .schGet src => Sys2Proof.Machine.execSchGet src s
  | .polSetProfile src => Sys2Proof.Machine.execPolSetProfile src s
  | .polSet src => Sys2Proof.Machine.execPolSet src s
  | .polGet src => Sys2Proof.Machine.execPolGet src s
  | .obsSetQueue src => Sys2Proof.Machine.execObsSetQueue src s
  | .obsSetHistProfile src pl => Sys2Proof.Machine.execObsSetHistProfile src pl s
  | .obsGetHist src => Sys2Proof.Machine.execObsGetHist src s
  | .acctSet src => Sys2Proof.Machine.execAcctSet src s
  | .acctGet src => Sys2Proof.Machine.execAcctGet src s
  | .hbmRequest r => Sys2Proof.Machine.execHbmRequest r s
  | .channelCommandSlot ch parityError => Sys2Proof.Machine.execChannelCommandSlot ch parityError s
  | .hbmRequestComplete ch id meet => Sys2Proof.Machine.execHbmRequestComplete ch id meet s
  | .refreshDeadline ch => Sys2Proof.Machine.execRefreshDeadline ch s
  | .selfRefreshEntry st => Sys2Proof.Machine.execSelfRefreshEntry st s
  | .selfRefreshExit st => Sys2Proof.Machine.execSelfRefreshExit st s
  | .retrainPause ch => Sys2Proof.Machine.execRetrainPause ch s
  | .thawTrainingDone ch ok => Sys2Proof.Machine.execThawTrainingDone ch ok s
  | .rebuildDone st ch bad => Sys2Proof.Machine.execRebuildDone st ch bad s
  | .retireSalvageDone ch bad => Sys2Proof.Machine.execRetireSalvageDone ch bad s
  | .channelStopDone ch => Sys2Proof.Machine.execChannelStopDone ch s
  | .pressureWindow st completed late => Sys2Proof.Machine.execPressureWindow st completed late s
  | .shedRise => Sys2Proof.Machine.execShedRise s
  | .shedFall => Sys2Proof.Machine.execShedFall s
  | .memChEnable src => Sys2Proof.Machine.execMemChEnable src s
  | .memChDisable src => Sys2Proof.Machine.execMemChDisable src s
  | .memGetStatus src => Sys2Proof.Machine.execMemGetStatus src s
  | .memSetPort src => Sys2Proof.Machine.execMemSetPort src s
  | .memSetPower src => Sys2Proof.Machine.execMemSetPower src s
  | .memSetTraining src pl => Sys2Proof.Machine.execMemSetTraining src pl s
  | .memGetSnapshot src => Sys2Proof.Machine.execMemGetSnapshot src s
  | .memThaw src => Sys2Proof.Machine.execMemThaw src s
  | .memRetire src => Sys2Proof.Machine.execMemRetire src s
  | .switchPhase => Sys2Proof.Machine.execSwitchPhase s
  | .xpointHoldExpiry m j => Sys2Proof.Machine.execXpointHoldExpiry m j s
  | .outputHeldTimeout j => Sys2Proof.Machine.execOutputHeldTimeout j s
  | .egressStartTimeout sl fid => Sys2Proof.Machine.execEgressStartTimeout sl fid s
  | .cswSetCut src => Sys2Proof.Machine.execCswSetCut src s
  | .cswGetStatus src => Sys2Proof.Machine.execCswGetStatus src s
  | .fabricCellReceive l c => Sys2Proof.Machine.execFabricCellReceive l c s
  | .linkRetry l linkSeq => Sys2Proof.Machine.execLinkRetry l linkSeq s
  | .ackIdleTimeout l => Sys2Proof.Machine.execAckIdleTimeout l s
  | .retryTimeout l => Sys2Proof.Machine.execRetryTimeout l s
  | .linkHcsTimeout l => Sys2Proof.Machine.execLinkHcsTimeout l s
  | .linkDownNotice l => Sys2Proof.Machine.execLinkDownNotice l s
  | .reseqHoldExpiry sl dev cls => Sys2Proof.Machine.execReseqHoldExpiry sl dev cls s
  | .lostCreditRelease p dev cls => Sys2Proof.Machine.execLostCreditRelease p dev cls s
  | .discover l m => Sys2Proof.Machine.execDiscover l m s
  | .qualificationEnd l fecUncorrectable hcsFailed => Sys2Proof.Machine.execQualificationEnd l fecUncorrectable hcsFailed s
  | .qualificationRetry l => Sys2Proof.Machine.execQualificationRetry l s
  | .reach l map => Sys2Proof.Machine.execReach l map s
  | .reachDelta l dev on => Sys2Proof.Machine.execReachDelta l dev on s
  | .linkDelayMeasure l => Sys2Proof.Machine.execLinkDelayMeasure l s
  | .delayReq l seq held => Sys2Proof.Machine.execDelayReq l seq held s
  | .delayResp l seq peerRx peerTx held => Sys2Proof.Machine.execDelayResp l seq peerRx peerTx held s
  | .fabricLinkStopDone l => Sys2Proof.Machine.execFabricLinkStopDone l s
  | .portState dev port down => Sys2Proof.Machine.execPortState dev port down s
  | .portVector dev v => Sys2Proof.Machine.execPortVector dev v s
  | .portVectorSend => Sys2Proof.Machine.execPortVectorSend s
  | .heartbeatSend => Sys2Proof.Machine.execHeartbeatSend s
  | .heartbeat dev term epoch pending => Sys2Proof.Machine.execHeartbeat dev term epoch pending s
  | .heartbeatLoss => Sys2Proof.Machine.execHeartbeatLoss s
  | .meridianClaim dev term => Sys2Proof.Machine.execMeridianClaim dev term s
  | .epochPrepare m => Sys2Proof.Machine.execEpochPrepare m s
  | .epochAck dev epoch result => Sys2Proof.Machine.execEpochAck dev epoch result s
  | .epochDecision => Sys2Proof.Machine.execEpochDecision s
  | .epochActivate => Sys2Proof.Machine.execEpochActivate s
  | .epochRetentionEnd => Sys2Proof.Machine.execEpochRetentionEnd s
  | .epochCancel dev epoch => Sys2Proof.Machine.execEpochCancel dev epoch s
  | .epochStatus dev current staged => Sys2Proof.Machine.execEpochStatus dev current staged s
  | .epochStatusSend => Sys2Proof.Machine.execEpochStatusSend s
  | .quarantine dev subject enter => Sys2Proof.Machine.execQuarantine dev subject enter s
  | .observation m => Sys2Proof.Machine.execObservation m s
  | .observationWindow subjKind subj kind => Sys2Proof.Machine.execObservationWindow subjKind subj kind s
  | .relayChunk dev image idx count crc data => Sys2Proof.Machine.execRelayChunk dev image idx count crc data s
  | .relayAck dev image idx complete => Sys2Proof.Machine.execRelayAck dev image idx complete s
  | .relayResend idx => Sys2Proof.Machine.execRelayResend idx s
  | .relaySkipTimeout => Sys2Proof.Machine.execRelaySkipTimeout s
  | .fabLinkEnable src => Sys2Proof.Machine.execFabLinkEnable src s
  | .fabLinkDisable src => Sys2Proof.Machine.execFabLinkDisable src s
  | .fabGetLink src => Sys2Proof.Machine.execFabGetLink src s
  | .fabSetSystem src => Sys2Proof.Machine.execFabSetSystem src s
  | .fabStage src pl => Sys2Proof.Machine.execFabStage src pl s
  | .fabEpochPrepare src => Sys2Proof.Machine.execFabEpochPrepare src s
  | .fabGetStatus src => Sys2Proof.Machine.execFabGetStatus src s
  | .fabSetReseq src => Sys2Proof.Machine.execFabSetReseq src s
  | .laserInputChange oe m lost => Sys2Proof.Machine.execLaserInputChange oe m lost s
  | .refLoss r => Sys2Proof.Machine.execRefLoss r s
  | .ptpSync p m => Sys2Proof.Machine.execPtpSync p m s
  | .ptpFollowUp p m => Sys2Proof.Machine.execPtpFollowUp p m s
  | .ptpDelayReq p m => Sys2Proof.Machine.execPtpDelayReq p m s
  | .ptpDelayResp p m reqId reqPort => Sys2Proof.Machine.execPtpDelayResp p m reqId reqPort s
  | .ptpPdelay p k m => Sys2Proof.Machine.execPtpPdelay p k m s
  | .ptpAnnounce p domain m => Sys2Proof.Machine.execPtpAnnounce p domain m s
  | .ptpMessageSend p kind => Sys2Proof.Machine.execPtpMessageSend p kind s
  | .sourceLostTimeout t => Sys2Proof.Machine.execSourceLostTimeout t s
  | .servoLock => Sys2Proof.Machine.execServoLock s
  | .holdoverLimit => Sys2Proof.Machine.execHoldoverLimit s
  | .timeStepApply => Sys2Proof.Machine.execTimeStepApply s
  | .leapSecond positive => Sys2Proof.Machine.execLeapSecond positive s
  | .ppsIn t => Sys2Proof.Machine.execPpsIn t s
  | .todIn seconds utc => Sys2Proof.Machine.execTodIn seconds utc s
  | .freqInEdgeLoss => Sys2Proof.Machine.execFreqInEdgeLoss s
  | .ppsOutSecond => Sys2Proof.Machine.execPpsOutSecond s
  | .esmcPduSend p => Sys2Proof.Machine.execEsmcPduSend p s
  | .esmcPdu p ql => Sys2Proof.Machine.execEsmcPdu p ql s
  | .timeSyncSend => Sys2Proof.Machine.execTimeSyncSend s
  | .timeSync m => Sys2Proof.Machine.execTimeSync m s
  | .timeDelayReqSend => Sys2Proof.Machine.execTimeDelayReqSend s
  | .timeDelayReq dev seq resent => Sys2Proof.Machine.execTimeDelayReq dev seq resent s
  | .timeDelayResp seq r resent => Sys2Proof.Machine.execTimeDelayResp seq r resent s
  | .timeStepNotice m => Sys2Proof.Machine.execTimeStepNotice m s
  | .timeCandidate m => Sys2Proof.Machine.execTimeCandidate m s
  | .timeRoot dev r resent => Sys2Proof.Machine.execTimeRoot dev r resent s
  | .timeSetInstance src => Sys2Proof.Machine.execTimeSetInstance src s
  | .timeSetPort src => Sys2Proof.Machine.execTimeSetPort src s
  | .timeSetSource src => Sys2Proof.Machine.execTimeSetSource src s
  | .timeSetIo src => Sys2Proof.Machine.execTimeSetIo src s
  | .timeStep src => Sys2Proof.Machine.execTimeStep src s
  | .timeGetStatus src => Sys2Proof.Machine.execTimeGetStatus src s
  | .timeGetPort src => Sys2Proof.Machine.execTimeGetPort src s
  | .eventRecordWrite => Sys2Proof.Machine.execEventRecordWrite s
  | .coalesceClose => Sys2Proof.Machine.execCoalesceClose s
  | .eventRingDeliver => Sys2Proof.Machine.execEventRingDeliver s
  | .eventWindowEnd type subject => Sys2Proof.Machine.execEventWindowEnd type subject s
  | .evtSetFilter src => Sys2Proof.Machine.execEvtSetFilter src s
  | .evtGetStats src => Sys2Proof.Machine.execEvtGetStats src s
  | .evtTest src pl => Sys2Proof.Machine.execEvtTest src pl s
  | .dmaLoad src pl => Sys2Proof.Machine.execDmaLoad src pl s
  | .dmaEnable src => Sys2Proof.Machine.execDmaEnable src s
  | .dmaHalt src => Sys2Proof.Machine.execDmaHalt src s
  | .dmaGetStatus src => Sys2Proof.Machine.execDmaGetStatus src s
  | .dmaSetExport src => Sys2Proof.Machine.execDmaSetExport src s
  | .dmaEnd ch => Sys2Proof.Machine.execDmaEnd ch s
  | .dmaMove ch host => Sys2Proof.Machine.execDmaMove ch host s
  | .dmaLoop ch => Sys2Proof.Machine.execDmaLoop ch s
  | .dmaWait ch => Sys2Proof.Machine.execDmaWait ch s
  | .dmaSignal ch => Sys2Proof.Machine.execDmaSignal ch s
  | .dmaShuffle ch => Sys2Proof.Machine.execDmaShuffle ch s
  | .dmaRunBudgetExpiry ch => Sys2Proof.Machine.execDmaRunBudgetExpiry ch s
  | .dmaChannelStartDone ch => Sys2Proof.Machine.execDmaChannelStartDone ch s
  | .dmaChannelStopDone ch => Sys2Proof.Machine.execDmaChannelStopDone ch s
  | .counterExport stream => Sys2Proof.Machine.execCounterExport stream s
  | .telemetryExport => Sys2Proof.Machine.execTelemetryExport s
  | .cvSegmentEnd u host => Sys2Proof.Machine.execCvSegmentEnd u host s
  | .scrubBlock => Sys2Proof.Machine.execScrubBlock s
  | .cvScan src => Sys2Proof.Machine.execCvScan src s
  | .cvGetStatus src => Sys2Proof.Machine.execCvGetStatus src s
  | .outputCopy ch number content => Sys2Proof.Machine.execOutputCopy ch number content s
  | .voteTimeout ch => Sys2Proof.Machine.execVoteTimeout ch s
  | .checkpoint digestA digestB digestC => Sys2Proof.Machine.execCheckpoint digestA digestB digestC s
  | .channelUe ch => Sys2Proof.Machine.execChannelUe ch s
  | .swapDue => Sys2Proof.Machine.execSwapDue s
  | .selftestEnd ch passed => Sys2Proof.Machine.execSelftestEnd ch passed s
  | .resyncDone ch passed => Sys2Proof.Machine.execResyncDone ch passed s
  | .triadReturn a b c => Sys2Proof.Machine.execTriadReturn a b c s
  | .headlessTimeout => Sys2Proof.Machine.execHeadlessTimeout s
  | .bridgeLaneFail g lane c => Sys2Proof.Machine.execBridgeLaneFail g lane c s
  | .spareSwapDone g => Sys2Proof.Machine.execSpareSwapDone g s
  | .laneEyeCheck g lane margin below => Sys2Proof.Machine.execLaneEyeCheck g lane margin below s
  | .laneRetrain g lane ok => Sys2Proof.Machine.execLaneRetrain g lane ok s
  | .sramScrub addr => Sys2Proof.Machine.execSramScrub addr s
  | .triadGetStatus src => Sys2Proof.Machine.execTriadGetStatus src s
  | .triadSetSwap src => Sys2Proof.Machine.execTriadSetSwap src s
  | .triadRestart src => Sys2Proof.Machine.execTriadRestart src s
  | .triadTraceRead src => Sys2Proof.Machine.execTriadTraceRead src s
  | .bridgeGetStatus src => Sys2Proof.Machine.execBridgeGetStatus src s
  | .diagInject src => Sys2Proof.Machine.execDiagInject src s
  | .confirmTimeout => Sys2Proof.Machine.execConfirmTimeout s
  | .parserBankSwap => Sys2Proof.Machine.execParserBankSwap s
  | .fwGetStatus src => Sys2Proof.Machine.execFwGetStatus src s
  | .fwWrite src pl readBackOk1 readBackOk2 => Sys2Proof.Machine.execFwWrite src pl readBackOk1 readBackOk2 s
  | .fwActivate src => Sys2Proof.Machine.execFwActivate src s
  | .fwConfirm src => Sys2Proof.Machine.execFwConfirm src s
  | .fwRevert src => Sys2Proof.Machine.execFwRevert src s
  | .fwRelay src pl => Sys2Proof.Machine.execFwRelay src pl s
  | .parserPatch src pl => Sys2Proof.Machine.execParserPatch src pl s
  | .fwRecoveryWrite src chunk readBackOk => Sys2Proof.Machine.execFwRecoveryWrite src chunk readBackOk s
  | .fwRecoveryStatus src => Sys2Proof.Machine.execFwRecoveryStatus src s
  | .fwRecoveryBoot src => Sys2Proof.Machine.execFwRecoveryBoot src s
  | .governorLoop fwd rates offered => Sys2Proof.Machine.execGovernorLoop fwd rates offered s
  | .avsTelemetryRead fwd ack mv ma => Sys2Proof.Machine.execAvsTelemetryRead fwd ack mv ma s
  | .shortfallStart fwd => Sys2Proof.Machine.execShortfallStart fwd s
  | .shortfallEnd fwd => Sys2Proof.Machine.execShortfallEnd fwd s
  | .railSample rail mv => Sys2Proof.Machine.execRailSample rail mv s
  | .supplyGlitch rail mv => Sys2Proof.Machine.execSupplyGlitch rail mv s
  | .temperatureSample sites hbmTemps => Sys2Proof.Machine.execTemperatureSample sites hbmTemps s
  | .quietEntry => Sys2Proof.Machine.execQuietEntry s
  | .pwrGetStatus src => Sys2Proof.Machine.execPwrGetStatus src s
  | .govSet src => Sys2Proof.Machine.execGovSet src s
  | .pwrSetThermal src => Sys2Proof.Machine.execPwrSetThermal src s
  | .tamperDetect sources => Sys2Proof.Machine.execTamperDetect sources s
  | .secGetIdentity src => Sys2Proof.Machine.execSecGetIdentity src s
  | .secAttest src => Sys2Proof.Machine.execSecAttest src s
  | .secRevokeKey src pl => Sys2Proof.Machine.execSecRevokeKey src pl s
  | .secRaiseMin src => Sys2Proof.Machine.execSecRaiseMin src s
  | .secSetTamper src => Sys2Proof.Machine.execSecSetTamper src s
  | .secGetTamper src => Sys2Proof.Machine.execSecGetTamper src s
  | .secTamperClear src firing => Sys2Proof.Machine.execSecTamperClear src firing s
  | .macsecSetPort src => Sys2Proof.Machine.execMacsecSetPort src s
  | .macsecKekAgree src pl => Sys2Proof.Machine.execMacsecKekAgree src pl s
  | .macsecSaInstall src pl => Sys2Proof.Machine.execMacsecSaInstall src pl s
  | .macsecSaDelete src => Sys2Proof.Machine.execMacsecSaDelete src s
  | .macsecTxSelect src => Sys2Proof.Machine.execMacsecTxSelect src s
  | .macsecGetStatus src => Sys2Proof.Machine.execMacsecGetStatus src s
  | .jtagInstruction r => Sys2Proof.Machine.execJtagInstruction r s
  | .alignmentMarker l inPlace blockLock calOk => Sys2Proof.Machine.execAlignmentMarker l inPlace blockLock calOk s
  | .clause73LinkTraining l req complete => Sys2Proof.Machine.execClause73LinkTraining l req complete s
  | .freqInValid => Sys2Proof.Machine.execFreqInValid s
  | .unicastNegotiation p peer msgType grant durationS => Sys2Proof.Machine.execUnicastNegotiation p peer msgType grant durationS s
  | .ptpManagement p id => Sys2Proof.Machine.execPtpManagement p id s
  | .msixVectorMaskWrite v w => Sys2Proof.Machine.execMsixVectorMaskWrite v w s
  | .shaperDebtEnd kind idx => Sys2Proof.Machine.execShaperDebtEnd kind idx s

end Sys2Proof.Machine
end

