-- ==== Sys2Proof/WellFormed.lean ====
section
/-! DEFINITION. Which commands are well formed: operands inside the widths and ranges the manual gives what they stand for. -/

namespace Sys2Proof

/-- A tag has 16 bits (R490). -/
def srcOk : Src → Bool
  | .ring t => decide (t < 65536)
  | .mbox _ => true

/-- A read that succeeded gave all the bytes asked for. -/
def readOk (n : Nat) : HostRead → Bool
  | some b => b.length == n
  | none => true

/-- Fields of a received frame within their widths (R8, R152, Table 5.1, R185). -/
def frameOk (f : RxFrame) : Bool :=
  f.raw.length == f.len && decide (f.vrf < 65536) && decide (f.svc < 65536) && decide (f.labelSpace < 256) && decide (f.flood < 65536) &&
  decide (f.profile < 1024)

/-- Fields of a verdict within their widths (R112, R113). -/
def verdictOk : Verdict → Bool
  | .cont dst _ nh en _ _ =>
    (match dst with | some (.port g) => decide (g < 2 ^ 19) | some (.group m) => decide (m < 65536) | none => true) &&
    (match nh with | some i => decide (i < 2 ^ 21) | none => true) && (match en with | some i => decide (i < 2 ^ 20) | none => true)
  | _ => true

/-- The fields of Table 6.7 that an issue gives, within their widths. -/
def issueOk (a : IssueAt) : Bool := decide (a.offset < 2 ^ 32) && decide (a.addr < 2 ^ 64) && decide (a.issues < 2 ^ 32)

/-- Fields of a fabric cell header within their widths (Table 12.2). -/
def cellOk (c : FabCell) : Bool :=
  decide (c.cls < 16) && decide (c.payLen ≤ 256) && decide (c.srcDev < 2048) && decide (c.dstDev < 2048) && decide (c.prio < 4) &&
  decide (c.fabSeq < 65536) && decide (c.linkSeq < 65536) && decide (c.ackSeq < 65536)

/-- What a board presents: no stack listed twice, stacks 0 to 7, bring-up within a register's range (Table 15.5). -/
def bootOk (e : BootEnv) : Bool :=
  e.cold.all (fun c => decide (c.1 < 8)) && decide (e.cold.map (·.1)).Nodup && decide (e.readyMs < 2 ^ 32)

/-- The command is well formed. -/
def Instr.wf : Instr → Bool
  | .bringUp e => bootOk e
  | .deviceReset => true
  | .recoveryReset => true
  | .pcieConfigRequest _ => true
  | .flr => true
  | .hotReset => true
  | .pcieLinkDown => true
  | .busMasterDisable => true
  | .d3hotEntry => true
  | .ifaceResetQuiesced => true
  | .sqTailWrite _ _ => true
  | .cqHeadWrite _ _ => true
  | .puntHeadWrite _ _ => true
  | .injectTailWrite _ _ => true
  | .eventHeadWrite _ => true
  | .mbCtrlWrite _ _ => true
  | .hifIntCauseWrite _ => true
  | .hifAlarmWrite _ => true
  | .bar0RegisterWrite off size _ _ => (size == 4 || size == 8) && off % size == 0 && decide (off + size ≤ 65536)
  | .msixGapExpiry _ => true
  | .submissionTake _ entry => readOk 64 entry
  | .devGetInfo src => srcOk src
  | .hifRingCreate src => srcOk src
  | .hifRingDelete src => srcOk src
  | .hifIfaceReset src => srcOk src
  | .hifSetPunt src => srcOk src
  | .hifGetPktStatus src => srcOk src
  | .objGetState src => srcOk src
  | .injectSlotRead _ hdr f => readOk 32 hdr && frameOk f
  | .smbusHealthRead _ _ => true
  | .smbRecoveryBegin len crc _ => decide (len < 2 ^ 32) && decide (crc < 2 ^ 32)
  | .smbRecoveryData d _ => d.length == 32
  | .smbRecoveryFinish _ => true
  | .smbRecoveryStatus => true
  | .portSetMode src => srcOk src
  | .portEnable src => srcOk src
  | .portDisable src => srcOk src
  | .portSetAbilities src => srcOk src
  | .portGetStatus src => srcOk src
  | .laneMeasure src => srcOk src
  | .portMeasureRtt src => srcOk src
  | .portSetLimits src => srcOk src
  | .laneMeasureDone _ recs => decide (recs.length ≤ 8)
  | .rttMeasureDone _ rtts => decide (rtts.length ≤ 256)
  | .lanesReady _ => true
  | .portStopDone _ => true
  | .abilityFrame _ _ _ => true
  | .trainFrame _ _ _ _ _ => true
  | .readyFrame _ _ _ => true
  | .abilityTimeout _ => true
  | .trainTimeout _ => true
  | .trainingRestartDelay _ => true
  | .autonegPage _ _ _ => true
  | .autonegTimeout _ => true
  | .partnerGoneTimeout _ => true
  | .laneSignalChange _ _ => true
  | .codewordReceive _ errors erasures => decide (errors + erasures ≤ 544)
  | .otucFrame _ _ => true
  | .faultOrderedSet _ _ column => decide (column < 128)
  | .defectDeclare _ _ => true
  | .defectClear _ _ => true
  | .linkDownPersist _ => true
  | .holdoffExpiry _ => true
  | .wtrExpiry _ => true
  | .pmSecond _ => true
  | .pmBinClose _ => true
  | .pmBinFinal _ _ => true
  | .frmSetTti src _ => srcOk src
  | .frmSetActions src => srcOk src
  | .frmGetDefects src => srcOk src
  | .pmGetBins src => srcOk src
  | .pmSetTca src => srcOk src
  | .frameReceive _ f _ => frameOk f
  | .extLookupReply _ _ _ => true
  | .extLate _ _ => true
  | .excursionReturn _ _ => true
  | .frameHandoff _ => true
  | .egressDelivery _ _ profile _ _ _ => decide (profile < 1024)
  | .frameTransmit _ _ => true
  | .flitReceive _ _ f => decide (f.data.length ≤ 256)
  | .batchCommit => true
  | .viewRelease => true
  | .ecmpGroupSwitch g => decide (g < 262144)
  | .ecmpRebalance g => decide (g < 262144)
  | .pipeFailure _ _ => true
  | .pipeSelfTestDone _ _ => true
  | .pipeStopDone _ => true
  | .pipeEnable src => srcOk src
  | .pipeDisable src => srcOk src
  | .pipeGetStatus src => srcOk src
  | .pipeSetHash src => srcOk src
  | .nhSet src => srcOk src
  | .ecmpSetGroup src _ => srcOk src
  | .frrForce src => srcOk src
  | .dropGetCounters src => srcOk src
  | .tblCreate src => srcOk src
  | .tblDestroy src => srcOk src
  | .tblBatchApply src _ => srcOk src
  | .tblGetStatus src => srcOk src
  | .tblRead src => srcOk src
  | .tblSetAgeing src => srcOk src
  | .vrfSet src => srcOk src
  | .tblSetExtRate src => srcOk src
  | .tblSetProfile src => srcOk src
  | .cntRead src => srcOk src
  | .learnRequestApply _ => true
  | .ageingSweep _ => true
  | .tcamScrub idx => decide (idx < 262144)
  | .shadowRebuild _ => true
  | .peEnable src => srcOk src
  | .peDisable src => srcOk src
  | .peGetStatus src => srcOk src
  | .peModuleLoad src _ => srcOk src
  | .fnSet src => srcOk src
  | .peSetSlots src => srcOk src
  | .pePatch src _ => srcOk src
  | .peThreadRestore src => srcOk src
  | .peTraceRead src => srcOk src
  | .peTraceConfig src => srcOk src
  | .fnSetTrigger src => srcOk src
  | .triggerInvocation _ => true
  | .startRegisterWrite _ _ => true
  | .releaseMask _ _ => true
  | .peFork _ _ _ => true
  | .peJoin _ _ _ => true
  | .peEmit _ _ dst f at_ => frameOk f && decide (dst.nh < 2 ^ 21) && issueOk at_
  | .mailboxPost _ _ _ => true
  | .threadVerdict _ _ x => verdictOk x.verdict && issueOk x.at_
  | .threadFault _ _ _ offset addr issues => issueOk { offset := offset, addr := addr, issues := issues }
  | .watchdog _ _ offset issues => issueOk { offset := offset, addr := 0, issues := issues }
  | .supervisorHandle _ => true
  | .engineFailure _ _ => true
  | .engineReenable _ => true
  | .engineSelfTestDone _ _ => true
  | .engineStopDone _ => true
  | .idleGate _ => true
  | .patchEngineDrained _ _ => true
  | .voqAdmit _ => true
  | .stripeCloseTimeout _ => true
  | .voqDequeue voq => decide (voq < 4194304)
  | .scarabPass _ => true
  | .queueAgeingSweep => true
  | .bufSetPool src => srcOk src
  | .bufSetQuota src => srcOk src
  | .bufSetClass src => srcOk src
  | .bufSetSojourn src => srcOk src
  | .bufGetStatus src => srcOk src
  | .bufGetQuota src => srcOk src
  | .bufGetDrops src => srcOk src
  | .activationComplete qid => decide (qid < 0x500000)
  | .activeIdleTimeout qid => decide (qid < 0x500000)
  | .destFlushTimeout dev => decide (dev < 2048)
  | .reservationRelease dev => decide (dev < 2048)
  | .creditReqRefresh voq => decide (voq < 4194304)
  | .grantIssue _ => true
  | .creditReq m => decide (m.srcDev < 2048) && decide (m.voq < 4194304) && decide (m.value < 65536) && decide (m.seq < 65536)
  | .creditGrant m => decide (m.srcDev < 2048) && decide (m.voq < 4194304) && decide (m.value < 65536) && decide (m.seq < 65536)
  | .creditReturn m => decide (m.srcDev < 2048) && decide (m.voq < 4194304) && decide (m.value < 65536) && decide (m.seq < 65536)
  | .queueStartDone qid => decide (qid < 0x500000)
  | .queueStopDone qid => decide (qid < 0x500000)
  | .qEnable src => srcOk src
  | .qDisable src => srcOk src
  | .qGetStatus src => srcOk src
  | .qSetActive src => srcOk src
  | .qPin src => srcOk src
  | .qSetEgressMap src => srcOk src
  | .qSetCredit src => srcOk src
  | .qGetCreditStatus src => srcOk src
  | .egressSelection _ => true
  | .watchedSample => true
  | .hotQueueSweep => true
  | .histogramAdd => true
  | .acctBoundary _ => true
  | .acctExport _ => true
  | .schSet src => srcOk src
  | .schGet src => srcOk src
  | .polSetProfile src => srcOk src
  | .polSet src => srcOk src
  | .polGet src => srcOk src
  | .obsSetQueue src => srcOk src
  | .obsSetHistProfile src _ => srcOk src
  | .obsGetHist src => srcOk src
  | .acctSet src => srcOk src
  | .acctGet src => srcOk src
  | .hbmRequest r => decide (r.addr < 2 ^ 37) && decide (r.bank < 64) && decide (r.data.length ≤ 256)
  | .channelCommandSlot _ _ => true
  | .hbmRequestComplete _ _ meet => decide (meet.length ≤ 8)
  | .refreshDeadline _ => true
  | .selfRefreshEntry _ => true
  | .selfRefreshExit _ => true
  | .retrainPause _ => true
  | .thawTrainingDone _ _ => true
  | .rebuildDone _ _ _ => true
  | .retireSalvageDone _ _ => true
  | .channelStopDone _ => true
  | .pressureWindow _ _ _ => true
  | .shedRise => true
  | .shedFall => true
  | .memChEnable src => srcOk src
  | .memChDisable src => srcOk src
  | .memGetStatus src => srcOk src
  | .memSetPort src => srcOk src
  | .memSetPower src => srcOk src
  | .memSetTraining src _ => srcOk src
  | .memGetSnapshot src => srcOk src
  | .memThaw src => srcOk src
  | .memRetire src => srcOk src
  | .switchPhase => true
  | .xpointHoldExpiry _ _ => true
  | .outputHeldTimeout _ => true
  | .egressStartTimeout _ _ => true
  | .cswSetCut src => srcOk src
  | .cswGetStatus src => srcOk src
  | .fabricCellReceive _ c => cellOk c
  | .linkRetry _ linkSeq => decide (linkSeq < 65536)
  | .ackIdleTimeout _ => true
  | .retryTimeout _ => true
  | .linkHcsTimeout _ => true
  | .linkDownNotice _ => true
  | .reseqHoldExpiry _ dev cls => decide (dev < 2048) && decide (cls < 9)
  | .lostCreditRelease _ dev cls => decide (dev < 2048) && decide (cls < 8)
  | .discover _ m => decide (m.id < 2048)
  | .qualificationEnd _ _ _ => true
  | .qualificationRetry _ => true
  | .reach _ _ => true
  | .reachDelta _ dev _ => decide (dev < 2048)
  | .linkDelayMeasure _ => true
  | .delayReq _ _ _ => true
  | .delayResp _ _ _ _ _ => true
  | .fabricLinkStopDone _ => true
  | .portState dev _ _ => decide (dev < 2048)
  | .portVector dev _ => decide (dev < 2048)
  | .portVectorSend => true
  | .heartbeatSend => true
  | .heartbeat dev term _ _ => decide (dev < 2048) && decide (term < 2 ^ 32)
  | .heartbeatLoss => true
  | .meridianClaim dev _ => decide (dev < 2048)
  | .epochPrepare m => decide (m.src < 2048) && m.classMap.length == 8
  | .epochAck dev _ _ => decide (dev < 2048)
  | .epochDecision => true
  | .epochActivate => true
  | .epochRetentionEnd => true
  | .epochCancel dev _ => decide (dev < 2048)
  | .epochStatus dev _ _ => decide (dev < 2048)
  | .epochStatusSend => true
  | .quarantine dev _ _ => decide (dev < 2048)
  | .observation m => decide (m.src < 2048) && decide (m.subjKind < 3) && decide (m.kind < 4)
  | .observationWindow _ _ _ => true
  | .relayChunk dev _ idx count _ data => decide (dev < 2048) && decide (data.length ≤ 4096) && decide (idx < count)
  | .relayAck dev _ _ _ => decide (dev < 2048)
  | .relayResend _ => true
  | .relaySkipTimeout => true
  | .fabLinkEnable src => srcOk src
  | .fabLinkDisable src => srcOk src
  | .fabGetLink src => srcOk src
  | .fabSetSystem src => srcOk src
  | .fabStage src _ => srcOk src
  | .fabEpochPrepare src => srcOk src
  | .fabGetStatus src => srcOk src
  | .fabSetReseq src => srcOk src
  | .laserInputChange _ _ _ => true
  | .refLoss _ => true
  | .ptpSync _ _ => true
  | .ptpFollowUp _ _ => true
  | .ptpDelayReq _ _ => true
  | .ptpDelayResp _ _ _ _ => true
  | .ptpPdelay _ _ _ => true
  | .ptpAnnounce _ _ _ => true
  | .ptpMessageSend _ _ => true
  | .sourceLostTimeout _ => true
  | .servoLock => true
  | .holdoverLimit => true
  | .timeStepApply => true
  | .leapSecond _ => true
  | .ppsIn _ => true
  | .todIn _ _ => true
  | .freqInEdgeLoss => true
  | .ppsOutSecond => true
  | .esmcPduSend _ => true
  | .esmcPdu _ ql => decide (ql < 16)
  | .timeSyncSend => true
  | .timeSync m => decide (m.root < 2048)
  | .timeDelayReqSend => true
  | .timeDelayReq dev _ _ => decide (dev < 2048)
  | .timeDelayResp _ _ _ => true
  | .timeStepNotice m => decide (m.src < 2048)
  | .timeCandidate m => decide (m.src < 2048)
  | .timeRoot dev _ _ => decide (dev < 2048)
  | .timeSetInstance src => srcOk src
  | .timeSetPort src => srcOk src
  | .timeSetSource src => srcOk src
  | .timeSetIo src => srcOk src
  | .timeStep src => srcOk src
  | .timeGetStatus src => srcOk src
  | .timeGetPort src => srcOk src
  | .eventRecordWrite => true
  | .coalesceClose => true
  | .eventRingDeliver => true
  | .eventWindowEnd _ _ => true
  | .evtSetFilter src => srcOk src
  | .evtGetStats src => srcOk src
  | .evtTest src _ => srcOk src
  | .dmaLoad src _ => srcOk src
  | .dmaEnable src => srcOk src
  | .dmaHalt src => srcOk src
  | .dmaGetStatus src => srcOk src
  | .dmaSetExport src => srcOk src
  | .dmaEnd _ => true
  | .dmaMove _ _ => true
  | .dmaLoop _ => true
  | .dmaWait _ => true
  | .dmaSignal _ => true
  | .dmaShuffle _ => true
  | .dmaRunBudgetExpiry _ => true
  | .dmaChannelStartDone _ => true
  | .dmaChannelStopDone _ => true
  | .counterExport _ => true
  | .telemetryExport => true
  | .cvSegmentEnd _ _ => true
  | .scrubBlock => true
  | .cvScan src => srcOk src
  | .cvGetStatus src => srcOk src
  | .outputCopy _ _ _ => true
  | .voteTimeout _ => true
  | .checkpoint _ _ _ => true
  | .channelUe _ => true
  | .swapDue => true
  | .selftestEnd _ _ => true
  | .resyncDone _ _ => true
  | .triadReturn _ _ _ => true
  | .headlessTimeout => true
  | .bridgeLaneFail _ _ _ => true
  | .spareSwapDone _ => true
  | .laneEyeCheck _ _ _ _ => true
  | .laneRetrain _ _ _ => true
  | .sramScrub addr => addr % 8 == 0
  | .triadGetStatus src => srcOk src
  | .triadSetSwap src => srcOk src
  | .triadRestart src => srcOk src
  | .triadTraceRead src => srcOk src
  | .bridgeGetStatus src => srcOk src
  | .diagInject src => srcOk src
  | .confirmTimeout => true
  | .parserBankSwap => true
  | .fwGetStatus src => srcOk src
  | .fwWrite src _ _ _ => srcOk src
  | .fwActivate src => srcOk src
  | .fwConfirm src => srcOk src
  | .fwRevert src => srcOk src
  | .fwRelay src _ => srcOk src
  | .parserPatch src _ => srcOk src
  | .fwRecoveryWrite src _ _ => srcOk src
  | .fwRecoveryStatus src => srcOk src
  | .fwRecoveryBoot src => srcOk src
  | .governorLoop fwd rates offered => rates.length == 64 && offered.length == (if fwd then 64 else 65)
  | .avsTelemetryRead _ _ mv ma => decide (mv < 65536) && decide (ma < 2 ^ 32)
  | .shortfallStart _ => true
  | .shortfallEnd _ => true
  | .railSample _ mv => decide (mv < 65536)
  | .supplyGlitch _ mv => decide (mv < 65536)
  | .temperatureSample sites hbmTemps => sites.length == 64 && hbmTemps.length == 8
  | .quietEntry => true
  | .pwrGetStatus src => srcOk src
  | .govSet src => srcOk src
  | .pwrSetThermal src => srcOk src
  | .tamperDetect _ => true
  | .secGetIdentity src => srcOk src
  | .secAttest src => srcOk src
  | .secRevokeKey src _ => srcOk src
  | .secRaiseMin src => srcOk src
  | .secSetTamper src => srcOk src
  | .secGetTamper src => srcOk src
  | .secTamperClear src _ => srcOk src
  | .macsecSetPort src => srcOk src
  | .macsecKekAgree src _ => srcOk src
  | .macsecSaInstall src _ => srcOk src
  | .macsecSaDelete src => srcOk src
  | .macsecTxSelect src => srcOk src
  | .macsecGetStatus src => srcOk src
  | .jtagInstruction _ => true
  | .alignmentMarker _ _ _ _ => true
  | .clause73LinkTraining _ _ _ => true
  | .freqInValid => true
  | .unicastNegotiation _ _ _ _ _ => true
  | .ptpManagement _ _ => true
  | .msixVectorMaskWrite _ _ => true
  | .shaperDebtEnd _ _ => true

end Sys2Proof
end

