-- ==== Sys2Proof/Machine/Package.lean ====
section
/-! DEFINITION. What the block shows at its balls: the ball map, the fibres, the outputs as functions of State, the test port's data register
(R643-R650, R654, R655). -/

namespace Sys2Proof.Machine

/-! ### Balls (R643, R647-R650) -/

/-- Letters of a row name, in order. -/
def rowLetters : List Char := "ABCDEFGHJKLMNPTUVWY".toList

/-- Name of the ball row of index 1 to 68: one letter up to 19, two from 20 on (R647). -/
def rowName (i : Nat) : String :=
  let c (k : Nat) : Char := rowLetters.getD k 'A'
  if i ≤ 19 then String.singleton (c (i - 1)) else String.singleton (c ((i - 20) / 19)) ++ String.singleton (c ((i - 20) % 19))

/-- A ball: row index and column, both from 1. -/
structure Ball where
  row : Nat
  col : Nat
  deriving DecidableEq, Repr

/-- The empty positions: 2 × 2 at each corner (R643). -/
def Ball.empty (b : Ball) : Bool := (decide (b.row ≤ 2) || decide (67 ≤ b.row)) && (decide (b.col ≤ 2) || decide (67 ≤ b.col))

/-- Positions that hold a ball (R642, R643). -/
def Ball.present (b : Ball) : Bool := decide (1 ≤ b.row) && decide (b.row ≤ 68) && decide (1 ≤ b.col) && decide (b.col ≤ 68) && !b.empty

/-- Balls of a line lane: transmit P and N, receive P and N. -/
structure LaneBalls where
  txP : Ball
  txN : Ball
  rxP : Ball
  rxN : Ball
  deriving DecidableEq, Repr

/-- R648. -/
def laneBalls (n : Nat) : LaneBalls :=
  let k := n % 128
  let r := if k < 15 then 0 else (k - 15) / 17 + 1
  let c := if k < 15 then k + 1 else (k - 15) % 17
  let outer := if n < 128 then 2 * r + 1 else 68 - 2 * r
  let inner := if n < 128 then 2 * r + 2 else 67 - 2 * r
  let col := 4 * c + 1
  { txP := { row := outer, col := col + 1 }, txN := { row := outer, col := col + 2 }
    rxP := { row := inner, col := col + 1 }, rxN := { row := inner, col := col + 2 } }

/-- Rows of the differential and PCIe signals (Table 22.3): the P ball lies in column 2 (west) or 66 (east), the N ball beside it. -/
inductive DiffSignal where
  | pcieTx (i : Fin 8) | pcieRx (i : Fin 8) | pcieRefclk | sref (k : Fin 4) | syncE (k : Fin 4)
  deriving DecidableEq, Repr

def DiffSignal.ball : DiffSignal → Ball
  | .pcieTx i => { row := 17 + 2 * i, col := 2 }
  | .pcieRx i => { row := 18 + 2 * i, col := 2 }
  | .pcieRefclk => { row := 33, col := 2 }
  | .sref k => { row := 35 + k, col := 2 }
  | .syncE k => { row := 35 + k, col := 66 }

/-- Low-speed balls of rows BA (39) to BP, columns 1 to 4; an empty name is VSS (Table 22.4). -/
def lowBalls : List (List String) :=
  [["XSPI_DQ0", "XSPI_DQ1", "XSPI_DQ2", "XSPI_DQ3"], ["XSPI_DQ4", "XSPI_DQ5", "XSPI_DQ6", "XSPI_DQ7"],
   ["XSPI_CLK", "XSPI_DQS", "XSPI_CS_N", "XSPI_RESET_N"], ["BOOT_SRC0", "BOOT_SRC1", "SMB_ADDR0", "SMB_ADDR1"],
   ["BOOT_PHASE0", "BOOT_PHASE1", "BOOT_PHASE2", "BOOT_PHASE3"], ["SMB_SCL", "SMB_SDA", "ALARM_N", "THERMTRIP_N"],
   ["AVS_F_CLK", "AVS_F_MDATA", "AVS_F_SDATA", "TAMPER_N"], ["AVS_Q_CLK", "AVS_Q_MDATA", "AVS_Q_SDATA", ""],
   ["TCK", "TMS", "TDI", "TDO"], ["TRST_N", "", "", ""], ["PPS_IN", "PPS_OUT", "TOD_IN", "TOD_OUT"], ["FREQ_IN", "", "", ""],
   ["VSENSE_CORE_F_P", "VSENSE_CORE_F_N", "VSENSE_CORE_Q_P", "VSENSE_CORE_Q_N"], ["", "", "", ""]]

/-! ### Fibres (R645, R646) -/

inductive Edge where
  | north | east | south | west
  deriving DecidableEq, Repr

/-- The edge at which the pigtail of an optical engine leaves the body. -/
def pigtailEdge (e : Nat) : Edge := match e / 4 with | 0 => .north | 1 => .east | 2 => .south | _ => .west

/-- What a fibre of a pigtail carries: transmit or receive of a lane of the engine, a laser input, or nothing. -/
inductive Fibre where
  | tx (lane : Nat) | rx (lane : Nat) | laser (input : Nat) | unused
  deriving DecidableEq, Repr

def fibre (k : Nat) : Fibre :=
  if k < 32 then .tx k else if k < 64 then .rx (k - 32) else if k < 68 then .laser (k - 64) else .unused

/-- Lanes of an engine that laser input `m` feeds. -/
def laserLanes (m : Nat) : List Nat := (List.range 8).map (8 * m + ·)

/-! ### Outputs (R654) -/

inductive Drive where
  | low | high | highZ
  deriving DecidableEq, Repr

/-- Outputs whose level the manual gives at a reset or by a condition of State. -/
inductive OutPin where
  | bootPhase (k : Fin 4) | xspiResetN | xspiCsN | alarmN | thermtripN | ppsOut | todOut | avs
  deriving DecidableEq, Repr

namespace Dev

/-- PCIE_PERST_N is low: a device reset has been taken and no bring-up has begun since. -/
def inReset (d : Dev) : Bool := !d.hif.up && !d.hif.chrysalis && d.hif.bootPhase == 0

/-- The level of an output where the manual gives it (R482, R591, R619, R654); `none` where a protocol of its own drives it. -/
def outPin (d : Dev) : OutPin → Option Drive
  | .bootPhase k => some (if bit d.hif.bootPhase k then .high else .low)
  | .xspiResetN => if d.inReset then some .low else none
  | .xspiCsN => if d.inReset then some .high else none
  | .alarmN => some (if !d.inReset && d.hif.alarm != 0 then .low else .highZ)
  | .thermtripN => some (if !d.inReset && d.pwr.trip then .low else .highZ)
  | .ppsOut => if d.inReset then some .highZ else none
  | .todOut => if d.inReset then some .highZ else none
  | .avs => if d.inReset then some .highZ else none

/-! ### The test port (R655) -/

/-- IDCODE: version 1, part 0x7100, manufacturer 0x5F5, then a 1. -/
def idcode : BitVec 32 := (1#4 ++ 0x7100#16) ++ (0x5F5#11 ++ 1#1)

/-- What the test port captures for the instruction in force: its data register's width and value, which for the boundary scan is that of pins. -/
def jtagCapture (d : Dev) : Option (Nat × Nat) :=
  match d.jtag.ir with
  | .bypass => some (1, 0)
  | .idcode => some (32, idcode.toNat)
  | .samplePreload => none
  | .extest => none

end Dev
end Sys2Proof.Machine
end

