-- ==== Sys2Proof/Safety.lean ====
section
/-! DEFINITION. The words the statements use: which command runs, how it is answered, and what holds of every state a run keeps. -/

namespace Sys2Proof.Machine

/-- Command `c` waits under an opcode and a source, and neither R463, R479, R485 nor R518 holds it back. -/
def State.runs (s : State) (op : Nat) (src : Src) (c : Cmd) : Prop :=
  s.dev.nextCmd op src = some c ∧ s.dev.gateCmd c = none

/-- Row `i` answers command `c` with reply `r`: `c` completes on the reply's device, or is taken up and completes later. Nothing else
of the machine changes. -/
def State.replies (s : State) (i : Instr) (c : Cmd) (r : Reply) : Prop := exec i s = .next { s with dev := Dev.settle c r }

/-- The reply that completes a command with a status and changes nothing. -/
def State.refusal (s : State) (st : Status) : Reply := .done s.dev { status := st }

/-- The reply of a status command: its record, or NO_SPACE with the size needed (R514). -/
def State.report (s : State) (c : Cmd) (body : List Fld) : Reply :=
  if c.f 28 4 < (s.dev.statusRecord c.opcode body).length then
    .done s.dev { status := .noSpace, result := (s.dev.statusRecord c.opcode body).length }
  else .done s.dev { record := some (s.dev.statusRecord c.opcode body) }

/-- Command `i` completes on `s`: it answers a next state that differs from `s` only in what a device reset resets, of which `P` holds. -/
def State.devStep (s : State) (i : Instr) (P : Dev → Prop) : Prop := ∃ d, exec i s = .next { s with dev := d } ∧ P d

/-- The same of a message that the journal of the triad notes as an input (R552): `P` holds of the device that the message itself leaves. -/
def State.logStep (s : State) (i : Instr) (k : LogKind) (P : Dev → Prop) : Prop := s.devStep i fun d => ∃ y, d = Dev.logIn k y ∧ P y

/-- The canonical form of a memory: addresses strictly rising, no byte equal to what an unlisted address reads as. -/
def Memory.wf (m : List Host.Cell) : Bool := tabRising m && m.all fun c => c.2 != 0

/-- Fuses only burn (R626, Table 21.1): from `a` to `b` no revocation bit is cleared, the minimum security version does not fall, and the tamper
log keeps its entries. -/
def Nv.burned (a b : Nv) : Prop :=
  a.revoked &&& b.revoked = a.revoked ∧ a.minVer ≤ b.minVer ∧ ∃ l, b.tamperLog = a.tamperLog ++ l

/-- What every step keeps of the state that survives reset: the fuse fields stay within their widths, and the tamper log keeps its bound
(Tables 21.1, 21.5). -/
def State.Inv (s : State) : Prop := s.nv.tamperLog.length ≤ 32 ∧ s.nv.generation < 2 ^ 32

end Sys2Proof.Machine

/-! ### Families of rows -/

namespace Sys2Proof

/-- Rows that may change fuses, flash or the tamper latch: resets, firmware images, retirements, tamper sources and the fuse commands. -/
def Instr.nvRow : Instr → Bool
  | .bringUp .. | .deviceReset | .recoveryReset | .triadReturn .. | .smbRecoveryBegin .. | .smbRecoveryData .. | .smbRecoveryFinish ..
  | .fwWrite .. | .fwActivate .. | .fwConfirm .. | .fwRelay .. | .relayChunk .. | .fwRecoveryWrite .. | .fwRecoveryBoot ..
  | .rebuildDone .. | .retireSalvageDone .. | .memSetTraining .. | .supplyGlitch .. | .temperatureSample .. | .tamperDetect ..
  | .secRevokeKey .. | .secRaiseMin .. | .secSetTamper .. | .secTamperClear .. => true
  | _ => false

/-- Rows of the PCIe function, the doorbells, the registers, the rings and the event delivery (chapters 15 and 16). -/
def Instr.hostRow : Instr → Bool
  | .pcieConfigRequest .. | .flr | .hotReset | .pcieLinkDown | .busMasterDisable | .d3hotEntry | .ifaceResetQuiesced | .hifIfaceReset ..
  | .sqTailWrite .. | .cqHeadWrite .. | .puntHeadWrite .. | .injectTailWrite .. | .eventHeadWrite .. | .mbCtrlWrite ..
  | .hifIntCauseWrite .. | .hifAlarmWrite .. | .bar0RegisterWrite .. | .msixGapExpiry .. | .msixVectorMaskWrite .. | .submissionTake ..
  | .hifRingCreate .. | .hifRingDelete .. | .hifSetPunt .. | .hifGetPktStatus .. | .eventRecordWrite | .coalesceClose | .eventRingDeliver
  | .eventWindowEnd .. | .evtSetFilter .. | .evtGetStats .. | .evtTest .. => true
  | _ => false

/-- Rows of the line ports, their training, reception, defects and readings (chapters 2 and 3). -/
def Instr.lineRow : Instr → Bool
  | .portSetMode .. | .portSetAbilities .. | .portSetLimits .. | .frmSetTti .. | .frmSetActions .. | .portGetStatus .. | .laneMeasure ..
  | .portMeasureRtt .. | .laneMeasureDone .. | .rttMeasureDone .. | .frmGetDefects .. | .pmGetBins .. | .pmSetTca .. | .abilityFrame ..
  | .trainFrame .. | .readyFrame .. | .abilityTimeout .. | .trainTimeout .. | .trainingRestartDelay .. | .autonegPage ..
  | .autonegTimeout .. | .partnerGoneTimeout .. | .clause73LinkTraining .. | .laneSignalChange .. | .codewordReceive .. | .otucFrame ..
  | .faultOrderedSet .. | .alignmentMarker .. | .defectDeclare .. | .defectClear .. | .linkDownPersist .. | .holdoffExpiry ..
  | .wtrExpiry .. | .pmSecond .. | .pmBinClose .. | .pmBinFinal .. => true
  | _ => false

/-- Rows of the lookup tables, the next hops and the counters (chapters 4 and 5). -/
def Instr.lookupRow : Instr → Bool
  | .tblCreate .. | .tblDestroy .. | .tblGetStatus .. | .tblRead .. | .tblSetAgeing .. | .vrfSet .. | .tblSetExtRate ..
  | .tblSetProfile .. | .tblBatchApply .. | .batchCommit | .viewRelease | .learnRequestApply .. | .ageingSweep .. | .tcamScrub ..
  | .shadowRebuild .. | .nhSet .. | .ecmpSetGroup .. | .ecmpGroupSwitch .. | .ecmpRebalance .. | .frrForce .. | .dropGetCounters ..
  | .cntRead .. => true
  | _ => false

/-- Rows of the queues, credits, shapers, policers, observation and accounting (chapters 8 and 9); EGRESS_SELECTION moves frames and is left out. -/
def Instr.queueRow : Instr → Bool
  | .activationComplete .. | .activeIdleTimeout .. | .destFlushTimeout .. | .reservationRelease .. | .queueStartDone ..
  | .queueStopDone .. | .qEnable .. | .qDisable .. | .qGetStatus .. | .qSetActive .. | .qPin .. | .qSetEgressMap .. | .qSetCredit ..
  | .qGetCreditStatus .. | .creditReq .. | .creditReturn .. | .creditGrant .. | .creditReqRefresh .. | .grantIssue ..
  | .lostCreditRelease .. | .shaperDebtEnd .. | .schSet .. | .schGet .. | .polSetProfile .. | .polSet .. | .polGet .. | .watchedSample
  | .hotQueueSweep | .histogramAdd | .acctBoundary .. | .acctExport .. | .obsSetQueue .. | .obsSetHistProfile .. | .obsGetHist ..
  | .acctSet .. | .acctGet .. => true
  | _ => false

/-- The rows among them that read or write HBM: a queue's configuration, and the bins of histograms. -/
def Instr.queueHbmRow : Instr → Bool
  | .activationComplete .. | .qPin .. | .hotQueueSweep | .histogramAdd | .obsSetQueue .. => true
  | _ => false

/-- Rows of the fabric links, the reachability and the epochs (chapter 12). -/
def Instr.fabricRow : Instr → Bool
  | .discover .. | .qualificationEnd .. | .reach .. | .qualificationRetry .. | .reachDelta .. | .linkDelayMeasure .. | .delayReq ..
  | .delayResp .. | .fabricLinkStopDone .. | .laserInputChange .. | .portState .. | .portVector .. | .portVectorSend | .fabLinkEnable ..
  | .fabLinkDisable .. | .fabGetLink .. | .heartbeatSend | .heartbeat .. | .heartbeatLoss | .meridianClaim .. | .epochPrepare ..
  | .epochAck .. | .epochDecision | .epochActivate | .epochRetentionEnd | .epochCancel .. | .fabSetSystem .. | .fabStage ..
  | .fabEpochPrepare .. | .fabGetStatus .. => true
  | _ => false

end Sys2Proof
end

