-- ==== Sys2Proof/Certificates/Slice0/Obligations.lean ====
section
/-! DEFINITION. The statements for the provers, in the order of OBLIGATIONS.json. -/

section Statements
open Sys2Proof Sys2Proof.Machine

/-- Before the endpoint answers, a configuration request gets retry status and nothing else changes; afterwards it completes normally, and
a read returns the value of its register, and a write of a base address, of Memory Space Enable, of the payload sizes, of the MSI-X control, of Bus
Master Enable or of the power state takes effect. FLR, hot reset, link down, the clearing of Bus
Master Enable and the entry to D3hot each start an interface reset that names them, or join the one in progress; before the endpoint
answers they do nothing. FLR leaves the configuration state as after a function reset even when it joins. -/
def Obligations.PcieRowsComplete : Prop :=
  (∀ (s : State) (q : CfgReq), s.devStep (.pcieConfigRequest q) fun d =>
    if s.dev.hif.answers then
      match q with
      | .read .other => d.hif = s.dev.hif ∧ ∃ v, d.out = .cfgReply false (some v) :: s.dev.out
      | .read r => d = { s.dev with out := .cfgReply false (some (s.dev.cfgRead r)) :: s.dev.out }
      | .other => d = { s.dev with out := .cfgReply false none :: s.dev.out }
      | .bar false b => d = { s.dev with out := .cfgReply false none :: s.dev.out, hif := { s.dev.hif with bar0 := b &&& ~~~0x3FFFFF } }
      | .bar true b => d = { s.dev with out := .cfgReply false none :: s.dev.out, hif := { s.dev.hif with bar2 := b &&& ~~~0xFFFF } }
      | .memEnable on => d = { s.dev with out := .cfgReply false none :: s.dev.out, hif := { s.dev.hif with memEnable := on } }
      | .sizes p r => d.hif.mps = (if p ≤ 2 then p else s.dev.hif.mps) ∧ d.hif.mrrs = (if r ≤ 5 then r else s.dev.hif.mrrs) ∧
          d.out = .cfgReply false none :: s.dev.out
      | .busMasterEnable => d = { s.dev with out := .cfgReply false none :: s.dev.out, hif := { s.dev.hif with busMaster := true } }
      | .d0 => d = { s.dev with out := .cfgReply false none :: s.dev.out, hif := { s.dev.hif with d3hot := false } }
      | .msixControl e f => d.hif.msixEnable = e ∧ d.hif.msixFuncMask = f ∧ d.hif.cause = s.dev.hif.cause
    else d = { s.dev with out := .cfgReply true none :: s.dev.out }) ∧
  (∀ s : State, s.devStep .flr fun d =>
    if s.dev.hif.answers then d.hif.reset = (s.dev.hif.reset <|> some { trigger := .flr, mboxes := [], lost := 0 }) ∧
      d.hif.msixEnable = false ∧ d.hif.busMaster = false ∧ d.hif.d3hot = false ∧ d.hif.msixPending = [] ∧ d.hif.bar0 = 0 ∧ d.hif.bar2 = 0 ∧
      d.hif.memEnable = false
    else d = s.dev) ∧
  (∀ s : State, s.devStep .hotReset fun d =>
    if s.dev.hif.answers then d.hif.reset = (s.dev.hif.reset <|> some { trigger := .hotReset, mboxes := [], lost := 0 }) else d = s.dev) ∧
  (∀ s : State, s.devStep .pcieLinkDown fun d =>
    if s.dev.hif.answers then d.hif.reset = (s.dev.hif.reset <|> some { trigger := .linkDown, mboxes := [], lost := 0 }) else d = s.dev) ∧
  (∀ s : State, s.devStep .busMasterDisable fun d =>
    if s.dev.hif.answers = true ∧ s.dev.hif.busMaster = true then
      d.hif.busMaster = false ∧ d.hif.reset = (s.dev.hif.reset <|> some { trigger := .busMaster, mboxes := [], lost := 0 })
    else d = s.dev) ∧
  (∀ s : State, s.devStep .d3hotEntry fun d =>
    if s.dev.hif.answers then
      d.hif.d3hot = true ∧ d.hif.reset = (s.dev.hif.reset <|> some { trigger := .d3hot, mboxes := [], lost := 0 }) else d = s.dev)

/-- At the end of an interface reset no ring exists, every mask bit is 1, vector i serves cause i, no gap stands, HIF_STATE's RESETS has
counted one more modulo 256 and no reset is in progress; with none in progress the row does nothing. HIF_IFACE_RESET starts or joins a
reset for its mailbox and stays in execution. -/
def Obligations.IfaceResetRowsComplete : Prop :=
  (∀ s : State, s.devStep .ifaceResetQuiesced fun d =>
    if s.dev.hif.reset.isSome then
      d.hif.sq = [] ∧ d.hif.cq = [] ∧ d.hif.ev = none ∧ d.hif.punt = [] ∧ d.hif.inj = [] ∧ d.hif.mask = BitVec.allOnes 43 ∧
      d.hif.vector = (List.range 43).map (BitVec.ofNat 6) ∧ d.hif.gap = [] ∧ d.hif.resets = (s.dev.hif.resets + 1) % 256 ∧
      d.hif.reset = none
    else d = s.dev) ∧
  (∀ (s : State) (src : Src) (c : Cmd), s.runs 0x0003 src c →
    s.replies (.hifIfaceReset src) c (.pend (s.dev.ifaceReset .mailbox (Dev.cmdMbox c))))

/-- With the endpoint answering and no interface reset in progress, a doorbell write to a ring that exists and does not stand stopped, with
a value the ring admits, sets that ring's index and its register; a write to a ring that does not exist, a tail not below the ring's size
and a head that moves past what the device wrote only raise EV_HIF_RING_FAULT; both end the quiet state. Otherwise nothing changes. -/
def Obligations.DoorbellRowsComplete : Prop :=
  (∀ (s : State) (r : Fin 16) (v : BitVec 16), s.devStep (.sqTailWrite r v) fun d =>
    if s.dev.dbOpen then
      match tget s.dev.quietExit.hif.sq r with
      | none => d = s.dev.quietExit.ringFault 0 r 0
      | some q =>
        if q.stopped then d = s.dev.quietExit
        else if v.toNat < q.size then tget d.hif.sq r = some { q with tail := v.toNat } ∧ d.evt = s.dev.quietExit.evt
        else d = s.dev.quietExit.ringFault 0 r 0
    else d = s.dev) ∧
  (∀ (s : State) (r : Fin 16) (v : BitVec 16), s.devStep (.cqHeadWrite r v) fun d =>
    if s.dev.dbOpen then
      match tget s.dev.quietExit.hif.cq r with
      | none => d = s.dev.quietExit.ringFault 1 r 0
      | some q =>
        if v.toNat < q.size ∧ (v.toNat + q.size - q.head) % q.size ≤ (q.tail + q.size - q.head) % q.size then
          tget d.hif.cq r = some { q with head := v.toNat } ∧ d.evt = s.dev.quietExit.evt
        else d = s.dev.quietExit.ringFault 1 r 0
    else d = s.dev) ∧
  (∀ (s : State) (r : Fin 8) (v : BitVec 16), s.devStep (.puntHeadWrite r v) fun d =>
    if s.dev.dbOpen then
      match tget s.dev.quietExit.hif.punt r with
      | none => d = s.dev.quietExit.ringFault 3 r 0
      | some q =>
        if v.toNat < q.size ∧ (v.toNat + q.size - q.head) % q.size ≤ (q.tail + q.size - q.head) % q.size then
          tget d.hif.punt r = some { q with head := v.toNat } ∧ d.evt = s.dev.quietExit.evt
        else d = s.dev.quietExit.ringFault 3 r 0
    else d = s.dev) ∧
  (∀ (s : State) (r : Fin 8) (v : BitVec 16), s.devStep (.injectTailWrite r v) fun d =>
    if s.dev.dbOpen then
      match tget s.dev.quietExit.hif.inj r with
      | none => d = s.dev.quietExit.ringFault 4 r 0
      | some q =>
        if v.toNat < q.size then tget d.hif.inj r = some { q with tail := v.toNat } ∧ d.evt = s.dev.quietExit.evt
        else d = s.dev.quietExit.ringFault 4 r 0
    else d = s.dev) ∧
  (∀ (s : State) (v : BitVec 16), s.devStep (.eventHeadWrite v) fun d =>
    if s.dev.dbOpen then
      match s.dev.quietExit.hif.ev with
      | none => d = s.dev.quietExit.ringFault 2 0 0
      | some q =>
        if v.toNat < q.size ∧ (v.toNat + q.size - q.head) % q.size ≤ (q.tail + q.size - q.head) % q.size then
          d.hif.ev = some { q with head := v.toNat } ∧ d.evt = s.dev.quietExit.evt
        else d = s.dev.quietExit.ringFault 2 0 0
    else d = s.dev)

/-- MB_CTRL with GO takes the command that DATA spells in at the end of the command list (an unlisted opcode completes at once with BAD_ARG),
and is ignored while GO is 1 or before the endpoint answers. 1s written to HIF_INT_CAUSE clear their bits; 1s written to HIF_ALARM clear
theirs, and every condition that persists sets its bit again. A BAR0 write that is not a naturally aligned access of 4 or 8 bytes, or that
comes before the endpoint answers, has no effect, and a whole 8-byte write of HIF_INT_CAUSE or HIF_ALARM is the row of that register; one of
HIF_INT_MASK is read back. A message held for its gap goes out when the gap ends, and a vector's address, data and mask are as written. A read
that is not aligned returns 0, and the identity, cause and alarm registers read as Tables 15.3, 15.6 and 15.7 have them. -/
def Obligations.RegisterRowsComplete : Prop :=
  (∀ (s : State) (m : Fin 8) (w : BitVec 32), s.devStep (.mbCtrlWrite m w) fun d =>
    let b := tgetD s.dev.hif.mbox {} m
    if s.dev.hif.answers = true ∧ b.go = false then
      (w.getLsbD 31 = false → d.hif.cmds = s.dev.hif.cmds) ∧
      (w.getLsbD 31 = true → isOpcode (w.toNat % 65536) = true →
        d.hif.cmds = s.dev.hif.cmds ++ [Dev.mboxCmd m b (w.toNat % 65536) s.dev.hif.intake] ∧
        d.hif.intake = s.dev.hif.intake + 1 ∧ tgetD d.hif.mbox {} m = { b with opcode := w.toNat % 65536, go := true, attached := true })
    else d = s.dev) ∧
  (∀ (s : State) (v : BitVec 64), s.devStep (.hifIntCauseWrite v) fun d =>
    if s.dev.hif.answers then d.hif.cause = s.dev.hif.cause &&& ~~~(v.setWidth 43) ∧ d.hif.alarm = s.dev.hif.alarm else d = s.dev) ∧
  (∀ (s : State) (v : BitVec 64), s.devStep (.hifAlarmWrite v) fun d =>
    if s.dev.hif.answers then
      ∃ d1 : Dev, d1 = { s.dev with hif := { s.dev.hif with alarm := s.dev.hif.alarm &&& ~~~(v.setWidth 9) } } ∧
        ∀ i < 9, d.hif.alarm.getLsbD i = (d1.hif.alarm.getLsbD i || (d1.persisting s.nv).contains i)
    else d = s.dev) ∧
  (∀ (s : State) (off size : Nat) (be : BitVec 8) (data : BitVec 64), s.devStep (.bar0RegisterWrite off size be data) fun d =>
    (s.dev.hif.answers = false ∨ (size ≠ 4 ∧ size ≠ 8) ∨ off % size ≠ 0 → d = s.dev) ∧
    (off = 0x2000 → size = 8 → be = 0xFF#8 → exec (.hifIntCauseWrite data) s = .next { s with dev := d }) ∧
    (off = 0x3000 → size = 8 → be = 0xFF#8 → exec (.hifAlarmWrite data) s = .next { s with dev := d }) ∧
    (off = 0x2008 → size = 8 → be = 0xFF#8 → s.dev.hif.answers = true →
      d.hif.mask = data.setWidth 43 ∧ d.bar0Read 0x2008 8 = (data.setWidth 43).setWidth 64) ∧
    (off = 0x200C → size = 4 → be = 0x0F#8 → s.dev.hif.answers = true →
      d.hif.mask.setWidth 32 = s.dev.hif.mask.setWidth 32 ∧ (d.hif.mask >>> 32).setWidth 11 = data.setWidth 11) ∧
    (∀ m : Fin 8, off = 0x1000 + 256 * m → size = 4 → be = 0x0F#8 → s.dev.hif.answers = true →
      exec (.mbCtrlWrite m (data.setWidth 32)) s = .next { s with dev := d }) ∧
    (∀ r : Fin 16, off = 0x100 + 16 * r → size = 4 → be = 0x0F#8 → s.dev.hif.answers = true →
      exec (.sqTailWrite r (data.setWidth 16)) s = .next { s with dev := d })) ∧
  (∀ (s : State) (v : Fin 64), s.devStep (.msixGapExpiry v) fun d =>
    if s.dev.hif.gapHeld.contains v.val = true ∧ s.dev.vecInGap v = false then
      d.hif.gapHeld = s.dev.hif.gapHeld.filter (· != v.val) ∧
      (s.dev.hif.msixEnable = true → s.dev.hif.msixFuncMask = false → s.dev.hif.msixUnmasked.contains v.val = true →
        d.out = .msix v (tgetD s.dev.hif.msixEntry (0, 0) v).1 (tgetD s.dev.hif.msixEntry (0, 0) v).2 :: s.dev.out)
    else d = s.dev) ∧
  (∀ (s : State) (v : Fin 64) (a : BitVec 64) (x : BitVec 32) (b : Bool), s.devStep (.msixVectorMaskWrite v ⟨a, x, b⟩) fun d =>
    if s.dev.hif.answers then
      d.hif.msixUnmasked.contains v.val = !b ∧ d.hif.cause = s.dev.hif.cause ∧ tgetD d.hif.msixEntry (0, 0) v.val = (a, x)
    else d = s.dev) ∧
  (∀ (d : Dev) (off size : Nat), ((size ≠ 4 ∧ size ≠ 8) ∨ off % size ≠ 0) → d.bar0Read off size = 0) ∧
  (∀ d : Dev, d.bar0Read 0 8 = 0x7100A100#64 ∧ d.bar0Read 0x2000 8 = d.hif.cause.setWidth 64 ∧ d.bar0Read 0x3000 8 = d.hif.alarm.setWidth 64)

/-- When a ring has its turn, a failed read stops it and raises EV_HIF_RING_FAULT, and a good entry whose tag is free joins the command
list. The ring commands answer as Table 15.9 and R486 have it: a request that breaks the table completes with BAD_ARG, one for a ring that
exists (or, for a delete, that is in use) with REFUSED_BUSY; a delete of no ring answers 0. HIF_SET_PUNT answers the applied CIR. -/
def Obligations.RingRowsComplete : Prop :=
  (∀ (s : State) (r : Fin 16) (e : HostRead), s.devStep (.submissionTake r e) fun d =>
    if s.dev.hif.up = true ∧ s.dev.hif.chrysalis = false ∧ s.dev.hif.reset = none ∧ s.dev.hif.headless = false ∧
        s.dev.sqTurn = some r.val then
      match tget s.dev.hif.sq r with
      | none => d = s.dev
      | some q =>
        (e = none → tget d.hif.sq r = some { q with stopped := true }) ∧
        (∀ b, e = some b → s.dev.tagFault r (field b 4 2) = none → Dev.entryBad b r = false → (tget s.dev.hif.cq q.cq).isSome = true →
          d.hif.cmds = s.dev.hif.cmds ++ [Dev.entryCmd b r s.dev.hif.intake] ∧
          tget d.hif.sq r = some { q with head := (q.head + 1) % q.size })
    else d = s.dev) ∧
  (∀ (s : State) (src : Src) (c : Cmd), s.runs 0x0001 src c →
    if Dev.ringArgsOk c.inl = false ∨ (field c.inl 0 1 = 0 ∧ tget s.dev.hif.cq (field c.inl 3 1) = none) then
      s.replies (.hifRingCreate src) c (s.refusal .badArg)
    else if s.dev.ringExists (field c.inl 0 1) (field c.inl 1 1) then s.replies (.hifRingCreate src) c (s.refusal .refusedBusy)
    else ∃ x : Dev, s.replies (.hifRingCreate src) c (.done x {}) ∧ x.ringExists (field c.inl 0 1) (field c.inl 1 1) = true ∧
      (field c.inl 0 1 = 0 → tget x.hif.sq (field c.inl 1 1) =
        some { size := 2 ^ field c.inl 2 1, cq := field c.inl 3 1, base := field c.inl 8 8 }) ∧
      (field c.inl 0 1 = 1 → tget x.hif.cq (field c.inl 1 1) = some { size := 2 ^ field c.inl 2 1, base := field c.inl 8 8 })) ∧
  (∀ (s : State) (src : Src) (c : Cmd), s.runs 0x0002 src c → s.replies (.hifRingDelete src) c (
    let kind := field c.inl 0 1; let idx := field c.inl 1 1
    if Dev.ringLimit kind ≤ idx then s.refusal .badArg
    else if s.dev.ringInUse kind idx then s.refusal .refusedBusy
    else if s.dev.ringExists kind idx then
      .done { s.dev with hif := (match kind with
        | 0 => { s.dev.hif with sq := tdel s.dev.hif.sq idx }
        | 1 => { s.dev.hif with cq := tdel s.dev.hif.cq idx }
        | 2 => { s.dev.hif with ev := none }
        | 3 => { s.dev.hif with punt := tdel s.dev.hif.punt idx }
        | _ => { s.dev.hif with inj := tdel s.dev.hif.inj idx }) } { result := 1 }
    else .done s.dev {})) ∧
  (∀ (s : State) (src : Src) (c : Cmd), s.runs 0x0004 src c → c.bad 0 = false → c.dirty 16 16 = false → c.f 3 1 < 2 → 64 ≤ c.f 4 4 →
    c.f 4 4 ≤ 4194304 → 1 ≤ c.f 8 8 → c.f 8 8 ≤ 200000000 →
    let p : OwnPol := { cir := applied (c.f 8 8), cbs := c.f 4 4, add20 := bit (c.f 3 1) 0, bucket := Bucket.full (c.f 4 4) s.dev.now }
    (c.f 0 1 = 0 → c.f 2 1 < 8 → s.replies (.hifSetPunt src) c (.done { s.dev with hif := { s.dev.hif with
        trapPol := tput s.dev.hif.trapPol (c.f 1 1) p, trapRing := tput s.dev.hif.trapRing (c.f 1 1) (c.f 2 1) } }
      { result := applied (c.f 8 8) })) ∧
    (c.f 0 1 = 0 → c.f 2 1 = 0xFF → s.replies (.hifSetPunt src) c (.done { s.dev with hif := { s.dev.hif with
        trapPol := tput s.dev.hif.trapPol (c.f 1 1) p, trapRing := tdel s.dev.hif.trapRing (c.f 1 1) } } { result := applied (c.f 8 8) })) ∧
    (c.f 0 1 = 1 → c.f 1 1 < 8 → c.f 2 1 = 0 → s.replies (.hifSetPunt src) c (
      if 200000000 < s.dev.ringPolSum (c.f 1 1) + applied (c.f 8 8) then s.refusal .budgetExceeded
      else .done { s.dev with hif := { s.dev.hif with ringPol := tput s.dev.hif.ringPol (c.f 1 1) p } } { result := applied (c.f 8 8) }))) ∧
  (∀ (s : State) (src : Src) (c : Cmd), s.runs 0x0005 src c →
    let row (t : Tab PktCount) (k : Nat) : List Fld :=
      [fCnt (tgetD t {} k).frames, fCnt (tgetD t {} k).bytes, fCnt (tgetD t {} k).polDisc, fCnt (tgetD t {} k).fullDisc]
    s.replies (.hifGetPktStatus src) c (
      if c.bad 0 then s.refusal .badHandle
      else s.report c (fArr ((List.range 8).map (row s.dev.hif.puntCount)) ++ fArr ((List.range 8).map (row s.dev.hif.injCount)))))

/-- DEV_GET_INFO answers the part number, the stepping and the interface version; OBJ_GET_STATE answers the state code of the object its handle
names with the held flag in bit 8. A slot of the inject ring that has its turn is consumed, its head is written back and its cause is set.
Before the interface answers an SMBus read is stretched and NACKed; afterwards a code of the set under its own protocol is answered and anything
else is NACKed. -/
def Obligations.InformationRowsComplete : Prop :=
  (∀ (s : State) (src : Src) (c : Cmd), s.runs 0x0000 src c → c.bad 0 = false → c.dirty 0 32 = false →
    ∃ b, s.replies (.devGetInfo src) c (.done s.dev { record := some b, result := Config.wcpVersion.toNat }) ∧
      field b 0 2 = 0x7100 ∧ field b 2 2 = 0xA1) ∧
  (∀ (s : State) (src : Src) (c : Cmd), s.runs 0x0006 src c → c.dirty 0 32 = false → c.bad c.hType = false →
    (c.hType = 0x0F → Dev.queueBad c = false) →
    s.replies (.objGetState src) c (match s.dev.objOf c.hType c.hIdx with
      | none => s.refusal .badHandle
      | some o => .done s.dev { result := o.st.code + 256 * b2n o.held })) ∧
  (∀ (s : State) (r : Fin 8) (hdr : HostRead) (f : RxFrame), s.devStep (.injectSlotRead r hdr f) fun d =>
    match tget s.dev.hif.inj r with
    | none => d = s.dev
    | some q =>
      if s.dev.injTurn = some r.val ∧ s.dev.hif.reset = none ∧ s.dev.hif.injPace ≤ s.dev.now then
        tget d.hif.inj r = some { q with head := if q.head + 1 = q.size then 0 else q.head + 1 } ∧ d.hif.injLast = r ∧
        d.hif.cause.getLsbD (25 + r) = true
      else d = s.dev) ∧
  (∀ (s : State) (p : SmbProto) (code : BitVec 8), s.devStep (.smbusHealthRead p code) fun d =>
    if s.dev.hif.answers then
      d.hif = s.dev.hif ∧ ∃ a, d.out = .smbus a false :: s.dev.out ∧
        (code.toNat = 0 → a = if p = .word then some (le 2 0x7100) else none) ∧
        (code.toNat = 2 → a = if p = .byte then some (le 1 s.dev.stateWord) else none) ∧
        (code.toNat = 4 → a = if p = .word then some (le 2 s.dev.hif.alarm.toNat) else none)
    else d = { s.dev with out := .smbus none true :: s.dev.out })

/-- PORT_SET_MODE with operands inside Table 2.8 redefines a STOPPED port, or gives up its definition for width 0, and is refused busy in any
other state; PORT_SET_ABILITIES, PORT_SET_LIMITS, FRM_SET_TTI and FRM_SET_ACTIONS store what they name, or answer BAD_HANDLE or BAD_ARG and
change nothing. A new mode or framing puts the abilities back to that mode alone with negotiation off. A link that is up in a mode that is no longer
allowed, or that negotiation off no longer names, goes down and the cycle runs anew. TIM that begins to act switches the port. -/
def Obligations.PortSettingRowsComplete : Prop :=
  (∀ (s : State) (src : Src) (c : Cmd), s.runs 0x0100 src c → c.bad 1 = false → c.f 1 1 ≤ 2 → c.f 2 1 ≤ 1 → c.f 3 1 ≤ 1 →
    c.dirty 4 28 = false →
    (c.f 0 1 = 0 ∨ (c.f 0 1 ∈ [1, 2, 4, 8] ∧ c.hIdx % c.f 0 1 = 0 ∧ s.dev.lanesTaken c.hIdx (c.f 0 1) = false ∧
      (c.f 2 1 = 1 → c.f 0 1 * (100 * 2 ^ c.f 1 1) ∈ [400, 800, 1600]))) →
    s.replies (.portSetMode src) c (
      let q := s.dev.getPort c.hIdx
      if q.obj.st ≠ .stopped then s.refusal .refusedBusy
      else if c.f 0 1 = 0 then
        .done (if q.width = 0 then s.dev else s.dev.setPort c.hIdx { q with width := 0, otucn := false, resolved := none }) {}
      else
        let new := q.width = 0 ∨ q.laneMode ≠ c.f 1 1 ∨ q.otucn ≠ (c.f 2 1 == 1)
        .done (s.dev.setPort c.hIdx { q with
          width := c.f 0 1, laneMode := c.f 1 1, otucn := c.f 2 1 == 1, cr := c.f 3 1 == 1, resolved := none
          allowed := if new then 2 ^ c.f 1 1 else q.allowed, negotiate := if new then false else q.negotiate }) {})) ∧
  (∀ (s : State) (src : Src) (c : Cmd), s.runs 0x0103 src c →
    let q := s.dev.getPort c.hIdx
    let d1 := s.dev.setPort c.hIdx { q with allowed := c.f 0 1, negotiate := c.f 1 1 == 1 }
    s.replies (.portSetAbilities src) c (
      if c.bad 1 then s.refusal .badHandle
      else if c.f 0 1 = 0 ∨ 8 ≤ c.f 0 1 ∨ 1 < c.f 1 1 ∨ c.dirty 2 30 = true ∨ (q.otucn = true ∧ c.f 1 1 = 1) then s.refusal .badArg
      else if q.obj.st ≠ .running then .done d1 {}
      else if q.link = .up ∧ bit (c.f 0 1) (Dev.portMode q) = true ∧ (c.f 1 1 = 1 ∨ Dev.portMode q = q.laneMode) then .done d1 {}
      else if q.link = .up then .done ((d1.linkDown c.hIdx 2).startCycle c.hIdx) {}
      else .done (d1.startCycle c.hIdx) {})) ∧
  (∀ (s : State) (src : Src) (c : Cmd), s.runs 0x010C src c →
    let ok (n : Nat) : Prop := n = 0 ∨ (64 ≤ n ∧ n ≤ 16383)
    (c.bad 1 = true → s.replies (.portSetLimits src) c (s.refusal .badHandle)) ∧
    (c.bad 1 = false → ok (c.f 0 2) → ok (c.f 2 2) → c.dirty 4 28 = false →
      s.replies (.portSetLimits src) c (.done (s.dev.modPort c.hIdx fun q => { q with
        rxLimit := if c.f 0 2 = 0 then q.rxLimit else c.f 0 2, txLimit := if c.f 2 2 = 0 then q.txLimit else c.f 2 2 }) {})) ∧
    (c.bad 1 = false → ¬ (ok (c.f 0 2) ∧ ok (c.f 2 2) ∧ c.dirty 4 28 = false) →
      s.replies (.portSetLimits src) c (s.refusal .badArg))) ∧
  (∀ (s : State) (src : Src) (b : Bytes) (c : Cmd), s.runs 0x0107 src c → c.bad 1 = false → (s.dev.getPort c.hIdx).otucn = true →
    field b 128 1 ≤ 3 → field b 129 1 ≤ 1 → isZero b 130 6 = true →
    let q := s.dev.getPort c.hIdx
    let q1 : Port := { q with txTti := slice b 0 64, expTti := slice b 64 64, ttiMode := field b 128 1, timAction := field b 129 1 == 1 }
    (q.raw.getLsbD 5 = false → s.replies (.frmSetTti src (some b)) c (.done (s.dev.setPort c.hIdx q1) {})) ∧
    ∃ x : Dev, s.replies (.frmSetTti src (some b)) c (.done x {}) ∧ (x.getPort c.hIdx).txTti = q1.txTti ∧
      (x.getPort c.hIdx).expTti = q1.expTti ∧ (x.getPort c.hIdx).ttiMode = q1.ttiMode ∧ (x.getPort c.hIdx).timAction = q1.timAction ∧
      (q.raw.getLsbD 5 = true → q.timAction = false → q1.timAction = true → q.holdoffMs = 0 → (x.getPort c.hIdx).protDown = true)) ∧
  (∀ (s : State) (src : Src) (c : Cmd), s.runs 0x0108 src c → s.replies (.frmSetActions src) c (
    if c.bad 1 then s.refusal .badHandle
    else if 10000 < c.f 0 2 ∨ c.dirty 2 2 = true ∨ 3600000 < c.f 4 4 ∨ c.dirty 8 24 = true then s.refusal .badArg
    else .done (s.dev.modPort c.hIdx fun q => { q with holdoffMs := c.f 0 2, wtrMs := c.f 4 4 }) {}))

/-- PORT_ENABLE and PORT_DISABLE take the step of Table 16.5 on the port's object; an enable of an undefined port answers NOT_READY; a start-up
draws the identity and powers the lanes, a disable of a RUNNING port takes its link down. When the lanes are ready a STARTING port is RUNNING and its
detection cycle begins; when its queues are drained or its bound has elapsed a STOPPING port is stopped with its lanes powered down, or starts
again when an enable is held. -/
def Obligations.PortObjectRowsComplete : Prop :=
  (∀ (s : State) (src : Src) (c : Cmd), s.runs 0x0101 src c → s.replies (.portEnable src) c (
    let q := s.dev.getPort c.hIdx
    let r := q.obj.enable s.dev.nowNs
    if c.bad 1 then s.refusal .badHandle
    else if q.width = 0 then s.refusal .notReady
    else if q.obj.st = .stopped then
      .done ((s.dev.setPort c.hIdx { q with obj := { q.obj with
        st := .starting, prev := .stopped, since := s.dev.nowNs, failed := false, cancelled := false } }).portStarting c.hIdx) {}
    else .done (s.dev.setPort c.hIdx { q with obj := r.obj }) { status := r.status })) ∧
  (∀ (s : State) (src : Src) (c : Cmd), s.runs 0x0102 src c → s.replies (.portDisable src) c (
    let q := s.dev.getPort c.hIdx
    let r := q.obj.disable s.dev.nowNs (s.dev.now + msT 5)
    if c.bad 1 then s.refusal .badHandle
    else if q.obj.st = .running then
      .done (((s.dev.leaveRunning c.hIdx).modPort c.hIdx fun x => { x with obj := r.obj }).binsIncomplete c.hIdx) { status := .ok }
    else .done (s.dev.setPort c.hIdx { q with obj := r.obj }) { status := r.status })) ∧
  (∀ (s : State) (p : Fin 256), s.devStep (.lanesReady p) fun d =>
    let q := s.dev.getPort p
    if q.obj.st = .starting then
      (d.getPort p).obj = q.obj.started s.dev.nowNs ∧
      (q.negotiate = false → q.laneMode = 2 → (d.getPort p).cycle = .ability ∧ (d.getPort p).stepDue = some (s.dev.now + msT 20) ∧
        ∀ l ∈ s.dev.lanesOf p, (d.getLane l).step = 1) ∧
      (q.negotiate = false → q.laneMode ≠ 2 → (d.getPort p).trained = true ∧ (d.getPort p).resolved = some q.laneMode) ∧
      (q.negotiate = true → bit q.allowed 2 = false → (d.getPort p).cycle = .autoneg)
    else d = s.dev) ∧
  (∀ (s : State) (p : Fin 256), s.devStep (.portStopDone p) fun d =>
    let q := s.dev.getPort p
    if q.obj.st = .stopping ∧ (s.dev.portQueued p = false ∨ due s.dev.now q.obj.due = true) then
      (d.getPort p).obj = q.obj.stopped s.dev.nowNs ∧ (d.getPort p).link = .down ∧ tgetD d.tx [] p = [] ∧
      (q.obj.held = false → ∀ l ∈ s.dev.lanesOf p, d.getLane l = {}) ∧
      (q.obj.held = true → ∀ l ∈ s.dev.lanesOf p, (d.getLane l).power = true)
    else d = s.dev)

/-- A measurement is taken up for a RUNNING port with signal on every lane and no measurement in progress, and completes when its values are
there: with one record per lane, with the mean, least and greatest delay, or with TIMEOUT when no exchange was answered. The status, defect and
bin commands answer their records. -/
def Obligations.PortReadingRowsComplete : Prop :=
  (∀ (s : State) (src : Src) (c : Cmd), s.runs 0x0104 src c →
    ∃ body, s.replies (.portGetStatus src) c (if c.bad 1 then s.refusal .badHandle else s.report c body) ∧
      body.take 3 = [fByte (s.dev.getPort c.hIdx).obj.st.code,
        fByte (match (s.dev.getPort c.hIdx).link with | .down => 0 | .training => 1 | .up => 2),
        fByte ((s.dev.getPort c.hIdx).resolved.getD (Config.absent 0))]) ∧
  (∀ (s : State) (src : Src) (c : Cmd), s.runs 0x0105 src c → s.replies (.laneMeasure src) c (
    if c.bad 1 then s.refusal .badHandle
    else if (c.f 0 1 ≠ 0 ∧ (c.f 0 1 < 40 ∨ 100 < c.f 0 1)) ∨ c.dirty 1 31 = true then s.refusal .badArg
    else if (s.dev.getPort c.hIdx).obj.st ≠ .running ∨ (s.dev.lanesOf c.hIdx).any (fun l => !(s.dev.getLane l).signal) = true then
      s.refusal .notReady
    else if s.dev.measuring c.hIdx then s.refusal .refusedBusy
    else .pend s.dev)) ∧
  (∀ (s : State) (src : Src) (c : Cmd), s.runs 0x0106 src c → ∃ x : Dev, s.replies (.portMeasureRtt src) c (
      if c.bad 1 then s.refusal .badHandle
      else if (c.f 0 2 ≠ 0 ∧ (c.f 0 2 < 16 ∨ 256 < c.f 0 2)) ∨ c.dirty 2 30 = true then s.refusal .badArg
      else if (s.dev.getPort c.hIdx).obj.st ≠ .running then s.refusal .notReady
      else if s.dev.measuring c.hIdx then s.refusal .refusedBusy
      else .pend x) ∧ (x.getPort c.hIdx).rttAt = some s.dev.now ∧
    ((s.dev.getPort c.hIdx).obj.st = .running → s.dev.pwr.trip = false → x.out.length = s.dev.out.length + Dev.rttCount c)) ∧
  (∀ (s : State) (p : Fin 256) (ms : List LaneMeas), s.devStep (.laneMeasureDone p ms) fun d =>
    match s.dev.startedCmd 0x0105 (·.handle == Dev.portHandle p) with
    | none => d = s.dev
    | some c =>
      if ms.length = (s.dev.getPort p).width then ∃ b : Bytes, d = s.dev.complete c { record := some b } ∧ b.length = 64 * ms.length else d = s.dev) ∧
  (∀ (s : State) (p : Fin 256) (rtts : List Nat), s.devStep (.rttMeasureDone p rtts) fun d =>
    match s.dev.startedCmd 0x0106 (·.handle == Dev.portHandle p), rtts with
    | none, _ => d = s.dev
    | some c, [] => d = if due s.dev.now ((s.dev.getPort p).rttAt.map (· + msT 100)) then s.dev.complete c { status := .timeout } else s.dev
    | some c, r :: rs => d = if (r :: rs).length = Dev.rttCount c then s.dev.complete c
        { result := (r :: rs).sum / (r :: rs).length, extra := rs.foldl min r + rs.foldl max r * 2 ^ 64 } else s.dev) ∧
  (∀ (s : State) (src : Src) (c : Cmd), s.runs 0x0109 src c → ∃ b, s.replies (.frmGetDefects src) c (
      if c.bad 1 then s.refusal .badHandle else .done s.dev { record := some b }) ∧
      field b 0 2 = c.hIdx % 65536 ∧ field b 4 4 = (s.dev.defectWords c.hIdx).1 % 2 ^ 32 ∧ field b 8 4 = (s.dev.defectWords c.hIdx).2 % 2 ^ 32) ∧
  (∀ (s : State) (src : Src) (c : Cmd), s.runs 0x010A src c → ∃ (n : Nat) (b : Bytes), n ≤ c.f 1 1 ∧ b.length = 64 * n ∧
    s.replies (.pmGetBins src) c (
      if c.bad 1 then s.refusal .badHandle
      else if 1 < c.f 0 1 ∨ c.f 1 1 = 0 ∨ (if c.f 0 1 = 1 then 3 else 33) < c.f 1 1 ∨ c.dirty 2 2 = true ∨ c.dirty 8 24 = true then
        s.refusal .badArg
      else .done s.dev { result := n, record := some b })) ∧
  (∀ (s : State) (src : Src) (c : Cmd), s.runs 0x010B src c →
    let t (old : Tca) : Tca := { old with es := c.f 4 4, ses := c.f 8 4, uas := c.f 12 4, bbe := c.f 16 8 }
    s.replies (.pmSetTca src) c (
      if c.bad 1 then s.refusal .badHandle
      else if 1 < c.f 0 1 ∨ c.dirty 1 3 = true ∨ c.dirty 24 8 = true then s.refusal .badArg
      else .done ((s.dev.modPort c.hIdx fun q =>
        if c.f 0 1 = 1 then { q with tcaDay := t q.tcaDay } else { q with tca15 := t q.tca15 }).tcaCheck c.hIdx (c.f 0 1 == 1)) {}))

/-- On a RUNNING port a valid ABILITY frame of step 1 is counted and one of the same partner during data or a later step takes the link down
and restarts training; an invalid one starts the count anew. Each TRAIN frame is answered by one, and a ready receiver moves its lane to READY, the
port when all lanes are; at the last frame of the countdown between two ready receivers, or at the end of IEEE link training, data starts once
every other lane has ended training. A page with a common mode resolves it. The timeouts act only when they are due and the port is in their phase. -/
def Obligations.TrainingRowsComplete : Prop :=
  (∀ (s : State) (l : Fin 256) (ctl st : BitVec 32), s.devStep (.abilityFrame l ctl st) fun d =>
    match s.dev.portOf l with
    | none => d = s.dev
    | some p =>
      let q := s.dev.getPort p
      let ok := Dev.parityOk ctl = true ∧ Dev.parityOk st = true ∧ ctl.toNat / 2 ^ 30 = 0
      (q.obj.st ≠ .running → d = s.dev) ∧
      (q.obj.st = .running → ¬ ok → q.cycle = .ability → d = s.dev.modLane l fun x => { x with abCount := 0 }) ∧
      (q.obj.st = .running → ¬ ok → q.cycle ≠ .ability → d = s.dev) ∧
      (q.obj.st = .running → ok → q.cycle = .ability → d = s.dev.abilityCount p l ctl.toNat (st.toNat / 2)) ∧
      (q.obj.st = .running → ok → q.cycle = .train ∨ q.cycle = .ready → q.partnerId = some (st.toNat / 2) →
        d = ((s.dev.linkDown p 4).startAbility p).abilityCount p l ctl.toNat (st.toNat / 2)) ∧
      (q.obj.st = .running → ok → q.cycle = .train ∨ q.cycle = .ready → q.partnerId ≠ some (st.toNat / 2) →
        (d.getPort p).partnerId = some (st.toNat / 2) ∧ (d.getPort p).link = .down ∧ (d.getPort p).cycle = .ability)) ∧
  (∀ (s : State) (l : Fin 256) (ctl st : BitVec 32) (ad : BitVec 9) (rdy : Bool), s.devStep (.trainFrame l ctl st ad rdy) fun d =>
    match s.dev.portOf l with
    | none => d = s.dev
    | some p =>
      let q := s.dev.getPort p
      if q.obj.st = .running ∧ (q.cycle = .train ∨ q.cycle = .ready) ∧ (Dev.parityOk ctl = true → ctl.toNat / 2 ^ 30 = 1) then
        (s.dev.pwr.trip = false → (s.dev.getLane l).step < 4 → rdy = false → (s.dev.getLane l).rxReady = false →
          ∃ c w, d.out = .laneFrame l 1 c w :: s.dev.out) ∧
        ((s.dev.getLane l).step < 4 → rdy = true →
          (d.getLane l).rxReady = true ∧ (d.getLane l).step = 4 ∧ (d.getLane l).countdown = 7 ∧
          ((∀ k ∈ s.dev.lanesOf p, k ≠ l.val → 4 ≤ (s.dev.getLane k).step) → (d.getPort p).cycle = .ready) ∧
          ((∃ k ∈ s.dev.lanesOf p, k ≠ l.val ∧ (s.dev.getLane k).step < 4) → (d.getPort p).cycle = .train) ∧
          (Dev.parityOk st = true → (d.getLane l).peerReady = bit st.toNat 31))
      else d = s.dev) ∧
  (∀ (s : State) (l : Fin 256) (ctl st : BitVec 32) (ad : BitVec 9) (rdy : Bool), s.devStep (.readyFrame l ⟨ctl, st⟩ ⟨ad, rdy⟩) fun d =>
    match s.dev.portOf l with
    | none => d = s.dev
    | some p =>
      let q := s.dev.getPort p
      if q.obj.st = .running ∧ (q.cycle = .train ∨ q.cycle = .ready) ∧ (Dev.parityOk ctl = true → ctl.toNat / 2 ^ 30 = 2) then
        (2 ≤ (s.dev.getLane l).countdown → (s.dev.getLane l).step = 4 → (d.getLane l).countdown = (s.dev.getLane l).countdown - 1) ∧
        ((s.dev.getLane l).countdown = 1 → (s.dev.getLane l).step = 4 → (s.dev.getLane l).rxReady = true → Dev.parityOk st = true →
          bit st.toNat 31 = true → (∀ k ∈ s.dev.lanesOf p, k ≠ l.val → (s.dev.getLane k).step = 5) → (d.getPort p).trained = true)
      else d = s.dev) ∧
  (∀ (s : State) (p : Fin 256), s.devStep (.abilityTimeout p) fun d =>
    let q := s.dev.getPort p
    if q.obj.st = .running ∧ q.cycle = .ability ∧ due s.dev.now q.stepDue = true then
      d = if q.anyAbility = false ∧ q.negotiate = true ∧ q.allowed % 4 ≠ 0 then s.dev.startAutoneg p
          else s.dev.setPort p { q with stepDue := none }
    else d = s.dev) ∧
  (∀ (s : State) (p : Fin 256), s.devStep (.trainTimeout p) fun d =>
    let q := s.dev.getPort p
    if q.obj.st = .running ∧ q.cycle = .train ∧ due s.dev.now q.stepDue = true then
      let l := ((s.dev.lanesOf p).find? fun l => decide ((s.dev.getLane l).step < 4)).getD p
      d = (s.dev.raisePort p 0x0105 sevMinor [fIdx l, fByte (s.dev.getLane l).step]).restartWait p
    else d = s.dev) ∧
  (∀ (s : State) (p : Fin 256), s.devStep (.trainingRestartDelay p) fun d =>
    let q := s.dev.getPort p
    d = if q.obj.st = .running ∧ q.cycle = .restartWait ∧ due s.dev.now q.stepDue = true then s.dev.startAbility p else s.dev) ∧
  (∀ (s : State) (p : Fin 256) (ab : BitVec 3) (pg : BitVec 48), s.devStep (.autonegPage p ab pg) fun d =>
    let q := s.dev.getPort p
    (q.obj.st ≠ .running ∨ q.negotiate = false → d = s.dev) ∧
    (q.obj.st = .running → q.negotiate = true → q.cycle = .autoneg → (∃ k < 2, bit ab.toNat k = true ∧ bit q.allowed k = true) →
      (d.getPort p).cycle = .linkTrain ∧ (d.getPort p).link = .training ∧
      (d.getPort p).resolved = some (if bit ab.toNat 1 && bit q.allowed 1 then 1 else 0))) ∧
  (∀ (s : State) (p : Fin 256), s.devStep (.autonegTimeout p) fun d =>
    let q := s.dev.getPort p
    d = if q.obj.st = .running ∧ (q.cycle = .autoneg ∨ q.cycle = .linkTrain) ∧ due s.dev.now q.stepDue = true then s.dev.startCycle p else s.dev) ∧
  (∀ (s : State) (p : Fin 256), s.devStep (.partnerGoneTimeout p) fun d =>
    let q := s.dev.getPort p
    if q.obj.st = .running ∧ q.width ≠ 0 ∧ q.gone = false ∧
        (∀ l ∈ s.dev.lanesOf p, (s.dev.getLane l).signal = false ∧ (s.dev.getLane l).sigSince + msT 100 ≤ s.dev.now) then
      d = (s.dev.setPort p { q with gone := true }).raisePort p 0x0103 sevMinor []
    else d = s.dev) ∧
  (∀ (s : State) (l : Fin 256) (rq : BitVec 8) (done : Bool), s.devStep (.clause73LinkTraining l rq done) fun d =>
    match s.dev.portOf l with
    | none => d = s.dev
    | some p =>
      if (s.dev.getPort p).obj.st = .running ∧ (s.dev.getPort p).cycle = .linkTrain then
        done = true → (∀ k ∈ s.dev.lanesOf p, k ≠ l.val → (s.dev.getLane k).step = 5) → (d.getPort p).trained = true
      else d = s.dev)

/-- A change of signal on a lane of a port that is not STOPPED is recorded with its time; a codeword within RS(544,514) counts its symbols and one
beyond counts as uncorrectable; two markers in place make lock; an OTUC frame counts its violations and its runs, and a frame is sent with the
next MFAS, its trace byte and the violations as BEI; a fault sequence is kept by
its column. A lane of no port, or of a port that does not receive, sees nothing. -/
def Obligations.LineReceiveRowsComplete : Prop :=
  (∀ (s : State) (l : Fin 256) (b : Bool), s.devStep (.laneSignalChange l b) fun d =>
    match s.dev.portOf l with
    | none => d = s.dev
    | some p =>
      if (s.dev.getPort p).obj.st = .stopped ∨ (s.dev.getLane l).signal = b then d = s.dev
      else (d.getLane l).signal = b ∧ (d.getLane l).sigSince = s.dev.now ∧
        (b = false → (d.getLane l).blockLock = false ∧ (d.getLane l).amLock = false)) ∧
  (∀ (s : State) (l : Fin 256) (e f : Nat), s.devStep (.codewordReceive l e f) fun d =>
    match s.dev.portOf l with
    | none => d = s.dev
    | some p =>
      let x := s.dev.getLane l
      if (s.dev.getPort p).obj.st ≠ .stopped ∧ x.signal = true ∧ (s.dev.getPort p).trained = true then
        (2 * e + f ≤ 30 → (d.getLane l).rsCorr = x.rsCorr + e + f ∧ (d.getLane l).erasures = x.erasures + f ∧
          (d.getLane l).uncorrSince = none) ∧
        (30 < 2 * e + f → (d.getLane l).rsUncorr = x.rsUncorr + 1 ∧ (d.getLane l).uncorrSince = some (x.uncorrSince.getD s.dev.now))
      else d = s.dev) ∧
  (∀ (s : State) (p : Fin 256) (o : OtucIn), s.devStep (.otucFrame p o) fun d =>
    let q := s.dev.getPort p
    if q.obj.st = .running ∧ q.otucn = true then
      let r := d.getPort p
      let m := (q.txMfas + 1) % 256
      r.secBlocks = q.secBlocks + o.fas.length ∧ r.aisRun = (if o.stat = 7 then q.aisRun + 1 else 0) ∧
      r.bdiRun = (if o.bdi then q.bdiRun + 1 else 0) ∧ r.lastMfas = o.mfas ∧
      (q.trained = true → s.dev.pwr.trip = false → r.txMfas = m ∧ ∃ sm pm bei, Emission.otuc p m (q.txTti.getD (m % 64) 0) sm pm bei 0 ∈ d.out ∧
        bei = if r.oof then o.bip8.map fun _ => 0 else o.bip8)
    else d = s.dev) ∧
  (∀ (s : State) (p : Fin 256) (rem : Bool) (col : Nat), s.devStep (.faultOrderedSet p rem col) fun d =>
    let q := s.dev.getPort p
    let keep (l : List Nat) : List Nat := (col :: l.filter fun c => decide (col < c + 128)).take 4
    if q.obj.st = .running ∧ q.otucn = false then
      d = s.dev.setPort p (if rem then { q with rfCols := keep q.rfCols, rfTick := s.dev.now }
                           else { q with lfCols := keep q.lfCols, lfTick := s.dev.now })
    else d = s.dev) ∧
  (∀ (s : State) (l : Fin 256) (inPlace blk cal : Bool), s.devStep (.alignmentMarker l inPlace blk cal) fun d =>
    match s.dev.portOf l with
    | none => d = s.dev
    | some p =>
      let x := s.dev.getLane l
      if (s.dev.getPort p).obj.st ≠ .stopped ∧ x.signal = true ∧ (s.dev.getPort p).trained = true then
        (d.getLane l).blockLock = blk ∧ (inPlace = true → x.amLock = true ∨ 1 ≤ x.amHits → (d.getLane l).amLock = true) ∧
        (inPlace = false → x.amLock = false → (d.getLane l).amLock = false) ∧
        (inPlace = false → x.amLock = true → ((d.getLane l).amLock = true ↔ x.amMiss + 1 < Dev.markerLoss (s.dev.getPort p)))
      else d = s.dev)

/-- A defect of a RUNNING port is declared when its entry criterion holds and cleared when its exit criterion holds; a declared switching defect
without a hold-off takes protection down. The hold-off, the wait to restore and the link's persistence end when due. A second that has
ended is counted and a new one begins; at a boundary the sequence number of the bins rises by one; ten seconds later closed bins are final. -/
def Obligations.DefectRowsComplete : Prop :=
  (∀ (s : State) (p : Fin 256) (x : Defect), s.devStep (.defectDeclare p x) fun d =>
    let q := s.dev.getPort p
    if q.obj.st = .running ∧ q.raw.getLsbD (Dev.defectBit x) = false ∧ s.dev.defectEntry p x = true then
      (d.getPort p).raw = q.raw ||| BitVec.ofNat 9 (2 ^ Dev.defectBit x) ∧
      ((Dev.switchMask q).getLsbD (Dev.defectBit x) = true → q.holdoffMs = 0 → (d.getPort p).protDown = true) ∧
      (x = .los ∨ x = .lof ∨ x = .loa → (d.getPort p).link = .down)
    else d = s.dev) ∧
  (∀ (s : State) (p : Fin 256) (x : Defect), s.devStep (.defectClear p x) fun d =>
    let q := s.dev.getPort p
    if q.obj.st = .running ∧ q.raw.getLsbD (Dev.defectBit x) = true ∧ s.dev.defectExit p x = true then
      (d.getPort p).raw = q.raw &&& ~~~(BitVec.ofNat 9 (2 ^ Dev.defectBit x)) ∧ (d.getPort p).obj = q.obj
    else d = s.dev) ∧
  (∀ (s : State) (p : Fin 256), s.devStep (.linkDownPersist p) fun d =>
    let q := s.dev.getPort p
    d = if q.obj.st = .running ∧ Dev.cutting q.raw = true ∧ due s.dev.now q.persistDue = true then
      (s.dev.setPort p { q with persistDue := none }).startCycle p else s.dev) ∧
  (∀ (s : State) (p : Fin 256), s.devStep (.holdoffExpiry p) fun d =>
    let q := s.dev.getPort p
    match q.holdoffDue.find? fun h => decide (h.2 ≤ s.dev.now) with
    | none => d = s.dev
    | some h => (d.getPort p).protDown = true ∧
        (q.protDown = false → d = (s.dev.setPort p { q with holdoffDue := [] }).protect p h.1)) ∧
  (∀ (s : State) (p : Fin 256), s.devStep (.wtrExpiry p) fun d =>
    let q := s.dev.getPort p
    d = if due s.dev.now q.wtrDue = true ∧ Dev.switching q = false ∧ s.dev.mayRelease p = true then s.dev.unprotect p else s.dev) ∧
  (∀ (s : State) (p : Fin 256), s.devStep (.pmSecond p) fun d =>
    let q := s.dev.getPort p
    if q.secUtc < s.dev.utcNow then
      (∃ f : Port → Port, (∀ r, (f r).secUtc = s.dev.utcNow ∧ (f r).secBlocks = 0 ∧ (f r).secNe = 0 ∧ (f r).secPart = false ∧
          (f r).bins15 = r.bins15 ∧ (f r).secRaw = Dev.counted r) ∧
        d = (if q.obj.st = .running then s.dev.closeSecond p else s.dev).modPort p f) ∧
      (∀ b r, q.obj.st = .running → q.secRun = true → q.secPart = false → q.bins15 = b :: r → b.seq = q.secSeq15 →
        ((d.getPort p).bins15.head?.map (·.duration)) = some (b.duration + 1))
    else d = s.dev) ∧
  (∀ (s : State) (day : Bool), s.devStep (.pmBinClose day) fun d =>
    let cur := match (if day then (s.dev.getPort 0).binsDay else (s.dev.getPort 0).bins15) with | b :: _ => b.start | [] => 0
    if cur / Dev.binLen day < s.dev.utcNow / Dev.binLen day then
      d.pmSeq day = (s.dev.pmSeq day + 1) % 2 ^ 32 ∧ d.pmSeq (!day) = s.dev.pmSeq (!day) ∧ d.out = s.dev.out
    else d = s.dev) ∧
  (∀ (s : State) (p : Fin 256) (day : Bool), s.devStep (.pmBinFinal p day) fun d =>
    ∃ f : Port → Port, d = s.dev.modPort p f ∧ ∀ q b r, (if day then q.binsDay else q.bins15) = b :: r →
      (if day then (f q).binsDay else (f q).bins15) =
        if b.start + 10 ≤ s.dev.utcNow then b :: r.map (fun x => { x with flags := putBit x.flags 5 false }) else b :: r)

/-- The record writer takes the oldest event when the store has room for its records and numbers it; the first coalescing counter closes into a
summary when the FIFO is shallow enough; the ring takes a whole number of records, pairs together, and sets its cause; an ended window
reports what it counted. The filter, statistics and test commands act as R531 to R533 say, and a critical event is never suppressed. -/
def Obligations.EventRowsComplete : Prop :=
  (∀ s : State, s.devStep .eventRecordWrite fun d =>
    match s.dev.evt.fifo with
    | [] => d = s.dev
    | e :: rest =>
      let rs := Dev.evRecords e s.dev.evt.nextSeq
      if s.dev.evt.store.length + rs.length ≤ 65536 then
        d.evt.fifo = rest ∧ d.evt.store = s.dev.evt.store ++ rs.map (fun b => (s.dev.evt.nextSeq, b)) ∧
        d.evt.nextSeq = (s.dev.evt.nextSeq + 1) % 2 ^ 32 ∧ d.evt.written = s.dev.evt.written + rs.length ∧
        rs.length = (if e.detail.length ≤ 32 then 1 else 2)
      else d = s.dev) ∧
  (∀ s : State, s.devStep .coalesceClose fun d =>
    match s.dev.evt.coal with
    | [] => d = s.dev
    | (t, c) :: rest =>
      if s.dev.evt.fifo.length ≤ 64 then
        d.evt.coal = rest ∧ ∃ e : Event, d.evt.fifo = s.dev.evt.fifo ++ [e] ∧ e.type = 2 ∧ e.sev = c.maxSev ∧
          field e.detail 0 2 = t % 65536 ∧ field e.detail 4 4 = c.count % 2 ^ 32
      else d = s.dev) ∧
  (∀ s : State, s.devStep .eventRingDeliver fun d =>
    match s.dev.hif.ev with
    | none => d = s.dev
    | some q =>
      let n := Dev.evBatch s.dev.evt.store (q.size - 1 - (q.tail + q.size - q.head) % q.size)
      if s.dev.hif.reset = none ∧ n ≠ 0 then
        d.evt.store = s.dev.evt.store.drop n ∧ d.hif.ev = some { q with tail := (q.tail + n) % q.size } ∧ d.hif.cause.getLsbD 16 = true
      else d = s.dev) ∧
  (∀ (s : State) (type : BitVec 16) (key : BitVec 64), s.devStep (.eventWindowEnd type key) fun d =>
    match s.dev.evWindow type.toNat key.toNat with
    | none => d = s.dev
    | some w =>
      if w.ends ≤ s.dev.now then
        match w.first with
        | none => d = { s.dev with evt := { s.dev.evt with
            windows := s.dev.evt.windows.filter fun x => !(x.type == type.toNat && x.key == key.toNat) } }
        | some e => d = (s.dev.mapWindow type.toNat key.toNat fun x => { x with ends := s.dev.now + secT 1, count := 0, first := none }).evPut
            { e with detail := patch e.detail w.countAt (le 4 (sat32 w.count)) }
      else d = s.dev) ∧
  (∀ (s : State) (src : Src) (c : Cmd), s.runs 0x0900 src c → s.replies (.evtSetFilter src) c (
    let ts := Dev.filterTypes (c.f 0 2) (c.f 2 1)
    if c.bad 0 then s.refusal .badHandle
    else if ts = [] ∨ 4 ≤ c.f 2 1 ∨ c.dirty 3 29 = true then s.refusal .badArg
    else .done { s.dev with evt := { s.dev.evt with suppress :=
      (s.dev.evt.suppress.filter fun t => !ts.contains t) ++ (if bit (c.f 2 1) 0 then ts else []) } } {})) ∧
  (∀ (s : State) (src : Src) (c : Cmd), s.runs 0x0901 src c → c.bad 0 = false →
    ∃ b : Bytes, b.length = 64 + 13 * 256 * 4 ∧ field b 0 8 = s.dev.evt.written % 2 ^ 64 ∧ field b 40 4 = s.dev.evt.nextSeq % 2 ^ 32 ∧
      s.replies (.evtGetStats src) c (.done { s.dev with evt := { s.dev.evt with hiFifo := s.dev.evt.fifo.length } } { record := some b })) ∧
  (∀ (s : State) (src : Src) (pl : HostRead) (c : Cmd), s.runs 0x0902 src c →
    ∃ x : Dev, (∃ e : Event, x = s.dev.evPut e ∧ e.type = 7 ∧ e.sev = c.f 0 1) ∧ s.replies (.evtTest src pl) c (
      if handleRange c.hType ≤ c.hIdx then s.refusal .badHandle
      else if 3 < c.f 0 1 ∨ c.dirty 1 31 = true ∨ (c.payload ≠ 0 ∧ pl = none) then s.refusal .badArg
      else .done x {}) ∧
      (c.f 0 1 = 3 → x.evt.suppressed = s.dev.evt.suppressed) ∧ tgetD x.evt.counts 0 7 = sat32 (tgetD s.dev.evt.counts 0 7 + 1))

/-- Whatever the FIFO, the counters and the filter hold, an event that is raised is counted for its type and goes to exactly one of three
places: the FIFO, whose earlier events keep their order before it, the counter of its type, or, unless it is critical, the suppressed count. It
enters the FIFO only where R523 leaves it an entry, and the first coalescing sets EVT_FLOOD. -/
def Obligations.EventGoesToOnePlace : Prop :=
  ∀ (d : Dev) (e : Event),
    tgetD (d.evPut e).evt.counts 0 e.type = sat32 (tgetD d.evt.counts 0 e.type + 1) ∧
    (d.evPut e).evt.fifo.length + (d.evPut e).evt.coalesced + (d.evPut e).evt.suppressed =
      d.evt.fifo.length + d.evt.coalesced + d.evt.suppressed + 1 ∧
    ((d.evPut e).evt.fifo = d.evt.fifo ∨ ((d.evPut e).evt.fifo = d.evt.fifo ++ [e] ∧ Dev.evFits d.evt.fifo e = true)) ∧
    (e.sev = 3 → (d.evPut e).evt.suppressed = d.evt.suppressed) ∧
    (d.evt.coalesced < (d.evPut e).evt.coalesced → d.evt.coal = [] → (d.evPut e).hif.alarm.getLsbD 6 = true)

/-- TBL_CREATE makes an on-die, extended or TCAM table where none exists and the space suffices, TBL_DESTROY removes one that no profile and no VRF
names, and the setting and reading commands store or answer what R153, R162, R171, R185 and R195 name, with NO_SPACE, REFUSED_BUSY and
BUDGET_EXCEEDED where the space, the use or the rate forbids it. -/
def Obligations.TableCommandRowsComplete : Prop :=
  (∀ (s : State) (src : Src) (c : Cmd), s.runs 0x0208 src c → c.hType = 0x06 → c.hIdx < 32 → c.f 0 1 ≤ 6 → c.f 1 1 ≤ 2 →
    (c.f 0 1 ≠ 6 → c.f 2 2 = 0 ∧ c.f 4 1 = 0) →
    (c.f 0 1 = 6 → 8 ≤ c.f 2 2 ∧ c.f 2 2 ≤ 320 ∧ 8 ≤ c.f 4 1 ∧ c.f 4 1 ≤ 64 ∧ c.f 2 2 + c.f 4 1 ≤ 376) →
    c.f 5 1 = 0 → c.f 6 1 = 0 ∨ (c.f 6 1 = 1 ∧ c.f 0 1 = 0) → c.f 7 1 = 0 → c.f 8 4 ≠ 0 → c.f 8 4 % 4096 = 0 →
    c.f 8 4 ≤ 1048576 → c.f 12 4 ≤ 86400 → c.dirty 20 12 = false →
    let bits := if c.f 0 1 = 6 then (c.f 2 2, c.f 4 1) else (kindBits (c.f 0 1)).getD (0, 0)
    let w := slotsOf (bits.1 + bits.2)
    s.replies (.tblCreate src) c (
      if (tget s.dev.fwd.tbl.em c.hIdx).isSome then s.refusal .refusedBusy
      else if 4194304 < 4 * c.f 8 4 * w + 16384 * w + (s.dev.fwd.tbl.em.map fun p => Dev.tableSlots p.2).sum then s.refusal .noSpace
      else .done (s.dev.setEm false c.hIdx {
        kind := c.f 0 1, evict := c.f 1 1, keyBits := bits.1, resBits := bits.2, w := w, learn := bit (c.f 6 1) 0, n := c.f 8 4
        ageS := c.f 12 4, swept := s.dev.now
        seed := if c.f 16 4 = 0 then (s.dev.devId * 256 + c.hIdx) * 0x9E3779B9 % 2 ^ 32 else c.f 16 4 }) {})) ∧
  (∀ (s : State) (src : Src) (c : Cmd), s.runs 0x0208 src c → c.hType = 0x07 → c.hIdx < 8 → c.f 0 1 ≤ 5 → c.f 1 1 ≤ 2 → c.f 2 2 = 0 →
    c.f 4 1 = 0 → c.f 5 1 = 0 → c.f 6 1 = 0 ∨ c.f 6 1 = 4 → c.f 7 1 = 0xFF → c.f 8 4 ≠ 0 → c.f 8 4 % 4096 = 0 → c.f 12 4 = 0 →
    c.dirty 20 12 = false → ((kindBits (c.f 0 1)).getD (0, 0)).1 + ((kindBits (c.f 0 1)).getD (0, 0)).2 ≤ 248 →
    (tget s.dev.fwd.tbl.ext c.hIdx).isSome = false →
    if 33554432 < 4 * c.f 8 4 + (s.dev.fwd.tbl.ext.map fun p => 4 * p.2.n).sum then s.replies (.tblCreate src) c (s.refusal .noSpace)
    else ∃ x : Dev, s.replies (.tblCreate src) c (.done x {}) ∧ ∃ t, tget x.fwd.tbl.ext c.hIdx = some t ∧ t.kind = c.f 0 1 ∧
      t.n = c.f 8 4 ∧ t.evict = c.f 1 1 ∧ t.backs = none ∧ t.discard = bit (c.f 6 1) 2 ∧ x.fwd.tbl.em = s.dev.fwd.tbl.em) ∧
  (∀ (s : State) (src : Src) (c : Cmd), s.runs 0x0208 src c → c.hType = 0x08 → c.hIdx < 32 → c.f 0 1 = 16 ∨ c.f 0 1 = 17 → c.f 1 1 = 0 →
    c.f 2 2 = 0 → c.f 4 1 = 0 → c.f 5 1 ≤ 2 → c.f 6 1 = 0 ∨ c.f 6 1 = 2 → c.f 7 1 = 0 → 1 ≤ c.f 8 4 → c.f 8 4 ≤ 32 → c.f 12 4 = 0 →
    c.f 16 4 = 0 → c.dirty 20 12 = false →
    s.replies (.tblCreate src) c (
      if (tget s.dev.fwd.tbl.tcam c.hIdx).isSome then s.refusal .refusedBusy
      else if (Dev.freeBlocks s.dev.fwd.tbl (c.f 8 4)).length < c.f 8 4 then s.refusal .noSpace
      else .done (s.dev.setTbl fun x => { x with tcam := tput x.tcam c.hIdx {
        egress := c.f 0 1 == 17, width := c.f 5 1, deny := bit (c.f 6 1) 1, blocks := Dev.freeBlocks s.dev.fwd.tbl (c.f 8 4) } }) {})) ∧
  (∀ (s : State) (src : Src) (c : Cmd), s.runs 0x0209 src c → s.replies (.tblDestroy src) c (
    if s.dev.tblExists c.hType c.hIdx = false then s.refusal .badHandle
    else if Dev.tblNamed s.dev.fwd.tbl c.hType c.hIdx then s.refusal .refusedBusy
    else .done ((s.dev.setFwd fun f => { f with cache := f.cache.filter fun l => !(c.hType == 0x07 && l / 2 ^ 32 == 2 ^ 8 + c.hIdx) }).setTbl fun x =>
      match c.hType with
      | 0x06 => { x with em := tdel x.em c.hIdx }
      | 0x07 => { x with ext := tdel x.ext c.hIdx }
      | _ => { x with tcam := tdel x.tcam c.hIdx
                      acl := x.acl.filter fun p => !(match tget s.dev.fwd.tbl.tcam c.hIdx with
                        | some k => k.blocks.contains (p.1 / 3072) | none => false) }) {})) ∧
  (∀ (s : State) (src : Src) (c : Cmd), s.runs 0x020B src c → c.hType = 0x00 → c.hIdx = 0 →
    ∃ b, s.replies (.tblGetStatus src) c (.done s.dev { record := some b }) ∧ b.length = 64 ∧
      field b 8 4 = (allUnits s.dev.fwd.tbl + s.dev.unitsTwice) % 2 ^ 32 ∧ field b 60 4 = sat32 s.dev.fwd.lpmUe) ∧
  (∀ (s : State) (src : Src) (c : Cmd) (t : EmTable), s.runs 0x020B src c → c.hType = 0x06 → c.hIdx < 32 → tget s.dev.fwd.tbl.em c.hIdx = some t →
    ∃ b, s.replies (.tblGetStatus src) c (.done s.dev { record := some b }) ∧ b.length = 64 ∧
      field b 4 4 = t.capacity false % 2 ^ 32 ∧ field b 8 4 = t.used % 2 ^ 32 ∧ field b 16 8 = t.evictions % 2 ^ 64) ∧
  (∀ (s : State) (src : Src) (c : Cmd), s.runs 0x020C src c → c.hType = 0x09 → c.hIdx < 65536 →
    s.replies (.tblRead src) c (.done s.dev { record := some ((s.dev.fwd.tbl.lpm.filter (·.vrf == c.hIdx)).flatMap Dev.routeRecord) })) ∧
  (∀ (s : State) (src : Src) (c : Cmd), s.runs 0x020D src c → s.replies (.tblSetAgeing src) c (
    match tget s.dev.fwd.tbl.em c.hIdx with
    | none => s.refusal .badHandle
    | some t =>
      if c.hType ≠ 0x06 then s.refusal .badHandle
      else if 86400 < c.f 0 4 ∨ c.dirty 4 28 = true then s.refusal .badArg
      else .done (s.dev.setEm false c.hIdx { t with ageS := c.f 0 4 }) {})) ∧
  (∀ (s : State) (src : Src) (c : Cmd), s.runs 0x020E src c → c.bad 0x09 = false → c.f 0 4 ≤ 16777216 → c.f 4 4 / 2 ^ 24 % 128 = 0 →
    routeOk (c.f 4 4 % 2 ^ 24) = true → Dev.kindIs s.dev.fwd.tbl.em (Dev.optIdx (c.f 8 1)) [1] = true →
    Dev.kindIs s.dev.fwd.tbl.em (Dev.optIdx (c.f 9 1)) [2] = true → c.dirty 10 22 = false →
    let nv := tset s.dev.fwd.tbl.vrf {} c.hIdx {
      quota := c.f 0 4, dflt := if bit (c.f 4 4) 31 then some (c.f 4 4 % 2 ^ 24) else none, host4 := Dev.optIdx (c.f 8 1), host6 := Dev.optIdx (c.f 9 1) }
    s.replies (.vrfSet src) c (
      if Dev.anyHost { s.dev.fwd.tbl with vrf := nv } = true ∧
        s.dev.fwd.tbl.profile.any (fun p => decide (4 < Dev.profileCount true p.2)) = true then s.refusal .badArg
      else .done (s.dev.setTbl fun x => { x with vrf := nv }) {})) ∧
  (∀ (s : State) (src : Src) (c : Cmd), s.runs 0x020F src c →
    let x := s.dev.getPipe c.hIdx
    s.replies (.tblSetExtRate src) c (
      if c.bad 0x03 then s.refusal .badHandle
      else if 96 < c.f 0 2 ∨ c.dirty 2 30 = true then s.refusal .badArg
      else if 800 < (((List.range 32).filter (· != c.hIdx)).map fun k => (s.dev.getPipe k).extRate).sum + c.f 0 2 then
        s.refusal .budgetExceeded
      else .done (s.dev.setPipe c.hIdx { x with extTok := s.dev.extTokens x, extStamp := s.dev.now, extRate := c.f 0 2 }) {})) ∧
  (∀ (s : State) (src : Src) (c : Cmd), s.runs 0x0210 src c → c.bad 0x00 = false → c.f 0 2 ≤ 1023 → c.dirty 10 22 = false →
    let t := s.dev.fwd.tbl
    let p : Profile := { mac := Dev.optIdx (c.f 2 1), mpls := Dev.optIdx (c.f 3 1), depth := c.f 4 1, tunnel := Dev.optIdx (c.f 5 1),
                         flow := Dev.optIdx (c.f 6 1), ext := Dev.optIdx (c.f 7 1), aclIn := Dev.optIdx (c.f 8 1), aclOut := Dev.optIdx (c.f 9 1) }
    p.depth ≤ 3 → (p.depth = 0 ∨ p.mpls ≠ none) → Dev.kindIs t.em p.mac [0] = true → Dev.kindIs t.em p.mpls [3] = true →
    Dev.kindIs t.em p.tunnel [4, 5] = true → Dev.kindIs t.em p.flow [6] = true → Dev.kindIs t.ext p.ext [0, 1, 2, 3, 4, 5, 6] = true →
    (∀ i, p.aclIn = some i → ∃ x, tget t.tcam i = some x ∧ x.egress = false) →
    (∀ i, p.aclOut = some i → ∃ x, tget t.tcam i = some x ∧ x.egress = true) →
    s.replies (.tblSetProfile src) c (
      if 4 < Dev.profileCount (Dev.anyHost t) p then s.refusal .badArg
      else .done (s.dev.setTbl fun x => { x with profile := tset x.profile {} (c.f 0 2) p }) {}))

/-- A batch without the consistent flag applies its records in order up to the first that fails and answers the counts; a consistent one is refused
whole at a record that breaks R189 or that finds no place, or waits for its instant; while a consistent batch is uncommitted, or for a consistent
one while the old view stands, the row does nothing. A commit whose time has come puts the batch in force, flips the
view and keeps the old tables until no frame sees them. Learning takes the oldest request of a table; a sweep comes at its interval; scrubbing
and rebuilding rewrite a TCAM entry from its copy or its shadow. -/
def Obligations.TableUpdateRowsComplete : Prop :=
  (∀ (s : State) (src : Src) (b : Bytes) (c : Cmd), s.runs 0x020A src c → c.bad 0 = false → 1 ≤ field b 0 4 →
    field b 0 4 ≤ 65536 → 64 + field b 4 4 ≤ 16777216 → 64 + field b 4 4 ≤ b.length → isZero b 12 4 = true → isZero b 24 40 = true →
    (Dev.cutRecords (field b 0 4) ((b.drop 64).take (field b 4 4))).2 = true →
    let rs := (Dev.cutRecords (field b 0 4) ((b.drop 64).take (field b 4 4))).1
    (field b 8 4 = 0 → field b 16 8 = 0 →
      if s.dev.fwd.batch.isSome then exec (.tblBatchApply src (some b)) s = .next s
      else
        let r := Dev.runRecords Dev.recApply { d := s.dev } rs
        s.replies (.tblBatchApply src (some b)) c (.done r.d {
          status := r.fail.getD .ok
          result := r.applied + (if r.fail.isSome && r.applied < rs.length then r.applied else 0xFFFFFFFF) * 2 ^ 32
          extra := r.replaced + r.absent * 2 ^ 32 + r.evicted * 2 ^ 64 })) ∧
    (field b 8 4 = 1 → s.dev.fwd.batch.isSome ∨ s.dev.fwd.oldTbl.isSome → exec (.tblBatchApply src (some b)) s = .next s) ∧
    (field b 8 4 = 1 → s.dev.fwd.batch = none → s.dev.fwd.oldTbl = none →
      match rs.findIdx? s.dev.breaksR189 with
      | some k => s.replies (.tblBatchApply src (some b)) c (.done s.dev { status := .badArg, result := k * 2 ^ 32 })
      | none =>
        let pb : PendingBatch := {
          intake := c.intake, records := rs, notBefore := s.dev.now + usT 100, commitNs := field b 16 8, encap := s.dev.fwd.tbl.encap }
        let r := Dev.runRecords Dev.recReserve { d := s.dev.setFwd fun f => { f with batch := some pb } } rs
        s.replies (.tblBatchApply src (some b)) c (match r.fail with
          | some st => .done s.dev { status := st, result := r.applied * 2 ^ 32 }
          | none => .pend (r.d.noteWrite c.intake .batch)))) ∧
  (∀ s : State, s.devStep .batchCommit fun d =>
    match s.dev.fwd.batch with
    | none => d = s.dev
    | some b =>
      if b.notBefore ≤ s.dev.now ∧ b.commitNs ≤ s.dev.nowNs then
        d.fwd.batch = none ∧ d.fwd.oldTbl = some s.dev.fwd.tbl ∧ d.fwd.view = (!s.dev.fwd.view) ∧
        d.fwd.oldUnits = (b.routes.map fun x => routeUnits x.v6 x.plen).sum
      else d = s.dev) ∧
  (∀ s : State, s.devStep .viewRelease fun d =>
    d = if s.dev.fwd.oldTbl.isSome = true ∧ s.dev.fwHeld = false ∧ (∀ x ∈ s.dev.pipe, (∀ f ∈ x.2.ingress, f.view = s.dev.fwd.view) ∧
        ∀ f ∈ x.2.egress, f.place = .away → f.view = s.dev.fwd.view) then s.dev.releaseOld else s.dev) ∧
  (∀ (s : State) (i : Fin 32), s.devStep (.learnRequestApply i) fun d =>
    match tget s.dev.fwd.tbl.em i with
    | none => d = s.dev
    | some t =>
      match t.learnQ with
      | [] => d = s.dev
      | r :: rest => ∃ u, tget d.fwd.tbl.em i = some u ∧ u.learnQ = rest ∧ u.n = t.n ∧ u.kind = t.kind ∧
        match t.find r.key with
        | none => u.learns + u.learnNoSpace = t.learns + t.learnNoSpace + 1
        | some (_, _, e) =>
          if e.result = r.gport then u = { t with learnQ := rest }
          else if e.static then u = { t with learnQ := rest, moveRefused := t.moveRefused + 1 }
          else u.moves = t.moves + 1 ∧ u.learns = t.learns) ∧
  (∀ (s : State) (i : Fin 32), s.devStep (.ageingSweep i) fun d =>
    match tget s.dev.fwd.tbl.em i with
    | none => d = s.dev
    | some t =>
      if t.swept + (if t.ageS = 0 then secT 1 else secT t.ageS / 8) ≤ s.dev.now then
        ∃ near, tget d.fwd.tbl.em i = some { t.sweep with swept := s.dev.now, nearFull := near }
      else d = s.dev) ∧
  (∀ (s : State) (idx : Nat), s.devStep (.tcamScrub idx) fun d =>
    match tget s.dev.fwd.tbl.acl idx with
    | none => d = s.dev
    | some e =>
      if e.hold ≠ .reserved ∧ e.disabled = false ∧ (e.arrKey ≠ e.copyKey ∨ e.arrMask ≠ e.copyMask ∨ e.copyUe = true) ∧
          (e.copyUe = true → s.dev.hif.headless = false) then
        tget d.fwd.tbl.acl idx = some (if e.copyUe then
            { e with arrKey := e.key, arrMask := e.mask, copyKey := e.key, copyMask := e.mask, copyUe := false }
          else { e with arrKey := e.copyKey, arrMask := e.copyMask })
      else d = s.dev) ∧
  (∀ (s : State) (x : ShadowItem), s.devStep (.shadowRebuild x) fun d =>
    if s.dev.hif.headless = true ∨ s.dev.hif.frozen = true then d = s.dev
    else match x with
      | .tcam idx => (match tget s.dev.fwd.tbl.acl idx with
        | none => d = s.dev
        | some e => tget d.fwd.tbl.acl idx = some { e with
            arrKey := e.key, arrMask := e.mask, copyKey := e.key, copyMask := e.mask, copyUe := false, disabled := false })
      | .policer k => d.fwd.ue = s.dev.fwd.ue.filter (· != x) ∧ (tgetD d.sch.pol {} k).ue = false ∧ d.fwd.tbl = s.dev.fwd.tbl
      | .queueCfg q => d.fwd.ue = s.dev.fwd.ue.filter (· != x) ∧ (∀ y, (q, y) ∈ d.qs.q → y.cfgBad = false) ∧ d.fwd.tbl = s.dev.fwd.tbl
      | .encap _ | .ext _ _ => d.fwd.ue = s.dev.fwd.ue.filter (· != x) ∧ d.fwd.tbl = s.dev.fwd.tbl ∧ d.qs = s.dev.qs
      | y => d = { s.dev with fwd := { s.dev.fwd with ue := s.dev.fwd.ue.filter (· != y) } })

/-- PIPE_ENABLE and PIPE_DISABLE take the step of Table 16.5, a disable of a RUNNING pipeline taking its ports protection-down; a failure of a RUNNING
pipeline stops it with its cause, sets PIPE_FAILED and discards its frames; the end of a self-test makes it RUNNING or leaves it stopped; it
stops once it is drained or its bound has elapsed. The hash settings are stored. -/
def Obligations.PipelineObjectRowsComplete : Prop :=
  (∀ (s : State) (src : Src) (c : Cmd), s.runs 0x0200 src c →
    let x := s.dev.getPipe c.hIdx
    s.replies (.pipeEnable src) c (
      if c.bad 0x03 then s.refusal .badHandle
      else .done (s.dev.setPipe c.hIdx { x with obj := (x.obj.enable s.dev.nowNs).obj }) { status := (x.obj.enable s.dev.nowNs).status })) ∧
  (∀ (s : State) (src : Src) (c : Cmd), s.runs 0x0201 src c →
    let x := s.dev.getPipe c.hIdx
    let r := x.obj.disable s.dev.nowNs (s.dev.now + msT 5)
    let d1 := s.dev.setPipe c.hIdx { x with obj := r.obj }
    s.replies (.pipeDisable src) c (
      if c.bad 0x03 then s.refusal .badHandle
      else .done (if x.obj.st = .running then Dev.protectPorts c.hIdx d1 else d1) { status := r.status })) ∧
  (∀ (s : State) (src : Src) (c : Cmd), s.runs 0x0202 src c →
    let x := s.dev.getPipe c.hIdx
    s.replies (.pipeGetStatus src) c (
      if c.bad 0x03 then s.refusal .badHandle
      else s.report c [fByte x.obj.st.code, fCnt (Dev.awayCount x), fFlag s.dev.fwd.view, fByte (x.cause.getD (Config.absent 2))])) ∧
  (∀ (s : State) (src : Src) (c : Cmd), s.runs 0x0203 src c → s.replies (.pipeSetHash src) c (
    if c.bad 0x00 then s.refusal .badHandle
    else if 1024 ≤ c.f 4 2 ∨ 2 ≤ c.f 6 1 ∨ c.dirty 7 25 = true then s.refusal .badArg
    else .done { s.dev with fwd := { s.dev.fwd with seed := some (c.f 0 4), hashFields := c.f 4 2, hashInner := c.f 6 1 == 1 } } {})) ∧
  (∀ (s : State) (pl : Fin 32) (k : PipeCause), s.devStep (.pipeFailure pl k) fun d =>
    let x := s.dev.getPipe pl
    if x.obj.st = .running ∧ (k = .stall → (∃ f ∈ x.ingress, f.place ≠ .away ∧ f.entered + usT 20 ≤ s.dev.now) ∧
        x.lastHandoff + usT 20 ≤ s.dev.now) then
      (d.getPipe pl).obj.st = .stopping ∧ (d.getPipe pl).cause = some (match k with | .uncorrectable => 0 | .stall => 1 | .selfTest => 2) ∧
      (d.getPipe pl).ingress = [] ∧ (d.getPipe pl).egress = [] ∧ d.hif.alarm.getLsbD 7 = true
    else d = s.dev) ∧
  (∀ (s : State) (pl : Fin 32) (ok : Bool), s.devStep (.pipeSelfTestDone pl ok) fun d =>
    if (s.dev.getPipe pl).obj.st = .starting then
      if ok = true ∧ s.dev.groupGood pl = true then (d.getPipe pl).obj.st = .running ∧ (d.getPipe pl).lastHandoff = s.dev.now
      else (d.getPipe pl).obj.st = .stopped ∧ (d.getPipe pl).cause = some 2 ∧ d.hif.alarm.getLsbD 7 = true
    else d = s.dev) ∧
  (∀ (s : State) (pl : Fin 32), s.devStep (.pipeStopDone pl) fun d =>
    let x := s.dev.getPipe pl
    if x.obj.st = .stopping ∧ ((x.ingress = [] ∧ x.egress = [] ∧ x.emits = [] ∧
        ((List.range 8).any fun k => s.dev.portQueued (8 * pl + k)) = false) ∨ due s.dev.now x.obj.due = true) then
      (d.getPipe pl).obj = x.obj.stopped s.dev.nowNs ∧ (d.getPipe pl).ingress = [] ∧ (d.getPipe pl).egress = [] ∧ (d.getPipe pl).emits = []
    else d = s.dev)

/-- NH_SET stores a next hop of each type that keeps Table 4.8 and refuses one that protects itself; ECMP_SET_GROUP checks a group and leaves it to the
switch instant, which puts it in force and completes the command; a rebalance assigns buckets to the live members. FRR_FORCE holds a port
protection-down or lets it go, and the counter reads answer 16 bytes for each pair. -/
def Obligations.GroupRowsComplete : Prop :=
  (∀ (s : State) (src : Src) (c : Cmd), s.runs 0x0204 src c → c.bad 0x04 = false → c.dirty 3 1 = false → c.dirty 16 16 = false →
    c.f 0 1 ≤ 3 → c.f 1 1 ≤ 1 → (c.f 0 1 = 0 → c.f 4 4 < 2 ^ 19 ∧ c.f 8 4 < 2 ^ 20 ∧ c.f 12 4 < 2 ^ 21 ∧ (c.f 1 1 = 0 → c.f 12 4 = 0)) →
    (c.f 0 1 ≠ 0 → c.f 1 1 = 0 ∧ c.f 8 4 = 0 ∧ c.f 12 4 = 0) → (c.f 0 1 ≠ 2 → c.f 2 1 = 0) → (c.f 0 1 = 3 → c.f 4 4 < 65536) →
    (c.f 0 1 = 1 ∨ c.f 0 1 = 2 → c.f 4 4 = 0) →
    s.replies (.nhSet src) c (
      if c.f 0 1 = 0 ∧ c.f 1 1 = 1 ∧ c.f 12 4 = c.hIdx then s.refusal .badArg
      else .done (Dev.refreshLive { s.dev with fwd := { s.dev.fwd with
        nh := tset s.dev.fwd.nh {} c.hIdx {
          type := c.f 0 1, trap := c.f 2 1, target := c.f 4 4, encap := c.f 8 4, prot := if c.f 1 1 = 1 then some (c.f 12 4) else none }
        ue := s.dev.fwd.ue.filter (· != .nh c.hIdx) } }) {})) ∧
  (∀ (s : State) (src : Src) (b : Bytes) (c : Cmd), s.runs 0x0205 src c → isZero b 4 12 = true →
    let n := field b 0 2; let l := field b 2 1; let fl := field b 3 1
    let ms := (List.range n).map fun i => (field b (16 + 8 * i) 4, field b (20 + 8 * i) 2)
    let d1 := s.dev.noteWrite c.intake (.group c.hIdx (tget s.dev.fwd.ecmp c.hIdx))
    (fl = 2 → n = 0 → l = 0 → s.replies (.ecmpSetGroup src (some b)) c (
      if c.bad 0x05 = true ∨ s.dev.groupAfter c.hIdx = false then s.refusal .badHandle
      else .pend { d1 with fwd := { s.dev.fwd with
        switches := s.dev.fwd.switches ++ [{ group := c.hIdx, intake := c.intake, new := none }] } })) ∧
    (c.bad 0x05 = false → fl ≤ 1 → 1 ≤ n → n ≤ 1024 → l ≤ 14 → n ≤ 2 ^ l → (∀ i < n, isZero b (22 + 8 * i) 2 = true) →
      (∀ m ∈ ms, m.1 < 2 ^ 21 ∧ m.2 ≠ 0) → (ms.map (·.1)).eraseDups.length = n →
      s.replies (.ecmpSetGroup src (some b)) c (
        if 1835008 < s.dev.bucketsUsed c.hIdx + max (s.dev.mostBuckets c.hIdx) (2 ^ l) then s.refusal .noSpace
        else .pend { d1 with fwd := { s.dev.fwd with
          switches := s.dev.fwd.switches ++ [{ group := c.hIdx, intake := c.intake, new := some {
            members := ms, log2B := l, auto := bit fl 0, buckets := [], live := [] } }] } }))) ∧
  (∀ (s : State) (g : Nat), s.devStep (.ecmpGroupSwitch g) fun d =>
    match s.dev.fwd.switches.find? (·.group == g) with
    | none => d = s.dev
    | some w =>
      d.fwd.switches = s.dev.fwd.switches.filter (·.intake != w.intake) ∧
      match w.new with
      | none => d.fwd.ecmp = tdel s.dev.fwd.ecmp g
      | some n => tget d.fwd.ecmp g = some (s.dev.regroup (tget s.dev.fwd.ecmp g) n.members n.log2B n.auto)) ∧
  (∀ (s : State) (g : Nat), s.devStep (.ecmpRebalance g) fun d =>
    match tget s.dev.fwd.ecmp g with
    | none => d = s.dev
    | some e =>
      let live := s.dev.liveMembers e
      if e.auto = false ∨ s.dev.hif.headless = true ∨ live = e.live then d = s.dev
      else ∃ x, tget d.fwd.ecmp g = some x ∧ x.members = e.members ∧ x.log2B = e.log2B ∧ x.auto = true ∧ x.live = live ∧
        x.buckets = Dev.reassign (e.buckets.map some) (Dev.targets (2 ^ e.log2B) (e.members.map (·.2)) live)) ∧
  (∀ (s : State) (src : Src) (c : Cmd), s.runs 0x0206 src c →
    let q := s.dev.getPort c.hIdx
    s.replies (.frrForce src) c (
      if c.bad 0x01 then s.refusal .badHandle
      else if 1 < c.f 0 1 ∨ c.dirty 1 31 = true then s.refusal .badArg
      else .done (
        if c.f 0 1 = 1 then (s.dev.setPort c.hIdx { q with forced := true, wtrDue := none }).protect c.hIdx 16
        else if q.forced = false then s.dev
        else
          let d1 := s.dev.setPort c.hIdx { q with forced := false }
          if Dev.switching q = false ∧ q.obj.st = .running ∧ d1.mayRelease c.hIdx = true then d1.unprotect c.hIdx else d1) {})) ∧
  (∀ (s : State) (src : Src) (c : Cmd), s.runs 0x0207 src c →
    if c.bad (if c.hType = 0x01 then 0x01 else 0x03) = true then s.replies (.dropGetCounters src) c (s.refusal .badHandle)
    else ∃ b, s.replies (.dropGetCounters src) c (.done s.dev { record := some b }) ∧ b.length = 1024 ∧ ∀ k < 64,
      (c.hType ≠ 0x01 → let p := tgetD (s.dev.getPipe c.hIdx).drops {} k
        field b (16 * k) 8 = p.pkts % 2 ^ 64 ∧ field b (16 * k + 8) 8 = p.bytes % 2 ^ 64) ∧
      (c.hType = 0x01 → k ≠ 4 → k ≠ 36 → let p := tgetD s.dev.portDrops {} (c.hIdx * 64 + k)
        field b (16 * k) 8 = p.pkts % 2 ^ 64 ∧ field b (16 * k + 8) 8 = p.bytes % 2 ^ 64) ∧
      (c.hType = 0x01 → k = 4 ∨ k = 36 → (s.dev.getPort c.hIdx).width = 1 → let p := tgetD s.dev.laneDrops {} (c.hIdx * 64 + k)
        field b (16 * k) 8 = p.pkts % 2 ^ 64 ∧ field b (16 * k + 8) 8 = p.bytes % 2 ^ 64)) ∧
  (∀ (s : State) (src : Src) (c : Cmd), s.runs 0x0211 src c →
    s.replies (.cntRead src) c (
      if c.bad 0x00 then s.refusal .badHandle
      else if 67108863 < c.f 0 4 ∨ c.f 4 4 = 0 ∨ 1048576 < c.f 4 4 ∨ 67108864 < c.f 0 4 + c.f 4 4 ∨ 1 < c.f 8 1 ∨ c.dirty 9 23 = true then
        s.refusal .badArg
      else .done (if c.f 8 1 = 1 then
          { s.dev with cnt := s.dev.cnt.filter fun p => decide (p.1 < c.f 0 4) || decide (c.f 0 4 + c.f 4 4 ≤ p.1) } else s.dev)
        { record := some ((List.range (c.f 4 4)).flatMap fun k =>
          le 8 (tgetD s.dev.cnt {} (c.f 0 4 + k)).pkts ++ le 8 (tgetD s.dev.cnt {} (c.f 0 4 + k)).bytes) }))

/-- A frame on a RUNNING port that passes its checks enters its pipeline as a new flight of stage 1; one with a bad FCS or length, that overruns its
FIFO, that meets a defect or a pipeline that is not RUNNING, is counted under its code and goes no further; a port that is not RUNNING sees
none. A reply, the error of both copies or the 1.0 µs bound resumes the frame that waits for a lookup; a verdict resumes the frame it is
given for where it left, at stage 9 or at the egress ACL, or discards it. The first ready frame in order is handed over, then the first
emitted one; an egress frame is rewritten and passes the egress ACL, or is discarded under its code: port stopped, link down, or an undefined
function. The next frame of a port that is RUNNING or draining goes out on its line with its FCS. -/
def Obligations.FrameRowsComplete : Prop :=
  (∀ (s : State) (p : Fin 256) (f : RxFrame) (ov : Bool), s.devStep (.frameReceive p f ov) fun d =>
    let q := s.dev.getPort p
    if q.obj.st ≠ .running then d = s.dev
    else if f.fcsOk = false then d = s.dev.dropPort p 1 f.len
    else if f.len < 64 ∨ q.rxLimit < f.len then d = s.dev.dropPort p 2 f.len
    else (s.dev.getMac p).on = false → (s.dev.getMac p).closed = false →
      if ov = true then d = ((s.dev.dropLane p 4 f.len).modLane p fun x => { x with rxOverrun := x.rxOverrun + 1 }).rateShort p
      else if Dev.rxDefect q then d = s.dev.dropPort p 5 f.len
      else if (s.dev.getPipe (p / 8)).obj.st ≠ .running then d = s.dev.dropPort p 6 f.len
      else d = Dev.enterIngress (p / 8) (s.dev.newFlight (.port p) f) s.dev) ∧
  (∀ (s : State) (pl : Fin 32) (fid : Nat) (r : ExtReply), s.devStep (.extLookupReply pl fid r) fun d =>
    match s.dev.findFlight pl fid with
    | none => d = s.dev
    | some (i, f) => ∀ at' t, f.place = .ext at' → tget s.dev.fwd.tbl.ext f.extTable = some t →
      (at' < s.dev.now ∨ s.dev.bucketsRead f.extTable t f.extKey = none → d = s.dev) ∧
      (∀ good, s.dev.now ≤ at' → s.dev.bucketsRead f.extTable t f.extKey = some good →
        (r = .eccBoth ∨ good = false → d = Dev.extAnswer pl i f .none
          (((s.dev.takeFlight pl fid).setEm true f.extTable { t with ecc := t.ecc + 1 }).modPipe pl fun x => { x with extEcc := x.extEcc + 1 })) ∧
        (r ≠ .eccBoth → good = true →
          let d2 := (s.dev.takeFlight pl fid).touchLines
            [Dev.extLine f.extTable (t.buckets f.extKey).1, Dev.extLine f.extTable (t.buckets f.extKey).2]
          d = Dev.extAnswer pl i f (Dev.extFind t f.extKey)
            (if Dev.extFind t f.extKey = .none then d2.modPipe pl fun x => { x with extMiss := x.extMiss + 1 } else d2)))) ∧
  (∀ (s : State) (pl : Fin 32) (fid : Nat), s.devStep (.extLate pl fid) fun d =>
    match s.dev.findFlight pl fid with
    | none => d = s.dev
    | some (i, f) => ∀ at', f.place = .ext at' →
      d = if at' ≤ s.dev.now then Dev.extAnswer pl i f .none
          ((s.dev.takeFlight pl fid).modPipe pl fun x => { x with extLate := x.extLate + 1 }) else s.dev) ∧
  (∀ (s : State) (pl : Fin 32) (fid : Nat), s.devStep (.excursionReturn pl fid) fun d =>
    match s.dev.findFlight pl fid with
    | some (i, f) =>
      (f.place ≠ .away ∨ f.verdict = none → d = s.dev) ∧
      (f.place = .away → f.verdict = some .discard →
        d = (Dev.mirrorCopy pl false f (Dev.verdictDrop f.fn (s.dev.takeFlight pl fid))).dropPipe pl 22 f.rxLen) ∧
      (∀ t, f.place = .away → f.verdict = some (.punt t) → d = Dev.settleFlight pl i (Dev.resumeStages pl
        { f with dec := .punt t.val false, stage := 9, place := .stages } (s.dev.takeFlight pl fid))) ∧
      (∀ g c n e m x, f.place = .away → f.verdict = some (.cont g c n e m x) →
        d = Dev.settleFlight pl i (Dev.resumeStages pl { Dev.applyVerdict f g c n e m x with stage := 9 } (s.dev.takeFlight pl fid)))
    | none =>
      let y := s.dev.getPipe pl
      let is (f : Flight) : Bool := f.fid == fid && f.place == .away
      match y.egress.find? is with
      | none => d = s.dev
      | some f =>
        let d1 := s.dev.setPipe pl { y with egress := y.egress.filter (·.fid != fid) }
        (f.verdict = none → d = s.dev) ∧
        (f.verdict = some .discard →
          d = Dev.egressFlush pl ((Dev.mirrorCopy pl true f (Dev.verdictDrop f.fn d1)).dropPipe pl 22 f.len)) ∧
        (∀ g c n e m x, f.verdict = some (.cont g c n e m x) → d = Dev.egressStage2 pl (y.egress.findIdx is)
          { Dev.applyVerdict f g c n e m x with dec := f.dec, cls := f.cls } d1)) ∧
  (∀ (s : State) (pl : Fin 32), s.devStep (.frameHandoff pl) fun d =>
    let x := s.dev.getPipe pl
    if x.obj.st = .running ∨ x.obj.st = .stopping then
      match Dev.firstReady [] x.ingress with
      | some f => d = Dev.handOver pl f (s.dev.takeFlight pl f.fid)
      | none => (x.emits = [] → d = s.dev) ∧
        ∀ f r, x.emits = f :: r → f.stage = 12 → d = Dev.handOver pl f (s.dev.setPipe pl { x with emits := r })
    else d = s.dev) ∧
  (∀ (s : State) (pl : Fin 32) (aclKey profile : Nat) (cnt : Option Nat) (steered : Bool) (k : Nat), s.devStep (.egressDelivery pl aclKey profile cnt steered k) fun d =>
    let fn := if steered then some k else none
    let x := s.dev.getPipe pl
    let new (f : Flight) : Bool := f.place == .stages
    match x.egress.find? new with
    | none => d = s.dev
    | some f =>
      let d1 := s.dev.setPipe pl { x with egress := x.egress.filter (·.fid != f.fid) }
      let q := s.dev.getPort f.outPort
      if q.obj.st ≠ .running ∧ q.obj.st ≠ .stopping then d = Dev.egressFlush pl (d1.dropPort f.outPort 37 f.len)
      else if q.obj.st = .running ∧ q.link ≠ .up then d = Dev.egressFlush pl (d1.dropPort f.outPort 34 f.len)
      else
        (fn = none → d = Dev.egressStage2 pl (x.egress.findIdx new) { Dev.rewrite f d1 with
          egKey := aclKey, egProfile := profile, egCnt := cnt, fn := none, aclIdx := none, mirror := none } d1) ∧
        (∀ n, fn = some n → s.dev.getFn n = none → d = Dev.egressFlush pl (d1.dropPipe pl 20 (Dev.rewrite f d1).len))) ∧
  (∀ (s : State) (p : Fin 256) (un : Bool), s.devStep (.frameTransmit p un) fun d =>
    match tgetD s.dev.tx [] p with
    | [] => d = s.dev
    | f :: r =>
      d.tx = tset s.dev.tx [] p r ∧
      match (s.dev.getAsm (p / 8)).find? fun a => a.fl.fid == f.fid && a.joined && (a.failed || !a.whole) with
      | some _ => d.csw.ctAbort = s.dev.csw.ctAbort + 1
      | none =>
        let q := s.dev.getPort p
        if q.obj.st ≠ .running ∧ q.obj.st ≠ .stopping then d = ({ s.dev with tx := tset s.dev.tx [] p r }).dropPort p 37 f.len
        else (s.dev.getMac p).on = false → (s.dev.getMac p).closed = false → (s.dev.getT p).role < 3 → un = false → s.dev.pwr.trip = false →
          d = { s.dev with tx := tset s.dev.tx [] p r, out := .lineFrame p f.len (sealFcs false f.bytes) false :: s.dev.out })

/-- Enabling and disabling an engine takes the step of Table 16.5, with its images loaded or its work sent elsewhere; modules, functions, slots,
triggers and trace settings are stored or removed as their commands say, a module only from an image that verifies; a restore makes a retired
thread idle; status and trace reads answer what the engine holds. -/
def Obligations.EngineCommandRowsComplete : Prop :=
  (∀ (s : State) (src : Src) (c : Cmd), s.runs 0x0300 src c →
    let x := s.dev.getEng c.hIdx
    let r := x.obj.enable s.dev.nowNs
    s.replies (.peEnable src) c (
      if c.bad 0x0A then s.refusal .badHandle
      else .done (s.dev.setEng c.hIdx (if x.obj.st = .stopped then
            { x with obj := r.obj, image := s.dev.loadImages c.hIdx, data := [], dataUe := [] } else { x with obj := r.obj }))
        { status := r.status })) ∧
  (∀ (s : State) (src : Src) (c : Cmd), s.runs 0x0301 src c →
    let x := s.dev.getEng c.hIdx
    let r := x.obj.disable s.dev.nowNs (s.dev.engBound c.hIdx)
    s.replies (.peDisable src) c (
      if c.bad 0x0A then s.refusal .badHandle
      else .done (if x.obj.st = .running then s.dev.engLeave c.hIdx r.obj
        else s.dev.setEng c.hIdx { x with obj := r.obj, reenable := none }) { status := r.status })) ∧
  (∀ (s : State) (src : Src) (c : Cmd), s.runs 0x0302 src c → c.hType = 0x0B → s.replies (.peGetStatus src) c (
    match if c.bad 0x0B then none else tget s.dev.pe.fn c.hIdx with
    | none => s.refusal .badHandle
    | some f => s.report c [fCnt f.invocations, fCnt f.bypasses, fCnt f.busy, fCnt f.fault, fCnt f.dropped, fCnt f.emitRefused])) ∧
  (∀ (s : State) (src : Src) (c : Cmd), s.runs 0x0302 src c → c.hType ≠ 0x0B → ∃ body,
    s.replies (.peGetStatus src) c (if c.bad 0x0A then s.refusal .badHandle else s.report c body) ∧
      body.head? = some (fByte (s.dev.getEng c.hIdx).obj.st.code)) ∧
  (∀ (s : State) (src : Src) (pl : HostRead) (c : Cmd), s.runs 0x0303 src c → c.bad 0x0C = false → c.dirty 4 28 = false →
    let b := (pl.getD []).take (c.f 0 4)
    (c.f 0 4 = 0 → s.replies (.peModuleLoad src pl) c (
      if s.dev.moduleUsed c.hIdx = true ∨ s.dev.pe.roll.isSome = true then s.refusal .refusedBusy
      else .done { s.dev with pe := { s.dev.pe with module := tdel s.dev.pe.module c.hIdx } } {})) ∧
    (c.f 0 4 ≠ 0 → pl.isSome = true → s.replies (.peModuleLoad src pl) c (
      if s.dev.pe.roll.isSome then s.refusal .refusedBusy
      else match if (verifyImg s.nv b).isNone then oneComp b 7 else none with
        | none => s.refusal .verifyFailed
        | some (_, p) =>
          let d1 : Dev := { s.dev with pe := { s.dev.pe with module := tput s.dev.pe.module c.hIdx (Dev.moduleOf b p) } }
          .done (if s.dev.moduleUsed c.hIdx then (Dev.takeArea c.hIdx d1).getD d1 else d1) {}))) ∧
  (∀ (s : State) (src : Src) (c : Cmd), s.runs 0x0304 src c → c.bad 0x0B = false → c.dirty 10 6 = false → c.dirty 24 8 = false →
    (c.f 1 1 < 8 → bit (c.f 1 1) 2 = true →
      s.replies (.fnSet src) c (.done (Dev.freeAreas { s.dev with pe := { s.dev.pe with fn := tdel s.dev.pe.fn c.hIdx } }) {})) ∧
    (∀ m f, c.f 0 1 ≤ 63 → c.f 1 1 < 4 → c.f 4 4 = 0 ∨ (100 ≤ c.f 4 4 ∧ c.f 4 4 ≤ 100000) → c.f 8 2 = 0 ∨ 16 ≤ c.f 8 2 → c.f 16 8 ≠ 0 →
      tget s.dev.pe.module (c.f 0 1) = some m → c.f 2 2 < m.entries → tget s.dev.pe.fn c.hIdx = none → s.dev.pe.fn.length < 4096 →
      f = ({ module := c.f 0 1, drop := bit (c.f 1 1) 0, userTrace := bit (c.f 1 1) 1, entry := c.f 2 2
             timeNs := if c.f 4 4 = 0 then 10000 else c.f 4 4, issues := if c.f 8 2 = 0 then 256 else c.f 8 2
             placement := BitVec.ofNat 64 (c.f 16 8) } : Func) →
      match Dev.takeArea (c.f 0 1) (Dev.freeAreas { s.dev with pe := { s.dev.pe with fn := tput s.dev.pe.fn c.hIdx f } }) with
      | none => s.replies (.fnSet src) c (s.refusal .noSpace)
      | some a =>
        if s.dev.fnFits c.hIdx f then ∃ d : Dev, s.replies (.fnSet src) c (.done d {}) ∧ d.pe.fn = tput s.dev.pe.fn c.hIdx f ∧
          d.pe.module = a.pe.module ∧ d.pe.trig = s.dev.pe.trig
        else s.replies (.fnSet src) c (s.refusal .noSpace))) ∧
  (∀ (s : State) (src : Src) (c : Cmd), s.runs 0x0305 src c →
    let l := (List.range 16).map fun k => c.f k 1
    s.replies (.peSetSlots src) c (
      if c.bad 0x0A then s.refusal .badHandle
      else if c.f 0 1 ≠ 0 ∨ l.any (15 < ·) = true ∨ ((s.dev.getEng c.hIdx).hive = false ∧ l.contains 1 = false) ∨ c.dirty 16 16 = true then
        s.refusal .badArg
      else .done (s.dev.setEng c.hIdx { s.dev.getEng c.hIdx with slots := l, slot := 0 }) {})) ∧
  (∀ (s : State) (src : Src) (b : Bytes) (c : Cmd), s.runs 0x0306 src c → c.bad 0x0C = false → c.dirty 4 28 = false →
    let img := b.take (c.f 0 4)
    s.replies (.pePatch src (some b)) c (
      match tget s.dev.pe.module c.hIdx with
      | none => s.refusal .badHandle
      | some old =>
        if s.dev.pe.roll.isSome then s.refusal .refusedBusy
        else match if (verifyImg s.nv img).isNone then oneComp img 8 else none with
        | none => s.refusal .verifyFailed
        | some (i, p) =>
          if i.base ≠ old.version then s.refusal .badArg
          else
            let new := Config.applyDelta old.image (compBytes img p)
            let n := Config.moduleDecl new
            .pend ((s.dev.startCmd c.intake).patchNext {
              intake := c.intake, module := c.hIdx, old := old, todo := s.dev.patchEngines c.hIdx, done := [], back := false
              new := { version := p.version, image := new, prog := n.1, data := n.2.1, hbm := n.2.2.1, entries := min 256 n.2.2.2
                       area := old.area } }))) ∧
  (∀ (s : State) (src : Src) (c : Cmd), s.runs 0x0307 src c → s.replies (.peThreadRestore src) c (
    if c.bad 0x0A then s.refusal .badHandle
    else if c.f 0 1 = 0 ∨ 15 < c.f 0 1 ∨ c.dirty 1 31 = true then s.refusal .badArg
    else .done (if ((s.dev.getEng c.hIdx).thread (c.f 0 1)).st = .retired then
      Dev.hiveHand c.hIdx 15 (s.dev.modEng c.hIdx fun y => y.setThread (c.f 0 1) {}) else s.dev) {})) ∧
  (∀ (s : State) (src : Src) (c : Cmd), s.runs 0x0308 src c → s.replies (.peTraceRead src) c (
    if c.bad 0x0A then s.refusal .badHandle
    else .done s.dev {
      record := some ((List.range 512).flatMap fun k => (tget (s.dev.getEng c.hIdx).trace k).getD (List.replicate 32 0))
      result := (s.dev.getEng c.hIdx).traceAt + (s.dev.getEng c.hIdx).traceAt * 2 ^ 32 })) ∧
  (∀ (s : State) (src : Src) (c : Cmd), s.runs 0x0309 src c →
    let x := s.dev.getEng c.hIdx
    s.replies (.peTraceConfig src) c (
      if c.bad 0x0A then s.refusal .badHandle
      else if 1 < c.f 0 1 ∨ 1 < c.f 1 1 ∨ (31 < c.f 2 1 ∧ c.f 2 1 ≠ 0xFF) ∨ c.dirty 3 29 = true then s.refusal .badArg
      else .done (s.dev.setEng c.hIdx { x with
        traceStop := c.f 0 1 == 1, traceFull := if c.f 1 1 = 1 ∨ c.f 0 1 = 0 then false else x.traceFull
        traceN := if c.f 1 1 = 1 then 0 else x.traceN, sample := if c.f 2 1 = 0xFF then none else some (c.f 2 1), sampled := 0 }) {})) ∧
  (∀ (s : State) (src : Src) (c : Cmd), s.runs 0x030A src c → c.bad 0x0D = false → c.dirty 2 2 = false → c.dirty 24 8 = false →
    (c.f 4 4 = 0 → s.replies (.fnSetTrigger src) c (.done { s.dev with pe := { s.dev.pe with trig := tdel s.dev.pe.trig c.hIdx } } {})) ∧
    (1 ≤ c.f 4 4 → c.f 4 4 ≤ 1048576 → 1000 ≤ c.f 8 8 → c.f 8 8 ≤ 60000000000 → (s.dev.getFn (c.f 0 2)).isSome = true → c.f 16 8 ≠ 0 →
      s.replies (.fnSetTrigger src) c (
        if s.dev.triggerRateOk c.hIdx (c.f 4 4) (c.f 8 8) = false then s.refusal .budgetExceeded
        else .done { s.dev with pe := { s.dev.pe with trig := tput s.dev.pe.trig c.hIdx {
          fn := c.f 0 2, k := c.f 4 4, periodNs := c.f 8 8, start := (c.f 16 8 : Int) * 65536 } } } {})))

/-- A trigger's instant moves it to its next index; a master that acts gives an idle worker the head of the inbox, or has the refusal of a thread that
is not idle, and releases claimed workers; forks, joins, emits and verdicts act on a running thread that waits for no join, in the issue slot it
is given, and are answered; an access outside R208, an emit or a new length outside R209 and R210, or an exceeded budget faults the thread; the
supervisor takes the record at the head of the queue and restores or retires its thread. -/
def Obligations.ThreadRowsComplete : Prop :=
  (∀ (s : State) (k : Fin 1024), s.devStep (.triggerInvocation k) fun d =>
    match tget s.dev.pe.trig k with
    | none => d = s.dev
    | some t =>
      if s.dev.sysTicks < Dev.Trigger.at t then t.waiting = [] → d = s.dev
      else ∃ u, tget d.pe.trig k = some u ∧ u.idx = (if t.k ≤ t.idx + 1 then 0 else t.idx + 1) ∧ u.fn = t.fn ∧ u.begun = true) ∧
  (∀ (s : State) (e : Fin 64) (t : Fin 16), s.devStep (.startRegisterWrite e t) fun d =>
    let d1 := Dev.issue e 1 s.dev
    let x := d1.getEng e
    if s.dev.masterActs e = false ∨ t.val < 2 then d = s.dev
    else if (x.thread t).st ≠ .idle then d = d1.answerThread e 1 (.writeRefused t)
    else match x.inbox with
      | [] => d = d1
      | i :: r => d = ((d1.setEng e { x with inbox := r }).startThread e t i .claimed).answerThread e 1 (.claimed t)) ∧
  (∀ (s : State) (e : Fin 64) (mask : BitVec 16), s.devStep (.releaseMask e mask) fun d =>
    let x := s.dev.getEng e
    if s.dev.masterActs e = false then d = s.dev
    else (d.getEng e).inbox = x.inbox ∧ (d.getEng e).obj = x.obj ∧ ∀ k < 16, (d.getEng e).thread k =
      if 1 ≤ k ∧ mask.getLsbD k = true ∧ (x.thread k).st = .claimed then { x.thread k with st := .running } else x.thread k) ∧
  (∀ (s : State) (e : Fin 64) (t : Fin 16) (en : Nat), s.devStep (.peFork e t en) fun d =>
    let d1 := Dev.issue e t s.dev
    match s.dev.acts e t, (d1.getEng e).idleThreads with
    | none, _ => d = s.dev
    | some _, [] => d = d1.answerThread e t .noThread
    | some i, c :: _ =>
      let r := ((d1.getEng e).thread t).regs
      d = d1.modEng e fun y => (y.setThread c {
        st := .running, inv := some { i with entry := en, work := .fork t }, regs := { r with entry := en }
        faults := (y.thread c).faults }).setThread t { y.thread t with kids := tput (y.thread t).kids c .runs, answer := .forked c }) ∧
  (∀ (s : State) (e : Fin 64) (t k : Fin 16), s.devStep (.peJoin e t k) fun d =>
    let d1 := Dev.issue e t s.dev
    match s.dev.acts e t, tget ((s.dev.getEng e).thread t).kids k with
    | some _, some .runs => d = d1.modEng e fun y => y.setThread t { y.thread t with join := some k.val }
    | some _, some z => d = d1.answerThread e t (.joined z)
    | _, _ => d = s.dev) ∧
  (∀ (s : State) (e : Fin 64) (t : Fin 16) (pl : Fin 32) (f : RxFrame) (nh : Nat) (a : IssueAt), s.devStep (.peEmit e t ⟨pl, nh⟩ f a) fun d =>
    let d1 := Dev.issue e t s.dev
    let p := d1.getPipe pl
    match s.dev.acts e t with
    | none => d = s.dev
    | some i =>
      if 640 < f.len ∨ f.len < 64 then d = d1.faultThread e t 1 a
      else if 1024 ≤ Dev.emitted p then
        d = ((d1.setPipe pl { p with emitRefused := p.emitRefused + 1 }).modFn i.fn fun g => { g with emitRefused := g.emitRefused + 1 }).answerThread
          e t .emitRefused
      else ∃ g : Flight, d = Dev.answerThread e t .emitted { d1.setPipe pl { p with emits := p.emits ++ [g] } with fids := d1.fids + 1 } ∧
        g.dec = .nextHop nh ∧ g.stage = 9 ∧ g.frame = f ∧ g.bytes = f.raw ∧ g.fid = d1.fids) ∧
  (∀ (s : State) (e : Fin 64) (t : Fin 16) (l : List Access) (v : Verdict) (a : IssueAt), s.devStep (.threadVerdict e t ⟨l, v, a⟩) fun d =>
    match s.dev.acts e t with
    | none => d = s.dev
    | some i =>
      let r := Dev.accesses e t i 8 l (Dev.issue e t s.dev)
      (l = [] → r = (Dev.issue e t s.dev, none)) ∧
      (∀ c, r.2 = some c → d = r.1.faultThread e t c a) ∧
      (r.2 = none → i.issues < a.issues → d = r.1.faultThread e t 4 a) ∧
      (r.2 = none → a.issues ≤ i.issues →
        (∀ k n, i.work = .trigger k n → d = r.1.endThread e t) ∧
        (∀ pl fid eg, i.work = .frame pl fid eg →
          (v = .discard ∨ (∃ p, v = .punt p) → d = (Dev.putVerdict pl fid eg v r.1).endThread e t) ∧
          (∀ g c n en m x, v = .cont g c n en m x →
            d = if Dev.editOk (match r.1.workFrame i.work with | some f => f.len | none => 0) x then
              (Dev.putVerdict pl fid eg v r.1).endThread e t else r.1.faultThread e t 1 a)))) ∧
  (∀ (s : State) (e : Fin 64) (t : Fin 16) (cause : Nat) (a : IssueAt), s.devStep (.threadFault e t cause a.offset a.addr a.issues) fun d =>
    let i := ((s.dev.getEng e).thread t).inv
    d = if cause ≠ 1 ∧ cause ≠ 3 ∧ cause ≠ 4 then s.dev
      else if t.val = 0 then Dev.engineFailure e .supervisor s.dev
      else if cause = 4 ∧ (∀ j, i = some j → a.issues ≤ j.issues) then s.dev
      else s.dev.faultThread e t cause a) ∧
  (∀ (s : State) (e : Fin 64) (t : Fin 16) (offset issues : Nat), s.devStep (.watchdog e t offset issues) fun d =>
    match ((s.dev.getEng e).thread t).inv with
    | none => d = s.dev
    | some i => d = if i.start + (i.timeNs * 65536 : Nat) < s.dev.sysTicks ∧ t.val ≠ 0 then s.dev.faultThread e t 2 ⟨offset, 0, issues⟩ else s.dev) ∧
  (∀ (s : State) (e : Fin 64), s.devStep (.supervisorHandle e) fun d =>
    let x := s.dev.getEng e
    match x.excq with
    | [] => d = s.dev
    | r :: rest =>
      let n := ((x.thread r.thread).faults.filter fun k => decide (s.dev.now < k + secT 1)).length + 1
      (d.getEng e).excq = rest ++ x.excWait.take 1 ∧ (d.getEng e).excWait = x.excWait.drop 1 ∧
      (r.thread < x.threads.length → 8 ≤ n → ((d.getEng e).thread r.thread).st = .retired) ∧
      (r.thread < x.threads.length → n < 8 → x.inbox = [] → ((d.getEng e).thread r.thread).st = .idle ∧
        ((d.getEng e).thread r.thread).inv = none ∧ ((d.getEng e).thread r.thread).faults.length = n))

/-- A failure of a RUNNING engine stops it and empties its inbox; firmware enables it again when its time has come; the end of a self-test makes it
RUNNING or leaves it stopped; it stops when no thread works or its bound has elapsed; an engine without work for 100 µs is gated. The engine a
rollout waits for goes on when it is drained, and the last one ends the rollout. -/
def Obligations.EngineLifeRowsComplete : Prop :=
  (∀ (s : State) (e : Fin 64) (k : EngCause), s.devStep (.engineFailure e k) fun d =>
    if (s.dev.getEng e).obj.st = .running then (d.getEng e).obj.st = .stopping ∧ (d.getEng e).inbox = [] ∧ (d.getEng e).excq = []
    else d = s.dev) ∧
  (∀ (s : State) (e : Fin 64), s.devStep (.engineReenable e) fun d =>
    let x := s.dev.getEng e
    d = if due s.dev.now x.reenable = true ∧ x.obj.st = .stopped ∧ s.dev.hif.headless = false then
      s.dev.setEng e { x with
        obj := (x.obj.enable s.dev.nowNs).obj, reenable := none, image := s.dev.loadImages e, data := [], dataUe := [] } else s.dev) ∧
  (∀ (s : State) (e : Fin 64) (ok : Bool), s.devStep (.engineSelfTestDone e ok) fun d =>
    if (s.dev.getEng e).obj.st = .starting then (d.getEng e).obj.st = if ok then .running else .stopped else d = s.dev) ∧
  (∀ (s : State) (e : Fin 64), s.devStep (.engineStopDone e) fun d =>
    let x := s.dev.getEng e
    if x.obj.st = .stopping ∧ ((∀ t ∈ x.threads, t.st = .idle ∨ t.st = .retired) ∨ due s.dev.now x.obj.due = true) then
      (d.getEng e).obj = x.obj.stopped s.dev.nowNs ∧ (d.getEng e).gated = false ∧ (d.getEng e).inbox = [] ∧ (d.getEng e).excq = [] ∧
        (x.obj.held = true → (d.getEng e).data = [] ∧ (d.getEng e).dataUe = [])
    else d = s.dev) ∧
  (∀ (s : State) (e : Fin 64), s.devStep (.idleGate e) fun d =>
    let x := s.dev.getEng e
    if x.obj.st = .running ∧ x.gated = false ∧ x.busy = false ∧ x.traceFull = false ∧ x.idleSince + usT 100 ≤ s.dev.now then
      (d.getEng e).gated = true ∧ (d.getEng e).gatedAt = s.dev.now
    else d = s.dev) ∧
  (∀ (s : State) (e : Fin 64) (ok : Bool), s.devStep (.patchEngineDrained e ok) fun d =>
    match s.dev.pe.roll with
    | none => d = s.dev
    | some r =>
      let x := s.dev.getEng e
      if r.todo.head? ≠ some e.val ∨ x.inbox.any (·.module == r.module) = true ∨
          x.threads.any (fun t => match t.inv with | some i => i.module == r.module | none => false) = true then d = s.dev
      else if s.dev.hif.headless then d.pe.roll = some { r with todo := r.todo.tail, done := e :: r.done }
      else (ok = true ∨ r.back = true) → r.todo.tail = [] →
        d.pe.roll = none ∧ tget d.pe.module r.module = some (if r.back then r.old else r.new))

/-- The next frame handed to a slice is admitted to its VOQs; one that would stream goes on at once to its egress pipeline, and where its length is not
the declared one it is counted and its last cell carries an abort mark. An open stripe without a write for 1 µs closes with its parity. The head
of a VOQ leaves only while the queue is hot, RUNNING or STOPPING and reachable, against cells of credit and room in the staging buffer; a frame
that cannot be read gives its cells of credit back. Scarab's passes and the ageing sweep come at their intervals. The pool commands store or
answer what Tables 7.6 to 7.12 name, and refuse what they forbid. -/
def Obligations.BufferRowsComplete : Prop :=
  (∀ (s : State) (sl : Fin 32), s.devStep (.voqAdmit sl) fun d =>
    match (s.dev.getSlice sl).inbox with
    | [] => d = s.dev
    | f :: r =>
      let y := s.dev.quietExit
      (y.cutThrough f = none →
        d = (Dev.admitFrame sl f (y.modSlice sl fun x => { x with inbox := r })).strandedCheck.demandAll) ∧
      (∀ v, y.cutThrough f = some v →
        let n := (y.declaredLen f).getD f.len
        let d1 := Dev.voqAdmit sl (if n = f.len then y
          else (y.modSlice sl fun x => { x with inbox := { f with len := n } :: r }).dropPipe sl 8 f.len)
        (d1.getQ v).chain.length ≠ 1 → d = d1.demandAll) ∧
      (∀ v e, y.cutThrough f = some v →
        let n := (y.declaredLen f).getD f.len
        let d1 := Dev.voqAdmit sl (if n = f.len then y
          else (y.modSlice sl fun x => { x with inbox := { f with len := n } :: r }).dropPipe sl 8 f.len)
        (d1.getQ v).chain = [e] →
          d = if ptrHbm e.ptr then d1.demandAll
            else Dev.voqSend v true (d1.setCsw fun w => { w with ctIn := w.ctIn + 1 }) (n != f.len))) ∧
  (∀ (s : State) (sl : Fin 32), s.devStep (.stripeCloseTimeout sl) fun d =>
    match (s.dev.getSlice sl).stripe with
    | none => d = s.dev
    | some o =>
      if o.last + usT 1 ≤ s.dev.now then
        let z := Dev.putParity o (s.dev.modSlice sl fun y => { y with stripe := none })
        ∃ b, d = z.setBuf (fun _ => b) ∧ b.slice = z.buf.slice ∧ b.frame = z.buf.frame ∧ b.cell = z.buf.cell ∧
          ∀ st, tget z.buf.stripe o.stripe = some st →
            (st.recs = [] → b.stripe = tdel z.buf.stripe o.stripe) ∧
            (st.recs ≠ [] → tget b.stripe o.stripe = some { st with closed := true, parity := s.dev.parityUp o.stripe })
      else d = s.dev) ∧
  (∀ (s : State) (v : Nat), s.devStep (.voqDequeue v) fun d =>
    let y := s.dev.ageQueue v
    let q := y.getQ v
    if Dev.isVoq v = false ∨ Dev.Queue.isHot q = false ∨ (q.obj.st ≠ .running ∧ q.obj.st ≠ .stopping) ∨ y.voqReachable v = false then
      d = Dev.voqDemand v y
    else
      (q.chain = [] → d = Dev.voqDemand v y) ∧
      (∀ e r, q.chain = e :: r → tget y.buf.frame e.ptr = none →
        d = Dev.voqDemand v ((y.setQ v (q.withChain r y.now)).ptrFault 0 e.ptr 2)) ∧
      (∀ e r st, q.chain = e :: r → tget y.buf.frame e.ptr = some st →
        let n := cellsOf e.len
        let sl := y.sliceFor v st.fl
        if q.balance < n ∨ 1024 < y.stagedAt sl + n + 2 then d = Dev.voqDemand v y
        else
          let rd := Dev.readHead sl v e (y.setQ v { q.withChain r y.now with balance := q.balance - n })
          (rd.1 = false → d = Dev.voqDemand v (rd.2.modQ v fun x => { x with balance := x.balance + n })) ∧
          (rd.1 = true → d = (Dev.voqDemand v (Dev.releaseFrame sl v e.ptr (
            if Dev.voqDev v = rd.2.devId then Dev.stageLocal sl st.fl v n false false rd.2
            else Dev.streamFrame sl (Dev.voqDev v) (Dev.voqPort v / 8) (Dev.voqCls v) (rd.2.framedBytes v st.fl) rd.2))).strandedCheck))) ∧
  (∀ (s : State) (hbm : Bool), s.devStep (.scarabPass hbm) fun d =>
    if hbm = false ∧ s.dev.now < s.dev.buf.passAt + msT s.dev.buf.auditMs then d = s.dev
    else if hbm then d.buf.passesHbm = s.dev.buf.passesHbm + 1
    else d.buf.passesOnd = s.dev.buf.passesOnd + 1 ∧ d.buf.passAt = s.dev.now) ∧
  (∀ (s : State), s.devStep .queueAgeingSweep fun d =>
    d = if s.dev.now < s.dev.sch.ageAt + msT 1 then s.dev
      else ((s.dev.qs.q.map (·.1)).foldl (fun (x : Dev) q => x.ageQueue q)
        { s.dev with sch := { s.dev.sch with ageAt := s.dev.now } }).demandAll) ∧
  (∀ (s : State) (src : Src) (c : Cmd), s.runs 0x0400 src c →
    let g := c.f 0 1
    let d1 := s.dev.setBuf fun b => { b with
      spillTok := s.dev.spillTokens, spillStamp := s.dev.now, spillRate := c.f 2 2, hbmGib := g, auditMs := c.f 4 4 }
    s.replies (.bufSetPool src) c (
      if c.bad 0x00 then s.refusal .badHandle
      else if 96 < g ∨ g % 8 ≠ 0 ∨ c.dirty 1 1 = true ∨ 400 < c.f 2 2 ∨ c.f 4 4 < 10 ∨ 10000 < c.f 4 4 ∨ c.dirty 8 24 = true then
        s.refusal .badArg
      else if g ≠ s.dev.buf.hbmGib ∧ s.dev.buf.stripe.all (fun x => x.2.recs.isEmpty) = false then s.refusal .refusedBusy
      else if 3 * d1.hbmData < 4 * d1.hbmFloors ∨ d1.hbmBudgetOk = false then s.refusal .budgetExceeded
      else .done (if g = s.dev.buf.hbmGib then d1
        else (List.range 32).foldl (fun x k => x.modSlice k fun y => { y with stripe := none }) (d1.setBuf fun b => { b with stripe := [] }))
        {})) ∧
  (∀ (s : State) (src : Src) (c : Cmd), s.runs 0x0401 src c →
    let k := c.hIdx
    let d1 := s.dev.modQuota k fun q => { q with ondFloor := c.f 0 4, ondCeil := c.f 4 4, hbmFloor := c.f 8 4, hbmCeil := c.f 12 4 }
    s.replies (.bufSetQuota src) c (
      if Dev.quotaBad c then s.refusal .badHandle
      else if c.f 4 4 < c.f 0 4 ∨ c.f 12 4 < c.f 8 4 ∨ 1040384 < c.f 4 4 ∨ s.dev.hbmData < c.f 12 4 ∨
          (4096 ≤ k ∧ (c.f 8 4 ≠ 0 ∨ c.f 12 4 ≠ 0)) ∨ c.dirty 16 16 = true then s.refusal .badArg
      else if 1040384 < d1.ondFloors ∨ 3 * s.dev.hbmData < 4 * d1.hbmFloors then s.refusal .budgetExceeded
      else if 1040384 < d1.ondFloors + (d1.buf.quota.map fun p => p.2.ondUsed - p.2.ondFloor).sum ∨
          d1.hbmData < d1.hbmFloors + (d1.buf.quota.map fun p => p.2.hbmUsed - p.2.hbmFloor).sum then s.refusal .noSpace
      else .done d1 {})) ∧
  (∀ (s : State) (src : Src) (c : Cmd), s.runs 0x0402 src c → s.replies (.bufSetClass src) c (
    if c.bad 0x00 then s.refusal .badHandle
    else if c.dirty 3 29 then s.refusal .badArg
    else .done { s.dev with buf := { s.dev.buf with
      spill := BitVec.ofNat 8 (c.f 0 1), mayPush := BitVec.ofNat 8 (c.f 1 1), pushable := BitVec.ofNat 8 (c.f 2 1) } } {})) ∧
  (∀ (s : State) (src : Src) (c : Cmd), s.runs 0x0403 src c → s.replies (.bufSetSojourn src) c (
    if Dev.queueBad c then s.refusal .badHandle
    else if c.f 0 4 = 0 ∨ 5242880 < c.f 0 4 ∨ 0x500000 < c.hIdx + c.f 0 4 ∨ 6000000 < c.f 4 4 ∨ c.dirty 8 24 = true then s.refusal .badArg
    else .done ((List.range (c.f 0 4)).foldl (fun x k => Dev.cfgWrite (c.hIdx + k) (fun q => { q with sojourn := c.f 4 4 }) x) s.dev) {})) ∧
  (∀ (s : State) (src : Src) (c : Cmd), s.runs 0x0404 src c → c.bad 0x00 = false →
    ∃ b, s.replies (.bufGetStatus src) c (.done s.dev { record := some b }) ∧ b.length = 64 ∧
      field b 4 4 = s.dev.ondShared % 2 ^ 32 ∧ field b 20 4 = s.dev.hbmShared % 2 ^ 32 ∧
      field b 24 8 = (s.dev.buf.slice.map fun x => x.2.pushouts).sum % 2 ^ 64) ∧
  (∀ (s : State) (src : Src) (c : Cmd), s.runs 0x0404 src c → c.hType = 0x03 → c.bad 0x03 = false →
    ∃ b, s.replies (.bufGetStatus src) c (.done s.dev { record := some b }) ∧ b.length = 64 ∧
      field b 24 8 = (s.dev.getSlice c.hIdx).pushouts % 2 ^ 64 ∧ field b 32 8 = (s.dev.getSlice c.hIdx).leaked % 2 ^ 64) ∧
  (∀ (s : State) (src : Src) (c : Cmd), s.runs 0x0405 src c →
    let q := s.dev.getQuota c.hIdx
    s.replies (.bufGetQuota src) c (
      if Dev.quotaBad c then s.refusal .badHandle
      else .done (s.dev.modQuota c.hIdx fun x => { x with ondPeak := x.ondUsed, hbmPeak := x.hbmUsed }) { record := some (
        le 4 q.ondFloor ++ le 4 q.ondCeil ++ le 4 q.hbmFloor ++ le 4 q.hbmCeil ++ le 4 q.ondUsed ++ le 4 q.hbmUsed ++ le 4 q.ondPeak ++
        le 4 q.hbmPeak ++ le 8 q.refused ++ le 8 q.pushed ++ List.replicate 16 0) })) ∧
  (∀ (s : State) (src : Src) (c : Cmd), s.runs 0x0406 src c → c.hType = 0x00 → c.hIdx = 0 →
    s.replies (.bufGetDrops src) c (.done s.dev { record := some ((List.range 64).flatMap fun k =>
      let p : Pair := s.dev.buf.slice.foldl (fun (a : Pair) x =>
        { pkts := a.pkts + (tgetD x.2.drops {} (64 + k)).pkts, bytes := a.bytes + (tgetD x.2.drops {} (64 + k)).bytes }) {}
      le 8 p.pkts ++ le 8 p.bytes) })) ∧
  (∀ (s : State) (src : Src) (c : Cmd), s.runs 0x0406 src c → c.hType ≠ 0x00 →
    s.replies (.bufGetDrops src) c (
      if c.bad (if c.hType = 0x03 then 0x03 else 0x01) then s.refusal .badHandle
      else .done s.dev { record := some ((List.range 64).flatMap fun k =>
        let p : Pair := if c.hType = 0x03 then tgetD (s.dev.getSlice c.hIdx).drops {} (64 + k)
          else tgetD s.dev.buf.portDrops {} (c.hIdx * 128 + (64 + k))
        le 8 p.pkts ++ le 8 p.bytes) }))

/-- A queue becomes hot when its activation completes, with the configuration of a good copy or the default one, and takes its parked frames; a hot one
that is empty, unpinned and without balance leaves after the idle time its timer started with. The frames toward a device that stays
unreachable are flushed, and its reservations are released. A queue's start and stop end as Table 8.4 says. The queue commands store, pin, map or
answer what Tables 8.6 to 8.8 name, and refuse what they forbid. -/
def Obligations.QueueRowsComplete : Prop :=
  (∀ (s : State) (q : Nat), s.devStep (.activationComplete q) fun d =>
    let x := s.dev.getQ q
    if x.part = .cold ∨ x.actSince = none then d = s.dev
    else match s.dev.readCopies (Dev.queueCopies q) 32 with
      | none => d = s.dev
      | some good =>
        let y : Queue := { x with
          actSince := none, chain := x.chain ++ x.parked, parked := [], emptyAt := if x.parked.isEmpty then s.dev.now else x.emptyAt
          cfgBad := good.isNone }
        let d1 := if good.isNone then
            (Dev.shadowNeed (.queueCfg q) (s.dev.setQ q y)).raise 0x0901 sevMajor 0 [f8 (Dev.queueCopies q).1, fByte (Config.eccCode 6)]
          else (s.dev.setQ q y).writeCopies (Dev.queueCopies q) 32
        d = (Dev.voqDemand q d1).finish 0x040B (Dev.queueHandle q) {}) ∧
  (∀ (s : State) (q : Nat), s.devStep (.activeIdleTimeout q) fun d =>
    let x := s.dev.getQ q
    d = if Dev.Queue.isHot x = true ∧ x.chain = [] ∧ x.parked = [] ∧ x.balance = 0 ∧ x.cfg.pinned = false ∧ s.dev.autoPinned q = false ∧
        x.idleDue.getD (x.emptyAt + usT s.dev.qs.idleUs) ≤ s.dev.now then
      s.dev.modQ q fun y => { y with
        part := .cold, actSince := none, balance := 0, demand := 0, grantSeq := 0, idleDue := none, cfgBad := false } else s.dev) ∧
  (∀ (s : State) (dev : Nat), s.devStep (.destFlushTimeout dev) fun d =>
    match tget s.dev.qs.flushDue dev with
    | none => d = s.dev
    | some t =>
      if s.dev.now < t then d = s.dev
      else
        let vs := (s.dev.qs.q.filter fun p => Dev.isVoq p.1 && Dev.voqDev p.1 == dev && !(p.2.chain.isEmpty && p.2.parked.isEmpty)).map (·.1)
        let r := vs.foldl (fun (x : Dev × Nat) v => ((Dev.flushQueue v 83 x.1).1, x.2 + (Dev.flushQueue v 83 x.1).2)) (s.dev, 0)
        d = if s.dev.qs.flushed.contains dev then r.1
          else (r.1.setQs fun x => { x with flushed := dev :: x.flushed }).raise 0x0408 sevMinor 0 [fIdx dev, fCnt vs.length, fCnt r.2]) ∧
  (∀ (s : State) (dev : Nat), s.devStep (.reservationRelease dev) fun d =>
    match tget s.dev.qs.unreach dev with
    | none => d = s.dev
    | some t =>
      if s.dev.qs.released.contains dev = true ∨ s.dev.now < t + msT 10 then d = s.dev
      else d = ((s.dev.qs.flow.filter fun f => f.1 % 2048 == dev).foldl (fun (x : Dev) f =>
        (x.putFlow f.1 { f.2 with demand := 0, outstanding := 0 }).unreserve (f.1 / 16384) f.2.outstanding) s.dev).setQs
          fun x => { x with released := dev :: x.released }) ∧
  (∀ (s : State) (q : Nat), s.devStep (.queueStartDone q) fun d =>
    let x := s.dev.getQ q
    d = if x.obj.st = .starting then
      (s.dev.raiseObj (Dev.queueHandle q) x.obj .running false 0).setQ q { x with obj := x.obj.started s.dev.nowNs } else s.dev) ∧
  (∀ (s : State) (q : Nat), s.devStep (.queueStopDone q) fun d =>
    let x := s.dev.getQ q
    if x.obj.st = .stopping ∧ ((x.chain = [] ∧ x.parked = []) ∨ due s.dev.now x.obj.due = true) then
      (d.getQ q).obj = x.obj.stopped s.dev.nowNs ∧ (d.getQ q).chain = [] ∧ (d.getQ q).parked = []
    else d = s.dev) ∧
  (∀ (s : State) (src : Src) (c : Cmd), s.runs 0x0407 src c →
    let x := s.dev.getQ c.hIdx
    s.replies (.qEnable src) c (
      if Dev.queueBad c then s.refusal .badHandle
      else .done (s.dev.setQ c.hIdx { x with obj := (x.obj.enable s.dev.nowNs).obj }) { status := (x.obj.enable s.dev.nowNs).status })) ∧
  (∀ (s : State) (src : Src) (c : Cmd), s.runs 0x0408 src c →
    let x := s.dev.getQ c.hIdx
    let r := x.obj.disable s.dev.nowNs (s.dev.now + msT 5)
    s.replies (.qDisable src) c (
      if Dev.queueBad c then s.refusal .badHandle else .done (s.dev.setQ c.hIdx { x with obj := r.obj }) { status := r.status })) ∧
  (∀ (s : State) (src : Src) (c : Cmd), s.runs 0x0409 src c → Dev.queueBad c = false →
    let x := s.dev.getQ c.hIdx
    ∃ b, s.replies (.qGetStatus src) c (.done s.dev { record := some b }) ∧ b.length = 64 ∧ field b 0 4 = c.hIdx % 2 ^ 32 ∧
      field b 4 1 = x.obj.st.code % 256 ∧ (x.part = .cold → field b 28 2 = 0 ∧ field b 30 2 = 0) ∧
      (x.part ≠ .cold → field b 28 2 = x.balance % 65536 ∧ field b 30 2 = x.demand % 65536)) ∧
  (∀ (s : State) (src : Src) (c : Cmd), s.runs 0x040A src c → s.replies (.qSetActive src) c (
    if c.bad 0x00 then s.refusal .badHandle
    else if c.f 0 4 = 0 ∨ 1000000 < c.f 0 4 ∨ 131072 < c.f 4 4 ∨ 60000 < c.f 8 4 ∨ c.dirty 12 20 = true then s.refusal .badArg
    else .done { s.dev with qs := { s.dev.qs with
      idleUs := c.f 0 4, reserve := c.f 4 4, flushMs := c.f 8 4
      q := s.dev.qs.q.map fun p =>
        if Dev.Queue.isHot p.2 && p.2.chain.isEmpty && p.2.balance == 0 && p.2.idleDue.isNone then
          (p.1, { p.2 with idleDue := some (p.2.emptyAt + usT s.dev.qs.idleUs) }) else p } } {})) ∧
  (∀ (s : State) (src : Src) (c : Cmd), s.runs 0x040B src c →
    let x := s.dev.getQ c.hIdx
    s.replies (.qPin src) c (
      if Dev.queueBad c then s.refusal .badHandle
      else if 1 < c.f 0 1 ∨ c.dirty 1 31 = true then s.refusal .badArg
      else if c.f 0 1 = 1 ∧ x.pinned = false ∧ s.dev.autoPinned c.hIdx = false ∧ 16384 ≤ s.dev.pinnedCount then s.refusal .noSpace
      else if c.f 0 1 = 0 then .done (Dev.cfgWrite c.hIdx (fun y => { y with pinned := false }) s.dev) {}
      else if Dev.Queue.isHot x then .done (Dev.cfgWrite c.hIdx (fun y => { y with pinned := true }) s.dev) {}
      else
        let d1 := s.dev.noteWrite c.intake (.queue c.hIdx (tget s.dev.qs.q c.hIdx))
        if x.part ≠ .cold then .pend (Dev.cfgWrite c.hIdx (fun y => { y with pinned := true }) d1)
        else match d1.takeEntry c.hIdx false with
          | some (p, e) => .pend (Dev.queueCfgRead c.hIdx
              (Dev.cfgWrite c.hIdx (fun y => { y with pinned := true, part := p, actSince := some s.dev.now }) e))
          | none => s.refusal .noSpace)) ∧
  (∀ (s : State) (src : Src) (c : Cmd), s.runs 0x040C src c →
    let p := c.hIdx; let cl := c.f 0 1; let k := c.f 1 1; let base := c.f 4 4
    let old := s.dev.mapOf p cl
    ∃ y : Dev, y.qs.map = tset s.dev.qs.map (0x400000 + 8 * p + cl, 0) (p * 8 + cl) (base, k) ∧
      (∀ q, old.1 ≤ q → q < old.1 + 2 ^ old.2 → ¬(base ≤ q ∧ q < base + 2 ^ k) → (y.getQ q).chain = [] ∧ (y.getQ q).parked = []) ∧
      s.replies (.qSetEgressMap src) c (
        if c.bad 0x01 then s.refusal .badHandle
        else if 7 < cl ∨ 12 < k ∨ c.dirty 2 2 = true ∨ c.dirty 8 24 = true ∨ base % 2 ^ k ≠ 0 ∨ base < 0x400000 ∨ 0x500000 < base + 2 ^ k ∨
            (List.range 2048).any (fun j => j != p * 8 + cl &&
              (decide (base < (s.dev.mapOf (j / 8) (j % 8)).1 + 2 ^ (s.dev.mapOf (j / 8) (j % 8)).2) &&
                decide ((s.dev.mapOf (j / 8) (j % 8)).1 < base + 2 ^ k))) = true then s.refusal .badArg
        else if (s.dev.getPort p).obj.st ≠ .stopped then s.refusal .refusedBusy
        else .done y {})) ∧
  (∀ (s : State) (src : Src) (c : Cmd), s.runs 0x040D src c → s.replies (.qSetCredit src) c (
    let ws := (List.range 8).map fun i => c.f (8 + 2 * i) 2
    if c.bad 0x01 then s.refusal .badHandle
    else if (c.f 0 4 ≠ 0 ∧ (c.f 0 4 < 64 ∨ (s.dev.getQuota (4096 + c.hIdx)).ondCeil < c.f 0 4)) ∨ c.f 4 1 = 0 ∨ 8 < c.f 4 1 ∨ 4 < c.f 5 1 ∨
        c.dirty 6 2 = true ∨ ws.any (fun x => x == 0 || decide (4096 < x)) = true ∨ c.dirty 24 8 = true then s.refusal .badArg
    else .done (s.dev.modCredit c.hIdx fun x => { x with
      window := c.f 0 4, cap := c.f 4 1, strict := c.f 5 1, weights := ws, cur := max x.cur (c.f 5 1) }) {})) ∧
  (∀ (s : State) (src : Src) (c : Cmd), s.runs 0x040E src c →
    let x := s.dev.getCredit c.hIdx
    s.replies (.qGetCreditStatus src) c (
      if c.bad 0x01 then s.refusal .badHandle
      else s.report c ([fCnt (s.dev.creditWindow c.hIdx), fCnt ((s.dev.getQuota (4096 + c.hIdx)).ondUsed - x.reserved), fCnt x.reserved] ++
        fArr ((List.range 8).map fun k => [fCnt (s.dev.qs.flow.filter fun f => f.1 / 2048 == c.hIdx * 8 + k).length]) ++
        [fCnt x.grants, fCnt x.flowFull])))

/-- A CREDIT_REQ for a port of this device sets or makes its flow, with its demand corrected by the grants the requester had not seen; with 262,144
flows in use a new one is counted and discarded. A CREDIT_RETURN lowers the outstanding count, a CREDIT_GRANT raises the balance of its VOQ by 16
cells each, a refresh sends the demand again after 1 ms. A grant is issued only with room, to the class and the source that R283 selects, and a lost
cell's space comes back after 100 ms. -/
def Obligations.CreditRowsComplete : Prop :=
  (∀ (s : State) (m : CreditMsg), s.devStep (.creditReq m) fun d =>
    if Dev.voqDev m.voq ≠ s.dev.devId then d = s.dev
    else
      let k := Dev.flowKey (Dev.voqPort m.voq) (Dev.voqCls m.voq) m.srcDev
      match tget s.dev.qs.flow k with
      | some f => d = s.dev.putFlow k { f with demand := m.value - (f.seq + 65536 - m.seq % 65536) % 65536 }
      | none =>
        if s.dev.qs.flow.length < 262144 then d = s.dev.putFlow k { demand := m.value, outstanding := 0, seq := m.seq % 65536 }
        else d.qs.flow = s.dev.qs.flow ∧ (d.getCredit (Dev.voqPort m.voq)).flowFull = (s.dev.getCredit (Dev.voqPort m.voq)).flowFull + 1) ∧
  (∀ (s : State) (m : CreditMsg), s.devStep (.creditReturn m) fun d =>
    let k := Dev.flowKey (Dev.voqPort m.voq) (Dev.voqCls m.voq) m.srcDev
    match tget s.dev.qs.flow k with
    | none => d = s.dev
    | some f =>
      let n := min m.value f.outstanding
      d = if Dev.voqDev m.voq ≠ s.dev.devId then s.dev
        else ((s.dev.putFlow k { f with outstanding := f.outstanding - n }).flowTouch k).unreserve (Dev.voqPort m.voq) n) ∧
  (∀ (s : State) (m : CreditMsg), s.devStep (.creditGrant m) fun d =>
    d = if Dev.isVoq m.voq = false then s.dev
      else if (s.dev.getQ m.voq).part = .cold then
        (if s.dev.voqReachable m.voq then s.dev.sendReturn m.voq (16 * m.value) (m.seq % 65536) else s.dev)
      else Dev.voqDemand m.voq (s.dev.modQ m.voq fun q => { q with balance := q.balance + 16 * m.value, grantSeq := m.seq % 65536 })) ∧
  (∀ (s : State) (v : Nat), s.devStep (.creditReqRefresh v) fun d =>
    let q := s.dev.getQ v
    d = if Dev.isVoq v = true ∧ Dev.Queue.isHot q = true ∧ s.dev.voqReachable v = true ∧ Dev.demandOf q ≠ 0 ∧ q.reqAt + msT 1 ≤ s.dev.now then
      (s.dev.setQ v { q with demand := Dev.demandOf q, reqAt := s.dev.now }).sendReq v (Dev.demandOf q) q.grantSeq else s.dev) ∧
  (∀ (s : State) (p : Fin 256), s.devStep (.grantIssue p) fun d =>
    let x := s.dev.getCredit p
    let ch := s.dev.creditChildren p
    let r := drrSelect 1 64 (ch.take x.strict) (ch.drop x.strict) (x.cur - x.strict)
    if s.dev.grantRoom p = false then d = s.dev
    else match r.1 with
      | none => d = s.dev
      | some i => ∀ src f, s.dev.nextSource p (7 - i) = some src → tget s.dev.qs.flow (Dev.flowKey p (7 - i) src) = some f →
        (d.getCredit p).grants = x.grants + 1 ∧
        (src ≠ s.dev.devId →
          tget d.qs.flow (Dev.flowKey p (7 - i) src) = some {
            demand := f.demand - 1, outstanding := f.outstanding + 16, seq := (f.seq + 1) % 65536 } ∧
          (d.getCredit p).reserved = x.reserved + 16 ∧
          (d.getQuota (Dev.egQuota p)).ondUsed = (s.dev.getQuota (Dev.egQuota p)).ondUsed + 16)) ∧
  (∀ (s : State) (p : Fin 256) (dev cls : Nat), s.devStep (.lostCreditRelease p dev cls) fun d =>
    let k := Dev.flowKey p cls dev
    match tget s.dev.qs.flow k with
    | none => d = s.dev
    | some f => d = if f.demand = 0 ∧ f.outstanding ≠ 0 ∧ tgetD s.dev.fab.flowAt 0 k + msT 100 ≤ s.dev.now then
        (s.dev.putFlow k { f with outstanding := 0 }).unreserve p f.outstanding else s.dev)

/-- A port sends nothing while its pipeline is not RUNNING or STOPPING, its bridge group or transmit path is closed, its shaper is in debt, or no queue
is eligible; otherwise the head of the selected queue leaves, the elements on its path pay its length plus the port's adjustment, and the frame goes
to the egress pipeline. A shaper whose tokens have risen to 0 is brought to date. SCH_SET stores a port's element, makes no node beyond the limit,
removes a node without children; the policer commands store and answer what R309 to R313 name. -/
def Obligations.SchedulerRowsComplete : Prop :=
  (∀ (s : State) (p : Fin 256), s.devStep (.egressSelection p) fun d =>
    let st := (s.dev.getPipe (p / 8)).obj.st
    if (st ≠ .running ∧ st ≠ .stopping) ∨ s.dev.bridgeStalled (p / 8) = true ∨ s.dev.pathOpen p = false ∨
        s.dev.inDebt (s.dev.schPort p).shaper = true then d = s.dev
    else
      let y0 := s.dev.encapDamage p
      (∀ x, Dev.select 1 p 4 y0 = (none, x) → d = y0) ∧
      (∀ q path x, Dev.select 1 p 4 y0 = (some (q, path), x) → ((x.ageQueue q).getQ q).chain = [] → d = x.ageQueue q) ∧
      (∀ q path x e r f z, Dev.select 1 p 4 y0 = (some (q, path), x) → ((x.ageQueue q).getQ q).chain = e :: r →
        let y := (x.ageQueue q).setQ q (((x.ageQueue q).getQ q).withChain r (x.ageQueue q).now)
        (Dev.readHead (p / 8) q e y = (false, z) → d = z) ∧
        (Dev.readHead (p / 8) q e y = (true, z) → tget y.buf.frame e.ptr = some f →
          let w := Dev.releaseFrame (p / 8) q e.ptr z
          d = (Dev.sendFlits (p / 8) false f.fl.len (Dev.encapFetch f.fl
            (((0, p.val) :: path).foldl (Dev.pay (e.len + (w.schPort p).adjust)) w))).modPipe (p / 8) fun u =>
              { u with egress := u.egress ++ [{ f.fl with outPort := p, place := .stages, verdict := none }] }))) ∧
  (∀ (s : State) (k : Fin 3) (i : Nat), s.devStep (.shaperDebtEnd k i) fun d =>
    match s.dev.elem k i with
    | none => d = s.dev
    | some e => d = if e.shaper.on = true ∧ s.dev.inDebt e.shaper = false then
        s.dev.putElem k i { e with shaper := e.shaper.fresh s.dev.now } else s.dev) ∧
  (∀ (s : State) (src : Src) (c : Cmd), s.runs 0x040F src c → c.hType = 0x01 →
    let on := bit (c.f 0 1) 0
    let adj := signed 1 (c.f 5 1)
    let sh := s.dev.newShaper (s.dev.schPort c.hIdx).shaper on (c.f 16 8) (c.f 12 4)
    s.replies (.schSet src) c (
      if c.bad 0x01 then s.refusal .badHandle
      else if 2 ≤ c.f 0 1 ∨ c.dirty 24 8 = true ∨ (on = true ∧ (c.f 16 8 = 0 ∨ 3200000000 < c.f 16 8)) ∨
          (c.f 12 4 ≠ 0 ∧ (c.f 12 4 < 256 ∨ 4194304 < c.f 12 4)) ∨ 4 < c.f 1 1 ∨ c.f 2 2 ≠ 0 ∨ c.f 4 1 ≠ 0 ∨ c.f 6 2 ≠ 0 ∨ c.f 8 4 ≠ 0 ∨
          adj < -64 ∨ 63 < adj then s.refusal .badArg
      else .done (s.dev.putSchPort c.hIdx { s.dev.schPort c.hIdx with strict := c.f 1 1, adjust := adj, shaper := sh }) { result := sh.rate })) ∧
  (∀ (s : State) (src : Src) (c : Cmd), s.runs 0x040F src c → c.hType = 0x10 → bit (c.f 0 1) 1 = true → c.f 0 1 < 4 → c.dirty 24 8 = false →
    c.bad 0x10 = false →
    s.replies (.schSet src) c (match s.dev.schNode c.hIdx with
      | none => s.refusal .badHandle
      | some _ => if s.dev.childrenOf 2 c.hIdx = [] then .done { s.dev with sch := { s.dev.sch with node := tdel s.dev.sch.node c.hIdx } } {}
        else s.refusal .refusedBusy)) ∧
  (∀ (s : State) (src : Src) (c : Cmd), s.runs 0x040F src c → c.hType = 0x0F → c.f 0 1 ≤ 1 → c.f 1 1 = 0 → 1 ≤ c.f 2 2 → c.f 2 2 ≤ 4096 →
    c.f 4 1 = 3 → c.f 5 1 = 0 → (c.f 12 4 = 0 ∨ (256 ≤ c.f 12 4 ∧ c.f 12 4 ≤ 4194304)) → (c.f 0 1 = 1 → 1 ≤ c.f 16 8 ∧ c.f 16 8 ≤ 3200000000) →
    c.dirty 24 8 = false →
    let sh := s.dev.newShaper (s.dev.schQ c.hIdx).shaper (bit (c.f 0 1) 0) (c.f 16 8) (c.f 12 4)
    s.replies (.schSet src) c (
      if Dev.queueBad c then s.refusal .badHandle
      else if Dev.isVoq c.hIdx then s.refusal .badArg
      else .done (s.dev.putSchQ c.hIdx { s.dev.detached { s.dev.schQ c.hIdx with strict := 0, weight := c.f 2 2, shaper := sh } with
        unattached := false }) { result := sh.rate })) ∧
  (∀ (s : State) (src : Src) (c : Cmd), s.runs 0x040F src c → c.hType = 0x10 → c.bad 0x10 = false → s.dev.schNode c.hIdx = none →
    s.dev.childrenOf 2 c.hIdx = [] → c.f 0 1 ≤ 1 → c.f 1 1 ≤ 4 → 1 ≤ c.f 2 2 → c.f 2 2 ≤ 4096 → c.f 4 1 = 1 → c.f 5 1 = 0 → c.f 8 4 < 256 →
    s.dev.posTaken 1 (c.f 8 4) (c.f 6 2) (true, c.hIdx) = false → (c.f 12 4 = 0 ∨ (256 ≤ c.f 12 4 ∧ c.f 12 4 ≤ 4194304)) →
    (c.f 0 1 = 1 → 1 ≤ c.f 16 8 ∧ c.f 16 8 ≤ 3200000000) → c.dirty 24 8 = false →
    let sh := s.dev.newShaper ({} : SchElem).shaper (bit (c.f 0 1) 0) (c.f 16 8) (c.f 12 4)
    s.replies (.schSet src) c (
      if 1048576 ≤ s.dev.sch.node.length then s.refusal .noSpace
      else .done (s.dev.putSchNode c.hIdx { ({} : SchElem) with
        strict := c.f 1 1, weight := c.f 2 2, shaper := sh, parent := some (1, c.f 8 4), pos := c.f 6 2 }) { result := sh.rate })) ∧
  (∀ (s : State) (src : Src) (c : Cmd), s.runs 0x0410 src c → c.hType = 0x01 →
    let e := s.dev.schPort c.hIdx
    s.replies (.schGet src) c (
      if c.bad 0x01 then s.refusal .badHandle
      else s.report c [fByte (match e.parent with | some x => x.1 | none => 0), fIdx (match e.parent with | some x => x.2 | none => 0),
        fIdx e.pos, fByte 0, fCnt e.strict, f8 e.weight, f8i e.deficit, f8 e.shaper.rate, f8 e.shaper.burst,
        f8i ((e.shaper.fresh s.dev.now).bucket.tokens / byteTok), fCnt (s.dev.childrenOf 1 c.hIdx).length])) ∧
  (∀ (s : State) (src : Src) (c : Cmd), s.runs 0x0411 src c →
    let i := c.hIdx
    s.replies (.polSetProfile src) c (
      if c.bad 0x12 then s.refusal .badHandle
      else if i = 0 ∨ c.f 0 8 = 0 ∨ 3200000000 < c.f 0 8 ∨ c.f 8 4 < 64 ∨ 4194304 < c.f 8 4 ∨ 1 < c.f 12 1 ∨ c.dirty 13 19 = true then
        s.refusal .badArg
      else .done { s.dev with sch := { s.dev.sch with
        prof := tput s.dev.sch.prof i { cir := applied (c.f 0 8), cbs := c.f 8 4, add20 := c.f 12 1 == 1 }
        pol := s.dev.sch.pol.map fun p =>
          if p.2.profile = i then
            match tget s.dev.sch.prof i with
            | some o => (p.1, { p.2 with bucket := { p.2.bucket.refill o.cir o.cbs s.dev.now with
                tokens := min (p.2.bucket.refill o.cir o.cbs s.dev.now).tokens (c.f 8 4 * byteTok) } })
            | none => p
          else p } } { result := applied (c.f 0 8) })) ∧
  (∀ (s : State) (src : Src) (c : Cmd), s.runs 0x0412 src c → s.replies (.polSet src) c (
    if c.bad 0x11 then s.refusal .badHandle
    else if 65535 < c.f 0 4 ∨ (c.f 0 4 ≠ 0 ∧ tget s.dev.sch.prof (c.f 0 4) = none) ∨ (c.f 4 4 ≠ 0xFFFFFFFF ∧ 67108862 < c.f 4 4) ∨
        c.dirty 8 24 = true then s.refusal .badArg
    else .done { s.dev with sch := { s.dev.sch with pol := tset s.dev.sch.pol {} c.hIdx {
      profile := c.f 0 4, base := c.f 4 4
      bucket := Bucket.full (match tget s.dev.sch.prof (c.f 0 4) with | some f => f.cbs | none => 0) s.dev.now } } } {})) ∧
  (∀ (s : State) (src : Src) (c : Cmd), s.runs 0x0413 src c →
    let p := tgetD s.dev.sch.pol {} c.hIdx
    s.replies (.polGet src) c (
      if c.bad 0x11 then s.refusal .badHandle
      else s.report c [fIdx p.profile, f8i (match tget s.dev.sch.prof p.profile with
        | some f => (p.bucket.refill f.cir f.cbs s.dev.now).tokens / byteTok
        | none => 0), fIdx p.base]))

/-- Watched queues are sampled every 10 µs, their sums are added to the histograms every 1 ms and request line 16 is raised, and every hot queue is
swept every 10 ms with line 17. An accounting interval closes at its boundary, the next one opens in the other bank, and the oldest closed one goes
to the export ring with line 18 and EV_ACCT_READY. The commands store, clear and answer what Tables 9.3 and 9.5 name. -/
def Obligations.ObservationRowsComplete : Prop :=
  (∀ (s : State), s.devStep .watchedSample fun d =>
    if s.dev.now < s.dev.sch.watchAt + usT 10 then d = s.dev
    else d.sch.watchAt = s.dev.now ∧
      ((s.dev.hotQueues.filter fun k => (s.dev.getQ k).cfg.watched) = [] →
        d = { s.dev with sch := { s.dev.sch with watchAt := s.dev.now } })) ∧
  (∀ (s : State), s.devStep .hotQueueSweep fun d =>
    if s.dev.now < s.dev.sch.sweepAt + msT 10 then d = s.dev
    else d.sch.sweepAt = s.dev.now ∧
      (tgetD s.dev.dma.lines 0 17 < 65535 → tgetD d.dma.lines 0 17 = tgetD s.dev.dma.lines 0 17 + 1)) ∧
  (∀ (s : State), s.devStep .histogramAdd fun d =>
    d = if s.dev.now < s.dev.sch.addAt + msT 1 then s.dev
      else (s.dev.sch.sums.foldl (fun (x : Dev) h => Dev.countBins h.1 h.2 x)
        { s.dev with sch := { s.dev.sch with addAt := s.dev.now, sums := [] } }).dmaRequest 16) ∧
  (∀ (s : State) (k : Fin 64), s.devStep (.acctBoundary k) fun d =>
    match tget s.dev.sch.acct k with
    | none => d = s.dev
    | some a =>
      if a.ends ≤ s.dev.utcSec then
        ∃ b, tget d.sch.acct k = some b ∧ b.seq = (a.seq + 1) % 2 ^ 32 ∧ b.bank = !a.bank ∧ b.start = a.ends ∧ b.opened = s.dev.now ∧
          b.flags = 0 ∧ b.ends = (a.ends / (60 * a.mins) + 1) * (60 * a.mins)
      else d = s.dev) ∧
  (∀ (s : State) (k : Fin 64), s.devStep (.acctExport k) fun d =>
    match tget s.dev.sch.acct k with
    | none => d = s.dev
    | some a =>
      match a.closed with
      | [] => d = s.dev
      | (b, r) :: rest =>
        let r' : AcctRec := match b with | some w => { r with pairs := s.dev.bankPairs a w } | none => r
        tget d.sch.acct k = some { a with closed := rest, ring := (r' :: a.ring).take 4, wrote := a.wrote + 1 } ∧
        ∀ w, b = some w → d.cnt = s.dev.cnt.filter fun p =>
          decide (p.1 < if w then a.base + a.n else a.base) || decide ((if w then a.base + a.n else a.base) + a.n ≤ p.1)) ∧
  (∀ (s : State) (src : Src) (c : Cmd), s.runs 0x0414 src c →
    let q := c.hIdx; let n := c.f 0 4
    s.replies (.obsSetQueue src) c (
      if Dev.queueBad c then s.refusal .badHandle
      else if n = 0 ∨ 5242880 < n ∨ 0x500000 < q + n ∨ 15 < c.f 4 1 ∨ 1 < c.f 5 1 ∨ c.dirty 6 2 = true ∨ c.dirty 24 8 = true ∨
          (c.f 16 8 ≠ 0 ∧ (c.f 16 8 < 64 ∨ 60000000000 < c.f 16 8 ∨ 0x400000 < q + n)) then s.refusal .badArg
      else if 65536 < (s.dev.qs.q.filter fun x => x.2.watched && !(decide (q ≤ x.1) && decide (x.1 < q + n))).length +
          (if bit (c.f 5 1) 0 then n else 0) then s.refusal .noSpace
      else .done ((List.range n).foldl (fun x k => Dev.cfgWrite (q + k) (fun y => { y with
        hist := c.f 4 1, watched := bit (c.f 5 1) 0, depthThr := c.f 8 4, delayThr := c.f 12 4, admitNs := c.f 16 8 }) x) s.dev) {})) ∧
  (∀ (s : State) (src : Src) (pl : HostRead) (c : Cmd), s.runs 0x0415 src c →
    let b := pl.getD []
    let dep := (List.range 15).map fun k => field b (4 * k) 4
    let del := (List.range 15).map fun k => field b (60 + 4 * k) 4
    s.replies (.obsSetHistProfile src pl) c (
      if c.bad 0x14 then s.refusal .badHandle
      else if pl = none ∨ b.length < 120 ∨ Dev.rising dep = false ∨ Dev.rising del = false then s.refusal .badArg
      else .done { s.dev with sch := { s.dev.sch with histProf := tput s.dev.sch.histProf c.hIdx (dep, del) } } {})) ∧
  (∀ (s : State) (src : Src) (c : Cmd), s.runs 0x0416 src c →
    let q := c.hIdx; let n := c.f 0 4
    s.replies (.obsGetHist src) c (
      if Dev.queueBad c then s.refusal .badHandle
      else if n = 0 ∨ 5242880 < n ∨ 0x500000 < q + n ∨ 1 < c.f 4 1 ∨ c.dirty 5 27 = true then s.refusal .badArg
      else .done (if c.f 4 1 = 1 then
          { s.dev with sch := { s.dev.sch with hist := s.dev.sch.hist.filter fun h => decide (h.1 < q) || decide (q + n ≤ h.1) } } else s.dev)
        { record := some ((List.range n).flatMap fun k => (tgetD s.dev.sch.hist Dev.noBins (q + k)).flatMap (le 4)) })) ∧
  (∀ (s : State) (src : Src) (c : Cmd), s.runs 0x0417 src c → c.bad 0x13 = false → c.f 1 1 = 0 → c.dirty 2 2 = false → c.dirty 12 20 = false →
    s.replies (.acctSet src) c (
      if [1, 2, 3, 4, 5, 6, 10, 12, 15, 20, 30, 60].contains (c.f 0 1) = false ∨ c.f 8 4 = 0 ∨ 16777216 < c.f 8 4 ∨
          (∃ a ∈ tget s.dev.sch.acct c.hIdx, a.base ≠ c.f 4 4 ∨ a.n ≠ c.f 8 4) then s.refusal .badArg
      else if 67108864 < c.f 4 4 + 2 * c.f 8 4 ∨ s.dev.sch.acct.any (fun x => x.1 != c.hIdx && (decide (c.f 4 4 < x.2.base + 2 * x.2.n) &&
            decide (x.2.base < c.f 4 4 + 2 * c.f 8 4))) = true ∨
          (tget s.dev.sch.acct c.hIdx = none ∧ s.dev.ringFree (c.f 8 4) = none) then s.refusal .noSpace
      else .done (match tget s.dev.sch.acct c.hIdx with
        | some a => s.dev.putAcct c.hIdx { a with mins := c.f 0 1 }
        | none => s.dev.putAcct c.hIdx { base := c.f 4 4, n := c.f 8 4, mins := c.f 0 1, start := s.dev.utcSec, opened := s.dev.now, flags := 8
                                         ringAt := (s.dev.ringFree (c.f 8 4)).getD 0, ends := Dev.nextBoundary s.dev.utcSec (c.f 0 1) }) {})) ∧
  (∀ (s : State) (src : Src) (c : Cmd), s.runs 0x0417 src c → c.bad 0x13 = false → c.f 1 1 = 1 → c.dirty 2 2 = false → c.dirty 12 20 = false →
    if tget s.dev.sch.acct c.hIdx = none then s.replies (.acctSet src) c (s.refusal .badArg)
    else ∃ x : Dev, s.replies (.acctSet src) c (.done x {}) ∧ tget x.sch.acct c.hIdx = none) ∧
  (∀ (s : State) (src : Src) (c : Cmd), s.runs 0x0418 src c → s.replies (.acctGet src) c (
    match tget s.dev.sch.acct c.hIdx with
    | none => s.refusal .badHandle
    | some a =>
      if c.bad 0x13 then s.refusal .badHandle
      else if c.dirty 4 28 then s.refusal .badArg
      else .done s.dev { record := some ((if c.f 0 4 = 0 then a.ring else a.ring.filter fun r => decide (r.seq ≤ c.f 0 4)).flatMap
        (Dev.acctBytes c.hIdx a.n)) }))

/-- A request takes a number; one that is unmapped or names no granule fails, others wait at their stack and enter when it is awake and its ports have
room. A command slot refreshes first, then issues the request that R341 picks; a parity error freezes the channel. An issued read whose granules are
sound answers its bytes. Refreshes, self-refresh and the training pause come when R343 to R348 say, and the shedding level moves with pressure as R362
says. -/
def Obligations.HbmTrafficRowsComplete : Prop :=
  (∀ (s : State) (r : HbmReq), s.devStep (.hbmRequest r) fun d =>
    let w : HbmWait := { id := s.dev.hbm.ids, req := r, at_ := s.dev.now }
    let y := s.dev.setHbm fun h => { h with ids := h.ids + 1 }
    let st := hbmStackOf r.addr
    let z := y.modStack st fun x => { x with wait := x.wait ++ [w], workAt := if x.sr == .awake then s.dev.now else x.workAt }
    if s.dev.areaAt r.addr = .unmapped ∨ r.granules = 0 then d = Dev.hbmAnswer w [] false y
    else match (s.dev.getStack st).sr with
      | .awake => d = Dev.drainStack st z
      | .asleep => d = if z.mustWake st then z.modStack st fun x => { x with sr := .leaving, workAt := s.dev.now } else z
      | .leaving => d = z) ∧
  (∀ (s : State) (ch : Fin 256) (bad : Bool), s.devStep (.channelCommandSlot ch bad) fun d =>
    if s.dev.chOpen ch = false ∨ (s.dev.getStack (ch / 32)).sr ≠ .awake then d = s.dev
    else
      let r := Dev.refreshStep ch s.dev
      match r.1, r.2.pickReq (r.2.getCh ch) with
      | false, none => d = r.2
      | false, some w => if bad then (d.getCh ch).obj.st = .frozen else d = Dev.issueReq ch w r.2
      | true, _ => if bad then (d.getCh ch).obj.st = .frozen else d = r.2) ∧
  (∀ (s : State) (ch : Fin 256) (id : Nat) (meet : List HbmMeet), s.devStep (.hbmRequestComplete ch id meet) fun d =>
    match (s.dev.getCh ch).reqs.find? fun w => w.id == id && w.issued with
    | none => d = s.dev
    | some w =>
      ((s.dev.getCh ch).obj.st = .running ∨ (s.dev.getCh ch).obj.st = .starting ∨ (s.dev.getCh ch).obj.st = .stopping →
        (∃ g ∈ Dev.granulesOf w.req, s.dev.meetAt meet g = .parity) → (d.getCh ch).obj.st = .frozen) ∧
      (w.req.write = false → (∀ g ∈ Dev.granulesOf w.req, s.dev.meetAt meet g = .ok) →
        let y := s.dev.modCh ch fun c => { c with reqs := c.reqs.filter (·.id != id) }
        d = Dev.drainStack (ch / 32) ((Dev.hbmAnswer w (Dev.pickGranules w.req (y.hbmRead (hbmUnit w.req.addr) 256)) true y).modStack (ch / 32)
          fun x => { x with workAt := s.dev.now }))) ∧
  (∀ (s : State) (ch : Fin 256), s.devStep (.refreshDeadline ch) fun d =>
    let c := s.dev.getCh ch
    d = if s.dev.chOpen ch = true ∧ c.refAt ≤ s.dev.now ∧ c.refLate = 8 then
      Dev.issueRefresh ch (s.dev.modCh ch fun x => { x with refAt := s.dev.now + Config.refreshTicks (s.dev.getStack (ch / 32)).temp })
      else s.dev) ∧
  (∀ (s : State) (st : Fin 8), s.devStep (.selfRefreshEntry st) fun d =>
    let x := s.dev.getStack st
    d = if x.sr = .awake ∧ s.dev.hbm.idleUs ≠ 0 ∧ x.wait = [] ∧
        s.dev.hbm.ch.any (fun c => decide (c.1 / 32 = st.val) && !c.2.reqs.isEmpty) = false ∧
        x.workAt + usT s.dev.hbm.idleUs ≤ s.dev.now ∧ x.exitAt + usT 10 ≤ s.dev.now then
      s.dev.modStack st fun y => { y with sr := .asleep } else s.dev) ∧
  (∀ (s : State) (st : Fin 8), s.devStep (.selfRefreshExit st) fun d =>
    let x := s.dev.getStack st
    d = if x.sr = .leaving ∨ (x.sr = .asleep ∧ s.dev.mustWake st = true) then
      Dev.drainStack st (s.dev.modStack st fun y => { y with sr := .awake, exitAt := s.dev.now, workAt := s.dev.now }) else s.dev) ∧
  (∀ (s : State) (ch : Fin 256), s.devStep (.retrainPause ch) fun d =>
    let c := s.dev.getCh ch
    let late := c.retrainAt + msT 200 < s.dev.now
    if s.dev.now < c.retrainAt ∨ (c.legacy ≠ none ∧ c.pendMode = none) ∨ (s.dev.getStack (ch / 32)).sr ≠ .awake ∨
        (c.reqs.any (fun w => decide (2 ≤ s.dev.urgency w.req.port.val w.at_)) = true ∧ ¬late) then d = s.dev
    else
      (d.getCh ch).retrained = s.dev.nowNs ∧ (d.getCh ch).retrainAt = s.dev.now + secT 1 ∧
      (d.getCh ch).forced = (if late then c.forced + 1 else c.forced) ∧ (d.getCh ch).pendMode = none ∧
      (d.getCh ch).legacy = c.pendMode.getD c.legacy) ∧
  (∀ (s : State) (st : Fin 8) (n late : Nat), s.devStep (.pressureWindow st n late) fun d =>
    let y := s.dev.modStack st fun x => { x with press := if 0 < n ∧ n ≤ 100 * late then x.press + 1 else 0, winAt := s.dev.now }
    d = if s.dev.now < (s.dev.getStack st).winAt + usT 25 then s.dev
      else Dev.shedRise (if s.dev.pressed.isSome = true ∧ y.pressed = none then y.setHbm fun h => { h with calmAt := s.dev.now } else y)) ∧
  (∀ (s : State), s.devStep .shedRise fun d =>
    d = if s.dev.hbm.level < 4 ∧ s.dev.hbm.levelAt + usT 100 ≤ s.dev.now ∧ (s.dev.pressed ≠ none ∨ s.dev.shortfallOn = true) then
      (s.dev.setHbm fun h => { h with level := h.level + 1, levelAt := s.dev.now }).raise 0x0506 sevMajor 0
        [f8 (s.dev.hbm.level + 1), fIdx (s.dev.pressed.getD (Config.absent 8))] else s.dev) ∧
  (∀ (s : State), s.devStep .shedFall fun d =>
    d = if s.dev.pressed = none ∧ s.dev.shortfallOn = false ∧ 0 < s.dev.hbm.level ∧
        max s.dev.hbm.calmAt s.dev.hbm.levelAt + msT 10 ≤ s.dev.now then
      (s.dev.setHbm fun h => { h with level := h.level - 1, levelAt := s.dev.now }).raise 0x0506 sevInfo 0
        [f8 (s.dev.hbm.level - 1), fIdx (Config.absent 8)] else s.dev)

/-- A channel in training applies its held writes and begins its rebuild, or freezes with cause 4; the end of the rebuild makes it RUNNING and frees a
spare slot; the end of a salvage retires it into its slot; a STOPPING channel stops when nothing is in flight or its bound has elapsed. The memory
commands take the steps of Table 10.7, store what Table 10.9 names, and answer a snapshot only for a FROZEN channel. -/
def Obligations.HbmServiceRowsComplete : Prop :=
  (∀ (s : State) (ch : Fin 256) (ok : Bool), s.devStep (.thawTrainingDone ch ok) fun d =>
    let c := s.dev.getCh ch
    if c.obj.st ≠ .starting ∨ c.thaw ≠ .training then d = s.dev
    else if ok then d = (c.held.foldl Dev.applyHeld s.dev).modCh ch fun x => { x with
      thaw := .rebuild, held := [], heldLost := 0, written := [], retrainAt := s.dev.now + secT 1 }
    else (d.getCh ch).obj.st = .frozen ∧ ∃ n, (d.getCh ch).snap = some n ∧ n.cause = 4) ∧
  (∀ (s : State) (st : Fin 8) (k : Fin 32) (bad : List Nat), ∃ n d, exec (.rebuildDone st k bad) s = .next { s with nv := n, dev := d } ∧
    let ch := 32 * st.val + k.val
    let c := s.dev.getCh ch
    if c.obj.st ≠ .starting ∨ c.thaw ≠ .rebuild then d = s.dev ∧ n = s.nv
    else
      (d.getCh ch).obj = c.obj.started c.obj.since ∧ (d.getCh ch).thaw = .none ∧ (d.getCh ch).slot = none ∧ (d.getCh ch).marked = [] ∧
      n = if c.slot = none then s.nv else s.dev.persist s.nv fun p => { p with retired := p.retired.filter (· != ch) }) ∧
  (∀ (s : State) (ch : Fin 256) (bad : Option (List Nat)), ∃ n d, exec (.retireSalvageDone ch bad) s = .next { s with nv := n, dev := d } ∧
    match if s.dev.fwHeld then none else (s.dev.getCh ch).salvage with
    | none => d = s.dev ∧ n = s.nv
    | some k => (d.getCh ch).obj.st = .retired ∧ (d.getCh ch).slot = some k ∧ (d.getCh ch).salvage = none ∧ (d.getCh ch).held = [] ∧
        n = s.dev.persist s.nv fun p => { p with retired := p.retired.filter (· != ch.val) ++ [ch.val] }) ∧
  (∀ (s : State) (ch : Fin 256), s.devStep (.channelStopDone ch) fun d =>
    let c := s.dev.getCh ch
    let o := c.obj.stopped s.dev.nowNs
    d = if c.obj.st = .stopping ∧ (c.reqs = [] ∨ due s.dev.now c.obj.due = true) then
      (s.dev.raiseObj (Dev.chHandle ch) c.obj .stopped (!c.reqs.isEmpty) 0).modCh ch fun x => { x with
        obj := o, reqs := [], thaw := if o.st = .starting then .training else .none, group := 0 } else s.dev) ∧
  (∀ (s : State) (src : Src) (c : Cmd), s.runs 0x0500 src c →
    let x := s.dev.getCh c.hIdx
    let begun := s.dev.modCh c.hIdx fun y => { y with thaw := .training, obj := { y.obj with st := .starting, since := s.dev.nowNs, failed := false } }
    s.replies (.memChEnable src) c (
      if c.bad 0x15 then s.refusal .badHandle
      else if c.dirty 0 32 then s.refusal .badArg
      else match x.obj.st with
        | .running => .done s.dev {}
        | .stopped => .done begun { status := .pending }
        | .retired => .done begun { status := .pending }
        | .stopping => .done (s.dev.modCh c.hIdx fun y => { y with obj := { y.obj with held := true } }) { status := .deferred }
        | .starting => s.refusal .refusedBusy
        | .frozen => s.refusal .refusedBusy)) ∧
  (∀ (s : State) (src : Src) (c : Cmd), s.runs 0x0501 src c →
    let x := s.dev.getCh c.hIdx
    let stop (e : Dev) : Dev := (x.reqs.filter fun w => !w.issued).foldl (fun (z : Dev) w => Dev.serveElsewhere w z)
      (e.modCh c.hIdx fun y => { y with
        obj := y.obj.beginStop s.dev.nowNs (s.dev.now + usT 2) false, reqs := y.reqs.filter (·.issued), thaw := .none }).budgetWatch
    s.replies (.memChDisable src) c (
      if c.bad 0x15 then s.refusal .badHandle
      else if c.dirty 0 32 then s.refusal .badArg
      else match x.obj.st with
        | .running => if s.dev.otherDown c.hIdx ≠ none then s.refusal .refusedBusy else .done (stop s.dev) {}
        | .starting => .done (stop (Dev.thawEnds c.hIdx .cancelled s.dev)) {}
        | .stopping => .done (s.dev.modCh c.hIdx fun y => { y with
            obj := { y.obj with held := false, cancelled := y.obj.cancelled || y.obj.held } }) {}
        | .stopped => .done s.dev {}
        | .frozen => if x.salvage ≠ none then s.refusal .refusedBusy
          else .done ((s.dev.raiseObj (Dev.chHandle c.hIdx) { x.obj with prev := .frozen, since := s.dev.nowNs } .stopped false 0).modCh c.hIdx
            fun y => { y with snap := none, obj := { y.obj with st := .stopped, prev := .stopped, since := s.dev.nowNs } }) {}
        | .retired => s.refusal .refusedBusy)) ∧
  (∀ (s : State) (src : Src) (c : Cmd), s.runs 0x0502 src c →
    let chans := if c.hType = 0x15 then [c.hIdx] else List.range 256
    s.replies (.memGetStatus src) c (
      if (if c.hType = 0x15 then c.bad 0x15 else c.bad 0x00) then s.refusal .badHandle
      else if c.dirty 0 28 then s.refusal .badArg
      else s.report c (fArr (chans.map fun k =>
          let x := s.dev.getCh k
          [fByte x.obj.st.code, f8i (s.dev.getStack (k / 32)).temp, fCnt x.forced, fCnt x.ce, fCnt x.ue, fCnt x.lost]) ++
        fArr ((List.range 8).map fun p =>
          let l := tgetD s.dev.hbm.lat [] p
          [f8 (Dev.percentile l 50 100), f8 (Dev.percentile l 99 100), f8 (Dev.percentile l 9999 10000), fCnt (tgetD s.dev.hbm.miss 0 p)]) ++
        [fByte s.dev.hbm.level, f8 (5625 * s.dev.hbmRunning)]))) ∧
  (∀ (s : State) (src : Src) (c : Cmd), s.runs 0x0503 src c →
    let p := c.f 0 1; let t := c.f 4 4; let r := c.f 8 4
    let d1 := s.dev.setHbm fun h => { h with port := h.port.zipIdx.map fun (x : HbmPort × Nat) =>
      if x.2 = p then { target := if t = 0 then x.1.target else t, reserve := if r = 0xFFFFFFFF then x.1.reserve else r } else x.1 }
    s.replies (.memSetPort src) c (
      if c.bad 0x00 then s.refusal .badHandle
      else if 7 < p ∨ c.dirty 1 3 = true ∨ c.dirty 12 20 = true ∨ (t ≠ 0 ∧ (t < (hbmPortRange p).1 ∨ (hbmPortRange p).2.1 < t)) ∨
          (r ≠ 0xFFFFFFFF ∧ (p < 2 ∨ 14400 < r)) then s.refusal .badArg
      else if d1.hbmBudgetOk = false then s.refusal .budgetExceeded
      else .done d1.budgetWatch {})) ∧
  (∀ (s : State) (src : Src) (c : Cmd), s.runs 0x0504 src c → s.replies (.memSetPower src) c (
    if c.bad 0x00 then s.refusal .badHandle
    else if (c.f 0 4 ≠ 0 ∧ c.f 0 4 < 10) ∨ 1000000 < c.f 0 4 ∨ c.dirty 4 28 = true then s.refusal .badArg
    else .done { s.dev with hbm := { s.dev.hbm with idleUs := c.f 0 4 } } {})) ∧
  (∀ (s : State) (src : Src) (pl : HostRead) (c : Cmd), s.runs 0x0505 src c → ∃ n,
    let recs (k : Nat) : Bytes := slice (pl.getD []) (64 * k) 64
    let want (k : Nat) : Option Bytes := if c.f 0 1 = 1 then some (recs k) else none
    let put (x : Dev) (k : Nat) : Dev :=
      let new := if (x.getCh k).legacy = want k then none else some (want k)
      if (x.getCh k).pendMode = new then x
      else (x.noteWrite c.intake (.training k (x.getCh k).pendMode)).modCh k fun y => { y with pendMode := new }
    let d1 := (List.range 256).foldl put (s.dev.setHbm fun h => { h with mode := c.f 0 1 == 1 })
    exec (.memSetTraining src pl) s = .next { s with nv := n, dev := Dev.settle c (
      if c.bad 0x00 then s.refusal .badHandle
      else if 1 < c.f 0 1 ∨ c.dirty 1 31 = true ∨ (c.f 0 1 = 1 ∧ (pl = none ∨ (List.range 256).all (fun k => Dev.delayOk (recs k) k) = false)) then
        s.refusal .badArg
      else if (s.dev.startedCmd 0x0505 fun _ => true) ≠ none then s.refusal .refusedBusy
      else if d1.hbm.ch.any (fun x => x.2.pendMode.isSome) then .pend d1 else .done d1 {}) } ∧ (c.bad 0x00 = true → n = s.nv)) ∧
  (∀ (s : State) (src : Src) (c : Cmd), s.runs 0x0506 src c →
    let x := s.dev.getCh c.hIdx
    ∃ b, s.replies (.memGetSnapshot src) c (
      if c.bad 0x15 then s.refusal .badHandle
      else if c.dirty 0 32 then s.refusal .badArg
      else if x.obj.st ≠ .frozen ∨ x.snap = none then s.refusal .notReady
      else .done ((if x.legacy = none then { s.dev with fresh := s.dev.fresh + 1 } else s.dev).modCh c.hIdx fun y => { y with snapRead := true })
        { record := some b }) ∧
      ∀ n, x.snap = some n → field b 0 2 = c.hIdx % 65536 ∧ field b 2 1 = n.cause % 256 ∧ field b 4 4 = n.discarded % 2 ^ 32) ∧
  (∀ (s : State) (src : Src) (c : Cmd), s.runs 0x0507 src c →
    let x := s.dev.getCh c.hIdx
    s.replies (.memThaw src) c (
      if c.bad 0x15 then s.refusal .badHandle
      else if 1 < c.f 0 1 ∨ c.dirty 1 31 = true then s.refusal .badArg
      else if x.obj.st = .frozen ∧ c.f 0 1 = 0 ∧ x.snapRead = false then s.refusal .notReady
      else if x.obj.st ≠ .frozen ∨ x.salvage ≠ none then s.refusal .refusedBusy
      else .pend ((s.dev.noteWrite c.intake (.chan c.hIdx x)).modCh c.hIdx fun y => { y with
        thaw := .training, obj := { y.obj with st := .starting, since := s.dev.nowNs, failed := false } }))) ∧
  (∀ (s : State) (src : Src) (c : Cmd), s.runs 0x0508 src c →
    let x := s.dev.getCh c.hIdx
    let free := x.slot.toList ++ (List.range 3).filter fun n => !(s.dev.slotsUsed (c.hIdx / 32)).contains n
    s.replies (.memRetire src) c (
      if c.bad 0x15 then s.refusal .badHandle
      else if 1 < c.f 0 1 ∨ c.dirty 1 31 = true then s.refusal .badArg
      else if x.obj.st = .frozen ∧ c.f 0 1 = 0 ∧ x.snapRead = false then s.refusal .notReady
      else if x.obj.st ≠ .frozen ∨ x.salvage ≠ none then s.refusal .refusedBusy
      else if free = [] then s.refusal .noSpace
      else .pend ((s.dev.noteWrite c.intake (.slot c.hIdx x.slot)).modCh c.hIdx fun y => { y with salvage := free.head?, slot := none })))

/-- A phase moves both stages and advances the counter; a held place passes on after a cycle; an output held for 10 µs is told; a frame may start
256 ns after its first cell. A link takes a cell whose FEC, check sequence and number are right, asks for a replay otherwise, resends what its peer
asks for or what stays unacknowledged for 8 µs, sends an acknowledgement after 200 ns, and goes down after 500 ns of silence or at its peer's notice;
a resequencer skips what its hold time has passed. -/
def Obligations.SwitchRowsComplete : Prop :=
  (∀ (s : State), s.devStep .switchPhase fun d =>
    let y := s.dev.flushParts.flushFc
    let t := y.csw.phases
    let moved := (List.range 64).foldl (fun (x : Dev) m => Dev.meetOut m ((m + t) % 64) x) y
    d = ((List.range 64).foldl (fun (x : Dev) i => Dev.meetIn i ((i + t) % 64) x) moved).setCsw fun w => { w with phases := t + 1 }) ∧
  (∀ (s : State) (m j : Fin 64), s.devStep (.xpointHoldExpiry m j) fun d =>
    let x := s.dev.getXp m j
    d = s.dev.putXp m j { x with holds := x.holds.filterMap fun h =>
      if h.2 + 64 ≤ s.dev.csw.phases then (s.dev.nextInput h.1 j).map fun i => (i, s.dev.csw.phases) else some h }) ∧
  (∀ (s : State) (j : Fin 64), s.devStep (.outputHeldTimeout j) fun d =>
    let y := Dev.noteHeld j s.dev
    let o := tgetD y.csw.out {} j
    match o.since with
    | none => d = y
    | some t => d = if t + usT 10 ≤ y.now ∧ o.raised = false then
        Dev.raiseHeld j t false (y.setCsw fun w => { w with out := tput w.out j { o with raised := true } }) else y) ∧
  (∀ (s : State) (sl : Fin 32) (fid : Nat), s.devStep (.egressStartTimeout sl fid) fun d =>
    d = if ∃ a ∈ s.dev.getAsm sl, a.fl.fid = fid ∧ a.firstAt + nsT 256 ≤ s.dev.now then Dev.tryJoin sl s.dev else s.dev) ∧
  (∀ (s : State) (src : Src) (c : Cmd), s.runs 0x0600 src c → s.replies (.cswSetCut src) c (
    if c.bad 0x01 then s.refusal .badHandle
    else if c.dirty 1 31 then s.refusal .badArg
    else .done { s.dev with csw := { s.dev.csw with cut := tset s.dev.csw.cut 0 c.hIdx (c.f 0 1) } } {})) ∧
  (∀ (s : State) (src : Src) (c : Cmd), s.runs 0x0601 src c →
    let w := s.dev.csw
    let held := bitsOf ((List.range 32).map fun k => s.dev.outHeld (32 + k) && (tgetD w.out {} (32 + k)).since.isSome)
    s.replies (.cswGetStatus src) c (
      if c.bad 0x00 then s.refusal .badHandle
      else .done { s.dev with csw := { w with peak := 0 } } { record := some (le 8 w.phases ++ le 8 held ++ le 8 w.ctIn ++ le 8 w.ctOut ++
        le 8 w.ctAbort ++ le 2 w.peak ++ le 2 0 ++ le 4 (sat32 w.badCells) ++ List.replicate 16 0) })) ∧
  (∀ (s : State) (l : Fin 512) (c : FabCell), s.devStep (.fabricCellReceive l c) fun d =>
    let x := s.dev.getLink l
    if x.obj.st ≠ .running then d = s.dev
    else if c.fecOk = false then d = Dev.askRetry l (s.dev.putLink l { x with fecBad := x.fecBad + 1 })
    else if hcsOk c = false then d = Dev.askRetry l (s.dev.putLink l { x with hcsBad := x.hcsBad + 1 })
    else
      (d.getLink l).goodAt = s.dev.now ∧
      (c.kind = 1 ∨ c.kind = 2 →
        (c.linkSeq = x.rxSeq → (d.getLink l).rxSeq = (x.rxSeq + 1) % 65536 ∧ (d.getLink l).gap = false) ∧
        (c.linkSeq ≠ x.rxSeq → (d.getLink l).rxSeq = x.rxSeq ∧
          (d.getLink l).gap = (x.gap || decide (seqDiff c.linkSeq x.rxSeq < 32768))))) ∧
  (∀ (s : State) (l : Fin 512) (n : Nat), s.devStep (.linkRetry l n) fun d =>
    let x := s.dev.getLink l
    let again (r : RetryCell) : Bool := decide (seqDiff r.cell.linkSeq n < 32768)
    let y : FLink := { x with
      replays := x.replays + (x.retry.filter again).length
      retry := x.retry.map fun (r : RetryCell) => if again r then { r with replays := r.replays + 1, sentAt := s.dev.now } else r }
    let z := (y.retry.filter again).foldl (fun (z : Dev) r => z.emit (.cell l r.cell)) (s.dev.putLink l y)
    d = if x.obj.st ≠ .running then s.dev
      else if y.retry.any (fun r => decide (4 < r.replays)) then Dev.linkDrop l .replays z else z) ∧
  (∀ (s : State) (l : Fin 512), s.devStep (.ackIdleTimeout l) fun d =>
    let x := s.dev.getLink l
    d = if x.obj.st = .running ∧ x.ackAt + nsT 200 ≤ s.dev.now then s.dev.linkSend l s.dev.idleCell else s.dev) ∧
  (∀ (s : State) (l : Fin 512), s.devStep (.retryTimeout l) fun d =>
    let x := s.dev.getLink l
    d = Dev.resendCells l (x.retry.filter fun r => decide (r.sentAt + usT 8 ≤ s.dev.now))
      (s.dev.putLink l { x with retry := x.retry.filter fun r => !decide (r.sentAt + usT 8 ≤ s.dev.now) })) ∧
  (∀ (s : State) (l : Fin 512), s.devStep (.linkHcsTimeout l) fun d =>
    let x := s.dev.getLink l
    if x.obj.st = .running ∧ x.goodAt + nsT 500 ≤ s.dev.now then (d.getLink l).obj.st = .starting ∧ (d.getLink l).reach = [] else d = s.dev) ∧
  (∀ (s : State) (l : Fin 512), s.devStep (.linkDownNotice l) fun d =>
    if (s.dev.getLink l).obj.st = .running then
      (d.getLink l).obj.st = .starting ∧ (d.getLink l).phase = .discover ∧ (d.getLink l).reach = [] else d = s.dev) ∧
  (∀ (s : State) (sl : Fin 32) (dev cls : Nat), s.devStep (.reseqHoldExpiry sl dev cls) fun d =>
    let k := (sl.val * 2048 + dev) * 16 + cls
    let x := tgetD s.dev.fab.reseq {} k
    d = if ∃ h ∈ x.held, h.1 + s.dev.holdTime ≤ s.dev.now then
      Dev.reseqRun sl k x.held.length (s.dev.setFab fun f => { f with reseq := tset f.reseq {} k { x with
        next := x.held.foldl (fun (m : Nat) h => if seqDiff h.2.fabSeq x.next < seqDiff m x.next then h.2.fabSeq else m)
          ((x.next + 65535) % 65536) } })
      else s.dev) ∧
  (∀ (s : State) (src : Src) (c : Cmd), s.runs 0x0609 src c → s.replies (.fabSetReseq src) c (
    if c.bad 0x00 then s.refusal .badHandle
    else if (c.f 0 4 ≠ 0 ∧ (c.f 0 4 < 4 ∨ 25 < c.f 0 4)) ∨ c.dirty 4 28 = true then s.refusal .badArg
    else .done { s.dev with fab := { s.dev.fab with h := c.f 0 4 } } {}))

/-- A lit STARTING link takes the peer its DISCOVER names and qualifies, or waits when the ID is its own; it becomes RUNNING after a qualification
without errors within 1,500 ns of delay, and waits 1 s otherwise. Reach maps of elements are kept, the delay is measured every second, a STOPPING link
stops when nothing is unacknowledged or its bound has elapsed, and lost light takes eight links down. Port states and vectors of other devices are
kept and this device's vector goes out every 1 ms. The link commands take the steps of Table 12.4. -/
def Obligations.FabricLinkRowsComplete : Prop :=
  (∀ (s : State) (l : Fin 512) (m : DiscoverMsg), s.devStep (.discover l m) fun d =>
    let x := s.dev.getLink l
    d = if x.obj.st ≠ .starting ∨ x.phase ≠ .discover ∨ s.dev.fab.light.contains l.val = false then s.dev
      else if m.isDevice = true ∧ m.id = s.dev.devId then
        (s.dev.putLink l { x with phase := .retry, phaseDue := some (s.dev.now + secT 1), peer := none }).raise 0x0602 sevMinor (Dev.linkHandle l) [fByte 3]
      else (s.dev.putLink l { x with
        peer := some (m.isDevice, m.id, m.plane, m.port), phase := .qualify, phaseDue := some (s.dev.now + secT 1)
        measAt := s.dev.now }).emit (.linkMsg l 2 [0, s.dev.devId, 0, l.val])) ∧
  (∀ (s : State) (l : Fin 512) (fec hcs : Nat), s.devStep (.qualificationEnd l fec hcs) fun d =>
    let x := s.dev.getLink l
    if x.obj.st ≠ .starting ∨ x.phase ≠ .qualify ∨ due s.dev.now x.phaseDue = false then d = s.dev
    else if x.peer ≠ none ∧ x.delay ≠ none ∧ fec = 0 ∧ hcs = 0 ∧ x.delay.getD 0 ≤ nsT 1500 then
      (d.getLink l).obj = x.obj.started s.dev.nowNs ∧ (d.getLink l).phase = .idle ∧ (d.getLink l).txSeq = 0 ∧ (d.getLink l).rxSeq = 0 ∧
      ∀ i r, x.peer = some (true, i, r) → (d.getLink l).reach = [i]
    else d = (s.dev.putLink l { x with
      phase := .retry, phaseDue := some (s.dev.now + secT 1), hcsBad := x.hcsBad + hcs, fecBad := x.fecBad + fec }).raise
        0x0602 sevMinor (Dev.linkHandle l) [fByte 4]) ∧
  (∀ (s : State) (l : Fin 512), s.devStep (.qualificationRetry l) fun d =>
    let x := s.dev.getLink l
    d = if x.obj.st = .starting ∧ x.phase = .retry ∧ due s.dev.now x.phaseDue = true then
      (if x.peer = none then Dev.sendDiscover l (s.dev.putLink l { x with phase := .discover, phaseDue := none })
        else s.dev.putLink l { x with phase := .qualify, phaseDue := some (s.dev.now + secT 1), measAt := s.dev.now }) else s.dev) ∧
  (∀ (s : State) (l : Fin 512) (m : List Nat), s.devStep (.reach l m) fun d =>
    let x := s.dev.getLink l
    d = if x.obj.st = .running ∧ ∃ p ∈ x.peer, p.1 = false then Dev.reachRefresh (s.dev.putLink l { x with reach := m.filter (· < 2048) })
      else s.dev) ∧
  (∀ (s : State) (l : Fin 512) (n : Nat) (on : Bool), s.devStep (.reachDelta l n on) fun d =>
    let x := s.dev.getLink l
    let r := x.reach.filter (· != n)
    d = if x.obj.st = .running ∧ ∃ p ∈ x.peer, p.1 = false then
      Dev.reachRefresh (s.dev.putLink l { x with reach := (if on then r ++ [n] else r).filter (· < 2048) }) else s.dev) ∧
  (∀ (s : State) (l : Fin 512), s.devStep (.linkDelayMeasure l) fun d =>
    let x := s.dev.getLink l
    d = if (x.obj.st = .running ∨ x.phase = .qualify) ∧ x.measAt ≤ s.dev.now then
      (s.dev.putLink l { x with
        dreq := some (x.dseq, s.dev.sysTicks), dseq := (x.dseq + 1) % 65536, measAt := s.dev.now + secT 1 }).emit (.linkMsg l 3 [x.dseq])
      else s.dev) ∧
  (∀ (s : State) (l : Fin 512) (n held : Nat), s.devStep (.delayReq l n held) fun d =>
    d = s.dev.emit (.linkMsg l 4 [n, (s.dev.sysTicks - held).toNat, s.dev.sysTicks.toNat])) ∧
  (∀ (s : State) (l : Fin 512) (n : Nat) (prx ptx : Int) (held : Nat), s.devStep (.delayResp l n prx ptx held) fun d =>
    let x := s.dev.getLink l
    match x.dreq with
    | none => d = s.dev
    | some (k, t) => d = if k = n then s.dev.putLink l { x with dreq := none, delay := some (((s.dev.sysTicks - held - t) - (ptx - prx)) / 2).toNat }
        else s.dev) ∧
  (∀ (s : State) (l : Fin 512), s.devStep (.fabricLinkStopDone l) fun d =>
    let x := s.dev.getLink l
    let o := x.obj.stopped s.dev.nowNs
    let y := (Dev.resendCells l x.retry (s.dev.putLink l { x with
      obj := o, retry := [], reach := [], phaseDue := none, peer := none, delay := none, gap := false, dreq := none
      phase := if o.st = .starting then .discover else .idle })).raiseObj (Dev.linkHandle l) x.obj .stopped (!x.retry.isEmpty) 0
    d = if x.obj.st = .stopping ∧ (x.retry = [] ∨ due s.dev.now x.obj.due = true) then
        (if o.st = .starting then Dev.sendDiscover l y else y)
      else s.dev) ∧
  (∀ (s : State) (oe : Fin 16) (m : Fin 4) (lost : Bool), s.devStep (.laserInputChange oe m lost) fun d =>
    let ls := (List.range 8).map fun k => 32 * oe.val + 8 * m.val + k
    d.fab.light = (s.dev.fab.light.filter fun l => !ls.contains l) ++ (if lost then [] else ls) ∧
    (lost = true → ∀ l ∈ ls, (d.getLink l).obj.st ≠ .running ∧
      ((s.dev.getLink l).obj.st = .running ∨ (s.dev.getLink l).obj.st = .starting →
        (d.getLink l).obj.st = .starting ∧ (d.getLink l).phase = .discover))) ∧
  (∀ (s : State) (dev : Nat) (p : Fin 256) (down : Bool), s.devStep (.portState dev p down) fun d =>
    let r := s.dev.fwd.portDown.filter (· != dev * 256 + p.val)
    d = if dev = s.dev.devId then s.dev
      else ({ s.dev with fwd := { s.dev.fwd with portDown := if down then (dev * 256 + p.val) :: r else r } } : Dev).liveCheck) ∧
  (∀ (s : State) (dev : Nat) (v : BitVec 256), s.devStep (.portVector dev v) fun d =>
    d = if dev = s.dev.devId then s.dev
      else ({ s.dev with fwd := { s.dev.fwd with
        portDown := (s.dev.fwd.portDown.filter fun g => g / 256 != dev) ++ ((List.range 256).filter fun p => v.getLsbD p).map fun p => dev * 256 + p
        awaitVector := s.dev.fwd.awaitVector.filter (· != dev) } } : Dev).liveCheck) ∧
  (∀ (s : State), s.devStep .portVectorSend fun d =>
    d = if s.dev.now < s.dev.fab.pvAt then s.dev
      else (s.dev.setFab fun f => { f with pvAt := s.dev.now + msT 1 }).sendFcAll 0x21
        (be 32 (bitsOf ((List.range 256).map fun p => (s.dev.getPort p).protDown)))) ∧
  (∀ (s : State) (src : Src) (c : Cmd), s.runs 0x0602 src c →
    let x := s.dev.getLink c.hIdx
    let r := x.obj.enable s.dev.nowNs
    s.replies (.fabLinkEnable src) c (
      if c.bad 0x16 then s.refusal .badHandle
      else
        let y := s.dev.putLink c.hIdx { x with obj := r.obj, phase := if r.begins then .discover else x.phase }
        .done (if r.begins then y.sendDiscover c.hIdx else y) { status := r.status })) ∧
  (∀ (s : State) (src : Src) (c : Cmd), s.runs 0x0603 src c →
    let x := s.dev.getLink c.hIdx
    let r := x.obj.disable s.dev.nowNs (s.dev.now + usT 8)
    let d1 := s.dev.putLink c.hIdx { x with obj := r.obj, phase := .idle, phaseDue := none }
    s.replies (.fabLinkDisable src) c (
      if c.bad 0x16 then s.refusal .badHandle
      else .done (if x.obj.st = .running then Dev.reachRefresh (d1.emit (.linkMsg c.hIdx 6 []))
        else if r.begins then d1 else s.dev.putLink c.hIdx { x with obj := r.obj }) { status := r.status })) ∧
  (∀ (s : State) (src : Src) (c : Cmd), s.runs 0x0604 src c →
    let x := s.dev.getLink c.hIdx
    let p := match x.peer with | some (k, i, pl, q) => (b2n (!k), i, pl, q) | none => (Config.absent 3, Config.absent 4, Config.absent 5, Config.absent 6)
    s.replies (.fabGetLink src) c (
      if c.bad 0x16 then s.refusal .badHandle
      else s.report c [fByte x.obj.st.code, fByte p.1, fIdx p.2.1, fIdx p.2.2.1, fIdx p.2.2.2, f8 ((x.delay.map (· / 65536)).getD (Config.absent 7)),
        fCnt x.reach.length, fCnt x.replays, fCnt x.resends, fCnt x.hcsBad, fCnt x.fecBad]))

/-- A HEARTBEAT of the holder, or of a higher term, is taken and any other changes nothing of the fabric; the backup takes the role 5 ms after the last
one, and a claim of the backup with a higher term is followed. A member prepares the epoch it can, tells the meridian, switches at the time given,
keeps the old tables for 10 ms and returns to them when the change is cancelled in that time. The meridian decides 1 ms before. The commands store or
stage what Tables 12.7 to 12.9 name. -/
def Obligations.EpochRowsComplete : Prop :=
  (∀ (s : State), s.devStep .heartbeatSend fun d =>
    d = if s.dev.fwHeld = true ∨ s.dev.fab.holder ≠ s.dev.devId ∨ s.dev.now < s.dev.fab.hbAt then s.dev
      else (s.dev.setFab fun f => { f with hbAt := s.dev.now + msT 1 }).sendFcAll 0x30
        (be 4 s.dev.fab.term ++ be 4 s.dev.fab.cur.epoch ++ be 4 (match s.dev.fab.coord with | some c => c.epoch | none => 0))) ∧
  (∀ (s : State) (dev term epoch pend : Nat), s.logStep (.heartbeat dev term epoch pend) (.fc dev 0x30 16) fun d =>
    if term < s.dev.fab.term ∨ (dev ≠ s.dev.fab.holder ∧ (term = s.dev.fab.term ∨ dev ≠ s.dev.fab.backup)) then d.fab = s.dev.fab
    else d.fab.holder = dev ∧ d.fab.term = term ∧ d.fab.hbSeen = s.dev.now ∧ d.time.pendEpoch = decide (0 < pend)) ∧
  (∀ (s : State), s.devStep .heartbeatLoss fun d =>
    if s.dev.fwHeld = true ∨ s.dev.devId ≠ s.dev.fab.backup ∨ s.dev.fab.holder = s.dev.devId ∨ s.dev.fab.configured = false ∨
        s.dev.now < s.dev.fab.hbSeen + msT 5 then d = s.dev
    else d.fab.holder = s.dev.devId ∧ d.fab.term = s.dev.fab.term + 1) ∧
  (∀ (s : State) (dev term : Nat), s.logStep (.meridianClaim dev term) (.fc dev 0x31 8) fun d =>
    if dev = s.dev.fab.backup ∧ s.dev.fab.term < term then d.fab.holder = dev ∧ d.fab.term = term ∧ d.fab.hbSeen = s.dev.now else d = s.dev) ∧
  (∀ (s : State) (m : PrepareMsg), s.logStep (.epochPrepare m) (.fc m.src 0x40 40) fun d =>
    if s.dev.fwHeld = true ∨ m.src ≠ s.dev.fab.holder ∨ m.term < s.dev.fab.term then d = s.dev
    else
      (s.dev.fab.old ≠ none ∨ (∃ p ∈ s.dev.fab.prep, p.tab.epoch ≠ m.epoch) → d.fab.prep = s.dev.fab.prep) ∧
      (s.dev.fab.old = none → (∀ p ∈ s.dev.fab.prep, p.tab.epoch = m.epoch) →
        (bit m.kinds 0 = true → ∃ r, s.dev.fab.staged = some (m.epoch, r)) →
        ∃ p, d.fab.prep = some p ∧ p.src = m.src ∧ p.at_ = m.at_ns * 65536 ∧ p.tab.epoch = m.epoch ∧
          p.tab.cmap = (if bit m.kinds 1 then m.classMap else s.dev.fab.cur.cmap) ∧
          p.tab.planes = (if bit m.kinds 2 then m.excluded else s.dev.fab.cur.planes)) ∧
      (s.dev.devId ≠ s.dev.fab.backup → m.src = s.dev.fab.backup →
        d = (Dev.memberPrepare m s.dev).2.sendFc m.src 0x41 (be 4 m.epoch ++ be 1 (Dev.memberPrepare m s.dev).1 ++ be 3 0))) ∧
  (∀ (s : State) (dev epoch res : Nat), s.logStep (.epochAck dev epoch res) (.fc dev 0x41 12) fun d =>
    d = if s.dev.fwHeld then s.dev else s.dev.setFab fun f => { f with
      coord := f.coord.map fun c => if c.epoch = epoch then { c with acks := tput c.acks dev res } else c }) ∧
  (∀ (s : State), s.devStep .epochDecision fun d =>
    let y := if s.dev.fwHeld then s.dev else s.dev.cancelAgain
    match y.fab.coord with
    | none => d = y
    | some c =>
      if s.dev.fwHeld = true ∨ s.dev.fab.holder ≠ s.dev.devId ∨ c.decided = true ∨ s.dev.sysTicks < c.at_ - msT 1 then d = y
      else if ∀ n ∈ c.members, tget c.acks n = some 0 then d = y.setFab fun f => { f with coord := some { c with decided := true } }
      else d.fab.coord = none ∧ (∀ p, d.fab.prep = some p → p.tab.epoch ≠ c.epoch) ∧
        d.fab.cancel = some { epoch := c.epoch, members := c.members, left := 2, due := s.dev.now + usT 100 }) ∧
  (∀ (s : State), s.devStep .epochActivate fun d =>
    match s.dev.fab.prep with
    | none => d = s.dev
    | some p => if s.dev.sysTicks < p.at_ then d = s.dev
        else d.fab.cur = p.tab ∧ d.fab.prep = none ∧ d.fab.ptr = [] ∧ d.fab.old = some (s.dev.fab.cur, s.dev.sysTicks + msT 10)) ∧
  (∀ (s : State), s.devStep .epochRetentionEnd fun d =>
    match s.dev.fab.old with
    | none => d = s.dev
    | some o => if s.dev.sysTicks < o.2 then d = s.dev else d.fab.old = none ∧ d.fab.cur = s.dev.fab.cur) ∧
  (∀ (s : State) (dev epoch : Nat), s.logStep (.epochCancel dev epoch) (.fc dev 0x42 8) fun d =>
    if dev ≠ s.dev.fab.holder ∧ dev ≠ s.dev.fab.meridian ∧ dev ≠ s.dev.fab.backup then d = s.dev
    else
      (∀ p, d.fab.prep = some p → p.tab.epoch ≠ epoch) ∧
      (∀ o, s.dev.fab.old = some o → s.dev.fab.cur.epoch = epoch → d.fab.cur = o.1 ∧ d.fab.old = none)) ∧
  (∀ (s : State) (src : Src) (c : Cmd), s.runs 0x0605 src c →
    let i := c.f 0 2; let m := c.f 2 2; let b := c.f 4 2
    s.replies (.fabSetSystem src) c (
      if c.bad 0x00 then s.refusal .badHandle
      else if 2047 < i ∨ 2047 < m ∨ 2047 < b ∨ b = m ∨ c.dirty 6 26 = true then s.refusal .badArg
      else if i ≠ s.dev.fab.id ∧ (∃ l ∈ s.dev.fab.link, l.2.obj.st ≠ .stopped) then s.refusal .refusedBusy
      else
        let y : Dev := { s.dev with fab := { s.dev.fab with
          id := i, meridian := m, backup := b, holder := m, configured := true, hbSeen := s.dev.now } }
        .done (if m = s.dev.fab.holder then y else (Dev.relayStop y).raise 0x0608 sevMinor 0 [fIdx m, f8 s.dev.fab.term]) {})) ∧
  (∀ (s : State) (src : Src) (pl : HostRead) (c : Cmd), s.runs 0x0606 src c →
    let b := pl.getD []
    s.replies (.fabStage src pl) c (
      if c.bad 0x00 then s.refusal .badHandle
      else match Dev.stageRows (field b 4 2) (b.drop 16) with
        | none => s.refusal .badArg
        | some (rows, rest) =>
          if pl = none ∨ b.length < 16 ∨ isZero b 6 6 = false ∨ field b 4 2 = 0 ∨ 2048 < field b 4 2 ∨ field b 0 4 ≤ s.dev.fab.cur.epoch ∨
            crc32c 0xFFFFFFFF ((b.drop 16).take ((b.drop 16).length - rest.length)) ≠ field b 12 4 then s.refusal .badArg
          else .done { s.dev with fab := { s.dev.fab with staged := some (field b 0 4, rows) } } {})) ∧
  (∀ (s : State) (src : Src) (c : Cmd), s.runs 0x0607 src c →
    let e := c.f 0 4
    let map := (List.range 8).map fun i => c.f (16 + i) 1
    let r := Dev.memberPrepare { src := s.dev.devId, epoch := e, kinds := c.f 4 1, at_ns := c.f 8 8, classMap := map, excluded := c.f 24 4
                                 term := s.dev.fab.term } s.dev
    s.replies (.fabEpochPrepare src) c (
      if c.bad 0x00 then s.refusal .badHandle
      else if e ≠ s.dev.fab.cur.epoch + 1 ∨ c.f 4 1 = 0 ∨ 7 < c.f 4 1 ∨ c.dirty 5 3 = true ∨ c.dirty 28 4 = true ∨
          map.any (fun x => decide (32 ≤ x)) = true ∨ c.f 8 8 < s.dev.nowNs + 5000000 then s.refusal .badArg
      else if s.dev.fab.holder ≠ s.dev.devId then s.refusal .notReady
      else if s.dev.fab.coord ≠ none ∨ s.dev.fab.old ≠ none ∨ (s.dev.fab.configured = true ∧ s.dev.time.step.isSome = true) then
        s.refusal .refusedBusy
      else .pend ((r.2.setFab fun f => { f with coord := some {
          intake := some c.intake, epoch := e, at_ := (c.f 8 8 : Int) * 65536, members := s.dev.devId :: s.dev.fwd.reachable
          acks := [(s.dev.devId, r.1)] } }).sendFcAll 0x40
        (be 4 e ++ be 1 (c.f 4 1) ++ be 3 0 ++ be 8 (c.f 8 8) ++ map.flatMap (be 1) ++ be 4 (c.f 24 4) ++ be 4 s.dev.fab.term ++ be 4 0)))) ∧
  (∀ (s : State) (src : Src) (c : Cmd), s.runs 0x0608 src c →
    let f := s.dev.fab
    s.replies (.fabGetStatus src) c (
      if c.bad 0x00 then s.refusal .badHandle
      else s.report c [fIdx f.id, fByte (b2n (f.holder == s.dev.devId) + 2 * b2n (f.backup == f.id)), fCnt f.term, fCnt f.cur.epoch,
        fCnt (match f.staged with | some (e, _) => e | none => 0), fBitmap 2048 (fun n => f.quar.contains n), fCnt s.dev.fwd.reachable.length,
        fCnt f.dupes, fCnt f.seqLoss, fCnt f.staleCells, f8 (s.dev.holdTime / 65536)]))

/-- The meridian quarantines a device that a stale-epoch report names and ends it when its EPOCH_STATUS shows the current epoch; others follow only the
holder's notices; a quarantined device tells its state every 1 ms. The first report of a subject opens a window of 1 ms, whose end closes it. A relayed
image's chunk is taken, kept and acknowledged when its check is right; acknowledgements, the 200 ms resend and the 2 s skip move the chain on. -/
def Obligations.QuarantineRelayRowsComplete : Prop :=
  (∀ (s : State) (dev current staged : Nat), s.logStep (.epochStatus dev current staged) (.fc dev 0x43 12) fun d =>
    if s.dev.fwHeld = false ∧ s.dev.fab.holder = s.dev.devId ∧ s.dev.fab.quar.contains dev = true ∧ current = s.dev.fab.cur.epoch then
      d.fab.quar = s.dev.fab.quar.filter (· != dev) else d = s.dev) ∧
  (∀ (s : State), s.devStep .epochStatusSend fun d =>
    d = if s.dev.fwHeld = true ∨ s.dev.fab.quar.contains s.dev.devId = false ∨ s.dev.now < s.dev.fab.stAt then s.dev
      else (s.dev.setFab fun f => { f with stAt := s.dev.now + msT 1 }).sendFc s.dev.fab.holder 0x43
        (be 4 s.dev.fab.cur.epoch ++ be 4 (match s.dev.fab.staged with | some (e, _) => e | none => 0))) ∧
  (∀ (s : State) (dev subj : Nat) (enter : Bool), s.logStep (.quarantine dev subj enter) (.fc dev 0x44 8) fun d =>
    if dev = s.dev.fab.holder then d.fab.quar = s.dev.fab.quar.filter (· != subj) ++ (if enter then [subj] else []) else d = s.dev) ∧
  (∀ (s : State) (m : ObservationMsg), s.logStep (.observation m) (.fc m.src 0x50 16) fun d =>
    if s.dev.fwHeld = true ∨ s.dev.fab.holder ≠ s.dev.devId then d = s.dev
    else if m.kind = 2 ∧ m.subjKind = 0 then d.fab.quar.contains m.subj = true else d = Dev.obsTake m s.dev) ∧
  (∀ (s : State) (sk sub k : Nat), s.devStep (.observationWindow sk sub k) fun d =>
    match s.dev.fab.obs.find? fun w => w.subjKind == sk && w.subj == sub && w.kind == k && !w.closed && decide (w.opened + msT 1 ≤ s.dev.now) with
    | none => d = s.dev
    | some w =>
      let y := s.dev.setFab fun f => { f with
        obsN := f.obsN - w.stored, obsLost := 0
        obs := f.obs.map fun (x : ObsWin) => if x == w then { x with closed := true } else x }
      d = if k < 2 then y.raise (if k = 0 then 0x0609 else 0x060A) (if k = 0 then sevMajor else sevInfo) 0
          [fIdx sub, fByte sk, fCnt w.observers.length, fCnt s.dev.fab.obsLost, f8 w.first, f8 w.last] else y) ∧
  (∀ (s : State) (dev image idx count crc : Nat) (b : Bytes), ∃ n d,
    exec (.relayChunk dev image idx count crc b) s = .next { s with nv := n, dev := Dev.logIn (.fc dev 0x60 (24 + b.length)) d } ∧
    if s.dev.fwHeld = true ∨ s.dev.fab.holder = s.dev.devId ∨ s.nv.trial ≠ none ∨ crc32c 0xFFFFFFFF b ≠ crc ∨ count ≤ idx ∨
        522190848 < s.dev.staged + b.length then d = s.dev ∧ n = s.nv
    else (∀ r ∈ s.dev.fab.relay, r.intake = none) →
      (∃ r, d.fab.relay = some r ∧ r.image = image ∧ r.count = count ∧ tget r.chunks idx = some b) ∧
      (s.dev.fab.relay = none → 1 < count → n = s.nv ∧
        d = Dev.relayPump 8 ((s.dev.setRelay (some { image := image, count := count, succ := s.dev.relayNext s.dev.devId, heard := s.dev.now
                                                     chunks := [(idx, b)] })).sendFc dev 0x61 (be 4 image ++ be 4 idx ++ be 1 0 ++ be 3 0)))) ∧
  (∀ (s : State) (dev image idx : Nat) (whole : Bool), s.logStep (.relayAck dev image idx whole) (.fc dev 0x61 16) fun d =>
    match s.dev.fab.relay with
    | none => d = s.dev
    | some r =>
      if s.dev.fwHeld = true ∨ r.image ≠ image then d = s.dev
      else if whole then (if r.intake = none then d = s.dev else d.fab.relay = none)
      else d = if r.succ = some dev then Dev.relayPump 8 (s.dev.setRelay (some { r with sent := tdel r.sent idx, heard := s.dev.now })) else s.dev) ∧
  (∀ (s : State) (idx : Nat), s.devStep (.relayResend idx) fun d =>
    match s.dev.fab.relay with
    | none => d = s.dev
    | some r =>
      match r.succ, tget r.sent idx, tget r.chunks idx with
      | some x, some t, some b =>
        d = if s.dev.fwHeld = false ∧ t + msT 200 ≤ s.dev.now then
          (Dev.relaySend r x idx b s.dev).setRelay (some { r with sent := tput r.sent idx s.dev.now }) else s.dev
      | _, _, _ => d = s.dev) ∧
  (∀ (s : State), s.devStep .relaySkipTimeout fun d =>
    match s.dev.fab.relay with
    | none => d = s.dev
    | some r =>
      match r.succ with
      | none => d = s.dev
      | some x =>
        if s.dev.fwHeld = true ∨ r.sent = [] ∨ s.dev.now < r.heard + secT 2 then d = s.dev
        else d = Dev.relayTail (Dev.relayPump 8 (Dev.observe 0 3 x ((s.dev.setRelay (some { r with
          succ := s.dev.relayNext x, sent := [], nextIdx := 0, heard := s.dev.now })).raise 0x060B sevMinor 0
            [fIdx x, fIdx ((r.sent.map (·.1)).foldl min r.nextIdx)]))))

/-- A BC port takes the messages of its instance's domain and of no other; a one-step Sync, a Follow_Up that fits and the delay responses give the
port its offsets and delays; a MASTER port answers a Delay_Req with its receive time. Messages leave when their interval elapses; unicast sessions are
granted or ended by firmware; management is answered. ESMC PDUs leave on a change and every second, and a changed level raises its event. -/
def Obligations.PtpRowsComplete : Prop :=
  (∀ (s : State) (p : Fin 256) (m : PtpMsg), s.devStep (.ptpSync p m) fun d =>
    d = if s.dev.bcTakes p m.domain = false then s.dev
      else if m.twoStep then s.dev.modT p fun t => { t with two := some (m.seq, s.dev.sysTicks, m.corr, m.srcId, m.srcPort) }
      else Dev.syncDone p (m.origin + m.corr) s.dev.sysTicks s.dev) ∧
  (∀ (s : State) (p : Fin 256) (m : PtpMsg), s.devStep (.ptpFollowUp p m) fun d =>
    match (s.dev.getT p).two with
    | none => d = s.dev
    | some w => d = if s.dev.bcTakes p m.domain = true ∧ w.1 = m.seq ∧ w.2.2.2.1 = m.srcId ∧ w.2.2.2.2 = m.srcPort then
        Dev.syncDone p (m.origin + m.corr + w.2.2.1) w.2.1 s.dev else s.dev) ∧
  (∀ (s : State) (p : Fin 256) (m : PtpMsg), s.devStep (.ptpDelayReq p m) fun d =>
    let t := s.dev.getT p
    match s.dev.bcPort p with
    | none => d = s.dev
    | some i => d = if s.dev.bcTakes p m.domain = true ∧ t.st = .master ∧ i.profile ≠ 1 ∧ (i.profile = 3 → s.dev.sessionOn i p 9 = true) then
        s.dev.emit (.ptp p 9 [(m.domain : Int), m.seq, s.dev.sysTicks + psT t.ingress, m.corr, m.srcId, m.srcPort]) else s.dev) ∧
  (∀ (s : State) (p : Fin 256) (m : PtpMsg) (rid rport : Nat), s.devStep (.ptpDelayResp p m rid rport) fun d =>
    let t := s.dev.getT p
    match s.dev.bcPort p, t.dreq, t.t12 with
    | some i, some q, some t12 => d = if s.dev.bcTakes p m.domain = true ∧ q.1 = m.seq ∧ rid = i.clockId ∧ rport = t.portNo then
        Dev.slaveCheck p (Dev.delayDone p ((t12 + (m.origin - m.corr - q.2)) / 2) s.dev) else s.dev
    | _, _, _ => d = s.dev) ∧
  (∀ (s : State) (p : Fin 256) (k : PdelayKind) (m : PtpMsg), s.devStep (.ptpPdelay p k m) fun d =>
    let t := s.dev.getT p
    (s.dev.peerDelay p = false ∨ (t.role ≠ 4 ∧ s.dev.bcTakes p m.domain = false) → d = s.dev) ∧
    (s.dev.peerDelay p = true → t.role = 4 ∨ s.dev.bcTakes p m.domain = true →
      let rx := s.dev.sysTicks + psT t.ingress
      let tx := s.dev.sysTicks + psT t.egress
      (k = .req → d = if t.oneStep then s.dev.emit (.ptp p 3 [(m.domain : Int), m.seq, 0, m.corr + (tx - rx), m.srcId, m.srcPort])
        else (s.dev.emit (.ptp p 3 [(m.domain : Int), m.seq, rx, 0, m.srcId, m.srcPort])).emit
          (.ptp p 10 [(m.domain : Int), m.seq, tx, m.corr, m.srcId, m.srcPort])) ∧
      (k ≠ .req → (t.preq = none ∨ ∃ q ∈ t.preq, q.1 ≠ m.seq) → d = s.dev) ∧
      (∀ q, t.preq = some q → q.1 = m.seq →
        (k = .resp → d = if m.twoStep then s.dev.putT p { t with presp := some (m.seq, m.origin - m.corr, rx) }
          else Dev.slaveCheck p (Dev.delayDone p ((rx - q.2 - m.corr) / 2) s.dev)) ∧
        (k = .respFollowUp → match t.presp with
          | some (n, t2, t4) => d = if n = m.seq then
              Dev.slaveCheck p (Dev.delayDone p (((t4 - q.2) - (m.origin + m.corr - t2)) / 2) s.dev) else s.dev
          | none => d = s.dev)))) ∧
  (∀ (s : State) (p : Fin 256) (n : Nat) (m : AnnounceMsg), s.devStep (.ptpAnnounce p n m) fun d =>
    let y := Dev.bmca ((s.dev.getT p).inst.getD 0) (s.dev.putT p { s.dev.getT p with foreign := some (m, s.dev.now) })
    d = if s.dev.bcTakes p n = false then s.dev
      else Dev.tellCandidate (match m.utcOffset with
        | some u => if y.time.source = .ptp p ∨ (y.time.source = .none ∧ (y.getT p).st = .slave) then Dev.setUtc u m.leap61 m.leap59 y else y
        | none => y)) ∧
  (∀ (s : State) (p : Fin 256) (k : Fin 4), s.devStep (.ptpMessageSend p k) fun d =>
    let y := if k = 3 then Dev.bmca ((s.dev.getT p).inst.getD 4) s.dev else s.dev
    let t := y.getT p
    let i := y.bcPort p
    let next (x : TPort) : TPort := { x with
      seq := t.seq.set k.val ((t.seq.getD k.val 0 + 1) % 65536)
      dueAt := t.dueAt.set k.val (y.now + ivl (if k = 0 then t.logSync else if k = 3 then t.logAnn else t.logDelay)) }
    let uni (msg : Nat) : Prop := ∃ x ∈ i, x.profile ≠ 3 ∨ y.sessionOn x p msg = true
    let go : Prop :=
      (k = 0 ∧ t.st = .master ∧ uni 0) ∨
      (k = 1 ∧ (∃ x ∈ i, x.profile ≠ 1) ∧ (t.st = .slave ∨ t.st = .passive ∨ (t.st = .master ∧ t.t12 ≠ none))) ∨
      (k = 2 ∧ y.peerDelay p = true) ∨ (k = 3 ∧ t.st = .master ∧ uni 11)
    if s.dev.now < (s.dev.getT p).dueAt.getD k 0 then d = s.dev
    else (go → d = (Dev.ptpOut p k i y).putT p (next ((Dev.ptpOut p k i y).getT p))) ∧
      (¬go → d = if i ≠ none ∨ y.peerDelay p = true then y.putT p (next t) else y)) ∧
  (∀ (s : State) (p : Fin 256) (peer msg : Nat) (grant : Bool) (dur : Nat), s.devStep (.unicastNegotiation p peer msg grant dur) fun d =>
    (s.dev.hif.headless = true ∨ s.dev.bcPort p = none → d = s.dev) ∧
    ∀ i k, s.dev.hif.headless = false → s.dev.bcPort p = some i → (s.dev.getT p).inst = some k →
      let live := i.sessions.filter fun x => decide (s.dev.now < x.ends) && !(x.port == p.val && x.peer == peer && x.msg == msg)
      let put (l : List Session) : Dev := { s.dev with time := { s.dev.time with inst := tput s.dev.time.inst k { i with sessions := l } } }
      d = if i.profile ≠ 3 then s.dev
        else if grant = false then (put live).emit (.ptp p 12 [(i.domain : Int), peer, msg, 0, 1])
        else if (s.dev.getT p).st = .master ∧ live.length < 4096 then
          (put (live ++ [{ port := p.val, peer := peer, msg := msg, ends := s.dev.now + secT dur }])).emit (.ptp p 12 [(i.domain : Int), peer, msg, dur, 0])
        else s.dev.emit (.ptp p 12 [(i.domain : Int), peer, msg, 0, 0])) ∧
  (∀ (s : State) (p : Fin 256) (id : Nat), s.devStep (.ptpManagement p id) fun d =>
    match s.dev.bcPort p with
    | none => d = s.dev
    | some i =>
      let t := s.dev.getT p
      let m := s.dev.announced (t.inst.getD 0) i
      let delay := (Dev.meanDelay t).getD 0
      let body : List Int :=
        if id = 0x2000 then [i.prio1, i.prio2, i.domain, i.clockId, b2n i.slaveOnly, s.dev.ownClass]
        else if id = 0x2001 then [m.stepsRemoved, s.dev.time.offset, delay]
        else if id = 0x2002 then [m.gm, m.clockClass, m.accuracy, m.variance, m.prio1, m.prio2]
        else if id = 0x2003 then [s.dev.time.utc, b2n s.dev.time.leap61, b2n s.dev.time.leap59]
        else if id = 0x2004 then [t.portNo, t.st.code, t.logDelay, t.logAnn, t.logSync, delay]
        else []
      d = if s.dev.hif.headless then s.dev else s.dev.emit (.ptp p 13 ([(i.domain : Int), (id : Int)] ++ body))) ∧
  (∀ (s : State) (p : Fin 256), s.devStep (.esmcPduSend p) fun d =>
    let t := s.dev.getT p
    d = if t.esmc = false then s.dev
      else if t.esmcNew then (s.dev.putT p { t with esmcNew := false }).emit (.esmc p t.ql true)
      else if t.esmcAt ≤ s.dev.now then (s.dev.putT p { t with esmcAt := s.dev.now + secT 1 }).emit (.esmc p t.ql false)
      else s.dev) ∧
  (∀ (s : State) (p : Fin 256) (ql : Nat), s.devStep (.esmcPdu p ql) fun d =>
    let t := s.dev.getT p
    d = if t.esmc = false ∨ t.rxQl = some ql then s.dev
      else (s.dev.putT p { t with rxQl := some ql }).raisePort p 0x0707 sevMinor [fIdx p, fByte (t.rxQl.getD (Config.absent 22)), fByte ql]) ∧
  (∀ (s : State) (src : Src) (c : Cmd), s.runs 0x0700 src c →
    let k := c.hIdx; let pr := c.f 0 1
    s.replies (.timeSetInstance src) c (
      if c.bad 0x17 then s.refusal .badHandle
      else if (3 < pr ∧ pr ≠ 0xFF) ∨ 1 < c.f 5 1 ∨ c.dirty 6 2 = true ∨ c.dirty 16 16 = true then s.refusal .badArg
      else if pr = 0xFF then
        (if (List.range 256).any (fun p => (s.dev.getT p).inst == some k) then s.refusal .refusedBusy
         else .done { s.dev with time := { s.dev.time with inst := tdel s.dev.time.inst k } } {})
      else .done (Dev.bmca k (s.dev.setTime fun t => { t with inst := tput t.inst k {
        profile := pr, domain := c.f 1 1, prio1 := c.f 2 1, prio2 := c.f 3 1, localPrio := c.f 4 1, slaveOnly := bit (c.f 5 1) 0
        clockId := c.f 8 8
        sessions := if pr = 3 then (match tget s.dev.time.inst k with | some i => i.sessions | none => []) else [] } })) {})) ∧
  (∀ (s : State) (src : Src) (c : Cmd), s.runs 0x0701 src c →
    let p := c.hIdx; let t := s.dev.getT p
    let i := c.f 0 1; let role := c.f 1 1
    let ls := signed 1 (c.f 3 1); let ld := signed 1 (c.f 4 1); let la := signed 1 (c.f 5 1); let asym := signed 4 (c.f 8 4)
    let inst := if i = 0xFF then none else some i
    let base : TPort := if t.inst = inst ∧ t.role = role then t else
      { rxQl := t.rxQl, noTrailer := t.noTrailer, esmcAt := t.esmcAt, st := if role = 1 ∨ role = 2 then .listening else .off }
    let new : TPort := { base with
      inst := inst, role := role, oneStep := bit (c.f 2 1) 0, esmc := bit (c.f 2 1) 1, logSync := ls, logDelay := ld, logAnn := la
      portNo := c.f 6 2, asym := asym, ingress := signed 4 (c.f 12 4), egress := signed 4 (c.f 16 4), ql := c.f 20 1, thr := c.f 22 2
      esmcNew := t.esmcNew || (bit (c.f 2 1) 1 && t.ql != c.f 20 1) }
    let y := if t.st = .slave ∧ new.st ≠ .slave then Dev.sourceGone (.ptp p) (s.dev.putT p new) else s.dev.putT p new
    s.replies (.timeSetPort src) c (
      if c.bad 0x01 then s.refusal .badHandle
      else if 4 < role ∨ 3 < c.f 2 1 ∨ ls < -7 ∨ 4 < ls ∨ ld < -7 ∨ 4 < ld ∨ la < -3 ∨ 4 < la ∨ c.f 6 2 = 0 ∨ c.f 6 2 = 65535 ∨
          asym < -1000000 ∨ 1000000 < asym ∨ (i = 0xFF ∧ (role = 1 ∨ role = 2)) ∨ (i ≠ 0xFF ∧ (3 < i ∨ tget s.dev.time.inst i = none)) ∨
          (i ≠ 0xFF ∧ ∃ q < 256, q ≠ p ∧ (s.dev.getT q).inst = some i ∧ (s.dev.getT q).portNo = c.f 6 2) ∨
          (bit (c.f 2 1) 0 = true ∧ s.dev.ptpProtected p ((tget s.dev.time.inst i).any fun x => x.profile == 3) = true) ∨
          c.dirty 21 1 = true ∨ c.dirty 24 8 = true then s.refusal .badArg
      else .done (match inst with | some k => Dev.bmca k y | none => y) {})) ∧
  (∀ (s : State) (src : Src) (c : Cmd), s.runs 0x0706 src c →
    let t := s.dev.getT c.hIdx
    s.replies (.timeGetPort src) c (
      if c.bad 0x01 then s.refusal .badHandle
      else s.report c [fByte t.st.code, f8i (((Dev.meanDelay t).map (·.tdiv 65536)).getD (Config.absent 20)), f8i ((t.passive.map tPs).getD (Config.absent 21)), fByte (t.rxQl.getD (Config.absent 22)),
        fByte (b2n (!s.dev.calBad c.hIdx)), fCnt t.noTrailer]))

/-- A lost reference leaves its lanes to the next one and raises REF_LOST; sources become valid and are lost as Table 13.1 says, and the servo follows
Table 13.2. A step is applied at its time, once, from the command or from the root's notice; a leap second moves the UTC offset and steps nothing. The
root sends TIME_SYNC and answers delay requests; others follow it, and the meridian names the root. The time commands store, accept or answer what
Tables 13.5 to 13.7 name. -/
def Obligations.TimeRowsComplete : Prop :=
  (∀ (s : State) (r : RefName), s.devStep (.refLoss r) fun d =>
    match r with
    | .pcie => d = { s.dev with time := { s.dev.time with pcieRef := false } }
    | .sref k =>
      if s.dev.time.sref.getD k.val false then
        let y := (s.dev.setTime fun t => { t with
          sref := t.sref.set k.val false, transit := if k.val = 0 ∧ t.transit = 0 then 1 else t.transit }).setAlarm 8
        d = if k.val < 2 then y.raise 0x0704 sevMajor 0 [fByte k.val] else y
      else d = s.dev) ∧
  (∀ (s : State) (t : TimeSource), s.devStep (.sourceLostTimeout t) fun d =>
    match t with
    | .none => d = s.dev
    | .ptp p =>
      let x := s.dev.getT p
      d = if x.st = .slave ∧ x.syncAt + 3 * ivl x.logSync ≤ s.dev.now then
        Dev.sourceGone (.ptp p) (s.dev.putT p { x with slaveAt := s.dev.now, syncs := 0, resps := 0 }) else s.dev
    | .pps => d = if s.dev.time.ppsAt + msT 1100 ≤ s.dev.now then
        Dev.sourceGone .pps (s.dev.setTime fun y => { y with ppsGood := 0, ppsLast := none, todSec := none }) else s.dev
    | .relay => d = if s.dev.time.rAt + msT 50 ≤ s.dev.now ∨ (s.dev.time.rExch < 16 ∧ s.dev.time.rSince + secT 1 ≤ s.dev.now) then
        Dev.sourceGone .relay (s.dev.setTime fun y => { y with rRun := 0 }) else s.dev
    | .freqIn => d = if s.dev.time.freqOk then (s.dev.setTime fun y => { y with freqOk := false }).raise 0x0704 sevMajor 0 [fByte 2] else s.dev) ∧
  (∀ (s : State), s.devStep .servoLock fun d =>
    d = if s.dev.time.servo = .acquiring then
        (s.dev.setTime fun t => { t with servo := .locked }).raise 0x0700 sevInfo 0 [fByte 1, fByte 2] else s.dev) ∧
  (∀ (s : State), s.devStep .holdoverLimit fun d =>
    d = if s.dev.time.servo = .holdover then
        (s.dev.setTime fun t => { t with servo := .expired }).raise 0x0700 sevMajor 0 [fByte 3, fByte 4] else s.dev) ∧
  (∀ (s : State), s.devStep .timeStepApply fun d =>
    match s.dev.time.step with
    | some p => if s.dev.nowNs < p.applyNs then d = s.dev
        else d.time.step = none ∧ d.time.doneStep = some (s.dev.time.root, p.seq) ∧
          (d.time.off = s.dev.time.off + if p.size.natAbs < usT 1 then 0 else p.size) ∧
          (let y := Dev.applyStep p.size p.seq false (s.dev.setTime fun t => { t with step := none, doneStep := some (t.root, p.seq) })
           d = match p.intake with
             | none => y
             | some k => match y.hif.cmds.find? (·.intake == k) with | some c => y.complete c {} | none => y)
    | none =>
      match s.dev.time.autoWait with
      | none => d = s.dev
      | some v => d = if s.dev.epochShown then s.dev
          else Dev.acceptStep false (s.dev.nowNs + 10000000) v none (s.dev.setTime fun t => { t with autoWait := none })) ∧
  (∀ (s : State) (pos : Bool), s.devStep (.leapSecond pos) fun d =>
    d.time.off = s.dev.time.off ∧
    if pos = true ∧ s.dev.time.leap61 = true ∧ s.dev.utcNow % 86400 = 0 then d.time.utc = s.dev.time.utc + 1 ∧ d.time.leap61 = false
    else if pos = false ∧ s.dev.time.leap59 = true ∧ s.dev.utcNow % 86400 = 86399 then d.time.utc = s.dev.time.utc - 1 ∧ d.time.leap59 = false
    else d = s.dev) ∧
  (∀ (s : State) (t : Int), s.devStep (.ppsIn t) fun d =>
    let x := t + psT s.dev.time.ppsInPs
    d = s.dev.setTime fun y => { y with
      ppsLast := some x, ppsAt := s.dev.now
      ppsGood := if ∃ u ∈ s.dev.time.ppsLast, (x - u - secT 1).natAbs ≤ usT 1 then y.ppsGood else 0 }) ∧
  (∀ (s : State) (sec : Nat) (utc : Int), s.devStep (.todIn sec utc) fun d =>
    (s.dev.time.todIn = false ∨ s.dev.time.ppsLast = none → d = s.dev) ∧
    ∀ x, s.dev.time.todIn = true → s.dev.time.ppsLast = some x →
      let agree : Prop := ∀ n ∈ s.dev.time.todSec, n + 1 = sec
      (agree →
        let good := s.dev.time.ppsGood + 1
        let y := Dev.sample .pps (x - secT sec) (s.dev.setTime fun t => { t with todSec := some sec, todBad := 0, ppsGood := good })
        let z := if y.time.source = .pps then Dev.setUtc utc y.time.leap61 y.time.leap59 y else y
        d = if 3 ≤ good then Dev.sourceValid .pps z else z) ∧
      (¬agree →
        let y := s.dev.setTime fun t => { t with todSec := some sec, todBad := s.dev.time.todBad + 1, ppsGood := 0 }
        let z := if y.time.source = .pps then Dev.setUtc utc y.time.leap61 y.time.leap59 y else y
        d = if s.dev.time.todBad = 0 then z else Dev.sourceGone .pps z)) ∧
  (∀ (s : State), s.devStep .freqInEdgeLoss fun d =>
    d = if s.dev.time.freqOk then (s.dev.setTime fun y => { y with freqOk := false }).raise 0x0704 sevMajor 0 [fByte 2] else s.dev) ∧
  (∀ (s : State), s.devStep .freqInValid fun d => d = { s.dev with time := { s.dev.time with freqOk := true } }) ∧
  (∀ (s : State), s.devStep .ppsOutSecond fun d =>
    let k := s.dev.sysTicks / 65536000000000
    let y := (s.dev.setTime fun t => { t with ppsOut := k }).emit (.timePin 0 (k * 65536000000000 - psT s.dev.time.ppsOutPs))
    d = if k = s.dev.time.ppsOut then s.dev else if s.dev.time.todOut then y.emit (.timePin 1 k) else y) ∧
  (∀ (s : State), s.devStep .timeSyncSend fun d =>
    if s.dev.fab.configured = false ∨ s.dev.time.root ≠ s.dev.devId ∨ s.dev.now < s.dev.time.syncAt then d = s.dev
    else d.time.syncSeq = (s.dev.time.syncSeq + 1) % 65536 ∧ d.time.syncAt = s.dev.now + secT 1 / 128 ∧
      ∀ n l, s.dev.fwd.reachable = [n] → (List.range 512).find? (fun k => s.dev.inMask n k) = some l → s.dev.time.step = none →
        let t := s.dev.time
        d = (s.dev.setTime fun y => { y with syncSeq := (y.syncSeq + 1) % 65536, syncAt := s.dev.now + secT 1 / 128 }).sendFc n 0x70
          (be 2 s.dev.devId ++ be 2 t.syncSeq ++ beTime s.dev.sysTicks ++ be 8 0 ++ beI 2 t.utc ++
            be 1 (b2n t.leap61 + 2 * b2n t.leap59 + 12 * b2n (t.servo == .locked)) ++ be 1 s.dev.ownClass) (some l)) ∧
  (∀ (s : State) (m : TimeSyncMsg), s.devStep (.timeSync m) fun d =>
    if s.dev.fab.configured = false ∨ s.dev.isRoot = true ∨ m.root ≠ s.dev.time.root ∨ m.resent = true then d = s.dev
    else d.time.rAt = s.dev.now ∧ d.time.rLast = m.seq ∧ d.time.utc = m.utc ∧
      d.time.rDiff = some (s.dev.sysTicks - (m.origin + m.corr)) ∧ d.time.rLink = some m.link.val ∧ d.time.rClass = m.clockClass) ∧
  (∀ (s : State), s.devStep .timeDelayReqSend fun d =>
    let t := s.dev.time
    d = if s.dev.fab.configured = false ∨ s.dev.isRoot = true ∨ t.rLink = none ∨ s.dev.now < t.reqAt then s.dev
      else (s.dev.setTime fun y => { y with
        rReq := some (t.rSeq, s.dev.sysTicks), rSeq := (t.rSeq + 1) % 65536, reqAt := s.dev.now + secT 1 / 128 }).sendFc t.root 0x71 (be 2 t.rSeq ++ be 2 0) t.rLink) ∧
  (∀ (s : State) (dev seq : Nat) (resent : Bool), s.devStep (.timeDelayReq dev seq resent) fun d =>
    d = if s.dev.fab.configured = true ∧ s.dev.time.root = s.dev.devId ∧ resent = false then
      s.dev.sendFc dev 0x72 (be 2 seq ++ be 2 0 ++ beTime s.dev.sysTicks ++ be 8 0) ((List.range 512).find? fun l => s.dev.inMask dev l) else s.dev) ∧
  (∀ (s : State) (seq : Nat) (rxTime corr : Int) (resent : Bool), s.devStep (.timeDelayResp seq ⟨rxTime, corr⟩ resent) fun d =>
    match s.dev.time.rReq, s.dev.time.rDiff with
    | some (n, t), some x => d = if n ≠ seq ∨ resent = true then s.dev else s.dev.setTime fun y => { y with
        rReq := none, rExch := y.rExch + 1
        rDelay := if 16 ≤ y.rExch + 1 then some ((x + (rxTime - corr - t)) / 2) else y.rDelay }
    | _, _ => d = s.dev) ∧
  (∀ (s : State) (m : StepNotice), s.devStep (.timeStepNotice m) fun d =>
    if s.dev.fab.configured = false ∨ m.resent = true ∨ m.src ≠ s.dev.time.root ∨ m.src = s.dev.devId ∨ s.dev.time.doneStep = some (m.src, m.seq) then d = s.dev
    else
      let p : PendStep := { seq := m.seq, absolute := m.mode == 1, applyNs := m.apply_ns
                            value := (m.sec * 1000000000 + m.ns) * 65536 + m.frac, intake := none }
      d = if ∃ q ∈ s.dev.time.step, q.seq = m.seq ∧ q.intake = none then s.dev
        else if s.dev.nowNs < m.apply_ns then s.dev.setTime fun t => { t with step := some p }
        else Dev.applyStep p.size m.seq true (s.dev.setTime fun t => { t with step := none, doneStep := some (m.src, m.seq) })) ∧
  (∀ (s : State) (m : CandidateMsg), s.devStep (.timeCandidate m) fun d =>
    if m.resent = true ∨ s.dev.fab.holder ≠ s.dev.devId ∨ s.dev.hif.headless = true then d = s.dev
    else tget d.time.cands m.src = (if m.kind = 0 then none else some m)) ∧
  (∀ (s : State) (dev root seq : Nat) (resent : Bool), s.devStep (.timeRoot dev ⟨root, seq⟩ resent) fun d =>
    if resent = true ∨ dev ≠ s.dev.fab.holder ∨ (seq ≠ s.dev.time.rootSeq ∧ 32768 ≤ seqDiff seq s.dev.time.rootSeq) then d = s.dev
    else d.time.root = root ∧ d.time.rootSeq = seq) ∧
  (∀ (s : State) (src : Src) (c : Cmd), s.runs 0x0702 src c → s.replies (.timeSetSource src) c (
    if c.bad 0x00 then s.refusal .badHandle
    else if 3 < c.f 3 1 ∨ c.f 4 2 < 10 ∨ 10000 < c.f 4 2 ∨ c.f 6 2 = 0 ∨ 10000 < c.f 6 2 ∨ c.f 8 4 < 10 ∨ 10000 < c.f 8 4 ∨ c.f 12 2 = 0 ∨
        1000 < c.f 12 2 ∨ c.dirty 16 16 = true then s.refusal .badArg
    else .done (Dev.sourcesChanged (s.dev.setTime fun t => { t with
      prioPtp := c.f 0 1, prioPps := c.f 1 1, classPps := c.f 2 1, autoStep := bit (c.f 3 1) 0, useFreq := bit (c.f 3 1) 1, bw := c.f 4 2
      slew := c.f 6 2, holdNs := c.f 8 4, window := c.f 12 2, classHold := c.f 14 1, classExp := c.f 15 1 })) {})) ∧
  (∀ (s : State) (src : Src) (c : Cmd), s.runs 0x0703 src c → s.replies (.timeSetIo src) c (
    let o := (List.range 4).map fun k => (c.f (3 * k) 2, c.f (3 * k + 2) 1)
    let a := signed 4 (c.f 16 4); let b := signed 4 (c.f 20 4)
    if c.bad 0x00 then s.refusal .badHandle
    else if o.any (fun x => (decide (255 < x.1) && x.1 != 0xFFFF) || decide (2 < x.2)) = true ∨ c.f 12 4 = 0 ∨ 500000 < c.f 12 4 ∨
        1000000 < a.natAbs ∨ 1000000 < b.natAbs ∨ 3 < c.f 24 1 ∨ c.dirty 25 7 = true then s.refusal .badArg
    else .done (s.dev.setTime fun t => { t with
      synce := o.map fun (x : Nat × Nat) => (if x.1 = 0xFFFF then none else some x.1, x.2)
      ppsWidth := c.f 12 4, ppsInPs := a, ppsOutPs := b, todIn := bit (c.f 24 1) 0, todOut := bit (c.f 24 1) 1 }).synceSquelch {})) ∧
  (∀ (s : State) (src : Src) (c : Cmd), s.runs 0x0704 src c →
    let sec : Int := if c.f 0 1 = 0 then signed 8 (c.f 16 8) else c.f 16 8
    let ns : Int := if c.f 0 1 = 0 then signed 4 (c.f 24 4) else c.f 24 4
    s.replies (.timeStep src) c (
      if c.bad 0x00 then s.refusal .badHandle
      else if 1 < c.f 0 1 ∨ c.dirty 1 7 = true ∨ c.dirty 30 2 = true ∨ (c.f 8 8 ≠ 0 ∧ c.f 8 8 < s.dev.nowNs + 10000000) ∨ 999999999 < ns.natAbs ∨
          (c.f 0 1 = 1 ∧ 2 ^ 48 ≤ sec.natAbs) then s.refusal .badArg
      else if s.dev.isRoot = false then s.refusal .notReady
      else if s.dev.epochShown = true ∨ s.dev.time.step ≠ none then s.refusal .refusedBusy
      else .pend (s.dev.setTime fun t => { t with
        step := some { seq := t.stepSeq, absolute := c.f 0 1 == 1, applyNs := if c.f 8 8 = 0 then s.dev.nowNs + 10000000 else c.f 8 8
                       value := (sec * 1000000000 + ns) * 65536 + c.f 28 2, intake := some c.intake }
        stepSeq := (t.stepSeq + 1) % 256 }))) ∧
  (∀ (s : State) (src : Src) (c : Cmd), s.runs 0x0705 src c →
    let t := s.dev.time
    if (c.hType = 0x17 ∧ (c.bad 0x17 = true ∨ tget t.inst c.hIdx = none)) ∨ (c.hType ≠ 0x17 ∧ c.bad 0x00 = true) then
      s.replies (.timeGetStatus src) c (s.refusal .badHandle)
    else
      let hist := (List.range 8).map fun k => match t.hist[k]? with
        | some x => [f8 (ns64 (x.1 + t.off - ((t.hist.take k).map (·.2)).sum)), f8i (x.2.tdiv 65536)]
        | none => [f8 (Config.absent 23), f8 (Config.absent 24)]
      let b := [fByte t.servo.code, fByte t.source.code, fIdx t.root, f8i (t.offset.tdiv 65536), f8 s.dev.openVal.1.toNat,
          f8 s.dev.openVal.2.openVal.1.toNat, f8i t.utc] ++
        fArr hist ++ fArr (if c.hType = 0x17 then [s.dev.instFields c.hIdx] else (List.range 4).map s.dev.instFields)
      s.replies (.timeGetStatus src) c (
        if c.f 28 4 < (s.dev.statusRecord c.opcode b).length then .done s.dev { status := .noSpace, result := (s.dev.statusRecord c.opcode b).length }
        else .done { s.dev with fresh := s.dev.fresh + 2 } { record := some (s.dev.statusRecord c.opcode b) }))

/-- A channel executes the instruction at its index while it is RUNNING and has the engine's turn: END stops it with OK, LOOP counts and jumps, WAIT
takes a request or gives up the engine, SIGNAL raises an event, sends a vector or makes a request, SHUFFLE keeps its fields, MOVE moves a whole
burst or ends with BAD_ARG (the burst as one step: log 34). A spent run budget stops it with TIMEOUT. A load needs a stopped channel and a program
that keeps R536; an enable begins afresh; channels 14 and 15 are firmware's (log 34). -/
def Obligations.DmaProgramRowsComplete : Prop :=
  (∀ (s : State) (e : Fin 64) (t : Fin 16) (m : Fin 8), s.devStep (.mailboxPost e t m) fun d =>
    d = if (s.dev.acts e t).isSome then (s.dev.issue e t).dmaRequest (24 + m) else s.dev) ∧
  (∀ (s : State) (k : Fin 16), s.devStep (.dmaEnd k) fun d =>
    if s.dev.dmaNow k 0 = none then d = s.dev
    else
      (d.getDma k).obj.st = .stopped ∧ (d.getDma k).last = .ok ∧ (d.getDma k).lastPc = (s.dev.getDma k).pc ∧ d.dma.holder = none) ∧
  (∀ (s : State) (k : Fin 16) (host : HostRead), s.devStep (.dmaMove k host) fun d =>
    match s.dev.dmaNow k 1 with
    | none => d = s.dev
    | some i =>
      let c := Dev.moveLoad i ((s.dev.dmaTake k).getDma k)
      let len := field i 4 4
      let sFix := bit (field i 1 1) 0; let dFix := bit (field i 1 1) 1
      let y := (s.dev.dmaTake k).putDma k c
      let r := (Dev.shiftUnits c len sFix dFix).foldl (Dev.moveUnit (decide (14 ≤ k.val)) (decide (1 ≤ c.dstArea) && decide (c.dstArea ≤ 5)) s.dev.fresh
        (regionOf (Dev.ptrLoc c.srcArea c.src sFix 0)) (regionOf (Dev.ptrLoc c.dstArea c.dst dFix 0))
        (if c.mode = 3 then Dev.transposed else id) host) ({}, y)
      let z : Dev := { r.2 with fresh := r.2.fresh + 1 }
      if len = 0 then d = y.putDma k { c with pc := c.pc + 1 }
      else if Dev.moveBad c len sFix dFix = true then d = Dev.dmaFail k .badArg 0 y
      else match r.1.fault with
        | some (a, w, isAddr) =>
          let f := Dev.dmaFail k .badArg a (z.putDma k { c with moved := c.moved + r.1.moved })
          d = if isAddr then Dev.addrFault k w a f else f
        | none => d = z.putDma k { c with
            pc := c.pc + 1, moved := c.moved + len
            src := (c.src + if sFix then 0 else if c.mode = 1 then len / c.planes else len) % 2 ^ 64
            dst := (c.dst + if dFix then 0 else if c.mode = 2 then len / c.planes else len) % 2 ^ 64 }) ∧
  (∀ (s : State) (k : Fin 16), s.devStep (.dmaLoop k) fun d =>
    match s.dev.dmaNow k 2 with
    | none => d = s.dev
    | some i =>
      let c := (s.dev.dmaTake k).getDma k
      d = if field i 4 4 = 0 then (s.dev.dmaTake k).putDma k { c with pc := field i 8 2 }
        else match (tget c.loops c.pc).getD (field i 4 4 - 1) with
          | 0 => (s.dev.dmaTake k).putDma k { c with pc := c.pc + 1, loops := tdel c.loops c.pc }
          | v + 1 => (s.dev.dmaTake k).putDma k { c with pc := field i 8 2, loops := tput c.loops c.pc v }) ∧
  (∀ (s : State) (k : Fin 16), s.devStep (.dmaWait k) fun d =>
    match s.dev.dmaNow k 3 with
    | none => d = s.dev
    | some i =>
      let n := tgetD s.dev.dma.lines 0 (field i 4 1)
      if 0 < n then (d.getDma k).pc = (s.dev.getDma k).pc + 1 ∧ (d.getDma k).waits = none ∧ d.dma.holder = some k.val ∧
        d.dma.lines = tset s.dev.dma.lines 0 (field i 4 1) (n - 1)
      else (d.getDma k).waits = some (field i 4 1) ∧ (d.getDma k).pc = (s.dev.getDma k).pc ∧ d.dma.holder = none ∧
        d.dma.lines = s.dev.dma.lines) ∧
  (∀ (s : State) (k : Fin 16), s.devStep (.dmaSignal k) fun d =>
    match s.dev.dmaNow k 4 with
    | none => d = s.dev
    | some i =>
      let x := s.dev.dmaTake k
      let y := x.putDma k { x.getDma k with pc := (s.dev.getDma k).pc + 1 }
      d = match field i 4 1 with
        | 0 => y.raise 0x0801 sevInfo (handle 0x18 k) [f8 (field i 8 8)]
        | 1 => y.directMsix (field i 5 1)
        | _ => y.dmaRequest (field i 5 1)) ∧
  (∀ (s : State) (k : Fin 16), s.devStep (.dmaShuffle k) fun d =>
    match s.dev.dmaNow k 5 with
    | none => d = s.dev
    | some i => (d.getDma k).pc = (s.dev.getDma k).pc + 1 ∧ (d.getDma k).mode = field i 4 1 ∧ (d.getDma k).planes = field i 5 1 ∧
        (d.getDma k).elem = field i 6 1 ∧ (d.getDma k).stride = field i 8 4) ∧
  (∀ (s : State) (k : Fin 16), s.devStep (.dmaRunBudgetExpiry k) fun d =>
    let c := s.dev.getDma k
    if s.dev.dma.holder = some k.val ∧ c.obj.st = .running ∧ s.dev.dma.turnAt + usT c.budget ≤ s.dev.now then
      (d.getDma k).obj.st = .stopping ∧ (d.getDma k).last = .timeout ∧ (d.getDma k).lastPc = c.pc ∧ d.dma.holder = none
    else d = s.dev) ∧
  (∀ (s : State) (k : Fin 16), s.devStep (.dmaChannelStartDone k) fun d =>
    if (s.dev.getDma k).obj.st = .starting then (d.getDma k).obj.st = .running ∧ (d.getDma k).prog = (s.dev.getDma k).prog else d = s.dev) ∧
  (∀ (s : State) (k : Fin 16), s.devStep (.dmaChannelStopDone k) fun d =>
    let c := s.dev.getDma k
    if c.obj.st ≠ .stopping then d = s.dev
    else if c.obj.held then (d.getDma k).obj.st = .starting ∧ (d.getDma k).pc = 0 ∧ (d.getDma k).loops = [] ∧ (d.getDma k).mode = 0
    else d.dma.holder ≠ some k.val ∧ (d.getDma k).obj.st = .stopped ∧ (d.getDma k).pc = c.pc) ∧
  (∀ (s : State) (src : Src) (pl : HostRead) (c : Cmd), s.runs 0x0800 src c →
    let k := c.hIdx; let n := c.f 0 2; let b := c.f 2 1
    let p := (List.range n).map fun i => slice (pl.getD []) (32 * i) 32
    s.replies (.dmaLoad src pl) c (
      if c.bad 0x18 then s.refusal .badHandle
      else if 14 ≤ k then s.refusal .refusedBusy
      else if n = 0 ∨ 256 < n ∨ 100 < b ∨ c.dirty 3 29 = true ∨ pl = none ∨ Dev.dmaProgOk p = false then s.refusal .badArg
      else if (s.dev.getDma k).obj.st ≠ .stopped then s.refusal .refusedBusy
      else .done (s.dev.putDma k { s.dev.getDma k with prog := p, budget := if b = 0 then 100 else b }) {})) ∧
  (∀ (s : State) (src : Src) (c : Cmd), s.runs 0x0801 src c →
    let k := c.hIdx; let x := s.dev.getDma k
    s.replies (.dmaEnable src) c (
      if c.bad 0x18 then s.refusal .badHandle
      else if 14 ≤ k then s.refusal .refusedBusy
      else if c.dirty 0 32 then s.refusal .badArg
      else if x.prog = [] then s.refusal .notReady
      else match x.obj.st with
        | .stopped => .done (s.dev.putDma k { x with
            obj := { x.obj with st := .starting, prev := .stopped, since := s.dev.nowNs, failed := false, cancelled := false }
            pc := 0, src := 0, dst := 0, srcArea := 0, dstArea := 0, loops := [], mode := 0, planes := 0, elem := 0, stride := 0, waits := none }) {}
        | .running => .done (s.dev.putDma k x) {}
        | .stopping => .done (s.dev.putDma k { x with obj := { x.obj with held := true } }) { status := .deferred }
        | _ => .done (s.dev.putDma k x) { status := .refusedBusy })) ∧
  (∀ (s : State) (src : Src) (c : Cmd), s.runs 0x0802 src c →
    let r := s.dev.dmaHaltCh c.hIdx
    s.replies (.dmaHalt src) c (
      if c.bad 0x18 then s.refusal .badHandle
      else if 14 ≤ c.hIdx then s.refusal .refusedBusy
      else if c.dirty 0 32 then s.refusal .badArg
      else .done { r.2 with pwr := { s.dev.pwr with busyAt := s.dev.now } } { status := r.1.status })) ∧
  (∀ (s : State) (src : Src) (c : Cmd), s.runs 0x0803 src c →
    let x := s.dev.getDma c.hIdx
    s.replies (.dmaGetStatus src) c (
      if c.bad 0x18 then s.refusal .badHandle
      else if 14 ≤ c.hIdx then s.refusal .refusedBusy
      else s.report c ([fByte x.obj.st.code, fIdx x.pc, f8 x.src, f8 x.dst, fByte x.mode, fByte x.last.code, fIdx x.lastPc, f8 x.moved,
        fCnt x.turns] ++ fArr ((List.range 32).map fun l => [fCnt (tgetD s.dev.dma.lines 0 l)]))))

/-- An export stream is set or cleared by its command; when its period elapses it writes the host scratch area and makes one request; before that
nothing happens. A scan waits or runs in units 1 to 3, ends its segments of 16 MiB and completes its command with the value; unit 0 reads block after
block and corrects what it can, and pauses in the quiet state. -/
def Obligations.ExportRowsComplete : Prop :=
  (∀ (s : State) (src : Src) (c : Cmd), s.runs 0x0804 src c →
    let k := c.f 0 1; let fl := c.f 1 1; let p := c.f 4 4; let b := c.f 8 4; let n := c.f 12 4
    s.replies (.dmaSetExport src) c (
      if c.bad 0x00 then s.refusal .badHandle
      else if 4 < k ∨ 3 < fl ∨ c.dirty 2 2 = true ∨ p = 0 ∨ 60000 < p ∨ (k = 4 ∧ n ≠ 0) ∨
          (k ≠ 4 ∧ (n = 0 ∨ 65536 < n ∨ 67108864 < b + n)) ∨ c.dirty 16 16 = true then s.refusal .badArg
      else .done { s.dev with dma := { s.dev.dma with
        exp := if bit fl 0 then
            tput s.dev.dma.exp k { clear := bit fl 1, period := p, base := b, count := n, next := s.dev.now + msT p }
          else tdel s.dev.dma.exp k } } {})) ∧
  (∀ (s : State) (k : Fin 4), s.devStep (.counterExport k) fun d =>
    match tget s.dev.dma.exp k with
    | none => d = s.dev
    | some x => if s.dev.now < x.next then d = s.dev
        else
          let bs := (List.range x.count).flatMap fun i => le 8 (tgetD s.dev.cnt {} (x.base + i)).pkts ++ le 8 (tgetD s.dev.cnt {} (x.base + i)).bytes
          let y : Dev := if x.clear then
            { s.dev with cnt := (List.range x.count).foldl (fun (t : Tab Pair) i => tset t {} (x.base + i) {}) s.dev.cnt } else s.dev
          d = ((Dev.scratchPut (k * 2 ^ 20) bs y).setDma fun z => { z with
            exp := tput z.exp k { x with next := x.next + msT x.period, done := x.done + 1 } }).dmaRequest k) ∧
  (∀ (s : State), s.devStep .telemetryExport fun d =>
    match tget s.dev.dma.exp 4 with
    | none => d = s.dev
    | some x => if s.dev.now < x.next then d = s.dev
        else
          let rec' := slice (ts12 s.dev.sysTicks ++ s.dev.healthByte.flatMap (·.2)) 0 128
          let y : Dev := { Dev.scratchPut (4 * 2 ^ 20 + x.done % 256 * 128) rec' s.dev with fresh := s.dev.fresh + 1 }
          d = (y.setDma fun z => { z with exp := tput z.exp 4 { x with next := x.next + msT x.period, done := x.done + 1 } }).dmaRequest 4) ∧
  (∀ (s : State) (u : Fin 4) (host : HostRead), s.devStep (.cvSegmentEnd u host) fun d =>
    (u = 0 ∨ (s.dev.getCv u).scan = none → d = s.dev) ∧
    ∀ x, u ≠ 0 → (s.dev.getCv u).scan = some x →
      let n := min (16 * 2 ^ 20) (x.len - x.done)
      let a := x.addr + x.done
      let lost : Prop := x.addr < 2 ^ 63 ∧ s.dev.wholeMapped a n = false
      (lost ∨ (2 ^ 63 ≤ x.addr ∧ host = none) →
        let y := Dev.addrFault (16 + u) false (if lost then s.dev.firstUnmapped a n else a) (s.dev.putCv u { s.dev.getCv u with scan := none })
        d = Dev.cvFill (match y.hif.cmds.find? (·.intake == x.intake) with | some k => y.complete k { status := .badArg } | none => y)) ∧
      (¬lost → (2 ^ 63 ≤ x.addr → host ≠ none) →
        let b := if 2 ^ 63 ≤ x.addr then (slice (host.getD []) 0 n, []) else s.dev.scanBytes a n
        let x1 : Scan := { x with
          done := x.done + n, run := (cvRun x.poly (BitVec.ofNat 64 x.run) b.1).toNat, ue := x.ue + b.2.length, segs := x.segs + 1 }
        let y := b.2.foldl (fun (z : Dev) w => z.raise 0x0901 sevMajor 0 [f8 w, fByte (if w < 2 ^ 37 then Config.eccCode 4 else Dev.wordEcc w)])
          { s.dev with fresh := s.dev.fresh + 1 }
        d = if x.len ≤ x1.done then Dev.scanEnds u x1 y
          else if s.dev.dma.queue = [] then y.putCv u { y.getCv u with scan := some x1 }
          else ((y.putCv u { y.getCv u with scan := none }).setDma fun z => { z with queue := z.queue ++ [x1] }).cvFill)) ∧
  (∀ (s : State), s.devStep .scrubBlock fun d =>
    if s.dev.pwr.quiet then d = s.dev
    else d.dma.scrub = (s.dev.dma.scrub + 1) % 160 ∧
      d.fwd.ce = s.dev.fwd.ce.filter (fun w => !(decide (scrubAddr s.dev.dma.scrub ≤ w) && decide (w < scrubAddr s.dev.dma.scrub + 2 ^ 20))) ∧
      (s.dev.badTableWords = [] → s.dev.fwd.ce = [] → d = s.dev.setDma fun x => { x with scrub := (x.scrub + 1) % 160 })) ∧
  (∀ (s : State) (a : Nat), s.devStep (.sramScrub a) fun d =>
    match sramWindow a with
    | some (_, _, false) => d.fwd.ce = s.dev.fwd.ce.filter fun w => !(decide (a / 8 * 8 ≤ w) && decide (w < a / 8 * 8 + 8))
    | _ => d = s.dev) ∧
  (∀ (s : State) (src : Src) (c : Cmd), s.runs 0x0808 src c →
    let a := c.f 0 8; let n := c.f 8 6; let p := c.f 14 1; let fl := c.f 15 1
    let x : Scan := { intake := c.intake, addr := a, len := n, poly := p, flags := fl, expected := c.f 24 8
                      run := if bit fl 2 then c.f 16 8 else if p < 2 then 0xFFFFFFFF else 0 }
    s.replies (.cvScan src) c (
      if c.bad 0x00 then s.refusal .badHandle
      else if a % 8 ≠ 0 ∨ n % 8 ≠ 0 ∨ n < 8 ∨ 2 ^ 48 - 8 < n ∨ 2 < p ∨ 7 < fl ∨ (a < 2 ^ 63 ∧ s.dev.wholeMapped a n = false) then s.refusal .badArg
      else if 64 ≤ s.dev.scansHeld then s.refusal .noSpace
      else .pend (s.dev.setDma fun y => { y with queue := y.queue ++ [x] }).cvFill)) ∧
  (∀ (s : State) (src : Src) (c : Cmd), s.runs 0x0809 src c →
    let u := c.hIdx; let x := s.dev.getCv u
    s.replies (.cvGetStatus src) c (
      if c.bad 0x19 then s.refusal .badHandle
      else s.report c [fByte (if u = 0 then 0 else if x.scan.isSome then 1 else Config.absent 25),
        f8 (if u = 0 then scrubAddr s.dev.dma.scrub else match x.scan with | some y => y.addr + y.done | none => 0),
        f8 (match x.scan with | some y => y.done | none => 0), fCnt x.done, fCnt x.bad, fCnt s.dev.dma.queue.length]))

/-- Copies of an output are gathered, two equal copies of VOTERs release it, and two VOTERs that differ while a channel is in SELFTEST freeze the
outputs. A VOTER that differs, is late or has an uncorrectable error leaves voting (RESYNC, FAILED at the third time in an hour), or without two others
a restart begins. A checkpoint two VOTERs agree on is committed. A swap, its self-test and a RESYNC move a channel through Table 18.1. The triad
returns when two channels pass. 120 s headless set the alarm bit. The triad's commands answer. Codes of roles: log 37. -/
def Obligations.TriadRowsComplete : Prop :=
  (∀ (s : State) (ch : Fin 3) (n : Nat) (x : BitVec 64), s.devStep (.outputCopy ch n x) fun d =>
    (s.dev.hif.headless = true ∨ (s.dev.roleIs .voter ch = false ∧ s.dev.roleIs .standby ch = false) → d = s.dev) ∧
    (s.dev.hif.headless = false → s.dev.roleIs .voter ch = true ∨ s.dev.roleIs .standby ch = true → tget s.dev.tri.released n = none →
      tget s.dev.tri.copies n = none → d = s.dev.setTri fun t => { t with copies := tput t.copies n [(ch.val, x)] }) ∧
    (∀ k : Fin 3, s.dev.hif.headless = false → s.dev.roleIs .voter ch = true → s.dev.roleIs .voter k = true → k ≠ ch →
      tget s.dev.tri.released n = none → tget s.dev.tri.copies n = some [(k.val, x)] →
      d.hif.frozen = false ∧
        tget d.tri.released n = some (x, s.dev.now, s.dev.voters.filter fun v => v ≠ k.val ∧ v ≠ ch.val)) ∧
    (∀ (k : Fin 3) (y : BitVec 64), s.dev.hif.headless = false → s.dev.roleIs .voter ch = true → s.dev.roleIs .voter k = true → k ≠ ch →
      tget s.dev.tri.released n = none → tget s.dev.tri.copies n = some [(k.val, y)] → y ≠ x → s.dev.voters.length = 2 →
      s.dev.tested ≠ none → s.dev.tri.attempt = 0 →
      d.hif.frozen = true ∧ d.tri.attempt = 1 ∧ d.tri.frozenAt = s.dev.now ∧ d.tri.rollbacks = s.dev.tri.rollbacks + 1) ∧
    (∀ y t wait, s.dev.hif.headless = false → s.dev.roleIs .voter ch = true ∨ s.dev.roleIs .standby ch = true →
      tget s.dev.tri.released n = some (y, t, wait) →
      d = if x = y then s.dev.setTri fun z => { z with released := tput z.released n (y, t, wait.filter (· != ch.val)) }
        else if s.dev.roleIs .standby ch then s.dev.standbyBad ch
        else if wait.contains ch.val then s.dev.leaveVote ch 0
        else if s.dev.hif.frozen then (if s.dev.tri.recalled then s.dev.leaveVote ch 0 else s.dev.disagree)
        else s.dev)) ∧
  (∀ (s : State) (ch : Fin 3), s.devStep (.voteTimeout ch) fun d =>
    if s.dev.fwHeld = false ∧ s.dev.tri.released.any (fun x => x.2.2.2.contains ch.val && decide (x.2.2.1 + usT 10 ≤ s.dev.now)) = true then
      d = s.dev.leaveVote ch 0 ∧ (s.dev.roleIs .voter ch = true → s.dev.voters.length = 3 →
        (d.getTri ch).role = .resync ∨ (d.getTri ch).role = .failed)
    else d = s.dev) ∧
  (∀ (s : State) (a b c : BitVec 64), s.devStep (.checkpoint a b c) fun d =>
    if s.dev.fwHeld = true ∨ s.dev.pwr.quiet = true ∨ (s.dev.now < s.dev.tri.cpAt + msT 10 ∧ s.dev.logFull = false) then d = s.dev
    else match Dev.agreed (s.dev.voters.map fun k => (k, [a, b, c].getD k 0)) with
      | some y => d = s.dev.commit y (fun k => [a, b, c].getD k 0) ∧ d.tri.commits = s.dev.tri.commits + 1 ∧ d.tri.cpAt = s.dev.now ∧ d.tri.cpNs = s.dev.nowNs
      | none => d = if s.dev.voters.length = 2 then s.dev.disagree
          else if s.dev.voters.length = 3 then s.dev.beginRestart .doubleFault .same none else s.dev) ∧
  (∀ (s : State) (ch : Fin 3), s.devStep (.channelUe ch) fun d =>
    if s.dev.hif.headless = true then d = s.dev
    else match (s.dev.getTri ch).role with
      | .voter =>
        let n := ((s.dev.getTri ch).outvoted.filter fun t => decide (s.dev.now < t + secT 3600)).length
        if s.dev.voters.length = 3 then (d.getTri ch).role = if 2 ≤ n then .failed else .resync
        else s.dev.tri.restart = none → d.hif.headless = true ∧ d.tri.restarts = s.dev.tri.restarts + 1
      | .standby => (d.getTri ch).role = .resync
      | _ => d = s.dev) ∧
  (∀ (s : State), s.devStep .swapDue fun d =>
    let t := s.dev.tri
    if s.dev.fwHeld = false ∧ s.dev.pwr.quiet = false ∧ t.swapMin ≠ 0 ∧ t.swapDue ≤ s.dev.now ∧ s.dev.voters.length = 3 ∧
        (t.allSince ≤ t.swapDue ∨ t.allSince + secT 1 ≤ s.dev.now) then
      (d.getTri t.swapNext).role = .selftest ∧ (t.swapNext < 3 → (d.getTri t.swapNext).swapAt = s.dev.nowNs) ∧ d.tri.swapDue = s.dev.now + secT (60 * t.swapMin)
    else d = s.dev) ∧
  (∀ (s : State) (ch : Fin 3) (ok : Bool), s.devStep (.selftestEnd ch ok) fun d =>
    let x := s.dev.getTri ch
    if s.dev.hif.headless = false ∧ x.role = .selftest ∧ x.at_ + msT 250 ≤ s.dev.now then
      (d.getTri ch).role = .resync ∧ (d.getTri ch).stOk = x.stOk + b2n ok ∧ (d.getTri ch).stBad = x.stBad + b2n (!ok) ∧
        d.tri.swapNext = (ch.val + 1) % 3
    else d = s.dev) ∧
  (∀ (s : State) (ch : Fin 3) (ok : Bool), s.devStep (.resyncDone ch ok) fun d =>
    if s.dev.hif.headless = false ∧ (s.dev.getTri ch).role = .resync then
      if ok then (d.getTri ch).role = .standby else d = s.dev.setRole ch .failed 3
    else d = s.dev) ∧
  (∀ (s : State) (a b c u v w : Bool), ∃ t, exec (.triadReturn ⟨a, u⟩ ⟨b, v⟩ ⟨c, w⟩) s = .next t ∧ t.pending = s.pending ∧
    match s.dev.tri.restart with
    | none => t = s
    | some r => if 3 < r.tries then t = s
        else if (a && b || a && c || b && c) = false then
          t = { s with dev := s.dev.setTri fun x => { x with restart := some { r with tries := r.tries + 1 } } }
        else ((u && v || u && w || v && w) = true ∨ r.kind ≠ .trial → t.dev.tri.restart = none ∧ t.dev.hif.headless = false) ∧
          ∀ p k fall, r.kind = .same → Dev.chooseSlot false s.nv s.dev = (p, some k, fall) →
            t = State.returnInto r [a, b, c] (decide (2 ≤ ([u, v, w].filter id).length)) k fall { s with nv := p.1, dev := p.2 }) ∧
  (∀ (s : State), s.devStep .headlessTimeout fun d =>
    match s.dev.tri.restart with
    | none => d = s.dev
    | some r => if r.began + secT 120 ≤ s.dev.now ∧ s.dev.tri.overrun = false then d.tri.overrun = true ∧ d.hif.alarm.getLsbD 0 = true
        else d = s.dev) ∧
  (∀ (s : State) (src : Src) (c : Cmd), s.runs 0x0910 src c →
    let t := s.dev.tri
    s.replies (.triadGetStatus src) c (
      if c.bad 0x00 = true ∧ c.bad 0x1A = true then s.refusal .badHandle
      else s.report c (fArr ((if c.hType = 0x1A then [c.hIdx] else [0, 1, 2]).map fun k =>
          let x := s.dev.getTri k
          [fByte x.role.code, fCnt (x.outvoted.filter fun u => decide (s.dev.now < u + secT 3600)).length, fCnt x.stOk, fCnt x.stBad, f8 x.swapAt]) ++
        [fCnt t.commits, fCnt t.rollbacks, fCnt t.recalls, fCnt t.restarts, fCnt t.journal.length]))) ∧
  (∀ (s : State) (src : Src) (c : Cmd), s.runs 0x0911 src c → s.replies (.triadSetSwap src) c (
    if c.bad 0x00 then s.refusal .badHandle
    else if 1440 < c.f 0 2 ∨ c.dirty 2 30 = true then s.refusal .badArg
    else .done (s.dev.setTri fun t => { t with swapMin := c.f 0 2, swapDue := s.dev.now + secT (60 * c.f 0 2) }) {})) ∧
  (∀ (s : State) (src : Src) (c : Cmd), s.runs 0x0912 src c → s.replies (.triadRestart src) c (
    if c.bad 0x00 then s.refusal .badHandle
    else if c.dirty 0 32 then s.refusal .badArg
    else if s.dev.preparing = true ∨ s.dev.pe.roll.isSome = true then s.refusal .refusedBusy
    else .pend (s.dev.beginRestart .command .same (some c.intake)))) ∧
  (∀ (s : State) (src : Src) (c : Cmd), s.runs 0x0913 src c →
    let x := s.dev.getTri c.hIdx
    let one (i : Nat) : Bytes := match x.trace[(x.traceAt + 511 - i) % 512]? with
      | some t => Dev.triTraceBytes s.dev.fresh i t
      | none => List.replicate 32 0
    s.replies (.triadTraceRead src) c (
      if c.bad 0x1A then s.refusal .badHandle
      else .done { s.dev with fresh := s.dev.fresh + 1 }
        { record := some ((List.range 512).flatMap one), result := x.traceAt + x.traceAt * 2 ^ 32 }))

/-- A lane in service that fails is replaced by a spare where one is left, and the group carries nothing until the swap is done. An eye margin is kept
and a lane below the threshold fails. A failed lane is retrained every 10 s and is a spare after 1 s without error. A flit in sequence is accepted and
acknowledged, an older one only frees what it acknowledges, anything else is asked for once. BRIDGE_GET_STATUS and DIAG_INJECT answer as Tables 18.7
and 18.8 say. Open points: log 38, log 39. -/
def Obligations.BridgeRowsComplete : Prop :=
  (∀ (s : State) (g : Fin 32) (l : Fin 40) (k : BridgeCause), s.devStep (.bridgeLaneFail g l k) fun d =>
    let x := s.dev.getGroup g
    if (Dev.bLane x l).st ≠ .service then d = s.dev
    else (Dev.bLane (d.getGroup g) l).st = .failed ∧ (d.getGroup g).stalled = true ∧
      ∀ i, x.lane.findIdx? (fun y => y.st == .spare) = some i → (Dev.bLane (d.getGroup g) i).st = .service) ∧
  (∀ (s : State) (g : Fin 32), s.devStep (.spareSwapDone g) fun d =>
    d = (List.range 8).foldl (fun x k => Dev.drainStack k x) (s.dev.putGroup g { s.dev.getGroup g with stalled := false })) ∧
  (∀ (s : State) (g : Fin 32) (l : Fin 40) (m : Int) (below : Bool), s.devStep (.laneEyeCheck g l m below) fun d =>
    let x := s.dev.getGroup g
    let y := s.dev.putGroup g { x with lane := x.lane.set l { Dev.bLane x l with margin := m } }
    d = if below then Dev.laneFail g l 2 y else y) ∧
  (∀ (s : State) (g : Fin 32) (l : Fin 40) (ok : Bool), s.devStep (.laneRetrain g l ok) fun d =>
    let x := s.dev.getGroup g
    let y := Dev.bLane x l
    let put (z : BLane) : Dev := s.dev.putGroup g { x with lane := x.lane.set l z }
    d = if y.st ≠ .failed then s.dev
      else if ok = false then put { y with goodAt := none, triedAt := s.dev.now }
      else match y.goodAt with
        | none => if y.triedAt + secT 10 ≤ s.dev.now then put { y with goodAt := some s.dev.now, triedAt := s.dev.now } else put y
        | some t => if t + secT 1 ≤ s.dev.now then put { y with st := .spare, goodAt := none } else put y) ∧
  (∀ (s : State) (g : Fin 32) (q : Bool) (f : Flit), s.devStep (.flitReceive g q f) fun d =>
    let x := s.dev.getGroup g
    let i := b2n q
    let want := x.rxSeq.getD i 0
    let freed := x.held.set (1 - i) ((x.held.getD (1 - i) []).filter fun n => decide (f.ackSeq ≤ n))
    d = if x.stalled then s.dev
      else if f.crcOk = true ∧ f.seq = want then (s.dev.putGroup g { x with
        rxSeq := x.rxSeq.set i (want + 1), asked := x.asked.set i false
        held := freed.set i ((freed.getD i []).filter fun n => decide (want < n)) }).emit (.flit g q want false)
      else if f.crcOk = true ∧ f.seq < want then (s.dev.putGroup g { x with held := freed }).emit (.flit g q f.seq false)
      else Dev.flitRetry g want (if x.asked.getD i false then s.dev
        else (s.dev.putGroup g { x with asked := x.asked.set i true }).emit (.flit g q want true))) ∧
  (∀ (s : State) (src : Src) (c : Cmd), s.runs 0x0914 src c →
    let x := s.dev.getGroup c.hIdx
    s.replies (.bridgeGetStatus src) c (
      if c.bad 0x03 then s.refusal .badHandle
      else s.report c (fArr (x.lane.map fun l =>
          [fByte (match l.st with | .service => 0 | .spare => 1 | .failed => 2), fCnt l.retries, f8i l.margin]) ++
        [fCnt (x.lane.filter fun l => l.st == .spare).length]))) ∧
  (∀ (s : State) (src : Src) (c : Cmd), s.runs 0x0915 src c →
    let k := c.f 0 1; let t := c.f 1 1; let i := c.f 4 4; let a := c.f 8 8
    let addrBad : Bool := if a < 2 ^ 37 then s.dev.areaAt a == .unmapped else (sramWindow a).isNone
    s.replies (.diagInject src) c (
      if c.bad 0x00 then s.refusal .badHandle
      else if (k ≤ 1 ∧ (t ≠ 0 ∨ i ≠ 0 ∨ addrBad = true)) ∨ (k = 2 ∧ (2 < t ∨ i ≠ 0 ∨ a ≠ 0)) ∨
          (k = 3 ∧ (31 < i ∨ 39 < t ∨ a ≠ 0 ∨ (Dev.bLane (s.dev.getGroup i) t).st ≠ .service)) ∨ (k = 4 ∧ (t ≠ 0 ∨ 255 < i ∨ a ≠ 0)) ∨ 4 < k ∨
          c.dirty 2 2 = true ∨ c.dirty 16 16 = true then s.refusal .badArg
      else if (k = 2 ∧ s.dev.voters.length ≠ 3) ∨ (k = 4 ∧ ((s.dev.otherDown i).isSome = true ∨ (s.dev.getCh i).obj.st ≠ .running)) then
        s.refusal .refusedBusy
      else .done (if k = 0 then s.dev.injectError false a else if k = 1 then s.dev.injectError true a else if k = 2 then s.dev.leaveVote t 0
        else if k = 3 then Dev.laneFail i t 0 s.dev else s.dev.freeze i 3 none) {}))

/-- BRING_UP needs valid rails and device reset. A ROM that fails halts in phase 1; host boot waits in Chrysalis for its image, recovery enters
Chrysalis, flash boot reaches READY with the chosen slot where two control channels pass. DEVICE_RESET keeps fuses, flash and the tamper latch, and
empties a slot being written. The recovery commands write slot A or the staging buffer, boot them, and answer their state; over SMBus likewise. Packing
of the status answer: log 40. -/
def Obligations.BootRowsComplete : Prop :=
  (∀ (s : State) (e : BootEnv), ∃ t, exec (.bringUp e) s = .next t ∧ t.pending = s.pending ∧
    let q : Prop := e.romOk = true ∧ e.tamper = none ∧ s.dev.sec.firing = 0#4
    if e.railsValid = false ∨ s.dev.hif.up = true ∨ s.dev.hif.answers = true ∨ s.dev.hif.bootPhase ≠ 0 then t = s
    else (e.romOk = false → t.nv = s.nv ∧ t.dev.hif.bootPhase = 0xF ∧ t.dev.hif.up = false) ∧
      (q → e.bootSrc = 1 → t.nv = s.nv ∧ t.dev.hif.chrysalis = true ∧ t.dev.fw.hostBoot = true ∧ t.dev.hif.bootPhase = 0xC) ∧
      (q → e.bootSrc = 2 → t.nv = s.nv ∧ t.dev.hif.chrysalis = true ∧ t.dev.fw.hostBoot = false ∧ t.dev.hif.bootPhase = 0xD) ∧
      (q → e.bootSrc = 3 → s.nv.ignoreSrc = false →
        t.nv = s.nv ∧ t.dev.hif.chrysalis = true ∧ t.dev.fw.hostBoot = false ∧ t.dev.hif.bootPhase = 0xD) ∧
      (q → e.bootSrc = 0 ∨ (e.bootSrc = 3 ∧ s.nv.ignoreSrc = true) → s.nv.trial = none → Dev.slotVerify s.nv s.dev (s.nv.current == 1) = none →
        (e.chanPass.1 && e.chanPass.2.1 || e.chanPass.1 && e.chanPass.2.2 || e.chanPass.2.1 && e.chanPass.2.2) = true →
        t.dev.hif.up = true ∧ t.dev.hif.bootPhase = 0xB ∧ t.dev.hif.readyMs = e.readyMs ∧ t.dev.hif.fwSlot = (s.nv.current == 1))) ∧
  (∀ (s : State), exec .deviceReset s = .next { s with
    nv := { s.nv with
      slotA := if s.nv.slotA.st = .writing then {} else s.nv.slotA, slotB := if s.nv.slotB.st = .writing then {} else s.nv.slotB }
    dev :=
      let d : Dev := { now := s.dev.now, fresh := s.dev.fresh, out := s.dev.out, sec := { firing := s.dev.sec.firing } }
      (if s.dev.pwr.trip then d.emit (.pin 1 false) else d).emit (.bootPhase 0) }) ∧
  (∀ (s : State), exec .recoveryReset s = if s.dev.fw.resetDue = none then .next s else exec .deviceReset s) ∧
  (∀ (s : State) (src : Src) (chunk : HostRead) (ok : Bool) (c : Cmd), s.runs 0x0A10 src c →
    let t := c.f 0 1; let off := c.f 4 4; let len := c.f 8 4
    let b := slice (chunk.getD []) 0 len
    let no (st : Status) : State := { s with dev := Dev.settle c (s.refusal st) }
    let had := s.nv.slotA.st = .writing
    exec (.fwRecoveryWrite src chunk ok) s = .next (
      if s.dev.hif.chrysalis = false then no .notReady
      else if 1 < t ∨ off % 65536 ≠ 0 ∨ len = 0 ∨ 65536 < len ∨
          (if t = 0 then (Config.flashBytes - 8388608) / 2 else 130023424) < off + len ∨ (t = 1 ∧ s.dev.fw.hostBoot = false) then no .badArg
      else if t = 0 ∧ s.dev.fw.recov.busy = true ∧ s.dev.fw.recov.smbus = true then no .refusedBusy
      else if chunk = none ∨ crc32c 0xFFFFFFFF b ≠ c.f 24 4 then no .verifyFailed
      else if t = 1 then { s with dev := Dev.settle c (.done { s.dev with fw := { s.dev.fw with
        buffer := Dev.flashPut s.dev.fw.buffer off b, recov := { s.dev.fw.recov with bytes := max s.dev.fw.recov.bytes (off + len) } } } {}) }
      else { s with
        nv := { (if had then s.nv else Dev.dirUpdate s.nv) with slotA := { s.nv.slotA with
          st := .writing
          image := Dev.flashPut (if had then s.nv.slotA.image else []) off (if ok then b else List.replicate b.length 0xFF) } }
        dev := Dev.settle c (.done (Dev.flashPhase true (s.dev.setRecov fun r => { r with
          busy := true, smbus := false, bytes := max r.bytes (off + len) })) { status := if ok then .ok else .verifyFailed }) })) ∧
  (∀ (s : State) (src : Src) (c : Cmd), s.runs 0x0A11 src c → s.replies (.fwRecoveryStatus src) c (
    if s.dev.hif.chrysalis = false then s.refusal .notReady
    else .done s.dev { result := s.dev.fw.causes + 2 ^ 32 * s.dev.fw.recov.bytes
                       data := some (Dev.dirBytes s.nv s.dev ++ le 4 (Dev.latchWord s.nv)) })) ∧
  (∀ (s : State) (src : Src) (c : Cmd), s.runs 0x0A12 src c →
    let len := c.f 0 4; let m := c.f 8 1
    let img := slice s.nv.slotA.image 0 len
    let no (st : Status) : State := { s with dev := Dev.settle c (s.refusal st) }
    (s.dev.hif.chrysalis = false → exec (.fwRecoveryBoot src) s = .next (no .notReady)) ∧
    (s.dev.hif.chrysalis = true → 1 < m ∨ (m = 1 ∧ s.dev.fw.hostBoot = false) → exec (.fwRecoveryBoot src) s = .next (no .badArg)) ∧
    (s.dev.hif.chrysalis = true → m = 0 → exec (.fwRecoveryBoot src) s = .next (
      if s.dev.fw.recov.busy = true ∧ s.dev.fw.recov.smbus = true then no .refusedBusy
      else if s.nv.slotA.image.length < len ∨ crc32c 0xFFFFFFFF img ≠ c.f 4 4 then no .verifyFailed
      else { s with
        nv := { Dev.dirUpdate s.nv with
          current := 0, trial := none, ignoreSrc := true
          slotA := { s.nv.slotA with st := .written, fmt := Dev.imgFmt img, len := img.length, crc := crc32c 0xFFFFFFFF img, image := img } }
        dev := Dev.settle c (.done (Dev.flashPhase false { s.dev with fw := { s.dev.fw with
          resetDue := some (s.dev.now + msT 10), recov := { s.dev.fw.recov with busy := false } } }) {}) })) ∧
    (s.dev.hif.chrysalis = true → m = 1 → s.dev.fw.hostBoot = true → s.dev.fw.env = none →
      let b := slice s.dev.fw.buffer 0 len
      exec (.fwRecoveryBoot src) s = .next (no (
        if s.dev.fw.buffer.length < len ∨ crc32c 0xFFFFFFFF b ≠ c.f 4 4 ∨ verifyImg s.nv b ≠ none ∨ slotShape (imgHeader b) = false then .verifyFailed
        else .notReady))) ∧
    ∀ e, s.dev.hif.chrysalis = true → m = 1 → s.dev.fw.hostBoot = true → s.dev.fw.env = some e →
      let b := slice s.dev.fw.buffer 0 len
      if s.dev.fw.buffer.length < len ∨ crc32c 0xFFFFFFFF b ≠ c.f 4 4 ∨ verifyImg s.nv b ≠ none ∨ slotShape (imgHeader b) = false then
        exec (.fwRecoveryBoot src) s = .next (no .verifyFailed)
      else ∃ t, exec (.fwRecoveryBoot src) s = .next t ∧ t.nv.current = 0 ∧ t.nv.trial = none ∧
        ((e.chanPass.1 && e.chanPass.2.1 || e.chanPass.1 && e.chanPass.2.2 || e.chanPass.2.1 && e.chanPass.2.2) = true →
          t.dev.hif.up = true ∧ t.dev.hif.bootPhase = 0xB ∧ t.dev.hif.fwSlot = false ∧ t.dev.fw.image = b)) ∧
  (∀ (s : State) (len crc : Nat) (pec : Bool), exec (.smbRecoveryBegin len crc pec) s = .next (
    let r := s.dev.fw.recov
    if s.dev.inChrysalis = false ∨ pec = false ∨ (r.busy = true ∧ r.smbus = false) ∨ (Config.flashBytes - 8388608) / 2 < len then
      { s with dev := s.dev.emit (.smbus none false) }
    else { s with
      nv := { Dev.dirUpdate s.nv with slotA := { s.nv.slotA with st := .writing, image := [] } }
      dev := (Dev.flashPhase true (s.dev.setRecov fun _ =>
        { smbus := true, busy := true, bytes := 0, len := len, crc := crc, code := 1 })).emit (.smbus (some []) false) })) ∧
  (∀ (s : State) (b : Bytes) (pec : Bool), exec (.smbRecoveryData b pec) s = .next (
    let r := s.dev.fw.recov
    if s.dev.inChrysalis = false ∨ pec = false ∨ r.busy = false ∨ r.smbus = false ∨ b.length ≠ 32 then
      { s with dev := s.dev.emit (.smbus none false) }
    else { s with
      nv := { s.nv with slotA := { s.nv.slotA with image := s.nv.slotA.image ++ b } }
      dev := (s.dev.setRecov fun x => { x with bytes := x.bytes + 32 }).emit (.smbus (some []) false) })) ∧
  (∀ (s : State) (pec : Bool), ∃ t, exec (.smbRecoveryFinish pec) s = .next t ∧
    let r := s.dev.fw.recov
    let img := slice s.nv.slotA.image 0 r.len
    if s.dev.inChrysalis = false ∨ pec = false ∨ r.busy = false ∨ r.smbus = false then t = { s with dev := s.dev.emit (.smbus none false) }
    else if s.nv.slotA.image.length < r.len ∨ crc32c 0xFFFFFFFF img ≠ r.crc then
      t.nv = s.nv ∧ t.dev.fw.recov = { r with busy := false, code := 3 } ∧ t.dev.fw.resetDue = s.dev.fw.resetDue
    else t.nv.current = 0 ∧ t.nv.trial = none ∧ t.nv.ignoreSrc = true ∧ t.nv.slotA.st = .written ∧ t.nv.slotA.image = img ∧
      t.dev.fw.recov = { r with busy := false, code := 4 } ∧ t.dev.fw.resetDue = some (s.dev.now + msT 10)) ∧
  (∀ (s : State), s.devStep .smbRecoveryStatus fun d =>
    d = s.dev.emit (.smbus (if s.dev.inChrysalis then some (le 1 s.dev.fw.recov.code) else none) (!s.dev.hif.answers)))

/-- FW_WRITE writes the slot that does not run, after the checks of R596. FW_ACTIVATE makes it the trial and begins a restart; FW_CONFIRM makes the trial
the current slot; FW_REVERT and an expired confirmation time begin a restart back. FW_RELAY stages and begins a relay. A parser patch needs a verified
one-component image on the running version, and its bank is swapped 100 µs after the last write. -/
def Obligations.FirmwareRowsComplete : Prop :=
  (∀ (s : State), s.devStep .confirmTimeout fun d =>
    match s.dev.fw.confirmDue with
    | none => d = s.dev
    | some t => if s.dev.fwHeld = true ∨ s.dev.now < t then d = s.dev
        else d.fw.confirmDue = none ∧ (s.dev.tri.restart = none →
          d.hif.headless = true ∧ ∃ r, d.tri.restart = some r ∧ r.kind = .revert 4 ∧ r.cause = .activation ∧ r.intake = none)) ∧
  (∀ (s : State), s.devStep .parserBankSwap fun d =>
    match s.dev.fw.patch with
    | none => d = s.dev
    | some p => if s.dev.now < p.at_ + usT 100 then d = s.dev
        else d.fw.patch = none ∧ d.fw.bankVer = s.dev.fw.bankVer.set p.bank p.version ∧ d.fw.banks = s.dev.fw.banks.set p.bank p.image) ∧
  (∀ (s : State) (src : Src) (c : Cmd), s.runs 0x0A00 src c → s.replies (.fwGetStatus src) c (
    let fmt (r : Option (Nat × Persist)) : Fld := .u 2 (match r with | some x => x.1 | none => 0)
    if c.bad 0x00 then s.refusal .badHandle
    else s.report c ([.raw 8 (Dev.dirBytes s.nv s.dev)] ++ (List.range 6).map (fun k => .u 4 (tgetD s.dev.fw.comps 0 (k + 1))) ++
      s.dev.fw.bankVer.map (fun v => .u 4 v) ++ [fmt s.nv.regionA, fmt s.nv.regionB, f8 Config.flashBytes, f8 s.dev.staged]))) ∧
  (∀ (s : State) (src : Src) (pl : HostRead) (ok1 ok2 : Bool) (c : Cmd), s.runs 0x0A01 src c →
    let len := c.f 0 4
    let img := slice (pl.getD []) 0 len
    let b := !s.dev.hif.fwSlot
    let no (st : Status) : State := { s with dev := Dev.settle c (s.refusal st) }
    let w := Dev.writeSlot b img false s.nv s.dev
    let e := Dev.putSlot (Dev.dirUpdate (Dev.dirUpdate s.nv)) s.dev b {}
    exec (.fwWrite src pl ok1 ok2) s = .next (
      if c.bad 0x00 then no .badHandle
      else if c.dirty 8 24 = true ∨ pl = none then no .badArg
      else if s.nv.trial ≠ none then no .refusedBusy
      else if s.dev.slotMax < len then no .noSpace
      else if crc32c 0xFFFFFFFF img ≠ c.f 4 4 then no .verifyFailed
      else if Dev.slotImage img = false then no .badArg
      else if ok1 = true ∨ ok2 = true then { s with nv := w.1, dev := Dev.settle c (.done w.2 { result := b2n b }) }
      else { s with nv := e.1, dev := Dev.settle c (.done e.2 { status := .verifyFailed }) })) ∧
  (∀ (s : State) (src : Src) (c : Cmd), s.runs 0x0A02 src c →
    let m := c.f 0 2; let fl := c.f 2 1
    let b := !s.dev.hif.fwSlot
    let o := Dev.slot s.nv s.dev b
    let no (st : Status) : State := { s with dev := Dev.settle c (s.refusal st) }
    let p := Dev.putSlot (Dev.dirUpdate { s.nv with trial := some (b2n b), tries := 0, confirmMin := m }) s.dev b { o with st := .trial }
    exec (.fwActivate src) s = .next (
      if c.bad 0x00 then no .badHandle
      else if 1440 < m ∨ 1 < fl ∨ c.dirty 3 29 = true ∨ (o.fmt < s.dev.fw.fmt ∧ s.nv.trial = none ∧ fl = 0) then no .badArg
      else if o.st ≠ .written ∧ o.st ≠ .good then no .notReady
      else if s.nv.trial ≠ none ∨ s.dev.storing = true ∨ s.dev.pe.roll.isSome = true ∨ s.dev.fw.patch.isSome = true ∨ s.dev.preparing = true then
        no .refusedBusy
      else { s with nv := p.1, dev := Dev.settle c (.pend (Dev.beginRestart .activation .trial (some c.intake)
        { p.2 with fw := { p.2.fw with accept := fl == 1 } })) })) ∧
  (∀ (s : State) (src : Src) (c : Cmd), s.runs 0x0A03 src c →
    let no (st : Status) : State := { s with dev := Dev.settle c (s.refusal st) }
    exec (.fwConfirm src) s = .next (
      if c.bad 0x00 then no .badHandle
      else if c.dirty 0 32 then no .badArg
      else match s.nv.trial with
        | none => no .ok
        | some t =>
          let p := Dev.putSlot (Dev.dirUpdate { s.nv with current := t, trial := none }) s.dev (t == 1) { Dev.slot s.nv s.dev (t == 1) with st := .good }
          let d : Dev := { p.2 with fw := { p.2.fw with confirmDue := none } }
          { s with nv := d.persist p.1 id
                   dev := Dev.settle c (.done (d.raise 0x0A03 sevInfo 0 [fByte t, fIdx (tgetD s.dev.fw.comps 0 1)]) {}) })) ∧
  (∀ (s : State) (src : Src) (c : Cmd), s.runs 0x0A04 src c → s.replies (.fwRevert src) c (
    if c.bad 0x00 then s.refusal .badHandle
    else if c.dirty 0 32 then s.refusal .badArg
    else if s.nv.trial = none then s.refusal .refusedBusy
    else .pend (s.dev.beginRestart .activation (.revert 6) (some c.intake)))) ∧
  (∀ (s : State) (src : Src) (pl : HostRead) (c : Cmd), s.runs 0x0A05 src c →
    let len := c.f 0 4; let fl := c.f 8 1
    let img := slice (pl.getD []) 0 len
    let no (st : Status) : State := { s with dev := Dev.settle c (s.refusal st) }
    ∃ t, exec (.fwRelay src pl) s = .next t ∧
      if c.bad 0x00 then t = no .badHandle
      else if 1 < fl ∨ c.dirty 9 23 = true ∨ pl = none then t = no .badArg
      else if s.dev.isMeridian = false then t = no .notReady
      else if (fl = 1 ∧ s.nv.trial ≠ none) ∨ (match s.dev.fab.relay with | some r => !r.finished | none => false) = true then t = no .refusedBusy
      else if s.dev.slotMax < len then t = no .noSpace
      else if crc32c 0xFFFFFFFF img ≠ c.f 4 4 then t = no .verifyFailed
      else if Dev.slotImage img = false then t = no .badArg
      else t.pending = s.pending ∧ t.nv = (if fl = 1 then (Dev.writeSlot (!s.dev.hif.fwSlot) img false s.nv s.dev).1 else s.nv) ∧
        (s.dev.relayNext s.dev.fab.holder = none → t.dev.fab.relay = none) ∧
        ∀ x, s.dev.relayNext s.dev.fab.holder = some x → ∃ r, t.dev.fab.relay = some r ∧ r.image = (imgHeader img).id ∧
          r.count = (len + 4095) / 4096 ∧ r.intake = some c.intake ∧ r.keep = (fl == 1) ∧ r.succ = some x) ∧
  (∀ (s : State) (src : Src) (pl : HostRead) (c : Cmd), s.runs 0x0A06 src c →
    let img := slice (pl.getD []) 0 (c.f 0 4)
    s.replies (.parserPatch src pl) c (
      if c.bad 0x00 then s.refusal .badHandle
      else if c.dirty 4 28 = true ∨ pl = none then s.refusal .badArg
      else match if verifyImg s.nv img = none then oneComp img 9 else none with
        | none => if s.dev.fw.patch.isSome then s.refusal .refusedBusy else s.refusal .verifyFailed
        | some (i, p) =>
          let new := Config.applyDelta (s.dev.fw.banks.getD p.arg []) (compBytes img p)
          if 7 < p.arg ∨ i.base ≠ s.dev.fw.bankVer.getD p.arg 0 ∨ Config.parserGraphOk new = false then s.refusal .badArg
          else if s.dev.fw.patch.isSome then s.refusal .refusedBusy
          else .pend { s.dev with fw := { s.dev.fw with
            patch := some { bank := p.arg, version := p.version, image := new, at_ := s.dev.now, intake := c.intake } } }))

/-- A sample moves a loop's setpoint by R611; unacknowledged setpoints are sent again and after three the loop keeps the last one acknowledged. A
shortfall begins after 100 µs and ends after 100 ms. A rail is reported after 100 µs outside its tolerance and cleared after 1 ms inside. A supply
glitch is tamper source 1, a temperature out of range source 3; 105 °C set the alarm bit, 115 °C trip. The quiet state is entered when R621's
conditions held for the set time. The commands store or answer what Tables 20.6 and 20.7 name (open readings: log 36). -/
def Obligations.PowerRowsComplete : Prop :=
  (∀ (s : State) (fwd : Bool) (rates offered : List Nat), s.devStep (.governorLoop fwd rates offered) fun d =>
    let p := s.dev.pwr
    let l := s.dev.getLoop fwd
    let m := d.getLoop fwd
    let y := if fwd then s.dev.noteBacklog else s.dev
    let rate := (y.readCrickets fwd rates).lowestRate fwd
    let need := if fwd = true ∧ p.boost ≠ 100 ∧ y.backlogged = true then max (offered.foldl max 0) (100 * p.boost) else offered.foldl max 0
    let target := need * (100 + p.margin)
    if s.dev.hif.up = false then d = s.dev
    else m.rate = rate ∧ m.need = need ∧ m.target = target / 100 ∧ m.sent = m.v ∧
      (p.crickets.length = 128 → rate = ((List.range 64).map fun k => rates.getD k 0).foldl min (rates.getD 0 0) ∧
        ∀ k : Fin 64, d.pwr.crickets[(if fwd then 0 else 64) + k.val]? = some (rates.getD k 0)) ∧
      (l.faulted = true → m.v = l.acked) ∧
      (l.faulted = false → p.fixed = true ∨ p.quiet = true → m.v = p.floor) ∧
      (l.faulted = false → p.fixed = false → p.quiet = false → l.short = true → m.v = 800) ∧
      (l.faulted = false → p.fixed = false → p.quiet = false → l.short = false → 100 * rate < target →
        m.v = max p.floor (min 800 (l.v + 5 * ((target - 100 * rate + 4999) / 5000)))) ∧
      (l.faulted = false → p.fixed = false → p.quiet = false → l.short = false → target ≤ 100 * rate →
        m.v = max p.floor (min 800 (if target + 30000 < 100 * rate ∧ (l.highAt.getD s.dev.now) + usT 100 ≤ s.dev.now then l.v - 5 else l.v)))) ∧
  (∀ (s : State) (fwd ack : Bool) (mv ma : Nat), s.devStep (.avsTelemetryRead fwd ack mv ma) fun d =>
    let l := s.dev.getLoop fwd
    let m := d.getLoop fwd
    if s.dev.hif.up = false then d = s.dev
    else m.tmv = mv ∧ m.tma = ma ∧
      if ack then m.acked = l.sent ∧ m.nacks = 0 ∧ m.faulted = false
      else m.nacks = l.nacks + 1 ∧ m.acked = l.acked ∧ (2 ≤ l.nacks → m.faulted = true ∧ m.sent = l.acked)) ∧
  (∀ (s : State) (fwd : Bool), s.devStep (.shortfallStart fwd) fun d =>
    match (s.dev.getLoop fwd).lowAt with
    | none => d = s.dev
    | some t => if (s.dev.getLoop fwd).short = false ∧ t + usT 100 ≤ s.dev.now then
        (d.getLoop fwd).short = true ∧ d.hif.alarm.getLsbD 3 = true else d = s.dev) ∧
  (∀ (s : State) (fwd : Bool), s.devStep (.shortfallEnd fwd) fun d =>
    match (s.dev.getLoop fwd).okAt with
    | none => d = s.dev
    | some t => if (s.dev.getLoop fwd).short = true ∧ t + msT 100 ≤ s.dev.now then
        (d.getLoop fwd).short = false ∧ d.hbm.calmAt = s.dev.now else d = s.dev) ∧
  (∀ (s : State) (k : Fin 8) (mv : Nat), s.devStep (.railSample k mv) fun d =>
    let r : Rail := { s.dev.pwr.rail.getD k {} with mv := mv }
    let v := s.dev.nominalNow k
    d.pwr.rail = s.dev.pwr.rail.set k (
      if s.dev.railSlewing k then r
      else if Dev.railTol k v < 10 * (max mv v - min mv v) then
        { r with outAt := some (r.outAt.getD s.dev.now), inAt := none
                 raised := r.raised || decide (r.outAt.getD s.dev.now + usT 100 ≤ s.dev.now) }
      else { r with inAt := some (r.inAt.getD s.dev.now), outAt := none
                    raised := r.raised && !decide (r.inAt.getD s.dev.now + msT 1 ≤ s.dev.now) })) ∧
  (∀ (s : State) (k : Fin 8) (mv : Nat), s.dev.railSlewing k = false → exec (.supplyGlitch k mv) s = .next (
    if Dev.railMax k < mv ∨ 100 * mv < 80 * s.dev.nominalNow k then s.tamperPulse 2#4 else s)) ∧
  (∀ (s : State) (k : Fin 8) (mv : Nat), s.dev.railSlewing k = true → exec (.supplyGlitch k mv) s = .next (
    if Dev.railMax k < mv ∨ 100 * mv < 80 * (if k = 0 then s.dev.pwr.loopF.lower else s.dev.pwr.loopQ.lower) then s.tamperPulse 2#4 else s)) ∧
  (∀ (s : State) (sites hbm : List Int), ∃ t, exec (.temperatureSample sites hbm) s = .next t ∧ t.pending = s.pending ∧
    let l := (List.range 64).map fun k => sites.getD k (s.dev.pwr.sites.getD k 0)
    t.dev.pwr.sites = l ∧ ((∃ x ∈ l, 420 ≤ x) → t.dev.hif.alarm.getLsbD 2 = true) ∧ ((∃ x ∈ l, 460 ≤ x) → t.dev.pwr.trip = true) ∧
    t.dev.sec.firing = (s.dev.sec.firing &&& 7#4) ||| (if l.any (fun x => decide (x < -160) || decide (500 < x)) then 8#4 else 0#4)) ∧
  (∀ (s : State), s.devStep .quietEntry fun d =>
    if s.dev.pwr.quietMs = 0 ∨ s.dev.quietOk = false ∨ s.dev.now < s.dev.pwr.busyAt + msT s.dev.pwr.quietMs then d = s.dev
    else d.pwr.quiet = true ∧ d.pwr.quietAt = s.dev.now ∧ d.pwr.loopF.v = s.dev.pwr.floor ∧ d.pwr.loopQ.v = s.dev.pwr.floor) ∧
  (∀ (s : State) (src : Src) (c : Cmd), s.runs 0x0C00 src c →
    let p := s.dev.pwr
    let free (k : Nat) : Nat := (Config.free (s.dev.fresh + k)).toNat
    let rail (k : Nat) : List Fld :=
      let mv := f8 (p.rail.getD k {}).mv
      if k = 0 then [f8 p.loopF.sent, mv, f8 p.loopF.tma, f8 (p.loopF.tmv * p.loopF.tma / 1000)]
      else if k = 1 then [f8 p.loopQ.sent, mv, f8 p.loopQ.tma, f8 (p.loopQ.tmv * p.loopQ.tma / 1000)]
      else [f8 (Dev.railNominal k), mv, f8 (free (2 * k)), f8 (free (2 * k + 1))]
    let loop (l : Loop) : List Fld := [f8 (l.rate / 100), f8 (l.need / 100), f8 (l.target / 100), fFlag l.short]
    let b := fArr ((List.range 8).map rail) ++ fArr ((List.range 64).map fun k => [f8i (25 * p.sites.getD k 0)]) ++
      fArr [loop p.loopF, loop p.loopQ] ++
      [.u 4 5, fBitmap 256 (fun k => (s.dev.getPort k).width != 0 && (s.dev.getPort k).obj.st == .stopped),
        fBitmap 32 (fun k => s.dev.hif.up && s.dev.pipeGated k),
        fBitmap 64 (fun e => (s.dev.getEng e).gated), fBitmap 8 (fun k => (s.dev.getStack k).sr == .asleep), fBitmap 1 (fun _ => p.quiet)]
    s.replies (.pwrGetStatus src) c (
      if c.bad 0x00 then s.refusal .badHandle
      else if c.f 28 4 < (s.dev.statusRecord c.opcode b).length then .done s.dev { status := .noSpace, result := (s.dev.statusRecord c.opcode b).length }
      else .done { s.dev with fresh := s.dev.fresh + 16 } { record := some (s.dev.statusRecord c.opcode b) })) ∧
  (∀ (s : State) (src : Src) (c : Cmd), s.runs 0x0C01 src c → s.replies (.govSet src) c (
    let m := c.f 1 1; let f := c.f 2 2; let b := c.f 4 1; let q := c.f 8 4
    if c.bad 0x00 then s.refusal .badHandle
    else if 1 < c.f 0 1 ∨ m < 5 ∨ 25 < m ∨ f < 620 ∨ 800 < f ∨ b < 100 ∨ 140 < b ∨ c.dirty 5 3 = true ∨ 60000 < q ∨ c.dirty 12 20 = true then
      s.refusal .badArg
    else .done { s.dev with pwr := { s.dev.pwr with fixed := c.f 0 1 == 1, margin := m, floor := f, boost := b, quietMs := q } } {})) ∧
  (∀ (s : State) (src : Src) (c : Cmd), s.runs 0x0C02 src c → s.replies (.pwrSetThermal src) c (
    if c.bad 0x00 then s.refusal .badHandle
    else if c.f 0 1 < 80 ∨ 104 < c.f 0 1 ∨ c.dirty 1 31 = true then s.refusal .badArg
    else .done (Dev.thermalWarn { s.dev with pwr := { s.dev.pwr with warn := c.f 0 1 } }) {}))

/-- A source that begins to fire zeroises the keys or is only latched and reported; before READY it is latched and logged. The identity commands
answer; a revocation, a raised minimum version, the tamper responses and the latch change as Table 21.6 says. EXTEST selects BYPASS while HIF_STATE
reads READY or HEADLESS. Layouts and start-up readings: log 33; the signature checks are opaque functions of the model. -/
def Obligations.SecurityRowsComplete : Prop :=
  (∀ (s : State) (src : BitVec 4), ∃ t, exec (.tamperDetect src) s = .next t ∧ t.pending = s.pending ∧ t.dev.sec.firing = src ∧
    let new := src &&& ~~~s.dev.sec.firing
    if new = 0#4 then t = { s with dev := { s.dev with sec := { s.dev.sec with firing := src } } }
    else t.dev.hif.alarm.getLsbD 1 = true ∧ t.nv.latch &&& new.setWidth 32 = new.setWidth 32 ∧
      if s.dev.hif.up = false then t.nv = s.nv.burn new s.dev.hif.bootPhase ∧ t.dev.sec.kek = none ∧ ∀ p, (t.dev.getMac p).sa = []
      else if new &&& ~~~s.dev.sec.alarmOnly = 0#4 then t.dev.sec.kek = s.dev.sec.kek ∧ t.dev.sec.mac = s.dev.sec.mac
      else t.dev.sec.kek = none ∧ ∀ p, (t.dev.getMac p).sa = []) ∧
  (∀ (s : State) (src : Src) (c : Cmd), s.runs 0x0B00 src c → s.replies (.secGetIdentity src) c (
    if c.bad 0x00 then s.refusal .badHandle
    else if s.dev.sec.idKey = false then s.refusal .notReady
    else s.report c [.raw 8 (slice Config.serial 0 8), .raw 1 (slice Config.identityPub 0 97), .u 4 (Config.certificate.take 1024).length,
      .raw 1 (Config.certificate.take 1024)])) ∧
  (∀ (s : State) (src : Src) (c : Cmd), s.runs 0x0B01 src c → s.replies (.secAttest src) c (
    let r := s.dev.statusRecord c.opcode (Dev.attestation s.nv c.inl s.dev)
    if c.bad 0x00 then s.refusal .badHandle
    else if s.dev.sec.idKey = false then s.refusal .notReady
    else .done s.dev { record := some (r ++ slice (Config.identitySign (Config.sha384 r)) 0 96) })) ∧
  (∀ (s : State) (src : Src) (pl : HostRead) (c : Cmd), s.runs 0x0B02 src c →
    let b := pl.getD []
    let t := field b 0 1; let g := field b 1 1
    let no (st : Status) : State := { s with dev := Dev.settle c (s.refusal st) }
    exec (.secRevokeKey src pl) s = .next (
      if c.bad 0x00 then no .badHandle
      else if pl = none ∨ c.dirty 0 32 = true ∨ 3 < t ∨ 3 < g ∨ isZero b 2 6 = false ∨ t = g ∨ s.nv.revoked.getLsbD t = true ∨
          s.nv.revoked.getLsbD g = true then no .badArg
      else if Dev.keyInUse s.nv s.dev t = true then no .refusedBusy
      else if Config.ecdsaVerify (Config.verifyKey g) (Config.sha384 (slice b 0 16)) (slice b 16 96) = false ∨
          slice b 8 8 ≠ slice Config.serial 0 8 then no .verifyFailed
      else { s with nv := { s.nv with revoked := s.nv.revoked ||| BitVec.ofNat 4 (2 ^ t) }
                    dev := Dev.settle c (.done (s.dev.raise 0x0B03 sevInfo 0 [fIdx t]) {}) })) ∧
  (∀ (s : State) (src : Src) (c : Cmd), s.runs 0x0B03 src c →
    let v := c.f 0 1
    let o := Dev.slot s.nv s.dev (!s.dev.hif.fwSlot)
    let no (st : Status) : State := { s with dev := Dev.settle c (s.refusal st) }
    exec (.secRaiseMin src) s = .next (
      if c.bad 0x00 then no .badHandle
      else if 1 < c.f 1 1 ∨ c.dirty 2 30 = true ∨ v < s.nv.minVer ∨ 64 < v ∨ (imgHeader s.dev.fw.image).sec < v then no .badArg
      else if s.nv.trial ≠ none ∨ (o.st = .good ∧ (imgHeader o.image).sec < v ∧ c.f 1 1 = 0) then no .refusedBusy
      else { s with nv := { s.nv with minVer := v }, dev := Dev.settle c (.done s.dev {}) })) ∧
  (∀ (s : State) (src : Src) (c : Cmd), s.runs 0x0B04 src c →
    let no (st : Status) : State := { s with dev := Dev.settle c (s.refusal st) }
    let a : BitVec 4 := BitVec.ofNat 4 (bitsOf [c.f 0 1 == 1, c.f 1 1 == 1, c.f 2 1 == 1, c.f 3 1 == 1])
    exec (.secSetTamper src) s = .next (
      if c.bad 0x00 then no .badHandle
      else if 1 < c.f 0 1 ∨ 1 < c.f 1 1 ∨ 1 < c.f 2 1 ∨ 1 < c.f 3 1 ∨ c.dirty 4 28 = true then no .badArg
      else { s with nv := s.dev.persist s.nv fun p => { p with alarmOnly := a }
                    dev := Dev.settle c (.done { s.dev with sec := { s.dev.sec with alarmOnly := a } } {}) })) ∧
  (∀ (s : State) (src : Src) (c : Cmd), s.runs 0x0B05 src c → s.replies (.secGetTamper src) c (
    let a := s.dev.sec.alarmOnly
    if c.bad 0x00 then s.refusal .badHandle
    else s.report c ([.u 4 (Dev.latchWord s.nv), fByte (b2n (a.getLsbD 0)), fByte (b2n (a.getLsbD 1)), fByte (b2n (a.getLsbD 2)),
      fByte (b2n (a.getLsbD 3)), .raw 2 ((List.range 32).flatMap fun k => le 2 (s.nv.tamperLog.getD k 0))]))) ∧
  (∀ (s : State) (src : Src) (firing : BitVec 4) (c : Cmd), (s.tamper firing).runs 0x0B06 src c →
    let t := s.tamper firing
    let no (st : Status) : State := { t with dev := Dev.settle c (t.refusal st) }
    exec (.secTamperClear src firing) s = .next (
      if c.bad 0x00 then no .badHandle
      else if c.dirty 0 32 then no .badArg
      else { t with nv := { t.nv with latch := t.nv.latch &&& (0xFFFFFFE0#32 ||| firing.setWidth 32) }, dev := Dev.settle c (.done t.dev {}) })) ∧
  (∀ (s : State) (i : JtagIr), s.devStep (.jtagInstruction i) fun d =>
    d = { s.dev with jtag := { ir := if i = .extest ∧ (s.dev.stateCode = 1 ∨ s.dev.stateCode = 2) then .bypass else i } })

/-- MACSEC_SET_PORT changes validation at once and protection only on a stopped port. The key operations complete TAMPERED while a zeroising source
fires, and otherwise check, unwrap and commit as R632 and R633 say; the port's fail-closed state is brought up to date. The choices for channel 0 and
an empty association number are the model's (log 33); unwrapping is an opaque function of the model. -/
def Obligations.MacsecRowsComplete : Prop :=
  (∀ (s : State) (src : Src) (c : Cmd), s.runs 0x0B07 src c →
    let m := s.dev.getMac c.hIdx
    let on := c.f 0 1 == 1; let xpn := c.f 1 1 == 1
    let m1 : Mac := { m with
      on := on, xpn := xpn, validate := c.f 2 1, flags := c.f 3 1, conf := c.f 4 1, sci := c.f 8 8, window := c.f 16 4
      bypass := [c.f 20 2, c.f 22 2, c.f 24 2, c.f 26 2, c.f 28 2, c.f 30 2] }
    s.replies (.macsecSetPort src) c (
      if c.bad 0x01 then s.refusal .badHandle
      else if 1 < c.f 0 1 ∨ 1 < c.f 1 1 ∨ 2 < c.f 2 1 ∨ 8 ≤ c.f 3 1 ∨ (c.f 4 1 ≠ 0 ∧ c.f 4 1 ≠ 30 ∧ c.f 4 1 ≠ 50) ∨ c.dirty 5 3 = true ∨
          2 ^ 30 < c.f 16 4 then s.refusal .badArg
      else if (on ≠ m.on ∨ xpn ≠ m.xpn) ∧ (s.dev.getPort c.hIdx).obj.st ≠ .stopped then s.refusal .refusedBusy
      else .done ((s.dev.putMac c.hIdx (if xpn = m.xpn then m1 else { m1 with sa := [], peer := [], txAn := none })).macEval c.hIdx 0) {})) ∧
  (∀ (s : State) (src : Src) (pl : HostRead) (c : Cmd), s.runs 0x0B08 src c →
    let k := slice (Config.kekOf (slice (pl.getD []) 0 97)) 0 32
    s.replies (.macsecKekAgree src pl) c (
      if c.bad 0x00 then s.refusal .badHandle
      else if s.dev.tamperHeld then s.refusal .tampered
      else if pl = none ∨ c.dirty 0 32 = true then s.refusal .badArg
      else if s.dev.sec.idKey = false then s.refusal .notReady
      else .done { s.dev with sec := { s.dev.sec with kek := some k } } { result := unLe (slice (Config.sha384 k) 0 8) })) ∧
  (∀ (s : State) (src : Src) (pl : HostRead) (c : Cmd), s.runs 0x0B09 src c →
    let p := c.hIdx / 4; let ch := c.hIdx % 4
    let m := s.dev.getMac p
    let b := pl.getD []
    let an := field b 0 1; let w := field b 1 1; let peer := field b 72 8
    let key : Option Bytes := if w = 1 then (match s.dev.sec.kek with | some k => Config.keyUnwrap k (slice b 32 40) | none => none)
      else some (slice b 32 32)
    s.replies (.macsecSaInstall src pl) c (
      if c.bad 0x1B then s.refusal .badHandle
      else if s.dev.tamperHeld then s.refusal .tampered
      else if pl = none ∨ c.dirty 0 32 = true ∨ 3 < an ∨ 1 < w ∨ isZero b 2 2 = false ∨ isZero b 28 4 = false ∨ isZero b 80 16 = false ∨
          (w ≠ 1 ∧ isZero b 64 8 = false) ∨ (ch = 0 ∧ peer ≠ 0) ∨ (ch ≠ 0 ∧ ∃ x ∈ tget m.peer ch, x ≠ peer) then s.refusal .badArg
      else if w = 1 ∧ s.dev.sec.kek = none then s.refusal .notReady
      else match key with
        | none => s.refusal .verifyFailed
        | some k =>
          let a := Dev.newSa m b k
          let warn := ch = 0 ∧ Dev.pnWarn m ≤ a.pn
          let d := s.dev.putMac p { m with
            sa := tput m.sa (ch * 4 + an) { a with warned := warn }, peer := if ch = 0 then m.peer else tput m.peer ch peer }
          .done ((if warn then d.raise 0x0B02 sevMinor (handle 0x1B c.hIdx) [fIdx an, f8 a.pn] else d).macEval p 0) {})) ∧
  (∀ (s : State) (src : Src) (c : Cmd), s.runs 0x0B0A src c →
    let p := c.hIdx / 4; let ch := c.hIdx % 4; let an := c.f 0 1
    let m := s.dev.getMac p
    let sa := tdel m.sa (ch * 4 + an)
    s.replies (.macsecSaDelete src) c (
      if c.bad 0x1B then s.refusal .badHandle
      else if s.dev.tamperHeld then s.refusal .tampered
      else if 3 < an ∨ c.dirty 1 31 = true then s.refusal .badArg
      else .done ((s.dev.putMac p { m with
        sa := sa, peer := if sa.any (fun x => x.1 / 4 == ch) then m.peer else tdel m.peer ch
        txAn := if ch = 0 ∧ m.txAn = some an then none else m.txAn }).macEval p 0) {})) ∧
  (∀ (s : State) (src : Src) (c : Cmd), s.runs 0x0B0B src c →
    let p := c.hIdx / 4; let an := c.f 0 1
    s.replies (.macsecTxSelect src) c (
      if c.bad 0x1B then s.refusal .badHandle
      else if s.dev.tamperHeld then s.refusal .tampered
      else if c.hIdx % 4 ≠ 0 ∨ 3 < an ∨ c.dirty 1 31 = true then s.refusal .badArg
      else if tget (s.dev.getMac p).sa an = none then s.refusal .notReady
      else .done ((s.dev.putMac p { s.dev.getMac p with txAn := some an }).macEval p 0) {})) ∧
  (∀ (s : State) (src : Src) (c : Cmd), s.runs 0x0B0C src c →
    let m := s.dev.getMac (c.hIdx / 4)
    let row (k : Nat) : List Fld := match tget m.sa (c.hIdx % 4 * 4 + k) with | some a => [fFlag true, f8 a.pn] | none => [fFlag false, f8 0]
    s.replies (.macsecGetStatus src) c (
      if c.bad 0x1B then s.refusal .badHandle
      else s.report c (fArr [row 0, row 1, row 2, row 3] ++ [fFlag m.closed] ++ m.rx.map fCnt)))

/-- For every command and state: a step with the command at the front of the queue is the command's execution with the queue's rest. With an empty queue
one step is the idle tick of log 1, the model's choice: while the device runs 1 ns of elapsed time passes, otherwise nothing happens. -/
def Obligations.StepRunsFrontCommand : Prop :=
  (∀ (s : State) (c : Instr) (r : List Instr), step { s with pending := c :: r } = exec c { s with pending := r }) ∧
  (∀ (s : State), s.pending = [] → step s = .next (
    if s.dev.hif.up then { s with dev := { s.dev with now := s.dev.now + 65536 } } else s))

/-- Right after reset no command waits, HIF_STATE reads 0, the alarm and cause bits are 0, every interrupt is masked and mapped to its own vector, no ring
or event exists, no port is defined, the settings of Tables 13.7 and 20.7 have their defaults, the warning threshold is 100 °C and the swap period
15 minutes; and the invariants of this file hold. -/
def Obligations.ResetLeaves : Prop :=
  State.reset.pending = [] ∧ State.reset.dev.stateCode = 0 ∧ State.reset.dev.hif.bootPhase = 0 ∧ State.reset.dev.hif.alarm = 0#9 ∧
  State.reset.dev.hif.cause = 0#43 ∧ State.reset.dev.hif.mask = BitVec.allOnes 43 ∧
  (∀ i : Fin 43, State.reset.dev.hif.vector[i.val]? = some (BitVec.ofNat 6 i.val)) ∧
  State.reset.dev.hif.sq = [] ∧ State.reset.dev.hif.cq = [] ∧ State.reset.dev.hif.ev = none ∧ State.reset.dev.hif.cmds = [] ∧
  State.reset.dev.port = [] ∧ State.reset.dev.time.prioPtp = 1 ∧ State.reset.dev.time.prioPps = 2 ∧ State.reset.dev.time.bw = 100 ∧
  State.reset.dev.time.window = 100 ∧ State.reset.dev.pwr.floor = 620 ∧ State.reset.dev.pwr.boost = 120 ∧ State.reset.dev.pwr.warn = 100 ∧
  State.reset.dev.tri.swapMin = 15 ∧ State.reset.Inv ∧ Memory.wf State.reset.dev.hbm.mem = true

/-- For every command and state the command answers a next state: none stops the machine. It leaves the queue and the elapsed
time as they are, and unless it is one of the rows
that may change them (`Instr.nvRow`) it leaves fuses, flash and the tamper latch as they are. -/
def Obligations.EveryCommandAnswers : Prop :=
  ∀ (i : Instr) (s : State), ∃ t, exec i s = .next t ∧ t.pending = s.pending ∧ t.dev.now = s.dev.now ∧ (i.nvRow = false → t.nv = s.nv)

/-- Over every step, whatever the command and the state: no revocation bit returns to 0, the minimum security version never falls and no entry of
the tamper log is lost. Fuses only burn (R626). -/
def Obligations.FusesOnlyBurn : Prop :=
  ∀ s t : State, step s = .next t → s.nv.burned t.nv

/-- `State.Inv` holds after every step from a state where it holds: the tamper log has at most its 32 entries and the generation of the directory stays a
32-bit number. It holds at reset by ResetLeaves. -/
def Obligations.EveryStepKeepsInv : Prop :=
  ∀ s t : State, s.Inv → step s = .next t → t.Inv

/-- For bytes of HBM outside the counter store and the histograms (which the model holds as tables) and a memory in canonical form: the byte written reads
back at its address, every other such byte reads as before, the memory stays in canonical form, and nothing else of the device changes. What an
unwritten byte reads as is the model's choice (log 6). -/
def Obligations.HbmBytesReadBack : Prop :=
  ∀ (d : Dev) (a : Nat) (v : BitVec 8), Memory.wf d.hbm.mem = true →
    ¬(0x397800000 ≤ a % 2 ^ 34 ∧ a % 2 ^ 34 < 0x3A4800000) →
    (d.hbmPutByte a v).hbmByte a = v ∧ Memory.wf (d.hbmPutByte a v).hbm.mem = true ∧
    (∀ b, b ≠ a → (d.hbmPutByte a v).hbmByte b = d.hbmByte b) ∧
    d.hbmPutByte a v = { d with hbm := { d.hbm with mem := (d.hbmPutByte a v).hbm.mem } }

/-- Table 16.5 for an object: an enable starts a STOPPED one, is refused while STARTING, is OK while RUNNING and is held while STOPPING; a disable is OK in
every state, stops a STARTING or RUNNING one and cancels a held enable while STOPPING; a stop that ends leads to STARTING when an enable is held,
otherwise to STOPPED. -/
def Obligations.ObjectsFollowTheCommonMachine : Prop :=
  ∀ (o : Obj) (ns bound : Nat),
    (o.st = .stopped → (o.enable ns).status = .ok ∧ (o.enable ns).obj.st = .starting ∧
      (o.disable ns bound).status = .ok ∧ (o.disable ns bound).obj = o) ∧
    (o.st = .starting → (o.enable ns).status = .refusedBusy ∧ (o.enable ns).obj = o ∧
      (o.disable ns bound).status = .ok ∧ (o.disable ns bound).obj.st = .stopping ∧ (o.started ns).st = .running ∧
      (o.startFailed ns).st = .stopped) ∧
    (o.st = .running → (o.enable ns).status = .ok ∧ (o.enable ns).obj = o ∧
      (o.disable ns bound).status = .ok ∧ (o.disable ns bound).obj.st = .stopping ∧ (o.disable ns bound).obj.due = some bound) ∧
    (o.st = .stopping → (o.enable ns).status = .deferred ∧ (o.enable ns).obj = { o with held := true } ∧
      (o.disable ns bound).status = .ok ∧ (o.disable ns bound).obj.held = false ∧ (o.disable ns bound).obj.st = .stopping ∧
      ((o.enable ns).obj.stopped ns).st = .starting ∧ ((o.disable ns bound).obj.stopped ns).st = .stopped)

/-- DMA_ENABLE of a stopped channel of the host's, with a program and no reserved byte set, answers a next state in which the channel starts at
instruction 0 with both pointers 0, no loop counter and no reshuffling, its program and the pending counts of the request lines as before. Without a
program it completes NOT_READY and changes nothing else. -/
def Obligations.DmaEnableStartsAfresh : Prop :=
  ∀ (s : State) (src : Src) (c : Cmd), s.runs 0x0801 src c → c.bad 0x18 = false → c.hIdx < 14 → c.dirty 0 32 = false →
    (s.dev.getDma c.hIdx).obj.st = .stopped →
    if (s.dev.getDma c.hIdx).prog = [] then s.replies (.dmaEnable src) c (s.refusal .notReady)
    else ∃ d, s.replies (.dmaEnable src) c (.done d {}) ∧ (d.getDma c.hIdx).obj.st = .starting ∧ (d.getDma c.hIdx).pc = 0 ∧
      (d.getDma c.hIdx).src = 0 ∧ (d.getDma c.hIdx).dst = 0 ∧ (d.getDma c.hIdx).loops = [] ∧ (d.getDma c.hIdx).mode = 0 ∧
      (d.getDma c.hIdx).prog = (s.dev.getDma c.hIdx).prog ∧ d.dma.lines = s.dev.dma.lines

/-- TIME_SET_SOURCE with the device handle and every field of its payload in range stores, at the offsets of Table 13.7, the priorities, the clock
classes, the flags, the bandwidth, the slew rate, the holdover limit and the window. -/
def Obligations.TimeSourceTakesItsPayload : Prop :=
  ∀ (s : State) (src : Src) (c : Cmd), s.runs 0x0702 src c → c.bad 0x00 = false → c.f 3 1 ≤ 3 → 10 ≤ c.f 4 2 → c.f 4 2 ≤ 10000 →
    1 ≤ c.f 6 2 → c.f 6 2 ≤ 10000 → 10 ≤ c.f 8 4 → c.f 8 4 ≤ 10000 → 1 ≤ c.f 12 2 → c.f 12 2 ≤ 1000 → c.dirty 16 16 = false →
    ∃ d, s.replies (.timeSetSource src) c (.done d {}) ∧ d.time.prioPtp = c.f 0 1 ∧ d.time.prioPps = c.f 1 1 ∧ d.time.classPps = c.f 2 1 ∧
      d.time.autoStep = bit (c.f 3 1) 0 ∧ d.time.useFreq = bit (c.f 3 1) 1 ∧ d.time.bw = c.f 4 2 ∧ d.time.slew = c.f 6 2 ∧
      d.time.holdNs = c.f 8 4 ∧ d.time.window = c.f 12 2 ∧ d.time.classHold = c.f 14 1 ∧ d.time.classExp = c.f 15 1

/-- CSW_SET_CUT on a port stores byte 0 of its payload, a bit for each class, as the port's classes with cut-through; with any other bit of the
payload set it completes BAD_ARG and changes nothing else. -/
def Obligations.CutTakesItsPayload : Prop :=
  ∀ (s : State) (src : Src) (c : Cmd), s.runs 0x0600 src c → c.bad 0x01 = false →
    if c.dirty 1 31 = true then s.replies (.cswSetCut src) c (s.refusal .badArg)
    else ∃ d, s.replies (.cswSetCut src) c (.done d {}) ∧ d.csw.cut = tset s.dev.csw.cut 0 c.hIdx (c.f 0 1)

/-- However a command is answered, what is done beyond the handler's own device is the completion: the interface, what left the package, the undo
journal of the triad, and the time of the last command. Every other part of the device is the handler's. -/
def Obligations.CompletionChangesOnlyTheInterface : Prop :=
  ∀ (c : Cmd) (d e : Dev) (r : Reply), (r = .pend d ∨ ∃ a, r = .done d a) → Dev.settle c r = e →
    e.now = d.now ∧ e.evt = d.evt ∧ e.port = d.port ∧ e.lane = d.lane ∧ e.pmSeq15 = d.pmSeq15 ∧ e.pmSeqDay = d.pmSeqDay ∧ e.fwd = d.fwd ∧
    e.pipe = d.pipe ∧ e.fids = d.fids ∧ e.tx = d.tx ∧ e.portDrops = d.portDrops ∧ e.laneDrops = d.laneDrops ∧ e.cnt = d.cnt ∧
    e.aclCnt = d.aclCnt ∧ e.nhCnt = d.nhCnt ∧ e.pe = d.pe ∧ e.buf = d.buf ∧ e.qs = d.qs ∧ e.sch = d.sch ∧ e.hbm = d.hbm ∧ e.csw = d.csw ∧
    e.fab = d.fab ∧ e.time = d.time ∧ e.dma = d.dma ∧ e.fresh = d.fresh ∧ e.pwr = { d.pwr with busyAt := e.pwr.busyAt } ∧
    e.tri = { d.tri with journal := e.tri.journal } ∧ e.bridge = d.bridge ∧ e.fw = d.fw ∧ e.sec = d.sec ∧ e.jtag = d.jtag

/-- A row of the host interface changes nothing outside it: no port, lane, table, frame, counter, engine, buffer, queue, scheduler, HBM, switch, fabric, time, bridge, firmware, security or fuse state. -/
def Obligations.HostRowsFrame : Prop :=
  ∀ (s t : State) (i : Instr), i.hostRow = true → exec i s = .next t →
    t.pending = s.pending ∧ t.nv = s.nv ∧ t.dev.now = s.dev.now ∧ t.dev.port = s.dev.port ∧ t.dev.pipe = s.dev.pipe ∧ t.dev.buf = s.dev.buf ∧ t.dev.time = s.dev.time ∧
    t.dev.lane = s.dev.lane ∧ t.dev.pmSeq15 = s.dev.pmSeq15 ∧ t.dev.pmSeqDay = s.dev.pmSeqDay ∧
    t.dev.fwd = s.dev.fwd ∧ t.dev.fids = s.dev.fids ∧ t.dev.tx = s.dev.tx ∧ t.dev.portDrops = s.dev.portDrops ∧
    t.dev.laneDrops = s.dev.laneDrops ∧ t.dev.cnt = s.dev.cnt ∧ t.dev.aclCnt = s.dev.aclCnt ∧ t.dev.nhCnt = s.dev.nhCnt ∧
    t.dev.pe = s.dev.pe ∧ t.dev.qs = s.dev.qs ∧ t.dev.sch = s.dev.sch ∧ t.dev.hbm = s.dev.hbm ∧ t.dev.csw = s.dev.csw ∧
    t.dev.fab = s.dev.fab ∧ t.dev.bridge = s.dev.bridge ∧ t.dev.fw = s.dev.fw ∧ t.dev.sec = s.dev.sec ∧ t.dev.jtag = s.dev.jtag

/-- A row of a line port changes no pipeline, frame, counter, engine, buffer, queue, scheduler, HBM, switch, DMA, bridge, firmware, security or fuse state. Of the
forwarding state it changes at most what groups note of their members, of the fabric the messages that wait, of the triad the undo journal. -/
def Obligations.LineRowsFrame : Prop :=
  ∀ (s t : State) (i : Instr), i.lineRow = true → exec i s = .next t →
    t.pending = s.pending ∧ t.nv = s.nv ∧ t.dev.now = s.dev.now ∧ t.dev.fresh = s.dev.fresh ∧ t.dev.tx = s.dev.tx ∧ t.dev.buf = s.dev.buf ∧
    t.dev.fwd = { s.dev.fwd with ecmp := t.dev.fwd.ecmp } ∧ t.dev.pipe = s.dev.pipe ∧ t.dev.fids = s.dev.fids ∧
    t.dev.portDrops = s.dev.portDrops ∧ t.dev.laneDrops = s.dev.laneDrops ∧ t.dev.cnt = s.dev.cnt ∧ t.dev.aclCnt = s.dev.aclCnt ∧
    t.dev.nhCnt = s.dev.nhCnt ∧ t.dev.pe = s.dev.pe ∧ t.dev.qs = s.dev.qs ∧ t.dev.sch = s.dev.sch ∧ t.dev.hbm = s.dev.hbm ∧
    t.dev.csw = s.dev.csw ∧ t.dev.fab = { s.dev.fab with fcq := t.dev.fab.fcq } ∧ t.dev.dma = s.dev.dma ∧
    t.dev.tri = { s.dev.tri with journal := t.dev.tri.journal } ∧ t.dev.bridge = s.dev.bridge ∧ t.dev.fw = s.dev.fw ∧ t.dev.sec = s.dev.sec ∧ t.dev.jtag = s.dev.jtag

/-- A row of the lookup tables, the next hops or the counter readings changes no lane, engine, buffer, switch, time, DMA, bridge, firmware, security or fuse state,
and frames on their way to the line stay. Of the scheduling state it changes at most policer words, of the fabric the messages that wait, of the triad
the undo journal. -/
def Obligations.LookupRowsFrame : Prop :=
  ∀ (s t : State) (i : Instr), i.lookupRow = true → exec i s = .next t →
    t.pending = s.pending ∧ t.nv = s.nv ∧ t.dev.lane = s.dev.lane ∧ t.dev.pmSeq15 = s.dev.pmSeq15 ∧ t.dev.pmSeqDay = s.dev.pmSeqDay ∧
    t.dev.fids = s.dev.fids ∧ t.dev.tx = s.dev.tx ∧ t.dev.laneDrops = s.dev.laneDrops ∧ t.dev.aclCnt = s.dev.aclCnt ∧
    t.dev.now = s.dev.now ∧ t.dev.portDrops = s.dev.portDrops ∧ t.dev.buf = s.dev.buf ∧ t.dev.time = s.dev.time ∧
    t.dev.nhCnt = s.dev.nhCnt ∧ t.dev.pe = s.dev.pe ∧ t.dev.sch = { s.dev.sch with pol := t.dev.sch.pol } ∧ t.dev.csw = s.dev.csw ∧
    t.dev.fab = { s.dev.fab with fcq := t.dev.fab.fcq } ∧ t.dev.dma = s.dev.dma ∧ t.dev.tri = { s.dev.tri with journal := t.dev.tri.journal } ∧ t.dev.bridge = s.dev.bridge ∧ t.dev.fw = s.dev.fw ∧ t.dev.sec = s.dev.sec ∧
    t.dev.jtag = s.dev.jtag

/-- A row of the queues, the credits, the schedulers, the policers or the accounting changes no port, lane, pipeline, frame, engine, switch, time, bridge, firmware,
security or fuse state. Of the forwarding state it changes at most the list of damaged items, of the triad the undo journal; only the rows that read or
write a queue's configuration or a histogram (`Instr.queueHbmRow`) touch HBM. -/
def Obligations.QueueRowsFrame : Prop :=
  ∀ (s t : State) (i : Instr), i.queueRow = true → exec i s = .next t →
    t.pending = s.pending ∧ t.nv = s.nv ∧ t.dev.lane = s.dev.lane ∧ t.dev.pmSeq15 = s.dev.pmSeq15 ∧ t.dev.pmSeqDay = s.dev.pmSeqDay ∧
    t.dev.now = s.dev.now ∧ t.dev.fresh = s.dev.fresh ∧ t.dev.port = s.dev.port ∧ t.dev.portDrops = s.dev.portDrops ∧ t.dev.time = s.dev.time ∧
    t.dev.fwd = { s.dev.fwd with ue := t.dev.fwd.ue } ∧ t.dev.pipe = s.dev.pipe ∧ t.dev.fids = s.dev.fids ∧ t.dev.tx = s.dev.tx ∧
    t.dev.laneDrops = s.dev.laneDrops ∧ t.dev.aclCnt = s.dev.aclCnt ∧ t.dev.nhCnt = s.dev.nhCnt ∧ t.dev.pe = s.dev.pe ∧
    (i.queueHbmRow = false → t.dev.hbm = s.dev.hbm) ∧ t.dev.csw = s.dev.csw ∧ t.dev.tri = { s.dev.tri with journal := t.dev.tri.journal } ∧ t.dev.bridge = s.dev.bridge ∧ t.dev.fw = s.dev.fw ∧ t.dev.sec = s.dev.sec ∧ t.dev.jtag = s.dev.jtag

/-- A row of the fabric links or the epochs changes no port, lane, pipeline, frame, counter, engine, scheduler, HBM, switch, DMA, bridge, firmware, security or
fuse state, and of the triad at most the input log and the undo journal. -/
def Obligations.FabricRowsFrame : Prop :=
  ∀ (s t : State) (i : Instr), i.fabricRow = true → exec i s = .next t →
    t.pending = s.pending ∧ t.nv = s.nv ∧ t.dev.port = s.dev.port ∧ t.dev.lane = s.dev.lane ∧ t.dev.pmSeq15 = s.dev.pmSeq15 ∧
    t.dev.pmSeqDay = s.dev.pmSeqDay ∧ t.dev.pipe = s.dev.pipe ∧ t.dev.fids = s.dev.fids ∧ t.dev.tx = s.dev.tx ∧
    t.dev.portDrops = s.dev.portDrops ∧ t.dev.laneDrops = s.dev.laneDrops ∧ t.dev.cnt = s.dev.cnt ∧ t.dev.aclCnt = s.dev.aclCnt ∧
    t.dev.nhCnt = s.dev.nhCnt ∧ t.dev.pe = s.dev.pe ∧ t.dev.sch = s.dev.sch ∧ t.dev.hbm = s.dev.hbm ∧ t.dev.csw = s.dev.csw ∧
    t.dev.now = s.dev.now ∧ t.dev.fresh = s.dev.fresh ∧ t.dev.dma = s.dev.dma ∧
    t.dev.tri = { s.dev.tri with log := t.dev.tri.log, journal := t.dev.tri.journal } ∧ t.dev.bridge = s.dev.bridge ∧ t.dev.fw = s.dev.fw ∧
    t.dev.sec = s.dev.sec ∧ t.dev.jtag = s.dev.jtag

end Statements
end

