-- ==== Sys2Proof/Laws/Commands.lean ====
section
/-! SUPPORT. Lemmas about the operations every command row shares: what a check, a reply and a row under `State.runs` come to. -/

namespace Sys2Proof.Machine
open Sys2Proof

namespace Dev

/-- With no test left the command does its work. -/
@[simp] theorem check_nil (d : Dev) (go : Reply) : d.check [] go = go := rfl

/-- The first test that applies decides the status and nothing changes. -/
@[simp] theorem check_cons (d : Dev) (b : Bool) (st : Status) (l : List (Bool × Status)) (go : Reply) :
    d.check ((b, st) :: l) go = if b then .done d { status := st } else d.check l go := by
  cases b <;> rfl

@[simp] theorem settle_done (c : Cmd) (d : Dev) (r : Resp) : settle c (.done d r) = d.complete c r := rfl

@[simp] theorem settle_pend (c : Cmd) (d : Dev) : settle c (.pend d) = d.startCmd c.intake := rfl

end Dev

/-- A command row under `State.runs`: the handler's reply is put into effect, and nothing but the device part changes. -/
theorem runCmd_replies {s : State} {op : Nat} {src : Src} {c : Cmd} (h : s.runs op src c) (f : Cmd → Dev → Reply) :
    s.onDev (Dev.runCmd op src f) = .next { s with dev := Dev.settle c (f c s.dev) } := by
  simp [State.onDev, Dev.runCmd, h.1, h.2]

/-- With no command that can run, a command row has no effect. -/
theorem runCmd_idle {s : State} {op : Nat} {src : Src} (h : s.dev.nextCmd op src = none) (f : Cmd → Dev → Reply) :
    s.onDev (Dev.runCmd op src f) = .next s := by
  simp [State.onDev, Dev.runCmd, h]

/-- A meaning on the device part answers a next state. -/
theorem onDev_devStep {s : State} {i : Instr} {f : Dev → Dev} {P : Dev → Prop} (h : exec i s = s.onDev f) (p : P (f s.dev)) :
    s.devStep i P := ⟨f s.dev, h, p⟩

end Sys2Proof.Machine
end

