-- ==== Sys2Proof/Laws/State.lean ====
section
/-! SUPPORT. What each field of the device reads as after a part of it is set: one lemma for each field and update, so that no proof unfolds a
record update. -/

namespace Sys2Proof.Machine
open Sys2Proof

theorem onDev_next (s : State) (f : Dev → Dev) : s.onDev f = .next { s with dev := f s.dev } := rfl

namespace Dev

@[simp] theorem setTime_now (d : Dev) (f : TimeSt → TimeSt) : (d.setTime f).now = d.now := rfl
@[simp] theorem setTime_fresh (d : Dev) (f : TimeSt → TimeSt) : (d.setTime f).fresh = d.fresh := rfl
@[simp] theorem setTime_out (d : Dev) (f : TimeSt → TimeSt) : (d.setTime f).out = d.out := rfl
@[simp] theorem setTime_hif (d : Dev) (f : TimeSt → TimeSt) : (d.setTime f).hif = d.hif := rfl
@[simp] theorem setTime_evt (d : Dev) (f : TimeSt → TimeSt) : (d.setTime f).evt = d.evt := rfl
@[simp] theorem setTime_port (d : Dev) (f : TimeSt → TimeSt) : (d.setTime f).port = d.port := rfl
@[simp] theorem setTime_lane (d : Dev) (f : TimeSt → TimeSt) : (d.setTime f).lane = d.lane := rfl
@[simp] theorem setTime_pmSeq15 (d : Dev) (f : TimeSt → TimeSt) : (d.setTime f).pmSeq15 = d.pmSeq15 := rfl
@[simp] theorem setTime_pmSeqDay (d : Dev) (f : TimeSt → TimeSt) : (d.setTime f).pmSeqDay = d.pmSeqDay := rfl
@[simp] theorem setTime_fwd (d : Dev) (f : TimeSt → TimeSt) : (d.setTime f).fwd = d.fwd := rfl
@[simp] theorem setTime_pipe (d : Dev) (f : TimeSt → TimeSt) : (d.setTime f).pipe = d.pipe := rfl
@[simp] theorem setTime_fids (d : Dev) (f : TimeSt → TimeSt) : (d.setTime f).fids = d.fids := rfl
@[simp] theorem setTime_tx (d : Dev) (f : TimeSt → TimeSt) : (d.setTime f).tx = d.tx := rfl
@[simp] theorem setTime_portDrops (d : Dev) (f : TimeSt → TimeSt) : (d.setTime f).portDrops = d.portDrops := rfl
@[simp] theorem setTime_laneDrops (d : Dev) (f : TimeSt → TimeSt) : (d.setTime f).laneDrops = d.laneDrops := rfl
@[simp] theorem setTime_cnt (d : Dev) (f : TimeSt → TimeSt) : (d.setTime f).cnt = d.cnt := rfl
@[simp] theorem setTime_aclCnt (d : Dev) (f : TimeSt → TimeSt) : (d.setTime f).aclCnt = d.aclCnt := rfl
@[simp] theorem setTime_nhCnt (d : Dev) (f : TimeSt → TimeSt) : (d.setTime f).nhCnt = d.nhCnt := rfl
@[simp] theorem setTime_pe (d : Dev) (f : TimeSt → TimeSt) : (d.setTime f).pe = d.pe := rfl
@[simp] theorem setTime_buf (d : Dev) (f : TimeSt → TimeSt) : (d.setTime f).buf = d.buf := rfl
@[simp] theorem setTime_qs (d : Dev) (f : TimeSt → TimeSt) : (d.setTime f).qs = d.qs := rfl
@[simp] theorem setTime_sch (d : Dev) (f : TimeSt → TimeSt) : (d.setTime f).sch = d.sch := rfl
@[simp] theorem setTime_hbm (d : Dev) (f : TimeSt → TimeSt) : (d.setTime f).hbm = d.hbm := rfl
@[simp] theorem setTime_csw (d : Dev) (f : TimeSt → TimeSt) : (d.setTime f).csw = d.csw := rfl
@[simp] theorem setTime_fab (d : Dev) (f : TimeSt → TimeSt) : (d.setTime f).fab = d.fab := rfl
@[simp] theorem setTime_time (d : Dev) (f : TimeSt → TimeSt) : (d.setTime f).time = f d.time := rfl
@[simp] theorem setTime_dma (d : Dev) (f : TimeSt → TimeSt) : (d.setTime f).dma = d.dma := rfl
@[simp] theorem setTime_tri (d : Dev) (f : TimeSt → TimeSt) : (d.setTime f).tri = d.tri := rfl
@[simp] theorem setTime_bridge (d : Dev) (f : TimeSt → TimeSt) : (d.setTime f).bridge = d.bridge := rfl
@[simp] theorem setTime_fw (d : Dev) (f : TimeSt → TimeSt) : (d.setTime f).fw = d.fw := rfl
@[simp] theorem setTime_pwr (d : Dev) (f : TimeSt → TimeSt) : (d.setTime f).pwr = d.pwr := rfl
@[simp] theorem setTime_sec (d : Dev) (f : TimeSt → TimeSt) : (d.setTime f).sec = d.sec := rfl
@[simp] theorem setTime_jtag (d : Dev) (f : TimeSt → TimeSt) : (d.setTime f).jtag = d.jtag := rfl

@[simp] theorem setFwd_now (d : Dev) (f : Fwd → Fwd) : (d.setFwd f).now = d.now := rfl
@[simp] theorem setFwd_fresh (d : Dev) (f : Fwd → Fwd) : (d.setFwd f).fresh = d.fresh := rfl
@[simp] theorem setFwd_out (d : Dev) (f : Fwd → Fwd) : (d.setFwd f).out = d.out := rfl
@[simp] theorem setFwd_hif (d : Dev) (f : Fwd → Fwd) : (d.setFwd f).hif = d.hif := rfl
@[simp] theorem setFwd_evt (d : Dev) (f : Fwd → Fwd) : (d.setFwd f).evt = d.evt := rfl
@[simp] theorem setFwd_port (d : Dev) (f : Fwd → Fwd) : (d.setFwd f).port = d.port := rfl
@[simp] theorem setFwd_lane (d : Dev) (f : Fwd → Fwd) : (d.setFwd f).lane = d.lane := rfl
@[simp] theorem setFwd_pmSeq15 (d : Dev) (f : Fwd → Fwd) : (d.setFwd f).pmSeq15 = d.pmSeq15 := rfl
@[simp] theorem setFwd_pmSeqDay (d : Dev) (f : Fwd → Fwd) : (d.setFwd f).pmSeqDay = d.pmSeqDay := rfl
@[simp] theorem setFwd_fwd (d : Dev) (f : Fwd → Fwd) : (d.setFwd f).fwd = f d.fwd := rfl
@[simp] theorem setFwd_pipe (d : Dev) (f : Fwd → Fwd) : (d.setFwd f).pipe = d.pipe := rfl
@[simp] theorem setFwd_fids (d : Dev) (f : Fwd → Fwd) : (d.setFwd f).fids = d.fids := rfl
@[simp] theorem setFwd_tx (d : Dev) (f : Fwd → Fwd) : (d.setFwd f).tx = d.tx := rfl
@[simp] theorem setFwd_portDrops (d : Dev) (f : Fwd → Fwd) : (d.setFwd f).portDrops = d.portDrops := rfl
@[simp] theorem setFwd_laneDrops (d : Dev) (f : Fwd → Fwd) : (d.setFwd f).laneDrops = d.laneDrops := rfl
@[simp] theorem setFwd_cnt (d : Dev) (f : Fwd → Fwd) : (d.setFwd f).cnt = d.cnt := rfl
@[simp] theorem setFwd_aclCnt (d : Dev) (f : Fwd → Fwd) : (d.setFwd f).aclCnt = d.aclCnt := rfl
@[simp] theorem setFwd_nhCnt (d : Dev) (f : Fwd → Fwd) : (d.setFwd f).nhCnt = d.nhCnt := rfl
@[simp] theorem setFwd_pe (d : Dev) (f : Fwd → Fwd) : (d.setFwd f).pe = d.pe := rfl
@[simp] theorem setFwd_buf (d : Dev) (f : Fwd → Fwd) : (d.setFwd f).buf = d.buf := rfl
@[simp] theorem setFwd_qs (d : Dev) (f : Fwd → Fwd) : (d.setFwd f).qs = d.qs := rfl
@[simp] theorem setFwd_sch (d : Dev) (f : Fwd → Fwd) : (d.setFwd f).sch = d.sch := rfl
@[simp] theorem setFwd_hbm (d : Dev) (f : Fwd → Fwd) : (d.setFwd f).hbm = d.hbm := rfl
@[simp] theorem setFwd_csw (d : Dev) (f : Fwd → Fwd) : (d.setFwd f).csw = d.csw := rfl
@[simp] theorem setFwd_fab (d : Dev) (f : Fwd → Fwd) : (d.setFwd f).fab = d.fab := rfl
@[simp] theorem setFwd_time (d : Dev) (f : Fwd → Fwd) : (d.setFwd f).time = d.time := rfl
@[simp] theorem setFwd_dma (d : Dev) (f : Fwd → Fwd) : (d.setFwd f).dma = d.dma := rfl
@[simp] theorem setFwd_tri (d : Dev) (f : Fwd → Fwd) : (d.setFwd f).tri = d.tri := rfl
@[simp] theorem setFwd_bridge (d : Dev) (f : Fwd → Fwd) : (d.setFwd f).bridge = d.bridge := rfl
@[simp] theorem setFwd_fw (d : Dev) (f : Fwd → Fwd) : (d.setFwd f).fw = d.fw := rfl
@[simp] theorem setFwd_pwr (d : Dev) (f : Fwd → Fwd) : (d.setFwd f).pwr = d.pwr := rfl
@[simp] theorem setFwd_sec (d : Dev) (f : Fwd → Fwd) : (d.setFwd f).sec = d.sec := rfl
@[simp] theorem setFwd_jtag (d : Dev) (f : Fwd → Fwd) : (d.setFwd f).jtag = d.jtag := rfl

@[simp] theorem setBuf_now (d : Dev) (f : Buf → Buf) : (d.setBuf f).now = d.now := rfl
@[simp] theorem setBuf_fresh (d : Dev) (f : Buf → Buf) : (d.setBuf f).fresh = d.fresh := rfl
@[simp] theorem setBuf_out (d : Dev) (f : Buf → Buf) : (d.setBuf f).out = d.out := rfl
@[simp] theorem setBuf_hif (d : Dev) (f : Buf → Buf) : (d.setBuf f).hif = d.hif := rfl
@[simp] theorem setBuf_evt (d : Dev) (f : Buf → Buf) : (d.setBuf f).evt = d.evt := rfl
@[simp] theorem setBuf_port (d : Dev) (f : Buf → Buf) : (d.setBuf f).port = d.port := rfl
@[simp] theorem setBuf_lane (d : Dev) (f : Buf → Buf) : (d.setBuf f).lane = d.lane := rfl
@[simp] theorem setBuf_pmSeq15 (d : Dev) (f : Buf → Buf) : (d.setBuf f).pmSeq15 = d.pmSeq15 := rfl
@[simp] theorem setBuf_pmSeqDay (d : Dev) (f : Buf → Buf) : (d.setBuf f).pmSeqDay = d.pmSeqDay := rfl
@[simp] theorem setBuf_fwd (d : Dev) (f : Buf → Buf) : (d.setBuf f).fwd = d.fwd := rfl
@[simp] theorem setBuf_pipe (d : Dev) (f : Buf → Buf) : (d.setBuf f).pipe = d.pipe := rfl
@[simp] theorem setBuf_fids (d : Dev) (f : Buf → Buf) : (d.setBuf f).fids = d.fids := rfl
@[simp] theorem setBuf_tx (d : Dev) (f : Buf → Buf) : (d.setBuf f).tx = d.tx := rfl
@[simp] theorem setBuf_portDrops (d : Dev) (f : Buf → Buf) : (d.setBuf f).portDrops = d.portDrops := rfl
@[simp] theorem setBuf_laneDrops (d : Dev) (f : Buf → Buf) : (d.setBuf f).laneDrops = d.laneDrops := rfl
@[simp] theorem setBuf_cnt (d : Dev) (f : Buf → Buf) : (d.setBuf f).cnt = d.cnt := rfl
@[simp] theorem setBuf_aclCnt (d : Dev) (f : Buf → Buf) : (d.setBuf f).aclCnt = d.aclCnt := rfl
@[simp] theorem setBuf_nhCnt (d : Dev) (f : Buf → Buf) : (d.setBuf f).nhCnt = d.nhCnt := rfl
@[simp] theorem setBuf_pe (d : Dev) (f : Buf → Buf) : (d.setBuf f).pe = d.pe := rfl
@[simp] theorem setBuf_buf (d : Dev) (f : Buf → Buf) : (d.setBuf f).buf = f d.buf := rfl
@[simp] theorem setBuf_qs (d : Dev) (f : Buf → Buf) : (d.setBuf f).qs = d.qs := rfl
@[simp] theorem setBuf_sch (d : Dev) (f : Buf → Buf) : (d.setBuf f).sch = d.sch := rfl
@[simp] theorem setBuf_hbm (d : Dev) (f : Buf → Buf) : (d.setBuf f).hbm = d.hbm := rfl
@[simp] theorem setBuf_csw (d : Dev) (f : Buf → Buf) : (d.setBuf f).csw = d.csw := rfl
@[simp] theorem setBuf_fab (d : Dev) (f : Buf → Buf) : (d.setBuf f).fab = d.fab := rfl
@[simp] theorem setBuf_time (d : Dev) (f : Buf → Buf) : (d.setBuf f).time = d.time := rfl
@[simp] theorem setBuf_dma (d : Dev) (f : Buf → Buf) : (d.setBuf f).dma = d.dma := rfl
@[simp] theorem setBuf_tri (d : Dev) (f : Buf → Buf) : (d.setBuf f).tri = d.tri := rfl
@[simp] theorem setBuf_bridge (d : Dev) (f : Buf → Buf) : (d.setBuf f).bridge = d.bridge := rfl
@[simp] theorem setBuf_fw (d : Dev) (f : Buf → Buf) : (d.setBuf f).fw = d.fw := rfl
@[simp] theorem setBuf_pwr (d : Dev) (f : Buf → Buf) : (d.setBuf f).pwr = d.pwr := rfl
@[simp] theorem setBuf_sec (d : Dev) (f : Buf → Buf) : (d.setBuf f).sec = d.sec := rfl
@[simp] theorem setBuf_jtag (d : Dev) (f : Buf → Buf) : (d.setBuf f).jtag = d.jtag := rfl

@[simp] theorem setQs_now (d : Dev) (f : Qs → Qs) : (d.setQs f).now = d.now := rfl
@[simp] theorem setQs_fresh (d : Dev) (f : Qs → Qs) : (d.setQs f).fresh = d.fresh := rfl
@[simp] theorem setQs_out (d : Dev) (f : Qs → Qs) : (d.setQs f).out = d.out := rfl
@[simp] theorem setQs_hif (d : Dev) (f : Qs → Qs) : (d.setQs f).hif = d.hif := rfl
@[simp] theorem setQs_evt (d : Dev) (f : Qs → Qs) : (d.setQs f).evt = d.evt := rfl
@[simp] theorem setQs_port (d : Dev) (f : Qs → Qs) : (d.setQs f).port = d.port := rfl
@[simp] theorem setQs_lane (d : Dev) (f : Qs → Qs) : (d.setQs f).lane = d.lane := rfl
@[simp] theorem setQs_pmSeq15 (d : Dev) (f : Qs → Qs) : (d.setQs f).pmSeq15 = d.pmSeq15 := rfl
@[simp] theorem setQs_pmSeqDay (d : Dev) (f : Qs → Qs) : (d.setQs f).pmSeqDay = d.pmSeqDay := rfl
@[simp] theorem setQs_fwd (d : Dev) (f : Qs → Qs) : (d.setQs f).fwd = d.fwd := rfl
@[simp] theorem setQs_pipe (d : Dev) (f : Qs → Qs) : (d.setQs f).pipe = d.pipe := rfl
@[simp] theorem setQs_fids (d : Dev) (f : Qs → Qs) : (d.setQs f).fids = d.fids := rfl
@[simp] theorem setQs_tx (d : Dev) (f : Qs → Qs) : (d.setQs f).tx = d.tx := rfl
@[simp] theorem setQs_portDrops (d : Dev) (f : Qs → Qs) : (d.setQs f).portDrops = d.portDrops := rfl
@[simp] theorem setQs_laneDrops (d : Dev) (f : Qs → Qs) : (d.setQs f).laneDrops = d.laneDrops := rfl
@[simp] theorem setQs_cnt (d : Dev) (f : Qs → Qs) : (d.setQs f).cnt = d.cnt := rfl
@[simp] theorem setQs_aclCnt (d : Dev) (f : Qs → Qs) : (d.setQs f).aclCnt = d.aclCnt := rfl
@[simp] theorem setQs_nhCnt (d : Dev) (f : Qs → Qs) : (d.setQs f).nhCnt = d.nhCnt := rfl
@[simp] theorem setQs_pe (d : Dev) (f : Qs → Qs) : (d.setQs f).pe = d.pe := rfl
@[simp] theorem setQs_buf (d : Dev) (f : Qs → Qs) : (d.setQs f).buf = d.buf := rfl
@[simp] theorem setQs_qs (d : Dev) (f : Qs → Qs) : (d.setQs f).qs = f d.qs := rfl
@[simp] theorem setQs_sch (d : Dev) (f : Qs → Qs) : (d.setQs f).sch = d.sch := rfl
@[simp] theorem setQs_hbm (d : Dev) (f : Qs → Qs) : (d.setQs f).hbm = d.hbm := rfl
@[simp] theorem setQs_csw (d : Dev) (f : Qs → Qs) : (d.setQs f).csw = d.csw := rfl
@[simp] theorem setQs_fab (d : Dev) (f : Qs → Qs) : (d.setQs f).fab = d.fab := rfl
@[simp] theorem setQs_time (d : Dev) (f : Qs → Qs) : (d.setQs f).time = d.time := rfl
@[simp] theorem setQs_dma (d : Dev) (f : Qs → Qs) : (d.setQs f).dma = d.dma := rfl
@[simp] theorem setQs_tri (d : Dev) (f : Qs → Qs) : (d.setQs f).tri = d.tri := rfl
@[simp] theorem setQs_bridge (d : Dev) (f : Qs → Qs) : (d.setQs f).bridge = d.bridge := rfl
@[simp] theorem setQs_fw (d : Dev) (f : Qs → Qs) : (d.setQs f).fw = d.fw := rfl
@[simp] theorem setQs_pwr (d : Dev) (f : Qs → Qs) : (d.setQs f).pwr = d.pwr := rfl
@[simp] theorem setQs_sec (d : Dev) (f : Qs → Qs) : (d.setQs f).sec = d.sec := rfl
@[simp] theorem setQs_jtag (d : Dev) (f : Qs → Qs) : (d.setQs f).jtag = d.jtag := rfl

@[simp] theorem setSch_now (d : Dev) (f : Sch → Sch) : (d.setSch f).now = d.now := rfl
@[simp] theorem setSch_fresh (d : Dev) (f : Sch → Sch) : (d.setSch f).fresh = d.fresh := rfl
@[simp] theorem setSch_out (d : Dev) (f : Sch → Sch) : (d.setSch f).out = d.out := rfl
@[simp] theorem setSch_hif (d : Dev) (f : Sch → Sch) : (d.setSch f).hif = d.hif := rfl
@[simp] theorem setSch_evt (d : Dev) (f : Sch → Sch) : (d.setSch f).evt = d.evt := rfl
@[simp] theorem setSch_port (d : Dev) (f : Sch → Sch) : (d.setSch f).port = d.port := rfl
@[simp] theorem setSch_lane (d : Dev) (f : Sch → Sch) : (d.setSch f).lane = d.lane := rfl
@[simp] theorem setSch_pmSeq15 (d : Dev) (f : Sch → Sch) : (d.setSch f).pmSeq15 = d.pmSeq15 := rfl
@[simp] theorem setSch_pmSeqDay (d : Dev) (f : Sch → Sch) : (d.setSch f).pmSeqDay = d.pmSeqDay := rfl
@[simp] theorem setSch_fwd (d : Dev) (f : Sch → Sch) : (d.setSch f).fwd = d.fwd := rfl
@[simp] theorem setSch_pipe (d : Dev) (f : Sch → Sch) : (d.setSch f).pipe = d.pipe := rfl
@[simp] theorem setSch_fids (d : Dev) (f : Sch → Sch) : (d.setSch f).fids = d.fids := rfl
@[simp] theorem setSch_tx (d : Dev) (f : Sch → Sch) : (d.setSch f).tx = d.tx := rfl
@[simp] theorem setSch_portDrops (d : Dev) (f : Sch → Sch) : (d.setSch f).portDrops = d.portDrops := rfl
@[simp] theorem setSch_laneDrops (d : Dev) (f : Sch → Sch) : (d.setSch f).laneDrops = d.laneDrops := rfl
@[simp] theorem setSch_cnt (d : Dev) (f : Sch → Sch) : (d.setSch f).cnt = d.cnt := rfl
@[simp] theorem setSch_aclCnt (d : Dev) (f : Sch → Sch) : (d.setSch f).aclCnt = d.aclCnt := rfl
@[simp] theorem setSch_nhCnt (d : Dev) (f : Sch → Sch) : (d.setSch f).nhCnt = d.nhCnt := rfl
@[simp] theorem setSch_pe (d : Dev) (f : Sch → Sch) : (d.setSch f).pe = d.pe := rfl
@[simp] theorem setSch_buf (d : Dev) (f : Sch → Sch) : (d.setSch f).buf = d.buf := rfl
@[simp] theorem setSch_qs (d : Dev) (f : Sch → Sch) : (d.setSch f).qs = d.qs := rfl
@[simp] theorem setSch_sch (d : Dev) (f : Sch → Sch) : (d.setSch f).sch = f d.sch := rfl
@[simp] theorem setSch_hbm (d : Dev) (f : Sch → Sch) : (d.setSch f).hbm = d.hbm := rfl
@[simp] theorem setSch_csw (d : Dev) (f : Sch → Sch) : (d.setSch f).csw = d.csw := rfl
@[simp] theorem setSch_fab (d : Dev) (f : Sch → Sch) : (d.setSch f).fab = d.fab := rfl
@[simp] theorem setSch_time (d : Dev) (f : Sch → Sch) : (d.setSch f).time = d.time := rfl
@[simp] theorem setSch_dma (d : Dev) (f : Sch → Sch) : (d.setSch f).dma = d.dma := rfl
@[simp] theorem setSch_tri (d : Dev) (f : Sch → Sch) : (d.setSch f).tri = d.tri := rfl
@[simp] theorem setSch_bridge (d : Dev) (f : Sch → Sch) : (d.setSch f).bridge = d.bridge := rfl
@[simp] theorem setSch_fw (d : Dev) (f : Sch → Sch) : (d.setSch f).fw = d.fw := rfl
@[simp] theorem setSch_pwr (d : Dev) (f : Sch → Sch) : (d.setSch f).pwr = d.pwr := rfl
@[simp] theorem setSch_sec (d : Dev) (f : Sch → Sch) : (d.setSch f).sec = d.sec := rfl
@[simp] theorem setSch_jtag (d : Dev) (f : Sch → Sch) : (d.setSch f).jtag = d.jtag := rfl

@[simp] theorem setHbm_now (d : Dev) (f : Hbm → Hbm) : (d.setHbm f).now = d.now := rfl
@[simp] theorem setHbm_fresh (d : Dev) (f : Hbm → Hbm) : (d.setHbm f).fresh = d.fresh := rfl
@[simp] theorem setHbm_out (d : Dev) (f : Hbm → Hbm) : (d.setHbm f).out = d.out := rfl
@[simp] theorem setHbm_hif (d : Dev) (f : Hbm → Hbm) : (d.setHbm f).hif = d.hif := rfl
@[simp] theorem setHbm_evt (d : Dev) (f : Hbm → Hbm) : (d.setHbm f).evt = d.evt := rfl
@[simp] theorem setHbm_port (d : Dev) (f : Hbm → Hbm) : (d.setHbm f).port = d.port := rfl
@[simp] theorem setHbm_lane (d : Dev) (f : Hbm → Hbm) : (d.setHbm f).lane = d.lane := rfl
@[simp] theorem setHbm_pmSeq15 (d : Dev) (f : Hbm → Hbm) : (d.setHbm f).pmSeq15 = d.pmSeq15 := rfl
@[simp] theorem setHbm_pmSeqDay (d : Dev) (f : Hbm → Hbm) : (d.setHbm f).pmSeqDay = d.pmSeqDay := rfl
@[simp] theorem setHbm_fwd (d : Dev) (f : Hbm → Hbm) : (d.setHbm f).fwd = d.fwd := rfl
@[simp] theorem setHbm_pipe (d : Dev) (f : Hbm → Hbm) : (d.setHbm f).pipe = d.pipe := rfl
@[simp] theorem setHbm_fids (d : Dev) (f : Hbm → Hbm) : (d.setHbm f).fids = d.fids := rfl
@[simp] theorem setHbm_tx (d : Dev) (f : Hbm → Hbm) : (d.setHbm f).tx = d.tx := rfl
@[simp] theorem setHbm_portDrops (d : Dev) (f : Hbm → Hbm) : (d.setHbm f).portDrops = d.portDrops := rfl
@[simp] theorem setHbm_laneDrops (d : Dev) (f : Hbm → Hbm) : (d.setHbm f).laneDrops = d.laneDrops := rfl
@[simp] theorem setHbm_cnt (d : Dev) (f : Hbm → Hbm) : (d.setHbm f).cnt = d.cnt := rfl
@[simp] theorem setHbm_aclCnt (d : Dev) (f : Hbm → Hbm) : (d.setHbm f).aclCnt = d.aclCnt := rfl
@[simp] theorem setHbm_nhCnt (d : Dev) (f : Hbm → Hbm) : (d.setHbm f).nhCnt = d.nhCnt := rfl
@[simp] theorem setHbm_pe (d : Dev) (f : Hbm → Hbm) : (d.setHbm f).pe = d.pe := rfl
@[simp] theorem setHbm_buf (d : Dev) (f : Hbm → Hbm) : (d.setHbm f).buf = d.buf := rfl
@[simp] theorem setHbm_qs (d : Dev) (f : Hbm → Hbm) : (d.setHbm f).qs = d.qs := rfl
@[simp] theorem setHbm_sch (d : Dev) (f : Hbm → Hbm) : (d.setHbm f).sch = d.sch := rfl
@[simp] theorem setHbm_hbm (d : Dev) (f : Hbm → Hbm) : (d.setHbm f).hbm = f d.hbm := rfl
@[simp] theorem setHbm_csw (d : Dev) (f : Hbm → Hbm) : (d.setHbm f).csw = d.csw := rfl
@[simp] theorem setHbm_fab (d : Dev) (f : Hbm → Hbm) : (d.setHbm f).fab = d.fab := rfl
@[simp] theorem setHbm_time (d : Dev) (f : Hbm → Hbm) : (d.setHbm f).time = d.time := rfl
@[simp] theorem setHbm_dma (d : Dev) (f : Hbm → Hbm) : (d.setHbm f).dma = d.dma := rfl
@[simp] theorem setHbm_tri (d : Dev) (f : Hbm → Hbm) : (d.setHbm f).tri = d.tri := rfl
@[simp] theorem setHbm_bridge (d : Dev) (f : Hbm → Hbm) : (d.setHbm f).bridge = d.bridge := rfl
@[simp] theorem setHbm_fw (d : Dev) (f : Hbm → Hbm) : (d.setHbm f).fw = d.fw := rfl
@[simp] theorem setHbm_pwr (d : Dev) (f : Hbm → Hbm) : (d.setHbm f).pwr = d.pwr := rfl
@[simp] theorem setHbm_sec (d : Dev) (f : Hbm → Hbm) : (d.setHbm f).sec = d.sec := rfl
@[simp] theorem setHbm_jtag (d : Dev) (f : Hbm → Hbm) : (d.setHbm f).jtag = d.jtag := rfl

@[simp] theorem setCsw_now (d : Dev) (f : Csw → Csw) : (d.setCsw f).now = d.now := rfl
@[simp] theorem setCsw_fresh (d : Dev) (f : Csw → Csw) : (d.setCsw f).fresh = d.fresh := rfl
@[simp] theorem setCsw_out (d : Dev) (f : Csw → Csw) : (d.setCsw f).out = d.out := rfl
@[simp] theorem setCsw_hif (d : Dev) (f : Csw → Csw) : (d.setCsw f).hif = d.hif := rfl
@[simp] theorem setCsw_evt (d : Dev) (f : Csw → Csw) : (d.setCsw f).evt = d.evt := rfl
@[simp] theorem setCsw_port (d : Dev) (f : Csw → Csw) : (d.setCsw f).port = d.port := rfl
@[simp] theorem setCsw_lane (d : Dev) (f : Csw → Csw) : (d.setCsw f).lane = d.lane := rfl
@[simp] theorem setCsw_pmSeq15 (d : Dev) (f : Csw → Csw) : (d.setCsw f).pmSeq15 = d.pmSeq15 := rfl
@[simp] theorem setCsw_pmSeqDay (d : Dev) (f : Csw → Csw) : (d.setCsw f).pmSeqDay = d.pmSeqDay := rfl
@[simp] theorem setCsw_fwd (d : Dev) (f : Csw → Csw) : (d.setCsw f).fwd = d.fwd := rfl
@[simp] theorem setCsw_pipe (d : Dev) (f : Csw → Csw) : (d.setCsw f).pipe = d.pipe := rfl
@[simp] theorem setCsw_fids (d : Dev) (f : Csw → Csw) : (d.setCsw f).fids = d.fids := rfl
@[simp] theorem setCsw_tx (d : Dev) (f : Csw → Csw) : (d.setCsw f).tx = d.tx := rfl
@[simp] theorem setCsw_portDrops (d : Dev) (f : Csw → Csw) : (d.setCsw f).portDrops = d.portDrops := rfl
@[simp] theorem setCsw_laneDrops (d : Dev) (f : Csw → Csw) : (d.setCsw f).laneDrops = d.laneDrops := rfl
@[simp] theorem setCsw_cnt (d : Dev) (f : Csw → Csw) : (d.setCsw f).cnt = d.cnt := rfl
@[simp] theorem setCsw_aclCnt (d : Dev) (f : Csw → Csw) : (d.setCsw f).aclCnt = d.aclCnt := rfl
@[simp] theorem setCsw_nhCnt (d : Dev) (f : Csw → Csw) : (d.setCsw f).nhCnt = d.nhCnt := rfl
@[simp] theorem setCsw_pe (d : Dev) (f : Csw → Csw) : (d.setCsw f).pe = d.pe := rfl
@[simp] theorem setCsw_buf (d : Dev) (f : Csw → Csw) : (d.setCsw f).buf = d.buf := rfl
@[simp] theorem setCsw_qs (d : Dev) (f : Csw → Csw) : (d.setCsw f).qs = d.qs := rfl
@[simp] theorem setCsw_sch (d : Dev) (f : Csw → Csw) : (d.setCsw f).sch = d.sch := rfl
@[simp] theorem setCsw_hbm (d : Dev) (f : Csw → Csw) : (d.setCsw f).hbm = d.hbm := rfl
@[simp] theorem setCsw_csw (d : Dev) (f : Csw → Csw) : (d.setCsw f).csw = f d.csw := rfl
@[simp] theorem setCsw_fab (d : Dev) (f : Csw → Csw) : (d.setCsw f).fab = d.fab := rfl
@[simp] theorem setCsw_time (d : Dev) (f : Csw → Csw) : (d.setCsw f).time = d.time := rfl
@[simp] theorem setCsw_dma (d : Dev) (f : Csw → Csw) : (d.setCsw f).dma = d.dma := rfl
@[simp] theorem setCsw_tri (d : Dev) (f : Csw → Csw) : (d.setCsw f).tri = d.tri := rfl
@[simp] theorem setCsw_bridge (d : Dev) (f : Csw → Csw) : (d.setCsw f).bridge = d.bridge := rfl
@[simp] theorem setCsw_fw (d : Dev) (f : Csw → Csw) : (d.setCsw f).fw = d.fw := rfl
@[simp] theorem setCsw_pwr (d : Dev) (f : Csw → Csw) : (d.setCsw f).pwr = d.pwr := rfl
@[simp] theorem setCsw_sec (d : Dev) (f : Csw → Csw) : (d.setCsw f).sec = d.sec := rfl
@[simp] theorem setCsw_jtag (d : Dev) (f : Csw → Csw) : (d.setCsw f).jtag = d.jtag := rfl

@[simp] theorem setFab_now (d : Dev) (f : Fab → Fab) : (d.setFab f).now = d.now := rfl
@[simp] theorem setFab_fresh (d : Dev) (f : Fab → Fab) : (d.setFab f).fresh = d.fresh := rfl
@[simp] theorem setFab_out (d : Dev) (f : Fab → Fab) : (d.setFab f).out = d.out := rfl
@[simp] theorem setFab_hif (d : Dev) (f : Fab → Fab) : (d.setFab f).hif = d.hif := rfl
@[simp] theorem setFab_evt (d : Dev) (f : Fab → Fab) : (d.setFab f).evt = d.evt := rfl
@[simp] theorem setFab_port (d : Dev) (f : Fab → Fab) : (d.setFab f).port = d.port := rfl
@[simp] theorem setFab_lane (d : Dev) (f : Fab → Fab) : (d.setFab f).lane = d.lane := rfl
@[simp] theorem setFab_pmSeq15 (d : Dev) (f : Fab → Fab) : (d.setFab f).pmSeq15 = d.pmSeq15 := rfl
@[simp] theorem setFab_pmSeqDay (d : Dev) (f : Fab → Fab) : (d.setFab f).pmSeqDay = d.pmSeqDay := rfl
@[simp] theorem setFab_fwd (d : Dev) (f : Fab → Fab) : (d.setFab f).fwd = d.fwd := rfl
@[simp] theorem setFab_pipe (d : Dev) (f : Fab → Fab) : (d.setFab f).pipe = d.pipe := rfl
@[simp] theorem setFab_fids (d : Dev) (f : Fab → Fab) : (d.setFab f).fids = d.fids := rfl
@[simp] theorem setFab_tx (d : Dev) (f : Fab → Fab) : (d.setFab f).tx = d.tx := rfl
@[simp] theorem setFab_portDrops (d : Dev) (f : Fab → Fab) : (d.setFab f).portDrops = d.portDrops := rfl
@[simp] theorem setFab_laneDrops (d : Dev) (f : Fab → Fab) : (d.setFab f).laneDrops = d.laneDrops := rfl
@[simp] theorem setFab_cnt (d : Dev) (f : Fab → Fab) : (d.setFab f).cnt = d.cnt := rfl
@[simp] theorem setFab_aclCnt (d : Dev) (f : Fab → Fab) : (d.setFab f).aclCnt = d.aclCnt := rfl
@[simp] theorem setFab_nhCnt (d : Dev) (f : Fab → Fab) : (d.setFab f).nhCnt = d.nhCnt := rfl
@[simp] theorem setFab_pe (d : Dev) (f : Fab → Fab) : (d.setFab f).pe = d.pe := rfl
@[simp] theorem setFab_buf (d : Dev) (f : Fab → Fab) : (d.setFab f).buf = d.buf := rfl
@[simp] theorem setFab_qs (d : Dev) (f : Fab → Fab) : (d.setFab f).qs = d.qs := rfl
@[simp] theorem setFab_sch (d : Dev) (f : Fab → Fab) : (d.setFab f).sch = d.sch := rfl
@[simp] theorem setFab_hbm (d : Dev) (f : Fab → Fab) : (d.setFab f).hbm = d.hbm := rfl
@[simp] theorem setFab_csw (d : Dev) (f : Fab → Fab) : (d.setFab f).csw = d.csw := rfl
@[simp] theorem setFab_fab (d : Dev) (f : Fab → Fab) : (d.setFab f).fab = f d.fab := rfl
@[simp] theorem setFab_time (d : Dev) (f : Fab → Fab) : (d.setFab f).time = d.time := rfl
@[simp] theorem setFab_dma (d : Dev) (f : Fab → Fab) : (d.setFab f).dma = d.dma := rfl
@[simp] theorem setFab_tri (d : Dev) (f : Fab → Fab) : (d.setFab f).tri = d.tri := rfl
@[simp] theorem setFab_bridge (d : Dev) (f : Fab → Fab) : (d.setFab f).bridge = d.bridge := rfl
@[simp] theorem setFab_fw (d : Dev) (f : Fab → Fab) : (d.setFab f).fw = d.fw := rfl
@[simp] theorem setFab_pwr (d : Dev) (f : Fab → Fab) : (d.setFab f).pwr = d.pwr := rfl
@[simp] theorem setFab_sec (d : Dev) (f : Fab → Fab) : (d.setFab f).sec = d.sec := rfl
@[simp] theorem setFab_jtag (d : Dev) (f : Fab → Fab) : (d.setFab f).jtag = d.jtag := rfl

@[simp] theorem setDma_now (d : Dev) (f : DmaSt → DmaSt) : (d.setDma f).now = d.now := rfl
@[simp] theorem setDma_fresh (d : Dev) (f : DmaSt → DmaSt) : (d.setDma f).fresh = d.fresh := rfl
@[simp] theorem setDma_out (d : Dev) (f : DmaSt → DmaSt) : (d.setDma f).out = d.out := rfl
@[simp] theorem setDma_hif (d : Dev) (f : DmaSt → DmaSt) : (d.setDma f).hif = d.hif := rfl
@[simp] theorem setDma_evt (d : Dev) (f : DmaSt → DmaSt) : (d.setDma f).evt = d.evt := rfl
@[simp] theorem setDma_port (d : Dev) (f : DmaSt → DmaSt) : (d.setDma f).port = d.port := rfl
@[simp] theorem setDma_lane (d : Dev) (f : DmaSt → DmaSt) : (d.setDma f).lane = d.lane := rfl
@[simp] theorem setDma_pmSeq15 (d : Dev) (f : DmaSt → DmaSt) : (d.setDma f).pmSeq15 = d.pmSeq15 := rfl
@[simp] theorem setDma_pmSeqDay (d : Dev) (f : DmaSt → DmaSt) : (d.setDma f).pmSeqDay = d.pmSeqDay := rfl
@[simp] theorem setDma_fwd (d : Dev) (f : DmaSt → DmaSt) : (d.setDma f).fwd = d.fwd := rfl
@[simp] theorem setDma_pipe (d : Dev) (f : DmaSt → DmaSt) : (d.setDma f).pipe = d.pipe := rfl
@[simp] theorem setDma_fids (d : Dev) (f : DmaSt → DmaSt) : (d.setDma f).fids = d.fids := rfl
@[simp] theorem setDma_tx (d : Dev) (f : DmaSt → DmaSt) : (d.setDma f).tx = d.tx := rfl
@[simp] theorem setDma_portDrops (d : Dev) (f : DmaSt → DmaSt) : (d.setDma f).portDrops = d.portDrops := rfl
@[simp] theorem setDma_laneDrops (d : Dev) (f : DmaSt → DmaSt) : (d.setDma f).laneDrops = d.laneDrops := rfl
@[simp] theorem setDma_cnt (d : Dev) (f : DmaSt → DmaSt) : (d.setDma f).cnt = d.cnt := rfl
@[simp] theorem setDma_aclCnt (d : Dev) (f : DmaSt → DmaSt) : (d.setDma f).aclCnt = d.aclCnt := rfl
@[simp] theorem setDma_nhCnt (d : Dev) (f : DmaSt → DmaSt) : (d.setDma f).nhCnt = d.nhCnt := rfl
@[simp] theorem setDma_pe (d : Dev) (f : DmaSt → DmaSt) : (d.setDma f).pe = d.pe := rfl
@[simp] theorem setDma_buf (d : Dev) (f : DmaSt → DmaSt) : (d.setDma f).buf = d.buf := rfl
@[simp] theorem setDma_qs (d : Dev) (f : DmaSt → DmaSt) : (d.setDma f).qs = d.qs := rfl
@[simp] theorem setDma_sch (d : Dev) (f : DmaSt → DmaSt) : (d.setDma f).sch = d.sch := rfl
@[simp] theorem setDma_hbm (d : Dev) (f : DmaSt → DmaSt) : (d.setDma f).hbm = d.hbm := rfl
@[simp] theorem setDma_csw (d : Dev) (f : DmaSt → DmaSt) : (d.setDma f).csw = d.csw := rfl
@[simp] theorem setDma_fab (d : Dev) (f : DmaSt → DmaSt) : (d.setDma f).fab = d.fab := rfl
@[simp] theorem setDma_time (d : Dev) (f : DmaSt → DmaSt) : (d.setDma f).time = d.time := rfl
@[simp] theorem setDma_dma (d : Dev) (f : DmaSt → DmaSt) : (d.setDma f).dma = f d.dma := rfl
@[simp] theorem setDma_tri (d : Dev) (f : DmaSt → DmaSt) : (d.setDma f).tri = d.tri := rfl
@[simp] theorem setDma_bridge (d : Dev) (f : DmaSt → DmaSt) : (d.setDma f).bridge = d.bridge := rfl
@[simp] theorem setDma_fw (d : Dev) (f : DmaSt → DmaSt) : (d.setDma f).fw = d.fw := rfl
@[simp] theorem setDma_pwr (d : Dev) (f : DmaSt → DmaSt) : (d.setDma f).pwr = d.pwr := rfl
@[simp] theorem setDma_sec (d : Dev) (f : DmaSt → DmaSt) : (d.setDma f).sec = d.sec := rfl
@[simp] theorem setDma_jtag (d : Dev) (f : DmaSt → DmaSt) : (d.setDma f).jtag = d.jtag := rfl

@[simp] theorem setPwr_now (d : Dev) (f : Pwr → Pwr) : (d.setPwr f).now = d.now := rfl
@[simp] theorem setPwr_fresh (d : Dev) (f : Pwr → Pwr) : (d.setPwr f).fresh = d.fresh := rfl
@[simp] theorem setPwr_out (d : Dev) (f : Pwr → Pwr) : (d.setPwr f).out = d.out := rfl
@[simp] theorem setPwr_hif (d : Dev) (f : Pwr → Pwr) : (d.setPwr f).hif = d.hif := rfl
@[simp] theorem setPwr_evt (d : Dev) (f : Pwr → Pwr) : (d.setPwr f).evt = d.evt := rfl
@[simp] theorem setPwr_port (d : Dev) (f : Pwr → Pwr) : (d.setPwr f).port = d.port := rfl
@[simp] theorem setPwr_lane (d : Dev) (f : Pwr → Pwr) : (d.setPwr f).lane = d.lane := rfl
@[simp] theorem setPwr_pmSeq15 (d : Dev) (f : Pwr → Pwr) : (d.setPwr f).pmSeq15 = d.pmSeq15 := rfl
@[simp] theorem setPwr_pmSeqDay (d : Dev) (f : Pwr → Pwr) : (d.setPwr f).pmSeqDay = d.pmSeqDay := rfl
@[simp] theorem setPwr_fwd (d : Dev) (f : Pwr → Pwr) : (d.setPwr f).fwd = d.fwd := rfl
@[simp] theorem setPwr_pipe (d : Dev) (f : Pwr → Pwr) : (d.setPwr f).pipe = d.pipe := rfl
@[simp] theorem setPwr_fids (d : Dev) (f : Pwr → Pwr) : (d.setPwr f).fids = d.fids := rfl
@[simp] theorem setPwr_tx (d : Dev) (f : Pwr → Pwr) : (d.setPwr f).tx = d.tx := rfl
@[simp] theorem setPwr_portDrops (d : Dev) (f : Pwr → Pwr) : (d.setPwr f).portDrops = d.portDrops := rfl
@[simp] theorem setPwr_laneDrops (d : Dev) (f : Pwr → Pwr) : (d.setPwr f).laneDrops = d.laneDrops := rfl
@[simp] theorem setPwr_cnt (d : Dev) (f : Pwr → Pwr) : (d.setPwr f).cnt = d.cnt := rfl
@[simp] theorem setPwr_aclCnt (d : Dev) (f : Pwr → Pwr) : (d.setPwr f).aclCnt = d.aclCnt := rfl
@[simp] theorem setPwr_nhCnt (d : Dev) (f : Pwr → Pwr) : (d.setPwr f).nhCnt = d.nhCnt := rfl
@[simp] theorem setPwr_pe (d : Dev) (f : Pwr → Pwr) : (d.setPwr f).pe = d.pe := rfl
@[simp] theorem setPwr_buf (d : Dev) (f : Pwr → Pwr) : (d.setPwr f).buf = d.buf := rfl
@[simp] theorem setPwr_qs (d : Dev) (f : Pwr → Pwr) : (d.setPwr f).qs = d.qs := rfl
@[simp] theorem setPwr_sch (d : Dev) (f : Pwr → Pwr) : (d.setPwr f).sch = d.sch := rfl
@[simp] theorem setPwr_hbm (d : Dev) (f : Pwr → Pwr) : (d.setPwr f).hbm = d.hbm := rfl
@[simp] theorem setPwr_csw (d : Dev) (f : Pwr → Pwr) : (d.setPwr f).csw = d.csw := rfl
@[simp] theorem setPwr_fab (d : Dev) (f : Pwr → Pwr) : (d.setPwr f).fab = d.fab := rfl
@[simp] theorem setPwr_time (d : Dev) (f : Pwr → Pwr) : (d.setPwr f).time = d.time := rfl
@[simp] theorem setPwr_dma (d : Dev) (f : Pwr → Pwr) : (d.setPwr f).dma = d.dma := rfl
@[simp] theorem setPwr_tri (d : Dev) (f : Pwr → Pwr) : (d.setPwr f).tri = d.tri := rfl
@[simp] theorem setPwr_bridge (d : Dev) (f : Pwr → Pwr) : (d.setPwr f).bridge = d.bridge := rfl
@[simp] theorem setPwr_fw (d : Dev) (f : Pwr → Pwr) : (d.setPwr f).fw = d.fw := rfl
@[simp] theorem setPwr_pwr (d : Dev) (f : Pwr → Pwr) : (d.setPwr f).pwr = f d.pwr := rfl
@[simp] theorem setPwr_sec (d : Dev) (f : Pwr → Pwr) : (d.setPwr f).sec = d.sec := rfl
@[simp] theorem setPwr_jtag (d : Dev) (f : Pwr → Pwr) : (d.setPwr f).jtag = d.jtag := rfl

@[simp] theorem setTri_now (d : Dev) (f : Triad → Triad) : (d.setTri f).now = d.now := rfl
@[simp] theorem setTri_fresh (d : Dev) (f : Triad → Triad) : (d.setTri f).fresh = d.fresh := rfl
@[simp] theorem setTri_out (d : Dev) (f : Triad → Triad) : (d.setTri f).out = d.out := rfl
@[simp] theorem setTri_hif (d : Dev) (f : Triad → Triad) : (d.setTri f).hif = d.hif := rfl
@[simp] theorem setTri_evt (d : Dev) (f : Triad → Triad) : (d.setTri f).evt = d.evt := rfl
@[simp] theorem setTri_port (d : Dev) (f : Triad → Triad) : (d.setTri f).port = d.port := rfl
@[simp] theorem setTri_lane (d : Dev) (f : Triad → Triad) : (d.setTri f).lane = d.lane := rfl
@[simp] theorem setTri_pmSeq15 (d : Dev) (f : Triad → Triad) : (d.setTri f).pmSeq15 = d.pmSeq15 := rfl
@[simp] theorem setTri_pmSeqDay (d : Dev) (f : Triad → Triad) : (d.setTri f).pmSeqDay = d.pmSeqDay := rfl
@[simp] theorem setTri_fwd (d : Dev) (f : Triad → Triad) : (d.setTri f).fwd = d.fwd := rfl
@[simp] theorem setTri_pipe (d : Dev) (f : Triad → Triad) : (d.setTri f).pipe = d.pipe := rfl
@[simp] theorem setTri_fids (d : Dev) (f : Triad → Triad) : (d.setTri f).fids = d.fids := rfl
@[simp] theorem setTri_tx (d : Dev) (f : Triad → Triad) : (d.setTri f).tx = d.tx := rfl
@[simp] theorem setTri_portDrops (d : Dev) (f : Triad → Triad) : (d.setTri f).portDrops = d.portDrops := rfl
@[simp] theorem setTri_laneDrops (d : Dev) (f : Triad → Triad) : (d.setTri f).laneDrops = d.laneDrops := rfl
@[simp] theorem setTri_cnt (d : Dev) (f : Triad → Triad) : (d.setTri f).cnt = d.cnt := rfl
@[simp] theorem setTri_aclCnt (d : Dev) (f : Triad → Triad) : (d.setTri f).aclCnt = d.aclCnt := rfl
@[simp] theorem setTri_nhCnt (d : Dev) (f : Triad → Triad) : (d.setTri f).nhCnt = d.nhCnt := rfl
@[simp] theorem setTri_pe (d : Dev) (f : Triad → Triad) : (d.setTri f).pe = d.pe := rfl
@[simp] theorem setTri_buf (d : Dev) (f : Triad → Triad) : (d.setTri f).buf = d.buf := rfl
@[simp] theorem setTri_qs (d : Dev) (f : Triad → Triad) : (d.setTri f).qs = d.qs := rfl
@[simp] theorem setTri_sch (d : Dev) (f : Triad → Triad) : (d.setTri f).sch = d.sch := rfl
@[simp] theorem setTri_hbm (d : Dev) (f : Triad → Triad) : (d.setTri f).hbm = d.hbm := rfl
@[simp] theorem setTri_csw (d : Dev) (f : Triad → Triad) : (d.setTri f).csw = d.csw := rfl
@[simp] theorem setTri_fab (d : Dev) (f : Triad → Triad) : (d.setTri f).fab = d.fab := rfl
@[simp] theorem setTri_time (d : Dev) (f : Triad → Triad) : (d.setTri f).time = d.time := rfl
@[simp] theorem setTri_dma (d : Dev) (f : Triad → Triad) : (d.setTri f).dma = d.dma := rfl
@[simp] theorem setTri_tri (d : Dev) (f : Triad → Triad) : (d.setTri f).tri = f d.tri := rfl
@[simp] theorem setTri_bridge (d : Dev) (f : Triad → Triad) : (d.setTri f).bridge = d.bridge := rfl
@[simp] theorem setTri_fw (d : Dev) (f : Triad → Triad) : (d.setTri f).fw = d.fw := rfl
@[simp] theorem setTri_pwr (d : Dev) (f : Triad → Triad) : (d.setTri f).pwr = d.pwr := rfl
@[simp] theorem setTri_sec (d : Dev) (f : Triad → Triad) : (d.setTri f).sec = d.sec := rfl
@[simp] theorem setTri_jtag (d : Dev) (f : Triad → Triad) : (d.setTri f).jtag = d.jtag := rfl

@[simp] theorem setPort_now (d : Dev) (p : Nat) (x : Port) : (d.setPort p x).now = d.now := rfl
@[simp] theorem setPort_fresh (d : Dev) (p : Nat) (x : Port) : (d.setPort p x).fresh = d.fresh := rfl
@[simp] theorem setPort_out (d : Dev) (p : Nat) (x : Port) : (d.setPort p x).out = d.out := rfl
@[simp] theorem setPort_hif (d : Dev) (p : Nat) (x : Port) : (d.setPort p x).hif = d.hif := rfl
@[simp] theorem setPort_evt (d : Dev) (p : Nat) (x : Port) : (d.setPort p x).evt = d.evt := rfl
@[simp] theorem setPort_port (d : Dev) (p : Nat) (x : Port) : (d.setPort p x).port = tset d.port {} p x := rfl
@[simp] theorem setPort_lane (d : Dev) (p : Nat) (x : Port) : (d.setPort p x).lane = d.lane := rfl
@[simp] theorem setPort_pmSeq15 (d : Dev) (p : Nat) (x : Port) : (d.setPort p x).pmSeq15 = d.pmSeq15 := rfl
@[simp] theorem setPort_pmSeqDay (d : Dev) (p : Nat) (x : Port) : (d.setPort p x).pmSeqDay = d.pmSeqDay := rfl
@[simp] theorem setPort_fwd (d : Dev) (p : Nat) (x : Port) : (d.setPort p x).fwd = d.fwd := rfl
@[simp] theorem setPort_pipe (d : Dev) (p : Nat) (x : Port) : (d.setPort p x).pipe = d.pipe := rfl
@[simp] theorem setPort_fids (d : Dev) (p : Nat) (x : Port) : (d.setPort p x).fids = d.fids := rfl
@[simp] theorem setPort_tx (d : Dev) (p : Nat) (x : Port) : (d.setPort p x).tx = d.tx := rfl
@[simp] theorem setPort_portDrops (d : Dev) (p : Nat) (x : Port) : (d.setPort p x).portDrops = d.portDrops := rfl
@[simp] theorem setPort_laneDrops (d : Dev) (p : Nat) (x : Port) : (d.setPort p x).laneDrops = d.laneDrops := rfl
@[simp] theorem setPort_cnt (d : Dev) (p : Nat) (x : Port) : (d.setPort p x).cnt = d.cnt := rfl
@[simp] theorem setPort_aclCnt (d : Dev) (p : Nat) (x : Port) : (d.setPort p x).aclCnt = d.aclCnt := rfl
@[simp] theorem setPort_nhCnt (d : Dev) (p : Nat) (x : Port) : (d.setPort p x).nhCnt = d.nhCnt := rfl
@[simp] theorem setPort_pe (d : Dev) (p : Nat) (x : Port) : (d.setPort p x).pe = d.pe := rfl
@[simp] theorem setPort_buf (d : Dev) (p : Nat) (x : Port) : (d.setPort p x).buf = d.buf := rfl
@[simp] theorem setPort_qs (d : Dev) (p : Nat) (x : Port) : (d.setPort p x).qs = d.qs := rfl
@[simp] theorem setPort_sch (d : Dev) (p : Nat) (x : Port) : (d.setPort p x).sch = d.sch := rfl
@[simp] theorem setPort_hbm (d : Dev) (p : Nat) (x : Port) : (d.setPort p x).hbm = d.hbm := rfl
@[simp] theorem setPort_csw (d : Dev) (p : Nat) (x : Port) : (d.setPort p x).csw = d.csw := rfl
@[simp] theorem setPort_fab (d : Dev) (p : Nat) (x : Port) : (d.setPort p x).fab = d.fab := rfl
@[simp] theorem setPort_time (d : Dev) (p : Nat) (x : Port) : (d.setPort p x).time = d.time := rfl
@[simp] theorem setPort_dma (d : Dev) (p : Nat) (x : Port) : (d.setPort p x).dma = d.dma := rfl
@[simp] theorem setPort_tri (d : Dev) (p : Nat) (x : Port) : (d.setPort p x).tri = d.tri := rfl
@[simp] theorem setPort_bridge (d : Dev) (p : Nat) (x : Port) : (d.setPort p x).bridge = d.bridge := rfl
@[simp] theorem setPort_fw (d : Dev) (p : Nat) (x : Port) : (d.setPort p x).fw = d.fw := rfl
@[simp] theorem setPort_pwr (d : Dev) (p : Nat) (x : Port) : (d.setPort p x).pwr = d.pwr := rfl
@[simp] theorem setPort_sec (d : Dev) (p : Nat) (x : Port) : (d.setPort p x).sec = d.sec := rfl
@[simp] theorem setPort_jtag (d : Dev) (p : Nat) (x : Port) : (d.setPort p x).jtag = d.jtag := rfl

@[simp] theorem setLane_now (d : Dev) (l : Nat) (x : Lane) : (d.setLane l x).now = d.now := rfl
@[simp] theorem setLane_fresh (d : Dev) (l : Nat) (x : Lane) : (d.setLane l x).fresh = d.fresh := rfl
@[simp] theorem setLane_out (d : Dev) (l : Nat) (x : Lane) : (d.setLane l x).out = d.out := rfl
@[simp] theorem setLane_hif (d : Dev) (l : Nat) (x : Lane) : (d.setLane l x).hif = d.hif := rfl
@[simp] theorem setLane_evt (d : Dev) (l : Nat) (x : Lane) : (d.setLane l x).evt = d.evt := rfl
@[simp] theorem setLane_port (d : Dev) (l : Nat) (x : Lane) : (d.setLane l x).port = d.port := rfl
@[simp] theorem setLane_lane (d : Dev) (l : Nat) (x : Lane) : (d.setLane l x).lane = tset d.lane {} l x := rfl
@[simp] theorem setLane_pmSeq15 (d : Dev) (l : Nat) (x : Lane) : (d.setLane l x).pmSeq15 = d.pmSeq15 := rfl
@[simp] theorem setLane_pmSeqDay (d : Dev) (l : Nat) (x : Lane) : (d.setLane l x).pmSeqDay = d.pmSeqDay := rfl
@[simp] theorem setLane_fwd (d : Dev) (l : Nat) (x : Lane) : (d.setLane l x).fwd = d.fwd := rfl
@[simp] theorem setLane_pipe (d : Dev) (l : Nat) (x : Lane) : (d.setLane l x).pipe = d.pipe := rfl
@[simp] theorem setLane_fids (d : Dev) (l : Nat) (x : Lane) : (d.setLane l x).fids = d.fids := rfl
@[simp] theorem setLane_tx (d : Dev) (l : Nat) (x : Lane) : (d.setLane l x).tx = d.tx := rfl
@[simp] theorem setLane_portDrops (d : Dev) (l : Nat) (x : Lane) : (d.setLane l x).portDrops = d.portDrops := rfl
@[simp] theorem setLane_laneDrops (d : Dev) (l : Nat) (x : Lane) : (d.setLane l x).laneDrops = d.laneDrops := rfl
@[simp] theorem setLane_cnt (d : Dev) (l : Nat) (x : Lane) : (d.setLane l x).cnt = d.cnt := rfl
@[simp] theorem setLane_aclCnt (d : Dev) (l : Nat) (x : Lane) : (d.setLane l x).aclCnt = d.aclCnt := rfl
@[simp] theorem setLane_nhCnt (d : Dev) (l : Nat) (x : Lane) : (d.setLane l x).nhCnt = d.nhCnt := rfl
@[simp] theorem setLane_pe (d : Dev) (l : Nat) (x : Lane) : (d.setLane l x).pe = d.pe := rfl
@[simp] theorem setLane_buf (d : Dev) (l : Nat) (x : Lane) : (d.setLane l x).buf = d.buf := rfl
@[simp] theorem setLane_qs (d : Dev) (l : Nat) (x : Lane) : (d.setLane l x).qs = d.qs := rfl
@[simp] theorem setLane_sch (d : Dev) (l : Nat) (x : Lane) : (d.setLane l x).sch = d.sch := rfl
@[simp] theorem setLane_hbm (d : Dev) (l : Nat) (x : Lane) : (d.setLane l x).hbm = d.hbm := rfl
@[simp] theorem setLane_csw (d : Dev) (l : Nat) (x : Lane) : (d.setLane l x).csw = d.csw := rfl
@[simp] theorem setLane_fab (d : Dev) (l : Nat) (x : Lane) : (d.setLane l x).fab = d.fab := rfl
@[simp] theorem setLane_time (d : Dev) (l : Nat) (x : Lane) : (d.setLane l x).time = d.time := rfl
@[simp] theorem setLane_dma (d : Dev) (l : Nat) (x : Lane) : (d.setLane l x).dma = d.dma := rfl
@[simp] theorem setLane_tri (d : Dev) (l : Nat) (x : Lane) : (d.setLane l x).tri = d.tri := rfl
@[simp] theorem setLane_bridge (d : Dev) (l : Nat) (x : Lane) : (d.setLane l x).bridge = d.bridge := rfl
@[simp] theorem setLane_fw (d : Dev) (l : Nat) (x : Lane) : (d.setLane l x).fw = d.fw := rfl
@[simp] theorem setLane_pwr (d : Dev) (l : Nat) (x : Lane) : (d.setLane l x).pwr = d.pwr := rfl
@[simp] theorem setLane_sec (d : Dev) (l : Nat) (x : Lane) : (d.setLane l x).sec = d.sec := rfl
@[simp] theorem setLane_jtag (d : Dev) (l : Nat) (x : Lane) : (d.setLane l x).jtag = d.jtag := rfl

@[simp] theorem setPipe_now (d : Dev) (i : Nat) (x : Pipe) : (d.setPipe i x).now = d.now := rfl
@[simp] theorem setPipe_fresh (d : Dev) (i : Nat) (x : Pipe) : (d.setPipe i x).fresh = d.fresh := rfl
@[simp] theorem setPipe_out (d : Dev) (i : Nat) (x : Pipe) : (d.setPipe i x).out = d.out := rfl
@[simp] theorem setPipe_hif (d : Dev) (i : Nat) (x : Pipe) : (d.setPipe i x).hif = d.hif := rfl
@[simp] theorem setPipe_evt (d : Dev) (i : Nat) (x : Pipe) : (d.setPipe i x).evt = d.evt := rfl
@[simp] theorem setPipe_port (d : Dev) (i : Nat) (x : Pipe) : (d.setPipe i x).port = d.port := rfl
@[simp] theorem setPipe_lane (d : Dev) (i : Nat) (x : Pipe) : (d.setPipe i x).lane = d.lane := rfl
@[simp] theorem setPipe_pmSeq15 (d : Dev) (i : Nat) (x : Pipe) : (d.setPipe i x).pmSeq15 = d.pmSeq15 := rfl
@[simp] theorem setPipe_pmSeqDay (d : Dev) (i : Nat) (x : Pipe) : (d.setPipe i x).pmSeqDay = d.pmSeqDay := rfl
@[simp] theorem setPipe_fwd (d : Dev) (i : Nat) (x : Pipe) : (d.setPipe i x).fwd = d.fwd := rfl
@[simp] theorem setPipe_pipe (d : Dev) (i : Nat) (x : Pipe) : (d.setPipe i x).pipe = tset d.pipe {} i x := rfl
@[simp] theorem setPipe_fids (d : Dev) (i : Nat) (x : Pipe) : (d.setPipe i x).fids = d.fids := rfl
@[simp] theorem setPipe_tx (d : Dev) (i : Nat) (x : Pipe) : (d.setPipe i x).tx = d.tx := rfl
@[simp] theorem setPipe_portDrops (d : Dev) (i : Nat) (x : Pipe) : (d.setPipe i x).portDrops = d.portDrops := rfl
@[simp] theorem setPipe_laneDrops (d : Dev) (i : Nat) (x : Pipe) : (d.setPipe i x).laneDrops = d.laneDrops := rfl
@[simp] theorem setPipe_cnt (d : Dev) (i : Nat) (x : Pipe) : (d.setPipe i x).cnt = d.cnt := rfl
@[simp] theorem setPipe_aclCnt (d : Dev) (i : Nat) (x : Pipe) : (d.setPipe i x).aclCnt = d.aclCnt := rfl
@[simp] theorem setPipe_nhCnt (d : Dev) (i : Nat) (x : Pipe) : (d.setPipe i x).nhCnt = d.nhCnt := rfl
@[simp] theorem setPipe_pe (d : Dev) (i : Nat) (x : Pipe) : (d.setPipe i x).pe = d.pe := rfl
@[simp] theorem setPipe_buf (d : Dev) (i : Nat) (x : Pipe) : (d.setPipe i x).buf = d.buf := rfl
@[simp] theorem setPipe_qs (d : Dev) (i : Nat) (x : Pipe) : (d.setPipe i x).qs = d.qs := rfl
@[simp] theorem setPipe_sch (d : Dev) (i : Nat) (x : Pipe) : (d.setPipe i x).sch = d.sch := rfl
@[simp] theorem setPipe_hbm (d : Dev) (i : Nat) (x : Pipe) : (d.setPipe i x).hbm = d.hbm := rfl
@[simp] theorem setPipe_csw (d : Dev) (i : Nat) (x : Pipe) : (d.setPipe i x).csw = d.csw := rfl
@[simp] theorem setPipe_fab (d : Dev) (i : Nat) (x : Pipe) : (d.setPipe i x).fab = d.fab := rfl
@[simp] theorem setPipe_time (d : Dev) (i : Nat) (x : Pipe) : (d.setPipe i x).time = d.time := rfl
@[simp] theorem setPipe_dma (d : Dev) (i : Nat) (x : Pipe) : (d.setPipe i x).dma = d.dma := rfl
@[simp] theorem setPipe_tri (d : Dev) (i : Nat) (x : Pipe) : (d.setPipe i x).tri = d.tri := rfl
@[simp] theorem setPipe_bridge (d : Dev) (i : Nat) (x : Pipe) : (d.setPipe i x).bridge = d.bridge := rfl
@[simp] theorem setPipe_fw (d : Dev) (i : Nat) (x : Pipe) : (d.setPipe i x).fw = d.fw := rfl
@[simp] theorem setPipe_pwr (d : Dev) (i : Nat) (x : Pipe) : (d.setPipe i x).pwr = d.pwr := rfl
@[simp] theorem setPipe_sec (d : Dev) (i : Nat) (x : Pipe) : (d.setPipe i x).sec = d.sec := rfl
@[simp] theorem setPipe_jtag (d : Dev) (i : Nat) (x : Pipe) : (d.setPipe i x).jtag = d.jtag := rfl

@[simp] theorem putGroup_now (d : Dev) (g : Nat) (x : BGroup) : (d.putGroup g x).now = d.now := rfl
@[simp] theorem putGroup_fresh (d : Dev) (g : Nat) (x : BGroup) : (d.putGroup g x).fresh = d.fresh := rfl
@[simp] theorem putGroup_out (d : Dev) (g : Nat) (x : BGroup) : (d.putGroup g x).out = d.out := rfl
@[simp] theorem putGroup_hif (d : Dev) (g : Nat) (x : BGroup) : (d.putGroup g x).hif = d.hif := rfl
@[simp] theorem putGroup_evt (d : Dev) (g : Nat) (x : BGroup) : (d.putGroup g x).evt = d.evt := rfl
@[simp] theorem putGroup_port (d : Dev) (g : Nat) (x : BGroup) : (d.putGroup g x).port = d.port := rfl
@[simp] theorem putGroup_lane (d : Dev) (g : Nat) (x : BGroup) : (d.putGroup g x).lane = d.lane := rfl
@[simp] theorem putGroup_pmSeq15 (d : Dev) (g : Nat) (x : BGroup) : (d.putGroup g x).pmSeq15 = d.pmSeq15 := rfl
@[simp] theorem putGroup_pmSeqDay (d : Dev) (g : Nat) (x : BGroup) : (d.putGroup g x).pmSeqDay = d.pmSeqDay := rfl
@[simp] theorem putGroup_fwd (d : Dev) (g : Nat) (x : BGroup) : (d.putGroup g x).fwd = d.fwd := rfl
@[simp] theorem putGroup_pipe (d : Dev) (g : Nat) (x : BGroup) : (d.putGroup g x).pipe = d.pipe := rfl
@[simp] theorem putGroup_fids (d : Dev) (g : Nat) (x : BGroup) : (d.putGroup g x).fids = d.fids := rfl
@[simp] theorem putGroup_tx (d : Dev) (g : Nat) (x : BGroup) : (d.putGroup g x).tx = d.tx := rfl
@[simp] theorem putGroup_portDrops (d : Dev) (g : Nat) (x : BGroup) : (d.putGroup g x).portDrops = d.portDrops := rfl
@[simp] theorem putGroup_laneDrops (d : Dev) (g : Nat) (x : BGroup) : (d.putGroup g x).laneDrops = d.laneDrops := rfl
@[simp] theorem putGroup_cnt (d : Dev) (g : Nat) (x : BGroup) : (d.putGroup g x).cnt = d.cnt := rfl
@[simp] theorem putGroup_aclCnt (d : Dev) (g : Nat) (x : BGroup) : (d.putGroup g x).aclCnt = d.aclCnt := rfl
@[simp] theorem putGroup_nhCnt (d : Dev) (g : Nat) (x : BGroup) : (d.putGroup g x).nhCnt = d.nhCnt := rfl
@[simp] theorem putGroup_pe (d : Dev) (g : Nat) (x : BGroup) : (d.putGroup g x).pe = d.pe := rfl
@[simp] theorem putGroup_buf (d : Dev) (g : Nat) (x : BGroup) : (d.putGroup g x).buf = d.buf := rfl
@[simp] theorem putGroup_qs (d : Dev) (g : Nat) (x : BGroup) : (d.putGroup g x).qs = d.qs := rfl
@[simp] theorem putGroup_sch (d : Dev) (g : Nat) (x : BGroup) : (d.putGroup g x).sch = d.sch := rfl
@[simp] theorem putGroup_hbm (d : Dev) (g : Nat) (x : BGroup) : (d.putGroup g x).hbm = d.hbm := rfl
@[simp] theorem putGroup_csw (d : Dev) (g : Nat) (x : BGroup) : (d.putGroup g x).csw = d.csw := rfl
@[simp] theorem putGroup_fab (d : Dev) (g : Nat) (x : BGroup) : (d.putGroup g x).fab = d.fab := rfl
@[simp] theorem putGroup_time (d : Dev) (g : Nat) (x : BGroup) : (d.putGroup g x).time = d.time := rfl
@[simp] theorem putGroup_dma (d : Dev) (g : Nat) (x : BGroup) : (d.putGroup g x).dma = d.dma := rfl
@[simp] theorem putGroup_tri (d : Dev) (g : Nat) (x : BGroup) : (d.putGroup g x).tri = d.tri := rfl
@[simp] theorem putGroup_bridge (d : Dev) (g : Nat) (x : BGroup) : (d.putGroup g x).bridge = tset d.bridge {} g x := rfl
@[simp] theorem putGroup_fw (d : Dev) (g : Nat) (x : BGroup) : (d.putGroup g x).fw = d.fw := rfl
@[simp] theorem putGroup_pwr (d : Dev) (g : Nat) (x : BGroup) : (d.putGroup g x).pwr = d.pwr := rfl
@[simp] theorem putGroup_sec (d : Dev) (g : Nat) (x : BGroup) : (d.putGroup g x).sec = d.sec := rfl
@[simp] theorem putGroup_jtag (d : Dev) (g : Nat) (x : BGroup) : (d.putGroup g x).jtag = d.jtag := rfl

end Dev

end Sys2Proof.Machine
end

