-- ==== Sys2Proof/Laws/Tables.lean ====
section
/-! SUPPORT. Sparse tables: what an entry reads as after another is put, set or deleted, and that the indexes keep rising. -/

namespace Sys2Proof.Machine
open Sys2Proof

variable {α : Type}

@[simp] theorem tget_nil (k : Nat) : tget ([] : Tab α) k = none := rfl

theorem tget_cons (j : Nat) (v : α) (r : Tab α) (k : Nat) : tget ((j, v) :: r) k = if j = k then some v else tget r k := rfl

@[simp] theorem tget_tput_same (t : Tab α) (k : Nat) (v : α) : tget (tput t k v) k = some v := by
  induction t with
  | nil => simp [tput, tget]
  | cons x r ih =>
    obtain ⟨j, u⟩ := x
    simp only [tput]
    split
    · simp [tget]
    · split
      · simp [tget]
      · simp [tget, *]

theorem tget_tput_other (t : Tab α) {k i : Nat} (v : α) (h : i ≠ k) : tget (tput t k v) i = tget t i := by
  induction t with
  | nil => simp [tput, tget, Ne.symm h]
  | cons x r ih =>
    obtain ⟨j, u⟩ := x
    simp only [tput]
    split
    · simp [tget, Ne.symm h]
    · split
      · simp_all [tget, Ne.symm h]
      · simp [tget, ih]

theorem tget_tdel_other (t : Tab α) {k i : Nat} (h : i ≠ k) : tget (tdel t k) i = tget t i := by
  induction t with
  | nil => rfl
  | cons x r ih =>
    obtain ⟨j, u⟩ := x
    simp only [tdel]
    split
    · rw [ih]; simp_all [tget, Ne.symm h]
    · simp [tget, ih]

/-- Rising indexes: the first is below every other, and the rest rises. -/
theorem tabRising_cons (j : Nat) (v : α) (r : Tab α) :
    tabRising ((j, v) :: r) = true ↔ (∀ x ∈ r, j < x.1) ∧ tabRising r = true := by
  induction r generalizing j v with
  | nil => simp [tabRising]
  | cons x r ih =>
    obtain ⟨i, u⟩ := x
    simp only [tabRising, Bool.and_eq_true, decide_eq_true_eq, ih i u, List.mem_cons, forall_eq_or_imp]
    constructor
    · rintro ⟨h, a, b⟩
      exact ⟨⟨h, fun x hx => Nat.lt_trans h (a x hx)⟩, a, b⟩
    · rintro ⟨⟨h, _⟩, a, b⟩
      exact ⟨h, a, b⟩

theorem tget_none_of_below {t : Tab α} {k : Nat} (h : ∀ x ∈ t, k < x.1) : tget t k = none := by
  induction t with
  | nil => rfl
  | cons x r ih =>
    obtain ⟨j, u⟩ := x
    have := h (j, u) (by simp)
    simp only [tget]
    split
    · simp_all
    · exact ih fun y hy => h y (by simp [hy])

@[simp] theorem tget_tdel_same (t : Tab α) (k : Nat) : tget (tdel t k) k = none := by
  induction t with
  | nil => rfl
  | cons x r ih =>
    obtain ⟨j, u⟩ := x
    simp only [tdel]
    split
    · exact ih
    · simp [tget, *]

theorem mem_tput {t : Tab α} {k : Nat} {v : α} {x : Nat × α} (h : x ∈ tput t k v) : x = (k, v) ∨ x ∈ t := by
  induction t with
  | nil => simp_all [tput]
  | cons y r ih =>
    obtain ⟨j, u⟩ := y
    simp only [tput] at h
    split at h
    · simpa using h
    · split at h <;> simp only [List.mem_cons] at h ⊢
      · tauto
      · rcases h with h | h
        · tauto
        · rcases ih h with h | h <;> tauto

theorem mem_tdel {t : Tab α} {k : Nat} {x : Nat × α} (h : x ∈ tdel t k) : x ∈ t := by
  induction t with
  | nil => exact h
  | cons y r ih =>
    obtain ⟨j, u⟩ := y
    simp only [tdel] at h
    split at h
    · simp [ih h]
    · simp only [List.mem_cons] at h ⊢
      exact h.imp_right ih

theorem tabRising_tput {t : Tab α} (h : tabRising t = true) (k : Nat) (v : α) : tabRising (tput t k v) = true := by
  induction t with
  | nil => rfl
  | cons y r ih =>
    obtain ⟨j, u⟩ := y
    have h' := (tabRising_cons ..).1 h
    simp only [tput]
    split
    · rw [tabRising_cons]
      refine ⟨fun x hx => ?_, h⟩
      rcases List.mem_cons.1 hx with rfl | hx
      · assumption
      · exact Nat.lt_trans ‹_› (h'.1 x hx)
    · split
      · subst_vars; rw [tabRising_cons]; exact h'
      · rw [tabRising_cons]
        refine ⟨fun x hx => ?_, ih h'.2⟩
        rcases mem_tput hx with rfl | hx
        · simp only; omega
        · exact h'.1 x hx

theorem tabRising_tdel {t : Tab α} (h : tabRising t = true) (k : Nat) : tabRising (tdel t k) = true := by
  induction t with
  | nil => rfl
  | cons y r ih =>
    obtain ⟨j, u⟩ := y
    have h' := (tabRising_cons ..).1 h
    simp only [tdel]
    split
    · exact ih h'.2
    · rw [tabRising_cons]
      exact ⟨fun x hx => h'.1 x (mem_tdel hx), ih h'.2⟩

theorem tgetD_tput_same (t : Tab α) (d : α) (k : Nat) (v : α) : tgetD (tput t k v) d k = v := by simp [tgetD]

section
variable [DecidableEq α]

theorem tabRising_tset {t : Tab α} (h : tabRising t = true) (d : α) (k : Nat) (v : α) : tabRising (tset t d k v) = true := by
  simp only [tset]; split
  · exact tabRising_tdel h k
  · exact tabRising_tput h k v

theorem tgetD_tset_other (t : Tab α) (d : α) {k i : Nat} (v : α) (h : i ≠ k) : tgetD (tset t d k v) d i = tgetD t d i := by
  simp only [tset, tgetD]; split
  · rw [tget_tdel_other t h]
  · rw [tget_tput_other t v h]

@[simp] theorem tgetD_tset_same (t : Tab α) (d : α) (k : Nat) (v : α) : tgetD (tset t d k v) d k = v := by
  simp only [tset, tgetD]; split
  · subst_vars; simp
  · simp

/-- With an entry other than the default the table need not rise. -/
theorem tgetD_tset_of_ne (t : Tab α) {d v : α} (h : v ≠ d) (k : Nat) : tgetD (tset t d k v) d k = v := by simp [tset, tgetD, h]

end

/-- A byte put into a memory in canonical form leaves it in that form. -/
theorem Memory_wf_tset {m : List Host.Cell} (h : Memory.wf m = true) (a : Nat) (v : BitVec 8) : Memory.wf (tset m 0 a v) = true := by
  simp only [Memory.wf, Bool.and_eq_true, List.all_eq_true] at h ⊢
  refine ⟨tabRising_tset h.1 0 a v, fun x hx => ?_⟩
  simp only [tset] at hx
  split at hx
  · exact h.2 x (mem_tdel hx)
  · rcases mem_tput hx with rfl | hx
    · simpa using ‹_›
    · exact h.2 x hx

end Sys2Proof.Machine
end

