-- ==== Sys2Proof/Laws/Ops.lean ====
section
/-! SUPPORT. What each shared operation can do at most: an interrupt changes the interface and the trace, an event besides these the event path.
For each, the parts it never changes as simplification rules. -/

namespace Sys2Proof.Machine
open Sys2Proof

namespace Dev

/-- Putting something on the pins changes only the trace. -/
theorem emit_frame (d : Dev) (e : Emission) : ∃ o, d.emit e = { d with out := o } := by
  simp only [emit]; split
  · exact ⟨d.out, rfl⟩
  · exact ⟨_, rfl⟩

theorem vecSend_frame (d : Dev) (v : Nat) : ∃ h o, d.vecSend v = { d with hif := h, out := o } := by
  simp only [vecSend]; split
  · exact ⟨_, _, rfl⟩
  · exact ⟨_, d.out, rfl⟩

theorem vecUpdate_frame (d : Dev) (v : Nat) : ∃ h o, d.vecUpdate v = { d with hif := h, out := o } := by
  simp only [vecUpdate]; split
  · split
    · exact ⟨d.hif, d.out, rfl⟩
    · split
      · exact ⟨_, d.out, rfl⟩
      · obtain ⟨h, o, e⟩ := vecSend_frame { d with hif := { d.hif with active := v :: d.hif.active } } v
        exact ⟨h, o, by rw [e]⟩
  · exact ⟨_, d.out, rfl⟩

/-- A cause bit changes only the interface and the messages sent. -/
theorem setCause_frame (d : Dev) (i : Nat) : ∃ h o, d.setCause i = { d with hif := h, out := o } := by
  obtain ⟨h, o, e⟩ := vecUpdate_frame { d with hif := { d.hif with cause := d.hif.cause ||| BitVec.ofNat 43 (2 ^ i) } } (d.hif.vector.getD i 0).toNat
  exact ⟨h, o, by rw [setCause, e]⟩

theorem setAlarm_frame (d : Dev) (i : Nat) : ∃ h o, d.setAlarm i = { d with hif := h, out := o } := by
  simp only [setAlarm]; split
  · exact ⟨d.hif, d.out, rfl⟩
  · obtain ⟨h, o, e⟩ := setCause_frame { d with hif := { d.hif with alarm := d.hif.alarm ||| BitVec.ofNat 9 (2 ^ i) } } 41
    exact ⟨h, o, by rw [e]⟩

theorem setAlarm_after (d x : Dev) (i : Nat) (q : ∃ v h o, x = { d with evt := v, hif := h, out := o }) :
    ∃ v h o, x.setAlarm i = { d with evt := v, hif := h, out := o } := by
  obtain ⟨v, h, o, rfl⟩ := q
  obtain ⟨h', o', e⟩ := setAlarm_frame { d with evt := v, hif := h, out := o } i
  exact ⟨v, h', o', by rw [e]⟩

theorem evCoalesce_frame (d : Dev) (e : Event) : ∃ v h o, d.evCoalesce e = { d with evt := v, hif := h, out := o } := by
  simp only [evCoalesce]; split
  · exact setAlarm_after _ _ 6 ⟨_, d.hif, d.out, rfl⟩
  · exact ⟨_, d.hif, d.out, rfl⟩

/-- An event changes only the event path, the interface and the messages sent. -/
theorem evPut_frame (d : Dev) (e : Event) : ∃ v h o, d.evPut e = { d with evt := v, hif := h, out := o } := by
  simp only [evPut]; split
  · exact ⟨_, d.hif, d.out, rfl⟩
  · split
    · obtain ⟨v, h, o, q⟩ := evCoalesce_frame { d with evt := { d.evt with counts := tset d.evt.counts 0 e.type (sat32 (tgetD d.evt.counts 0 e.type + 1)) } } e
      exact ⟨v, h, o, q.trans rfl⟩
    · exact ⟨_, d.hif, d.out, rfl⟩

/-- The same from a device that differs from `d` in those parts alone. -/
theorem evPut_after (d x : Dev) (e : Event) (q : ∃ v h o, x = { d with evt := v, hif := h, out := o }) :
    ∃ v h o, x.evPut e = { d with evt := v, hif := h, out := o } := by
  obtain ⟨v, h, o, rfl⟩ := q
  obtain ⟨v', h', o', e'⟩ := evPut_frame { d with evt := v, hif := h, out := o } e
  exact ⟨v', h', o', e'.trans rfl⟩

theorem raise_frame (d : Dev) (type sev subject : Nat) (l : List Fld) :
    ∃ v h o, d.raise type sev subject l = { d with evt := v, hif := h, out := o } := evPut_frame d _

theorem raiseObj_frame (d : Dev) (k : Nat) (x : Obj) (st : ObjSt) (b : Bool) (n : Nat) :
    ∃ v h o, d.raiseObj k x st b n = { d with evt := v, hif := h, out := o } := raise_frame d _ _ _ _

theorem raiseCounted_frame (d : Dev) (type sev key subject at_ : Nat) (l : List Fld) :
    ∃ v h o, d.raiseCounted type sev key subject at_ l = { d with evt := v, hif := h, out := o } := by
  simp only [raiseCounted]; split
  · exact evPut_after d _ _ ⟨_, d.hif, d.out, rfl⟩
  · exact ⟨_, d.hif, d.out, rfl⟩

theorem raiseLimited_frame (d : Dev) (type sev key subject : Nat) (l : List Fld) :
    ∃ v h o, d.raiseLimited type sev key subject l = { d with evt := v, hif := h, out := o } := by
  simp only [raiseLimited]; split
  · exact evPut_after d _ _ ⟨_, d.hif, d.out, rfl⟩
  · split
    · exact evPut_after d _ _ ⟨_, d.hif, d.out, rfl⟩
    · exact ⟨d.evt, d.hif, d.out, rfl⟩

/-- An FC message joins a queue of the fabric part, or goes nowhere. -/
theorem sendFc_frame (d : Dev) (k n : Nat) (b : Bytes) (l : Option Nat) : ∃ f, d.sendFc k n b l = { d with fab := f } := by
  simp only [sendFc]; split
  · exact ⟨_, rfl⟩
  · exact ⟨d.fab, rfl⟩

theorem sendFcAll_frame (d : Dev) (n : Nat) (b : Bytes) : ∃ f, d.sendFcAll n b = { d with fab := f } := by
  have h : ∀ (ks : List Nat) (x : Dev), ∃ f, ks.foldl (fun (x : Dev) k => x.sendFc k n b) x = { x with fab := f } := by
    intro ks
    induction ks with
    | nil => exact fun x => ⟨x.fab, rfl⟩
    | cons k r ih =>
      intro x
      obtain ⟨o, e⟩ := sendFc_frame x k n b none
      obtain ⟨p, f⟩ := ih (x.sendFc k n b)
      exact ⟨p, by rw [List.foldl_cons, f, e]⟩
  exact h _ d

/-- Dropping a command leaves all but the interface, the power part and the undo journal. -/
theorem dropCmd_frame (d : Dev) (k : Nat) : ∃ h p t, d.dropCmd k = { d with hif := h, pwr := p, tri := t } := ⟨_, _, _, rfl⟩

theorem startCmd_frame (d : Dev) (k : Nat) : ∃ h, d.startCmd k = { d with hif := h } := ⟨_, rfl⟩

/-- An entry of the undo journal changes the triad's part alone. -/
theorem noteWrite_frame (d : Dev) (k : Nat) (w : JWord) : ∃ t, d.noteWrite k w = { d with tri := t } := ⟨_, rfl⟩

/-- One discard changes only the pipeline's counters. -/
theorem dropPipe_frame (d : Dev) (pl code len : Nat) : ∃ p, d.dropPipe pl code len = { d with pipe := p } := ⟨_, rfl⟩

theorem lostUpdate_frame (d : Dev) (ch p : Nat) : ∃ h, lostUpdate ch p d = { d with hbm := h } := by
  simp only [lostUpdate]; split
  · exact ⟨_, rfl⟩
  · exact ⟨d.hbm, rfl⟩

/-- A write lost for want of room is counted, and reported once per freeze. -/
theorem writeLost_frame (d : Dev) (ch n : Nat) : ∃ v g o h, writeLost ch n d = { d with evt := v, hif := g, out := o, hbm := h } := by
  simp only [writeLost]; split
  · obtain ⟨v, g, o, e⟩ := raise_frame (d.modCh ch fun c => { c with heldLost := c.heldLost + n }) 0x0504 sevMajor (chHandle ch) [fCnt n]
    exact ⟨v, g, o, _, e⟩
  · exact ⟨d.evt, d.hif, d.out, _, rfl⟩

/-- A write to a channel out of service is held, or lost. -/
theorem holdWrite_frame (d : Dev) (ch : Nat) (w : HeldWrite) :
    ∃ v g o h, (holdWrite ch w d).2 = { d with evt := v, hif := g, out := o, hbm := h } := by
  simp only [holdWrite]; split
  · exact ⟨d.evt, d.hif, d.out, _, rfl⟩
  · exact writeLost_frame d _ _

theorem addPair_frame (d : Dev) (i len : Nat) : ∃ c h, addPair i len d = { d with cnt := c, hbm := h } := by
  simp only [addPair, p4Skips]; split
  · obtain ⟨h, e⟩ := lostUpdate_frame d (hbmChOf (pairAddr i)) 4
    exact ⟨d.cnt, h, e⟩
  · exact ⟨_, d.hbm, rfl⟩

/-- One count changes the pairs, or what HBM holds and misses with its event, or the accounting sets. -/
theorem countPair_frame (d : Dev) (i len : Nat) :
    ∃ c v g o h s, d.countPair i len = { d with cnt := c, evt := v, hif := g, out := o, hbm := h, sch := s } := by
  simp only [countPair]; split
  · exact ⟨d.cnt, d.evt, d.hif, d.out, d.hbm, d.sch, rfl⟩
  · split
    · obtain ⟨c, h, e⟩ := addPair_frame d (d.pairAt i) len
      exact ⟨c, d.evt, d.hif, d.out, h, d.sch, e⟩
    · obtain ⟨v, g, o, h, e⟩ := holdWrite_frame d (hbmChOf (pairAddr (d.pairAt i))) (.count (d.pairAt i) len)
      split
      · rename_i x q; rw [q] at e; exact ⟨d.cnt, v, g, o, h, d.sch, e⟩
      · rename_i x q; rw [q] at e; exact ⟨d.cnt, v, g, o, h, _, by rw [show x = _ from e]; rfl⟩

/-! ### What they never change, field by field -/

@[simp] theorem emit_now (d : Dev) (e : Emission) : (d.emit e).now = d.now := by obtain ⟨_, q⟩ := emit_frame d e; rw [q]
@[simp] theorem emit_fresh (d : Dev) (e : Emission) : (d.emit e).fresh = d.fresh := by obtain ⟨_, q⟩ := emit_frame d e; rw [q]
@[simp] theorem emit_hif (d : Dev) (e : Emission) : (d.emit e).hif = d.hif := by obtain ⟨_, q⟩ := emit_frame d e; rw [q]
@[simp] theorem emit_evt (d : Dev) (e : Emission) : (d.emit e).evt = d.evt := by obtain ⟨_, q⟩ := emit_frame d e; rw [q]
@[simp] theorem emit_port (d : Dev) (e : Emission) : (d.emit e).port = d.port := by obtain ⟨_, q⟩ := emit_frame d e; rw [q]
@[simp] theorem emit_lane (d : Dev) (e : Emission) : (d.emit e).lane = d.lane := by obtain ⟨_, q⟩ := emit_frame d e; rw [q]
@[simp] theorem emit_pmSeq15 (d : Dev) (e : Emission) : (d.emit e).pmSeq15 = d.pmSeq15 := by obtain ⟨_, q⟩ := emit_frame d e; rw [q]
@[simp] theorem emit_pmSeqDay (d : Dev) (e : Emission) : (d.emit e).pmSeqDay = d.pmSeqDay := by obtain ⟨_, q⟩ := emit_frame d e; rw [q]
@[simp] theorem emit_fwd (d : Dev) (e : Emission) : (d.emit e).fwd = d.fwd := by obtain ⟨_, q⟩ := emit_frame d e; rw [q]
@[simp] theorem emit_pipe (d : Dev) (e : Emission) : (d.emit e).pipe = d.pipe := by obtain ⟨_, q⟩ := emit_frame d e; rw [q]
@[simp] theorem emit_fids (d : Dev) (e : Emission) : (d.emit e).fids = d.fids := by obtain ⟨_, q⟩ := emit_frame d e; rw [q]
@[simp] theorem emit_tx (d : Dev) (e : Emission) : (d.emit e).tx = d.tx := by obtain ⟨_, q⟩ := emit_frame d e; rw [q]
@[simp] theorem emit_portDrops (d : Dev) (e : Emission) : (d.emit e).portDrops = d.portDrops := by obtain ⟨_, q⟩ := emit_frame d e; rw [q]
@[simp] theorem emit_laneDrops (d : Dev) (e : Emission) : (d.emit e).laneDrops = d.laneDrops := by obtain ⟨_, q⟩ := emit_frame d e; rw [q]
@[simp] theorem emit_cnt (d : Dev) (e : Emission) : (d.emit e).cnt = d.cnt := by obtain ⟨_, q⟩ := emit_frame d e; rw [q]
@[simp] theorem emit_aclCnt (d : Dev) (e : Emission) : (d.emit e).aclCnt = d.aclCnt := by obtain ⟨_, q⟩ := emit_frame d e; rw [q]
@[simp] theorem emit_nhCnt (d : Dev) (e : Emission) : (d.emit e).nhCnt = d.nhCnt := by obtain ⟨_, q⟩ := emit_frame d e; rw [q]
@[simp] theorem emit_pe (d : Dev) (e : Emission) : (d.emit e).pe = d.pe := by obtain ⟨_, q⟩ := emit_frame d e; rw [q]
@[simp] theorem emit_buf (d : Dev) (e : Emission) : (d.emit e).buf = d.buf := by obtain ⟨_, q⟩ := emit_frame d e; rw [q]
@[simp] theorem emit_qs (d : Dev) (e : Emission) : (d.emit e).qs = d.qs := by obtain ⟨_, q⟩ := emit_frame d e; rw [q]
@[simp] theorem emit_sch (d : Dev) (e : Emission) : (d.emit e).sch = d.sch := by obtain ⟨_, q⟩ := emit_frame d e; rw [q]
@[simp] theorem emit_hbm (d : Dev) (e : Emission) : (d.emit e).hbm = d.hbm := by obtain ⟨_, q⟩ := emit_frame d e; rw [q]
@[simp] theorem emit_csw (d : Dev) (e : Emission) : (d.emit e).csw = d.csw := by obtain ⟨_, q⟩ := emit_frame d e; rw [q]
@[simp] theorem emit_fab (d : Dev) (e : Emission) : (d.emit e).fab = d.fab := by obtain ⟨_, q⟩ := emit_frame d e; rw [q]
@[simp] theorem emit_time (d : Dev) (e : Emission) : (d.emit e).time = d.time := by obtain ⟨_, q⟩ := emit_frame d e; rw [q]
@[simp] theorem emit_dma (d : Dev) (e : Emission) : (d.emit e).dma = d.dma := by obtain ⟨_, q⟩ := emit_frame d e; rw [q]
@[simp] theorem emit_tri (d : Dev) (e : Emission) : (d.emit e).tri = d.tri := by obtain ⟨_, q⟩ := emit_frame d e; rw [q]
@[simp] theorem emit_bridge (d : Dev) (e : Emission) : (d.emit e).bridge = d.bridge := by obtain ⟨_, q⟩ := emit_frame d e; rw [q]
@[simp] theorem emit_fw (d : Dev) (e : Emission) : (d.emit e).fw = d.fw := by obtain ⟨_, q⟩ := emit_frame d e; rw [q]
@[simp] theorem emit_pwr (d : Dev) (e : Emission) : (d.emit e).pwr = d.pwr := by obtain ⟨_, q⟩ := emit_frame d e; rw [q]
@[simp] theorem emit_sec (d : Dev) (e : Emission) : (d.emit e).sec = d.sec := by obtain ⟨_, q⟩ := emit_frame d e; rw [q]
@[simp] theorem emit_jtag (d : Dev) (e : Emission) : (d.emit e).jtag = d.jtag := by obtain ⟨_, q⟩ := emit_frame d e; rw [q]

@[simp] theorem setCause_now (d : Dev) (i : Nat) : (d.setCause i).now = d.now := by obtain ⟨_, _, q⟩ := setCause_frame d i; rw [q]
@[simp] theorem setCause_fresh (d : Dev) (i : Nat) : (d.setCause i).fresh = d.fresh := by obtain ⟨_, _, q⟩ := setCause_frame d i; rw [q]
@[simp] theorem setCause_evt (d : Dev) (i : Nat) : (d.setCause i).evt = d.evt := by obtain ⟨_, _, q⟩ := setCause_frame d i; rw [q]
@[simp] theorem setCause_port (d : Dev) (i : Nat) : (d.setCause i).port = d.port := by obtain ⟨_, _, q⟩ := setCause_frame d i; rw [q]
@[simp] theorem setCause_lane (d : Dev) (i : Nat) : (d.setCause i).lane = d.lane := by obtain ⟨_, _, q⟩ := setCause_frame d i; rw [q]
@[simp] theorem setCause_pmSeq15 (d : Dev) (i : Nat) : (d.setCause i).pmSeq15 = d.pmSeq15 := by obtain ⟨_, _, q⟩ := setCause_frame d i; rw [q]
@[simp] theorem setCause_pmSeqDay (d : Dev) (i : Nat) : (d.setCause i).pmSeqDay = d.pmSeqDay := by obtain ⟨_, _, q⟩ := setCause_frame d i; rw [q]
@[simp] theorem setCause_fwd (d : Dev) (i : Nat) : (d.setCause i).fwd = d.fwd := by obtain ⟨_, _, q⟩ := setCause_frame d i; rw [q]
@[simp] theorem setCause_pipe (d : Dev) (i : Nat) : (d.setCause i).pipe = d.pipe := by obtain ⟨_, _, q⟩ := setCause_frame d i; rw [q]
@[simp] theorem setCause_fids (d : Dev) (i : Nat) : (d.setCause i).fids = d.fids := by obtain ⟨_, _, q⟩ := setCause_frame d i; rw [q]
@[simp] theorem setCause_tx (d : Dev) (i : Nat) : (d.setCause i).tx = d.tx := by obtain ⟨_, _, q⟩ := setCause_frame d i; rw [q]
@[simp] theorem setCause_portDrops (d : Dev) (i : Nat) : (d.setCause i).portDrops = d.portDrops := by obtain ⟨_, _, q⟩ := setCause_frame d i; rw [q]
@[simp] theorem setCause_laneDrops (d : Dev) (i : Nat) : (d.setCause i).laneDrops = d.laneDrops := by obtain ⟨_, _, q⟩ := setCause_frame d i; rw [q]
@[simp] theorem setCause_cnt (d : Dev) (i : Nat) : (d.setCause i).cnt = d.cnt := by obtain ⟨_, _, q⟩ := setCause_frame d i; rw [q]
@[simp] theorem setCause_aclCnt (d : Dev) (i : Nat) : (d.setCause i).aclCnt = d.aclCnt := by obtain ⟨_, _, q⟩ := setCause_frame d i; rw [q]
@[simp] theorem setCause_nhCnt (d : Dev) (i : Nat) : (d.setCause i).nhCnt = d.nhCnt := by obtain ⟨_, _, q⟩ := setCause_frame d i; rw [q]
@[simp] theorem setCause_pe (d : Dev) (i : Nat) : (d.setCause i).pe = d.pe := by obtain ⟨_, _, q⟩ := setCause_frame d i; rw [q]
@[simp] theorem setCause_buf (d : Dev) (i : Nat) : (d.setCause i).buf = d.buf := by obtain ⟨_, _, q⟩ := setCause_frame d i; rw [q]
@[simp] theorem setCause_qs (d : Dev) (i : Nat) : (d.setCause i).qs = d.qs := by obtain ⟨_, _, q⟩ := setCause_frame d i; rw [q]
@[simp] theorem setCause_sch (d : Dev) (i : Nat) : (d.setCause i).sch = d.sch := by obtain ⟨_, _, q⟩ := setCause_frame d i; rw [q]
@[simp] theorem setCause_hbm (d : Dev) (i : Nat) : (d.setCause i).hbm = d.hbm := by obtain ⟨_, _, q⟩ := setCause_frame d i; rw [q]
@[simp] theorem setCause_csw (d : Dev) (i : Nat) : (d.setCause i).csw = d.csw := by obtain ⟨_, _, q⟩ := setCause_frame d i; rw [q]
@[simp] theorem setCause_fab (d : Dev) (i : Nat) : (d.setCause i).fab = d.fab := by obtain ⟨_, _, q⟩ := setCause_frame d i; rw [q]
@[simp] theorem setCause_time (d : Dev) (i : Nat) : (d.setCause i).time = d.time := by obtain ⟨_, _, q⟩ := setCause_frame d i; rw [q]
@[simp] theorem setCause_dma (d : Dev) (i : Nat) : (d.setCause i).dma = d.dma := by obtain ⟨_, _, q⟩ := setCause_frame d i; rw [q]
@[simp] theorem setCause_tri (d : Dev) (i : Nat) : (d.setCause i).tri = d.tri := by obtain ⟨_, _, q⟩ := setCause_frame d i; rw [q]
@[simp] theorem setCause_bridge (d : Dev) (i : Nat) : (d.setCause i).bridge = d.bridge := by obtain ⟨_, _, q⟩ := setCause_frame d i; rw [q]
@[simp] theorem setCause_fw (d : Dev) (i : Nat) : (d.setCause i).fw = d.fw := by obtain ⟨_, _, q⟩ := setCause_frame d i; rw [q]
@[simp] theorem setCause_pwr (d : Dev) (i : Nat) : (d.setCause i).pwr = d.pwr := by obtain ⟨_, _, q⟩ := setCause_frame d i; rw [q]
@[simp] theorem setCause_sec (d : Dev) (i : Nat) : (d.setCause i).sec = d.sec := by obtain ⟨_, _, q⟩ := setCause_frame d i; rw [q]
@[simp] theorem setCause_jtag (d : Dev) (i : Nat) : (d.setCause i).jtag = d.jtag := by obtain ⟨_, _, q⟩ := setCause_frame d i; rw [q]

@[simp] theorem setAlarm_now (d : Dev) (i : Nat) : (d.setAlarm i).now = d.now := by obtain ⟨_, _, q⟩ := setAlarm_frame d i; rw [q]
@[simp] theorem setAlarm_fresh (d : Dev) (i : Nat) : (d.setAlarm i).fresh = d.fresh := by obtain ⟨_, _, q⟩ := setAlarm_frame d i; rw [q]
@[simp] theorem setAlarm_evt (d : Dev) (i : Nat) : (d.setAlarm i).evt = d.evt := by obtain ⟨_, _, q⟩ := setAlarm_frame d i; rw [q]
@[simp] theorem setAlarm_port (d : Dev) (i : Nat) : (d.setAlarm i).port = d.port := by obtain ⟨_, _, q⟩ := setAlarm_frame d i; rw [q]
@[simp] theorem setAlarm_lane (d : Dev) (i : Nat) : (d.setAlarm i).lane = d.lane := by obtain ⟨_, _, q⟩ := setAlarm_frame d i; rw [q]
@[simp] theorem setAlarm_pmSeq15 (d : Dev) (i : Nat) : (d.setAlarm i).pmSeq15 = d.pmSeq15 := by obtain ⟨_, _, q⟩ := setAlarm_frame d i; rw [q]
@[simp] theorem setAlarm_pmSeqDay (d : Dev) (i : Nat) : (d.setAlarm i).pmSeqDay = d.pmSeqDay := by obtain ⟨_, _, q⟩ := setAlarm_frame d i; rw [q]
@[simp] theorem setAlarm_fwd (d : Dev) (i : Nat) : (d.setAlarm i).fwd = d.fwd := by obtain ⟨_, _, q⟩ := setAlarm_frame d i; rw [q]
@[simp] theorem setAlarm_pipe (d : Dev) (i : Nat) : (d.setAlarm i).pipe = d.pipe := by obtain ⟨_, _, q⟩ := setAlarm_frame d i; rw [q]
@[simp] theorem setAlarm_fids (d : Dev) (i : Nat) : (d.setAlarm i).fids = d.fids := by obtain ⟨_, _, q⟩ := setAlarm_frame d i; rw [q]
@[simp] theorem setAlarm_tx (d : Dev) (i : Nat) : (d.setAlarm i).tx = d.tx := by obtain ⟨_, _, q⟩ := setAlarm_frame d i; rw [q]
@[simp] theorem setAlarm_portDrops (d : Dev) (i : Nat) : (d.setAlarm i).portDrops = d.portDrops := by obtain ⟨_, _, q⟩ := setAlarm_frame d i; rw [q]
@[simp] theorem setAlarm_laneDrops (d : Dev) (i : Nat) : (d.setAlarm i).laneDrops = d.laneDrops := by obtain ⟨_, _, q⟩ := setAlarm_frame d i; rw [q]
@[simp] theorem setAlarm_cnt (d : Dev) (i : Nat) : (d.setAlarm i).cnt = d.cnt := by obtain ⟨_, _, q⟩ := setAlarm_frame d i; rw [q]
@[simp] theorem setAlarm_aclCnt (d : Dev) (i : Nat) : (d.setAlarm i).aclCnt = d.aclCnt := by obtain ⟨_, _, q⟩ := setAlarm_frame d i; rw [q]
@[simp] theorem setAlarm_nhCnt (d : Dev) (i : Nat) : (d.setAlarm i).nhCnt = d.nhCnt := by obtain ⟨_, _, q⟩ := setAlarm_frame d i; rw [q]
@[simp] theorem setAlarm_pe (d : Dev) (i : Nat) : (d.setAlarm i).pe = d.pe := by obtain ⟨_, _, q⟩ := setAlarm_frame d i; rw [q]
@[simp] theorem setAlarm_buf (d : Dev) (i : Nat) : (d.setAlarm i).buf = d.buf := by obtain ⟨_, _, q⟩ := setAlarm_frame d i; rw [q]
@[simp] theorem setAlarm_qs (d : Dev) (i : Nat) : (d.setAlarm i).qs = d.qs := by obtain ⟨_, _, q⟩ := setAlarm_frame d i; rw [q]
@[simp] theorem setAlarm_sch (d : Dev) (i : Nat) : (d.setAlarm i).sch = d.sch := by obtain ⟨_, _, q⟩ := setAlarm_frame d i; rw [q]
@[simp] theorem setAlarm_hbm (d : Dev) (i : Nat) : (d.setAlarm i).hbm = d.hbm := by obtain ⟨_, _, q⟩ := setAlarm_frame d i; rw [q]
@[simp] theorem setAlarm_csw (d : Dev) (i : Nat) : (d.setAlarm i).csw = d.csw := by obtain ⟨_, _, q⟩ := setAlarm_frame d i; rw [q]
@[simp] theorem setAlarm_fab (d : Dev) (i : Nat) : (d.setAlarm i).fab = d.fab := by obtain ⟨_, _, q⟩ := setAlarm_frame d i; rw [q]
@[simp] theorem setAlarm_time (d : Dev) (i : Nat) : (d.setAlarm i).time = d.time := by obtain ⟨_, _, q⟩ := setAlarm_frame d i; rw [q]
@[simp] theorem setAlarm_dma (d : Dev) (i : Nat) : (d.setAlarm i).dma = d.dma := by obtain ⟨_, _, q⟩ := setAlarm_frame d i; rw [q]
@[simp] theorem setAlarm_tri (d : Dev) (i : Nat) : (d.setAlarm i).tri = d.tri := by obtain ⟨_, _, q⟩ := setAlarm_frame d i; rw [q]
@[simp] theorem setAlarm_bridge (d : Dev) (i : Nat) : (d.setAlarm i).bridge = d.bridge := by obtain ⟨_, _, q⟩ := setAlarm_frame d i; rw [q]
@[simp] theorem setAlarm_fw (d : Dev) (i : Nat) : (d.setAlarm i).fw = d.fw := by obtain ⟨_, _, q⟩ := setAlarm_frame d i; rw [q]
@[simp] theorem setAlarm_pwr (d : Dev) (i : Nat) : (d.setAlarm i).pwr = d.pwr := by obtain ⟨_, _, q⟩ := setAlarm_frame d i; rw [q]
@[simp] theorem setAlarm_sec (d : Dev) (i : Nat) : (d.setAlarm i).sec = d.sec := by obtain ⟨_, _, q⟩ := setAlarm_frame d i; rw [q]
@[simp] theorem setAlarm_jtag (d : Dev) (i : Nat) : (d.setAlarm i).jtag = d.jtag := by obtain ⟨_, _, q⟩ := setAlarm_frame d i; rw [q]

@[simp] theorem evPut_now (d : Dev) (e : Event) : (d.evPut e).now = d.now := by obtain ⟨_, _, _, q⟩ := evPut_frame d e; rw [q]
@[simp] theorem evPut_fresh (d : Dev) (e : Event) : (d.evPut e).fresh = d.fresh := by obtain ⟨_, _, _, q⟩ := evPut_frame d e; rw [q]
@[simp] theorem evPut_port (d : Dev) (e : Event) : (d.evPut e).port = d.port := by obtain ⟨_, _, _, q⟩ := evPut_frame d e; rw [q]
@[simp] theorem evPut_lane (d : Dev) (e : Event) : (d.evPut e).lane = d.lane := by obtain ⟨_, _, _, q⟩ := evPut_frame d e; rw [q]
@[simp] theorem evPut_pmSeq15 (d : Dev) (e : Event) : (d.evPut e).pmSeq15 = d.pmSeq15 := by obtain ⟨_, _, _, q⟩ := evPut_frame d e; rw [q]
@[simp] theorem evPut_pmSeqDay (d : Dev) (e : Event) : (d.evPut e).pmSeqDay = d.pmSeqDay := by obtain ⟨_, _, _, q⟩ := evPut_frame d e; rw [q]
@[simp] theorem evPut_fwd (d : Dev) (e : Event) : (d.evPut e).fwd = d.fwd := by obtain ⟨_, _, _, q⟩ := evPut_frame d e; rw [q]
@[simp] theorem evPut_pipe (d : Dev) (e : Event) : (d.evPut e).pipe = d.pipe := by obtain ⟨_, _, _, q⟩ := evPut_frame d e; rw [q]
@[simp] theorem evPut_fids (d : Dev) (e : Event) : (d.evPut e).fids = d.fids := by obtain ⟨_, _, _, q⟩ := evPut_frame d e; rw [q]
@[simp] theorem evPut_tx (d : Dev) (e : Event) : (d.evPut e).tx = d.tx := by obtain ⟨_, _, _, q⟩ := evPut_frame d e; rw [q]
@[simp] theorem evPut_portDrops (d : Dev) (e : Event) : (d.evPut e).portDrops = d.portDrops := by obtain ⟨_, _, _, q⟩ := evPut_frame d e; rw [q]
@[simp] theorem evPut_laneDrops (d : Dev) (e : Event) : (d.evPut e).laneDrops = d.laneDrops := by obtain ⟨_, _, _, q⟩ := evPut_frame d e; rw [q]
@[simp] theorem evPut_cnt (d : Dev) (e : Event) : (d.evPut e).cnt = d.cnt := by obtain ⟨_, _, _, q⟩ := evPut_frame d e; rw [q]
@[simp] theorem evPut_aclCnt (d : Dev) (e : Event) : (d.evPut e).aclCnt = d.aclCnt := by obtain ⟨_, _, _, q⟩ := evPut_frame d e; rw [q]
@[simp] theorem evPut_nhCnt (d : Dev) (e : Event) : (d.evPut e).nhCnt = d.nhCnt := by obtain ⟨_, _, _, q⟩ := evPut_frame d e; rw [q]
@[simp] theorem evPut_pe (d : Dev) (e : Event) : (d.evPut e).pe = d.pe := by obtain ⟨_, _, _, q⟩ := evPut_frame d e; rw [q]
@[simp] theorem evPut_buf (d : Dev) (e : Event) : (d.evPut e).buf = d.buf := by obtain ⟨_, _, _, q⟩ := evPut_frame d e; rw [q]
@[simp] theorem evPut_qs (d : Dev) (e : Event) : (d.evPut e).qs = d.qs := by obtain ⟨_, _, _, q⟩ := evPut_frame d e; rw [q]
@[simp] theorem evPut_sch (d : Dev) (e : Event) : (d.evPut e).sch = d.sch := by obtain ⟨_, _, _, q⟩ := evPut_frame d e; rw [q]
@[simp] theorem evPut_hbm (d : Dev) (e : Event) : (d.evPut e).hbm = d.hbm := by obtain ⟨_, _, _, q⟩ := evPut_frame d e; rw [q]
@[simp] theorem evPut_csw (d : Dev) (e : Event) : (d.evPut e).csw = d.csw := by obtain ⟨_, _, _, q⟩ := evPut_frame d e; rw [q]
@[simp] theorem evPut_fab (d : Dev) (e : Event) : (d.evPut e).fab = d.fab := by obtain ⟨_, _, _, q⟩ := evPut_frame d e; rw [q]
@[simp] theorem evPut_time (d : Dev) (e : Event) : (d.evPut e).time = d.time := by obtain ⟨_, _, _, q⟩ := evPut_frame d e; rw [q]
@[simp] theorem evPut_dma (d : Dev) (e : Event) : (d.evPut e).dma = d.dma := by obtain ⟨_, _, _, q⟩ := evPut_frame d e; rw [q]
@[simp] theorem evPut_tri (d : Dev) (e : Event) : (d.evPut e).tri = d.tri := by obtain ⟨_, _, _, q⟩ := evPut_frame d e; rw [q]
@[simp] theorem evPut_bridge (d : Dev) (e : Event) : (d.evPut e).bridge = d.bridge := by obtain ⟨_, _, _, q⟩ := evPut_frame d e; rw [q]
@[simp] theorem evPut_fw (d : Dev) (e : Event) : (d.evPut e).fw = d.fw := by obtain ⟨_, _, _, q⟩ := evPut_frame d e; rw [q]
@[simp] theorem evPut_pwr (d : Dev) (e : Event) : (d.evPut e).pwr = d.pwr := by obtain ⟨_, _, _, q⟩ := evPut_frame d e; rw [q]
@[simp] theorem evPut_sec (d : Dev) (e : Event) : (d.evPut e).sec = d.sec := by obtain ⟨_, _, _, q⟩ := evPut_frame d e; rw [q]
@[simp] theorem evPut_jtag (d : Dev) (e : Event) : (d.evPut e).jtag = d.jtag := by obtain ⟨_, _, _, q⟩ := evPut_frame d e; rw [q]

@[simp] theorem raise_now (d : Dev) (a b c : Nat) (l : List Fld) : (d.raise a b c l).now = d.now := by obtain ⟨_, _, _, q⟩ := raise_frame d a b c l; rw [q]
@[simp] theorem raise_fresh (d : Dev) (a b c : Nat) (l : List Fld) : (d.raise a b c l).fresh = d.fresh := by obtain ⟨_, _, _, q⟩ := raise_frame d a b c l; rw [q]
@[simp] theorem raise_port (d : Dev) (a b c : Nat) (l : List Fld) : (d.raise a b c l).port = d.port := by obtain ⟨_, _, _, q⟩ := raise_frame d a b c l; rw [q]
@[simp] theorem raise_lane (d : Dev) (a b c : Nat) (l : List Fld) : (d.raise a b c l).lane = d.lane := by obtain ⟨_, _, _, q⟩ := raise_frame d a b c l; rw [q]
@[simp] theorem raise_pmSeq15 (d : Dev) (a b c : Nat) (l : List Fld) : (d.raise a b c l).pmSeq15 = d.pmSeq15 := by obtain ⟨_, _, _, q⟩ := raise_frame d a b c l; rw [q]
@[simp] theorem raise_pmSeqDay (d : Dev) (a b c : Nat) (l : List Fld) : (d.raise a b c l).pmSeqDay = d.pmSeqDay := by obtain ⟨_, _, _, q⟩ := raise_frame d a b c l; rw [q]
@[simp] theorem raise_fwd (d : Dev) (a b c : Nat) (l : List Fld) : (d.raise a b c l).fwd = d.fwd := by obtain ⟨_, _, _, q⟩ := raise_frame d a b c l; rw [q]
@[simp] theorem raise_pipe (d : Dev) (a b c : Nat) (l : List Fld) : (d.raise a b c l).pipe = d.pipe := by obtain ⟨_, _, _, q⟩ := raise_frame d a b c l; rw [q]
@[simp] theorem raise_fids (d : Dev) (a b c : Nat) (l : List Fld) : (d.raise a b c l).fids = d.fids := by obtain ⟨_, _, _, q⟩ := raise_frame d a b c l; rw [q]
@[simp] theorem raise_tx (d : Dev) (a b c : Nat) (l : List Fld) : (d.raise a b c l).tx = d.tx := by obtain ⟨_, _, _, q⟩ := raise_frame d a b c l; rw [q]
@[simp] theorem raise_portDrops (d : Dev) (a b c : Nat) (l : List Fld) : (d.raise a b c l).portDrops = d.portDrops := by obtain ⟨_, _, _, q⟩ := raise_frame d a b c l; rw [q]
@[simp] theorem raise_laneDrops (d : Dev) (a b c : Nat) (l : List Fld) : (d.raise a b c l).laneDrops = d.laneDrops := by obtain ⟨_, _, _, q⟩ := raise_frame d a b c l; rw [q]
@[simp] theorem raise_cnt (d : Dev) (a b c : Nat) (l : List Fld) : (d.raise a b c l).cnt = d.cnt := by obtain ⟨_, _, _, q⟩ := raise_frame d a b c l; rw [q]
@[simp] theorem raise_aclCnt (d : Dev) (a b c : Nat) (l : List Fld) : (d.raise a b c l).aclCnt = d.aclCnt := by obtain ⟨_, _, _, q⟩ := raise_frame d a b c l; rw [q]
@[simp] theorem raise_nhCnt (d : Dev) (a b c : Nat) (l : List Fld) : (d.raise a b c l).nhCnt = d.nhCnt := by obtain ⟨_, _, _, q⟩ := raise_frame d a b c l; rw [q]
@[simp] theorem raise_pe (d : Dev) (a b c : Nat) (l : List Fld) : (d.raise a b c l).pe = d.pe := by obtain ⟨_, _, _, q⟩ := raise_frame d a b c l; rw [q]
@[simp] theorem raise_buf (d : Dev) (a b c : Nat) (l : List Fld) : (d.raise a b c l).buf = d.buf := by obtain ⟨_, _, _, q⟩ := raise_frame d a b c l; rw [q]
@[simp] theorem raise_qs (d : Dev) (a b c : Nat) (l : List Fld) : (d.raise a b c l).qs = d.qs := by obtain ⟨_, _, _, q⟩ := raise_frame d a b c l; rw [q]
@[simp] theorem raise_sch (d : Dev) (a b c : Nat) (l : List Fld) : (d.raise a b c l).sch = d.sch := by obtain ⟨_, _, _, q⟩ := raise_frame d a b c l; rw [q]
@[simp] theorem raise_hbm (d : Dev) (a b c : Nat) (l : List Fld) : (d.raise a b c l).hbm = d.hbm := by obtain ⟨_, _, _, q⟩ := raise_frame d a b c l; rw [q]
@[simp] theorem raise_csw (d : Dev) (a b c : Nat) (l : List Fld) : (d.raise a b c l).csw = d.csw := by obtain ⟨_, _, _, q⟩ := raise_frame d a b c l; rw [q]
@[simp] theorem raise_fab (d : Dev) (a b c : Nat) (l : List Fld) : (d.raise a b c l).fab = d.fab := by obtain ⟨_, _, _, q⟩ := raise_frame d a b c l; rw [q]
@[simp] theorem raise_time (d : Dev) (a b c : Nat) (l : List Fld) : (d.raise a b c l).time = d.time := by obtain ⟨_, _, _, q⟩ := raise_frame d a b c l; rw [q]
@[simp] theorem raise_dma (d : Dev) (a b c : Nat) (l : List Fld) : (d.raise a b c l).dma = d.dma := by obtain ⟨_, _, _, q⟩ := raise_frame d a b c l; rw [q]
@[simp] theorem raise_tri (d : Dev) (a b c : Nat) (l : List Fld) : (d.raise a b c l).tri = d.tri := by obtain ⟨_, _, _, q⟩ := raise_frame d a b c l; rw [q]
@[simp] theorem raise_bridge (d : Dev) (a b c : Nat) (l : List Fld) : (d.raise a b c l).bridge = d.bridge := by obtain ⟨_, _, _, q⟩ := raise_frame d a b c l; rw [q]
@[simp] theorem raise_fw (d : Dev) (a b c : Nat) (l : List Fld) : (d.raise a b c l).fw = d.fw := by obtain ⟨_, _, _, q⟩ := raise_frame d a b c l; rw [q]
@[simp] theorem raise_pwr (d : Dev) (a b c : Nat) (l : List Fld) : (d.raise a b c l).pwr = d.pwr := by obtain ⟨_, _, _, q⟩ := raise_frame d a b c l; rw [q]
@[simp] theorem raise_sec (d : Dev) (a b c : Nat) (l : List Fld) : (d.raise a b c l).sec = d.sec := by obtain ⟨_, _, _, q⟩ := raise_frame d a b c l; rw [q]
@[simp] theorem raise_jtag (d : Dev) (a b c : Nat) (l : List Fld) : (d.raise a b c l).jtag = d.jtag := by obtain ⟨_, _, _, q⟩ := raise_frame d a b c l; rw [q]

@[simp] theorem raiseObj_now (d : Dev) (k : Nat) (x : Obj) (st : ObjSt) (b : Bool) (n : Nat) : (d.raiseObj k x st b n).now = d.now := by obtain ⟨_, _, _, q⟩ := raiseObj_frame d k x st b n; rw [q]
@[simp] theorem raiseObj_fresh (d : Dev) (k : Nat) (x : Obj) (st : ObjSt) (b : Bool) (n : Nat) : (d.raiseObj k x st b n).fresh = d.fresh := by obtain ⟨_, _, _, q⟩ := raiseObj_frame d k x st b n; rw [q]
@[simp] theorem raiseObj_port (d : Dev) (k : Nat) (x : Obj) (st : ObjSt) (b : Bool) (n : Nat) : (d.raiseObj k x st b n).port = d.port := by obtain ⟨_, _, _, q⟩ := raiseObj_frame d k x st b n; rw [q]
@[simp] theorem raiseObj_lane (d : Dev) (k : Nat) (x : Obj) (st : ObjSt) (b : Bool) (n : Nat) : (d.raiseObj k x st b n).lane = d.lane := by obtain ⟨_, _, _, q⟩ := raiseObj_frame d k x st b n; rw [q]
@[simp] theorem raiseObj_pmSeq15 (d : Dev) (k : Nat) (x : Obj) (st : ObjSt) (b : Bool) (n : Nat) : (d.raiseObj k x st b n).pmSeq15 = d.pmSeq15 := by obtain ⟨_, _, _, q⟩ := raiseObj_frame d k x st b n; rw [q]
@[simp] theorem raiseObj_pmSeqDay (d : Dev) (k : Nat) (x : Obj) (st : ObjSt) (b : Bool) (n : Nat) : (d.raiseObj k x st b n).pmSeqDay = d.pmSeqDay := by obtain ⟨_, _, _, q⟩ := raiseObj_frame d k x st b n; rw [q]
@[simp] theorem raiseObj_fwd (d : Dev) (k : Nat) (x : Obj) (st : ObjSt) (b : Bool) (n : Nat) : (d.raiseObj k x st b n).fwd = d.fwd := by obtain ⟨_, _, _, q⟩ := raiseObj_frame d k x st b n; rw [q]
@[simp] theorem raiseObj_pipe (d : Dev) (k : Nat) (x : Obj) (st : ObjSt) (b : Bool) (n : Nat) : (d.raiseObj k x st b n).pipe = d.pipe := by obtain ⟨_, _, _, q⟩ := raiseObj_frame d k x st b n; rw [q]
@[simp] theorem raiseObj_fids (d : Dev) (k : Nat) (x : Obj) (st : ObjSt) (b : Bool) (n : Nat) : (d.raiseObj k x st b n).fids = d.fids := by obtain ⟨_, _, _, q⟩ := raiseObj_frame d k x st b n; rw [q]
@[simp] theorem raiseObj_tx (d : Dev) (k : Nat) (x : Obj) (st : ObjSt) (b : Bool) (n : Nat) : (d.raiseObj k x st b n).tx = d.tx := by obtain ⟨_, _, _, q⟩ := raiseObj_frame d k x st b n; rw [q]
@[simp] theorem raiseObj_portDrops (d : Dev) (k : Nat) (x : Obj) (st : ObjSt) (b : Bool) (n : Nat) : (d.raiseObj k x st b n).portDrops = d.portDrops := by obtain ⟨_, _, _, q⟩ := raiseObj_frame d k x st b n; rw [q]
@[simp] theorem raiseObj_laneDrops (d : Dev) (k : Nat) (x : Obj) (st : ObjSt) (b : Bool) (n : Nat) : (d.raiseObj k x st b n).laneDrops = d.laneDrops := by obtain ⟨_, _, _, q⟩ := raiseObj_frame d k x st b n; rw [q]
@[simp] theorem raiseObj_cnt (d : Dev) (k : Nat) (x : Obj) (st : ObjSt) (b : Bool) (n : Nat) : (d.raiseObj k x st b n).cnt = d.cnt := by obtain ⟨_, _, _, q⟩ := raiseObj_frame d k x st b n; rw [q]
@[simp] theorem raiseObj_aclCnt (d : Dev) (k : Nat) (x : Obj) (st : ObjSt) (b : Bool) (n : Nat) : (d.raiseObj k x st b n).aclCnt = d.aclCnt := by obtain ⟨_, _, _, q⟩ := raiseObj_frame d k x st b n; rw [q]
@[simp] theorem raiseObj_nhCnt (d : Dev) (k : Nat) (x : Obj) (st : ObjSt) (b : Bool) (n : Nat) : (d.raiseObj k x st b n).nhCnt = d.nhCnt := by obtain ⟨_, _, _, q⟩ := raiseObj_frame d k x st b n; rw [q]
@[simp] theorem raiseObj_pe (d : Dev) (k : Nat) (x : Obj) (st : ObjSt) (b : Bool) (n : Nat) : (d.raiseObj k x st b n).pe = d.pe := by obtain ⟨_, _, _, q⟩ := raiseObj_frame d k x st b n; rw [q]
@[simp] theorem raiseObj_buf (d : Dev) (k : Nat) (x : Obj) (st : ObjSt) (b : Bool) (n : Nat) : (d.raiseObj k x st b n).buf = d.buf := by obtain ⟨_, _, _, q⟩ := raiseObj_frame d k x st b n; rw [q]
@[simp] theorem raiseObj_qs (d : Dev) (k : Nat) (x : Obj) (st : ObjSt) (b : Bool) (n : Nat) : (d.raiseObj k x st b n).qs = d.qs := by obtain ⟨_, _, _, q⟩ := raiseObj_frame d k x st b n; rw [q]
@[simp] theorem raiseObj_sch (d : Dev) (k : Nat) (x : Obj) (st : ObjSt) (b : Bool) (n : Nat) : (d.raiseObj k x st b n).sch = d.sch := by obtain ⟨_, _, _, q⟩ := raiseObj_frame d k x st b n; rw [q]
@[simp] theorem raiseObj_hbm (d : Dev) (k : Nat) (x : Obj) (st : ObjSt) (b : Bool) (n : Nat) : (d.raiseObj k x st b n).hbm = d.hbm := by obtain ⟨_, _, _, q⟩ := raiseObj_frame d k x st b n; rw [q]
@[simp] theorem raiseObj_csw (d : Dev) (k : Nat) (x : Obj) (st : ObjSt) (b : Bool) (n : Nat) : (d.raiseObj k x st b n).csw = d.csw := by obtain ⟨_, _, _, q⟩ := raiseObj_frame d k x st b n; rw [q]
@[simp] theorem raiseObj_fab (d : Dev) (k : Nat) (x : Obj) (st : ObjSt) (b : Bool) (n : Nat) : (d.raiseObj k x st b n).fab = d.fab := by obtain ⟨_, _, _, q⟩ := raiseObj_frame d k x st b n; rw [q]
@[simp] theorem raiseObj_time (d : Dev) (k : Nat) (x : Obj) (st : ObjSt) (b : Bool) (n : Nat) : (d.raiseObj k x st b n).time = d.time := by obtain ⟨_, _, _, q⟩ := raiseObj_frame d k x st b n; rw [q]
@[simp] theorem raiseObj_dma (d : Dev) (k : Nat) (x : Obj) (st : ObjSt) (b : Bool) (n : Nat) : (d.raiseObj k x st b n).dma = d.dma := by obtain ⟨_, _, _, q⟩ := raiseObj_frame d k x st b n; rw [q]
@[simp] theorem raiseObj_tri (d : Dev) (k : Nat) (x : Obj) (st : ObjSt) (b : Bool) (n : Nat) : (d.raiseObj k x st b n).tri = d.tri := by obtain ⟨_, _, _, q⟩ := raiseObj_frame d k x st b n; rw [q]
@[simp] theorem raiseObj_bridge (d : Dev) (k : Nat) (x : Obj) (st : ObjSt) (b : Bool) (n : Nat) : (d.raiseObj k x st b n).bridge = d.bridge := by obtain ⟨_, _, _, q⟩ := raiseObj_frame d k x st b n; rw [q]
@[simp] theorem raiseObj_fw (d : Dev) (k : Nat) (x : Obj) (st : ObjSt) (b : Bool) (n : Nat) : (d.raiseObj k x st b n).fw = d.fw := by obtain ⟨_, _, _, q⟩ := raiseObj_frame d k x st b n; rw [q]
@[simp] theorem raiseObj_pwr (d : Dev) (k : Nat) (x : Obj) (st : ObjSt) (b : Bool) (n : Nat) : (d.raiseObj k x st b n).pwr = d.pwr := by obtain ⟨_, _, _, q⟩ := raiseObj_frame d k x st b n; rw [q]
@[simp] theorem raiseObj_sec (d : Dev) (k : Nat) (x : Obj) (st : ObjSt) (b : Bool) (n : Nat) : (d.raiseObj k x st b n).sec = d.sec := by obtain ⟨_, _, _, q⟩ := raiseObj_frame d k x st b n; rw [q]
@[simp] theorem raiseObj_jtag (d : Dev) (k : Nat) (x : Obj) (st : ObjSt) (b : Bool) (n : Nat) : (d.raiseObj k x st b n).jtag = d.jtag := by obtain ⟨_, _, _, q⟩ := raiseObj_frame d k x st b n; rw [q]

@[simp] theorem raiseCounted_now (d : Dev) (a b c e f : Nat) (l : List Fld) : (d.raiseCounted a b c e f l).now = d.now := by obtain ⟨_, _, _, q⟩ := raiseCounted_frame d a b c e f l; rw [q]
@[simp] theorem raiseCounted_fresh (d : Dev) (a b c e f : Nat) (l : List Fld) : (d.raiseCounted a b c e f l).fresh = d.fresh := by obtain ⟨_, _, _, q⟩ := raiseCounted_frame d a b c e f l; rw [q]
@[simp] theorem raiseCounted_port (d : Dev) (a b c e f : Nat) (l : List Fld) : (d.raiseCounted a b c e f l).port = d.port := by obtain ⟨_, _, _, q⟩ := raiseCounted_frame d a b c e f l; rw [q]
@[simp] theorem raiseCounted_lane (d : Dev) (a b c e f : Nat) (l : List Fld) : (d.raiseCounted a b c e f l).lane = d.lane := by obtain ⟨_, _, _, q⟩ := raiseCounted_frame d a b c e f l; rw [q]
@[simp] theorem raiseCounted_pmSeq15 (d : Dev) (a b c e f : Nat) (l : List Fld) : (d.raiseCounted a b c e f l).pmSeq15 = d.pmSeq15 := by obtain ⟨_, _, _, q⟩ := raiseCounted_frame d a b c e f l; rw [q]
@[simp] theorem raiseCounted_pmSeqDay (d : Dev) (a b c e f : Nat) (l : List Fld) : (d.raiseCounted a b c e f l).pmSeqDay = d.pmSeqDay := by obtain ⟨_, _, _, q⟩ := raiseCounted_frame d a b c e f l; rw [q]
@[simp] theorem raiseCounted_fwd (d : Dev) (a b c e f : Nat) (l : List Fld) : (d.raiseCounted a b c e f l).fwd = d.fwd := by obtain ⟨_, _, _, q⟩ := raiseCounted_frame d a b c e f l; rw [q]
@[simp] theorem raiseCounted_pipe (d : Dev) (a b c e f : Nat) (l : List Fld) : (d.raiseCounted a b c e f l).pipe = d.pipe := by obtain ⟨_, _, _, q⟩ := raiseCounted_frame d a b c e f l; rw [q]
@[simp] theorem raiseCounted_fids (d : Dev) (a b c e f : Nat) (l : List Fld) : (d.raiseCounted a b c e f l).fids = d.fids := by obtain ⟨_, _, _, q⟩ := raiseCounted_frame d a b c e f l; rw [q]
@[simp] theorem raiseCounted_tx (d : Dev) (a b c e f : Nat) (l : List Fld) : (d.raiseCounted a b c e f l).tx = d.tx := by obtain ⟨_, _, _, q⟩ := raiseCounted_frame d a b c e f l; rw [q]
@[simp] theorem raiseCounted_portDrops (d : Dev) (a b c e f : Nat) (l : List Fld) : (d.raiseCounted a b c e f l).portDrops = d.portDrops := by obtain ⟨_, _, _, q⟩ := raiseCounted_frame d a b c e f l; rw [q]
@[simp] theorem raiseCounted_laneDrops (d : Dev) (a b c e f : Nat) (l : List Fld) : (d.raiseCounted a b c e f l).laneDrops = d.laneDrops := by obtain ⟨_, _, _, q⟩ := raiseCounted_frame d a b c e f l; rw [q]
@[simp] theorem raiseCounted_cnt (d : Dev) (a b c e f : Nat) (l : List Fld) : (d.raiseCounted a b c e f l).cnt = d.cnt := by obtain ⟨_, _, _, q⟩ := raiseCounted_frame d a b c e f l; rw [q]
@[simp] theorem raiseCounted_aclCnt (d : Dev) (a b c e f : Nat) (l : List Fld) : (d.raiseCounted a b c e f l).aclCnt = d.aclCnt := by obtain ⟨_, _, _, q⟩ := raiseCounted_frame d a b c e f l; rw [q]
@[simp] theorem raiseCounted_nhCnt (d : Dev) (a b c e f : Nat) (l : List Fld) : (d.raiseCounted a b c e f l).nhCnt = d.nhCnt := by obtain ⟨_, _, _, q⟩ := raiseCounted_frame d a b c e f l; rw [q]
@[simp] theorem raiseCounted_pe (d : Dev) (a b c e f : Nat) (l : List Fld) : (d.raiseCounted a b c e f l).pe = d.pe := by obtain ⟨_, _, _, q⟩ := raiseCounted_frame d a b c e f l; rw [q]
@[simp] theorem raiseCounted_buf (d : Dev) (a b c e f : Nat) (l : List Fld) : (d.raiseCounted a b c e f l).buf = d.buf := by obtain ⟨_, _, _, q⟩ := raiseCounted_frame d a b c e f l; rw [q]
@[simp] theorem raiseCounted_qs (d : Dev) (a b c e f : Nat) (l : List Fld) : (d.raiseCounted a b c e f l).qs = d.qs := by obtain ⟨_, _, _, q⟩ := raiseCounted_frame d a b c e f l; rw [q]
@[simp] theorem raiseCounted_sch (d : Dev) (a b c e f : Nat) (l : List Fld) : (d.raiseCounted a b c e f l).sch = d.sch := by obtain ⟨_, _, _, q⟩ := raiseCounted_frame d a b c e f l; rw [q]
@[simp] theorem raiseCounted_hbm (d : Dev) (a b c e f : Nat) (l : List Fld) : (d.raiseCounted a b c e f l).hbm = d.hbm := by obtain ⟨_, _, _, q⟩ := raiseCounted_frame d a b c e f l; rw [q]
@[simp] theorem raiseCounted_csw (d : Dev) (a b c e f : Nat) (l : List Fld) : (d.raiseCounted a b c e f l).csw = d.csw := by obtain ⟨_, _, _, q⟩ := raiseCounted_frame d a b c e f l; rw [q]
@[simp] theorem raiseCounted_fab (d : Dev) (a b c e f : Nat) (l : List Fld) : (d.raiseCounted a b c e f l).fab = d.fab := by obtain ⟨_, _, _, q⟩ := raiseCounted_frame d a b c e f l; rw [q]
@[simp] theorem raiseCounted_time (d : Dev) (a b c e f : Nat) (l : List Fld) : (d.raiseCounted a b c e f l).time = d.time := by obtain ⟨_, _, _, q⟩ := raiseCounted_frame d a b c e f l; rw [q]
@[simp] theorem raiseCounted_dma (d : Dev) (a b c e f : Nat) (l : List Fld) : (d.raiseCounted a b c e f l).dma = d.dma := by obtain ⟨_, _, _, q⟩ := raiseCounted_frame d a b c e f l; rw [q]
@[simp] theorem raiseCounted_tri (d : Dev) (a b c e f : Nat) (l : List Fld) : (d.raiseCounted a b c e f l).tri = d.tri := by obtain ⟨_, _, _, q⟩ := raiseCounted_frame d a b c e f l; rw [q]
@[simp] theorem raiseCounted_bridge (d : Dev) (a b c e f : Nat) (l : List Fld) : (d.raiseCounted a b c e f l).bridge = d.bridge := by obtain ⟨_, _, _, q⟩ := raiseCounted_frame d a b c e f l; rw [q]
@[simp] theorem raiseCounted_fw (d : Dev) (a b c e f : Nat) (l : List Fld) : (d.raiseCounted a b c e f l).fw = d.fw := by obtain ⟨_, _, _, q⟩ := raiseCounted_frame d a b c e f l; rw [q]
@[simp] theorem raiseCounted_pwr (d : Dev) (a b c e f : Nat) (l : List Fld) : (d.raiseCounted a b c e f l).pwr = d.pwr := by obtain ⟨_, _, _, q⟩ := raiseCounted_frame d a b c e f l; rw [q]
@[simp] theorem raiseCounted_sec (d : Dev) (a b c e f : Nat) (l : List Fld) : (d.raiseCounted a b c e f l).sec = d.sec := by obtain ⟨_, _, _, q⟩ := raiseCounted_frame d a b c e f l; rw [q]
@[simp] theorem raiseCounted_jtag (d : Dev) (a b c e f : Nat) (l : List Fld) : (d.raiseCounted a b c e f l).jtag = d.jtag := by obtain ⟨_, _, _, q⟩ := raiseCounted_frame d a b c e f l; rw [q]

@[simp] theorem raiseLimited_now (d : Dev) (a b c e : Nat) (l : List Fld) : (d.raiseLimited a b c e l).now = d.now := by obtain ⟨_, _, _, q⟩ := raiseLimited_frame d a b c e l; rw [q]
@[simp] theorem raiseLimited_fresh (d : Dev) (a b c e : Nat) (l : List Fld) : (d.raiseLimited a b c e l).fresh = d.fresh := by obtain ⟨_, _, _, q⟩ := raiseLimited_frame d a b c e l; rw [q]
@[simp] theorem raiseLimited_port (d : Dev) (a b c e : Nat) (l : List Fld) : (d.raiseLimited a b c e l).port = d.port := by obtain ⟨_, _, _, q⟩ := raiseLimited_frame d a b c e l; rw [q]
@[simp] theorem raiseLimited_lane (d : Dev) (a b c e : Nat) (l : List Fld) : (d.raiseLimited a b c e l).lane = d.lane := by obtain ⟨_, _, _, q⟩ := raiseLimited_frame d a b c e l; rw [q]
@[simp] theorem raiseLimited_pmSeq15 (d : Dev) (a b c e : Nat) (l : List Fld) : (d.raiseLimited a b c e l).pmSeq15 = d.pmSeq15 := by obtain ⟨_, _, _, q⟩ := raiseLimited_frame d a b c e l; rw [q]
@[simp] theorem raiseLimited_pmSeqDay (d : Dev) (a b c e : Nat) (l : List Fld) : (d.raiseLimited a b c e l).pmSeqDay = d.pmSeqDay := by obtain ⟨_, _, _, q⟩ := raiseLimited_frame d a b c e l; rw [q]
@[simp] theorem raiseLimited_fwd (d : Dev) (a b c e : Nat) (l : List Fld) : (d.raiseLimited a b c e l).fwd = d.fwd := by obtain ⟨_, _, _, q⟩ := raiseLimited_frame d a b c e l; rw [q]
@[simp] theorem raiseLimited_pipe (d : Dev) (a b c e : Nat) (l : List Fld) : (d.raiseLimited a b c e l).pipe = d.pipe := by obtain ⟨_, _, _, q⟩ := raiseLimited_frame d a b c e l; rw [q]
@[simp] theorem raiseLimited_fids (d : Dev) (a b c e : Nat) (l : List Fld) : (d.raiseLimited a b c e l).fids = d.fids := by obtain ⟨_, _, _, q⟩ := raiseLimited_frame d a b c e l; rw [q]
@[simp] theorem raiseLimited_tx (d : Dev) (a b c e : Nat) (l : List Fld) : (d.raiseLimited a b c e l).tx = d.tx := by obtain ⟨_, _, _, q⟩ := raiseLimited_frame d a b c e l; rw [q]
@[simp] theorem raiseLimited_portDrops (d : Dev) (a b c e : Nat) (l : List Fld) : (d.raiseLimited a b c e l).portDrops = d.portDrops := by obtain ⟨_, _, _, q⟩ := raiseLimited_frame d a b c e l; rw [q]
@[simp] theorem raiseLimited_laneDrops (d : Dev) (a b c e : Nat) (l : List Fld) : (d.raiseLimited a b c e l).laneDrops = d.laneDrops := by obtain ⟨_, _, _, q⟩ := raiseLimited_frame d a b c e l; rw [q]
@[simp] theorem raiseLimited_cnt (d : Dev) (a b c e : Nat) (l : List Fld) : (d.raiseLimited a b c e l).cnt = d.cnt := by obtain ⟨_, _, _, q⟩ := raiseLimited_frame d a b c e l; rw [q]
@[simp] theorem raiseLimited_aclCnt (d : Dev) (a b c e : Nat) (l : List Fld) : (d.raiseLimited a b c e l).aclCnt = d.aclCnt := by obtain ⟨_, _, _, q⟩ := raiseLimited_frame d a b c e l; rw [q]
@[simp] theorem raiseLimited_nhCnt (d : Dev) (a b c e : Nat) (l : List Fld) : (d.raiseLimited a b c e l).nhCnt = d.nhCnt := by obtain ⟨_, _, _, q⟩ := raiseLimited_frame d a b c e l; rw [q]
@[simp] theorem raiseLimited_pe (d : Dev) (a b c e : Nat) (l : List Fld) : (d.raiseLimited a b c e l).pe = d.pe := by obtain ⟨_, _, _, q⟩ := raiseLimited_frame d a b c e l; rw [q]
@[simp] theorem raiseLimited_buf (d : Dev) (a b c e : Nat) (l : List Fld) : (d.raiseLimited a b c e l).buf = d.buf := by obtain ⟨_, _, _, q⟩ := raiseLimited_frame d a b c e l; rw [q]
@[simp] theorem raiseLimited_qs (d : Dev) (a b c e : Nat) (l : List Fld) : (d.raiseLimited a b c e l).qs = d.qs := by obtain ⟨_, _, _, q⟩ := raiseLimited_frame d a b c e l; rw [q]
@[simp] theorem raiseLimited_sch (d : Dev) (a b c e : Nat) (l : List Fld) : (d.raiseLimited a b c e l).sch = d.sch := by obtain ⟨_, _, _, q⟩ := raiseLimited_frame d a b c e l; rw [q]
@[simp] theorem raiseLimited_hbm (d : Dev) (a b c e : Nat) (l : List Fld) : (d.raiseLimited a b c e l).hbm = d.hbm := by obtain ⟨_, _, _, q⟩ := raiseLimited_frame d a b c e l; rw [q]
@[simp] theorem raiseLimited_csw (d : Dev) (a b c e : Nat) (l : List Fld) : (d.raiseLimited a b c e l).csw = d.csw := by obtain ⟨_, _, _, q⟩ := raiseLimited_frame d a b c e l; rw [q]
@[simp] theorem raiseLimited_fab (d : Dev) (a b c e : Nat) (l : List Fld) : (d.raiseLimited a b c e l).fab = d.fab := by obtain ⟨_, _, _, q⟩ := raiseLimited_frame d a b c e l; rw [q]
@[simp] theorem raiseLimited_time (d : Dev) (a b c e : Nat) (l : List Fld) : (d.raiseLimited a b c e l).time = d.time := by obtain ⟨_, _, _, q⟩ := raiseLimited_frame d a b c e l; rw [q]
@[simp] theorem raiseLimited_dma (d : Dev) (a b c e : Nat) (l : List Fld) : (d.raiseLimited a b c e l).dma = d.dma := by obtain ⟨_, _, _, q⟩ := raiseLimited_frame d a b c e l; rw [q]
@[simp] theorem raiseLimited_tri (d : Dev) (a b c e : Nat) (l : List Fld) : (d.raiseLimited a b c e l).tri = d.tri := by obtain ⟨_, _, _, q⟩ := raiseLimited_frame d a b c e l; rw [q]
@[simp] theorem raiseLimited_bridge (d : Dev) (a b c e : Nat) (l : List Fld) : (d.raiseLimited a b c e l).bridge = d.bridge := by obtain ⟨_, _, _, q⟩ := raiseLimited_frame d a b c e l; rw [q]
@[simp] theorem raiseLimited_fw (d : Dev) (a b c e : Nat) (l : List Fld) : (d.raiseLimited a b c e l).fw = d.fw := by obtain ⟨_, _, _, q⟩ := raiseLimited_frame d a b c e l; rw [q]
@[simp] theorem raiseLimited_pwr (d : Dev) (a b c e : Nat) (l : List Fld) : (d.raiseLimited a b c e l).pwr = d.pwr := by obtain ⟨_, _, _, q⟩ := raiseLimited_frame d a b c e l; rw [q]
@[simp] theorem raiseLimited_sec (d : Dev) (a b c e : Nat) (l : List Fld) : (d.raiseLimited a b c e l).sec = d.sec := by obtain ⟨_, _, _, q⟩ := raiseLimited_frame d a b c e l; rw [q]
@[simp] theorem raiseLimited_jtag (d : Dev) (a b c e : Nat) (l : List Fld) : (d.raiseLimited a b c e l).jtag = d.jtag := by obtain ⟨_, _, _, q⟩ := raiseLimited_frame d a b c e l; rw [q]

@[simp] theorem sendFc_now (d : Dev) (k n : Nat) (b : Bytes) (l : Option Nat) : (d.sendFc k n b l).now = d.now := by obtain ⟨_, q⟩ := sendFc_frame d k n b l; rw [q]
@[simp] theorem sendFc_fresh (d : Dev) (k n : Nat) (b : Bytes) (l : Option Nat) : (d.sendFc k n b l).fresh = d.fresh := by obtain ⟨_, q⟩ := sendFc_frame d k n b l; rw [q]
@[simp] theorem sendFc_out (d : Dev) (k n : Nat) (b : Bytes) (l : Option Nat) : (d.sendFc k n b l).out = d.out := by obtain ⟨_, q⟩ := sendFc_frame d k n b l; rw [q]
@[simp] theorem sendFc_hif (d : Dev) (k n : Nat) (b : Bytes) (l : Option Nat) : (d.sendFc k n b l).hif = d.hif := by obtain ⟨_, q⟩ := sendFc_frame d k n b l; rw [q]
@[simp] theorem sendFc_evt (d : Dev) (k n : Nat) (b : Bytes) (l : Option Nat) : (d.sendFc k n b l).evt = d.evt := by obtain ⟨_, q⟩ := sendFc_frame d k n b l; rw [q]
@[simp] theorem sendFc_port (d : Dev) (k n : Nat) (b : Bytes) (l : Option Nat) : (d.sendFc k n b l).port = d.port := by obtain ⟨_, q⟩ := sendFc_frame d k n b l; rw [q]
@[simp] theorem sendFc_lane (d : Dev) (k n : Nat) (b : Bytes) (l : Option Nat) : (d.sendFc k n b l).lane = d.lane := by obtain ⟨_, q⟩ := sendFc_frame d k n b l; rw [q]
@[simp] theorem sendFc_pmSeq15 (d : Dev) (k n : Nat) (b : Bytes) (l : Option Nat) : (d.sendFc k n b l).pmSeq15 = d.pmSeq15 := by obtain ⟨_, q⟩ := sendFc_frame d k n b l; rw [q]
@[simp] theorem sendFc_pmSeqDay (d : Dev) (k n : Nat) (b : Bytes) (l : Option Nat) : (d.sendFc k n b l).pmSeqDay = d.pmSeqDay := by obtain ⟨_, q⟩ := sendFc_frame d k n b l; rw [q]
@[simp] theorem sendFc_fwd (d : Dev) (k n : Nat) (b : Bytes) (l : Option Nat) : (d.sendFc k n b l).fwd = d.fwd := by obtain ⟨_, q⟩ := sendFc_frame d k n b l; rw [q]
@[simp] theorem sendFc_pipe (d : Dev) (k n : Nat) (b : Bytes) (l : Option Nat) : (d.sendFc k n b l).pipe = d.pipe := by obtain ⟨_, q⟩ := sendFc_frame d k n b l; rw [q]
@[simp] theorem sendFc_fids (d : Dev) (k n : Nat) (b : Bytes) (l : Option Nat) : (d.sendFc k n b l).fids = d.fids := by obtain ⟨_, q⟩ := sendFc_frame d k n b l; rw [q]
@[simp] theorem sendFc_tx (d : Dev) (k n : Nat) (b : Bytes) (l : Option Nat) : (d.sendFc k n b l).tx = d.tx := by obtain ⟨_, q⟩ := sendFc_frame d k n b l; rw [q]
@[simp] theorem sendFc_portDrops (d : Dev) (k n : Nat) (b : Bytes) (l : Option Nat) : (d.sendFc k n b l).portDrops = d.portDrops := by obtain ⟨_, q⟩ := sendFc_frame d k n b l; rw [q]
@[simp] theorem sendFc_laneDrops (d : Dev) (k n : Nat) (b : Bytes) (l : Option Nat) : (d.sendFc k n b l).laneDrops = d.laneDrops := by obtain ⟨_, q⟩ := sendFc_frame d k n b l; rw [q]
@[simp] theorem sendFc_cnt (d : Dev) (k n : Nat) (b : Bytes) (l : Option Nat) : (d.sendFc k n b l).cnt = d.cnt := by obtain ⟨_, q⟩ := sendFc_frame d k n b l; rw [q]
@[simp] theorem sendFc_aclCnt (d : Dev) (k n : Nat) (b : Bytes) (l : Option Nat) : (d.sendFc k n b l).aclCnt = d.aclCnt := by obtain ⟨_, q⟩ := sendFc_frame d k n b l; rw [q]
@[simp] theorem sendFc_nhCnt (d : Dev) (k n : Nat) (b : Bytes) (l : Option Nat) : (d.sendFc k n b l).nhCnt = d.nhCnt := by obtain ⟨_, q⟩ := sendFc_frame d k n b l; rw [q]
@[simp] theorem sendFc_pe (d : Dev) (k n : Nat) (b : Bytes) (l : Option Nat) : (d.sendFc k n b l).pe = d.pe := by obtain ⟨_, q⟩ := sendFc_frame d k n b l; rw [q]
@[simp] theorem sendFc_buf (d : Dev) (k n : Nat) (b : Bytes) (l : Option Nat) : (d.sendFc k n b l).buf = d.buf := by obtain ⟨_, q⟩ := sendFc_frame d k n b l; rw [q]
@[simp] theorem sendFc_qs (d : Dev) (k n : Nat) (b : Bytes) (l : Option Nat) : (d.sendFc k n b l).qs = d.qs := by obtain ⟨_, q⟩ := sendFc_frame d k n b l; rw [q]
@[simp] theorem sendFc_sch (d : Dev) (k n : Nat) (b : Bytes) (l : Option Nat) : (d.sendFc k n b l).sch = d.sch := by obtain ⟨_, q⟩ := sendFc_frame d k n b l; rw [q]
@[simp] theorem sendFc_hbm (d : Dev) (k n : Nat) (b : Bytes) (l : Option Nat) : (d.sendFc k n b l).hbm = d.hbm := by obtain ⟨_, q⟩ := sendFc_frame d k n b l; rw [q]
@[simp] theorem sendFc_csw (d : Dev) (k n : Nat) (b : Bytes) (l : Option Nat) : (d.sendFc k n b l).csw = d.csw := by obtain ⟨_, q⟩ := sendFc_frame d k n b l; rw [q]
@[simp] theorem sendFc_time (d : Dev) (k n : Nat) (b : Bytes) (l : Option Nat) : (d.sendFc k n b l).time = d.time := by obtain ⟨_, q⟩ := sendFc_frame d k n b l; rw [q]
@[simp] theorem sendFc_dma (d : Dev) (k n : Nat) (b : Bytes) (l : Option Nat) : (d.sendFc k n b l).dma = d.dma := by obtain ⟨_, q⟩ := sendFc_frame d k n b l; rw [q]
@[simp] theorem sendFc_tri (d : Dev) (k n : Nat) (b : Bytes) (l : Option Nat) : (d.sendFc k n b l).tri = d.tri := by obtain ⟨_, q⟩ := sendFc_frame d k n b l; rw [q]
@[simp] theorem sendFc_bridge (d : Dev) (k n : Nat) (b : Bytes) (l : Option Nat) : (d.sendFc k n b l).bridge = d.bridge := by obtain ⟨_, q⟩ := sendFc_frame d k n b l; rw [q]
@[simp] theorem sendFc_fw (d : Dev) (k n : Nat) (b : Bytes) (l : Option Nat) : (d.sendFc k n b l).fw = d.fw := by obtain ⟨_, q⟩ := sendFc_frame d k n b l; rw [q]
@[simp] theorem sendFc_pwr (d : Dev) (k n : Nat) (b : Bytes) (l : Option Nat) : (d.sendFc k n b l).pwr = d.pwr := by obtain ⟨_, q⟩ := sendFc_frame d k n b l; rw [q]
@[simp] theorem sendFc_sec (d : Dev) (k n : Nat) (b : Bytes) (l : Option Nat) : (d.sendFc k n b l).sec = d.sec := by obtain ⟨_, q⟩ := sendFc_frame d k n b l; rw [q]
@[simp] theorem sendFc_jtag (d : Dev) (k n : Nat) (b : Bytes) (l : Option Nat) : (d.sendFc k n b l).jtag = d.jtag := by obtain ⟨_, q⟩ := sendFc_frame d k n b l; rw [q]

@[simp] theorem sendFcAll_now (d : Dev) (n : Nat) (b : Bytes) : (d.sendFcAll n b).now = d.now := by obtain ⟨_, q⟩ := sendFcAll_frame d n b; rw [q]
@[simp] theorem sendFcAll_fresh (d : Dev) (n : Nat) (b : Bytes) : (d.sendFcAll n b).fresh = d.fresh := by obtain ⟨_, q⟩ := sendFcAll_frame d n b; rw [q]
@[simp] theorem sendFcAll_out (d : Dev) (n : Nat) (b : Bytes) : (d.sendFcAll n b).out = d.out := by obtain ⟨_, q⟩ := sendFcAll_frame d n b; rw [q]
@[simp] theorem sendFcAll_hif (d : Dev) (n : Nat) (b : Bytes) : (d.sendFcAll n b).hif = d.hif := by obtain ⟨_, q⟩ := sendFcAll_frame d n b; rw [q]
@[simp] theorem sendFcAll_evt (d : Dev) (n : Nat) (b : Bytes) : (d.sendFcAll n b).evt = d.evt := by obtain ⟨_, q⟩ := sendFcAll_frame d n b; rw [q]
@[simp] theorem sendFcAll_port (d : Dev) (n : Nat) (b : Bytes) : (d.sendFcAll n b).port = d.port := by obtain ⟨_, q⟩ := sendFcAll_frame d n b; rw [q]
@[simp] theorem sendFcAll_lane (d : Dev) (n : Nat) (b : Bytes) : (d.sendFcAll n b).lane = d.lane := by obtain ⟨_, q⟩ := sendFcAll_frame d n b; rw [q]
@[simp] theorem sendFcAll_pmSeq15 (d : Dev) (n : Nat) (b : Bytes) : (d.sendFcAll n b).pmSeq15 = d.pmSeq15 := by obtain ⟨_, q⟩ := sendFcAll_frame d n b; rw [q]
@[simp] theorem sendFcAll_pmSeqDay (d : Dev) (n : Nat) (b : Bytes) : (d.sendFcAll n b).pmSeqDay = d.pmSeqDay := by obtain ⟨_, q⟩ := sendFcAll_frame d n b; rw [q]
@[simp] theorem sendFcAll_fwd (d : Dev) (n : Nat) (b : Bytes) : (d.sendFcAll n b).fwd = d.fwd := by obtain ⟨_, q⟩ := sendFcAll_frame d n b; rw [q]
@[simp] theorem sendFcAll_pipe (d : Dev) (n : Nat) (b : Bytes) : (d.sendFcAll n b).pipe = d.pipe := by obtain ⟨_, q⟩ := sendFcAll_frame d n b; rw [q]
@[simp] theorem sendFcAll_fids (d : Dev) (n : Nat) (b : Bytes) : (d.sendFcAll n b).fids = d.fids := by obtain ⟨_, q⟩ := sendFcAll_frame d n b; rw [q]
@[simp] theorem sendFcAll_tx (d : Dev) (n : Nat) (b : Bytes) : (d.sendFcAll n b).tx = d.tx := by obtain ⟨_, q⟩ := sendFcAll_frame d n b; rw [q]
@[simp] theorem sendFcAll_portDrops (d : Dev) (n : Nat) (b : Bytes) : (d.sendFcAll n b).portDrops = d.portDrops := by obtain ⟨_, q⟩ := sendFcAll_frame d n b; rw [q]
@[simp] theorem sendFcAll_laneDrops (d : Dev) (n : Nat) (b : Bytes) : (d.sendFcAll n b).laneDrops = d.laneDrops := by obtain ⟨_, q⟩ := sendFcAll_frame d n b; rw [q]
@[simp] theorem sendFcAll_cnt (d : Dev) (n : Nat) (b : Bytes) : (d.sendFcAll n b).cnt = d.cnt := by obtain ⟨_, q⟩ := sendFcAll_frame d n b; rw [q]
@[simp] theorem sendFcAll_aclCnt (d : Dev) (n : Nat) (b : Bytes) : (d.sendFcAll n b).aclCnt = d.aclCnt := by obtain ⟨_, q⟩ := sendFcAll_frame d n b; rw [q]
@[simp] theorem sendFcAll_nhCnt (d : Dev) (n : Nat) (b : Bytes) : (d.sendFcAll n b).nhCnt = d.nhCnt := by obtain ⟨_, q⟩ := sendFcAll_frame d n b; rw [q]
@[simp] theorem sendFcAll_pe (d : Dev) (n : Nat) (b : Bytes) : (d.sendFcAll n b).pe = d.pe := by obtain ⟨_, q⟩ := sendFcAll_frame d n b; rw [q]
@[simp] theorem sendFcAll_buf (d : Dev) (n : Nat) (b : Bytes) : (d.sendFcAll n b).buf = d.buf := by obtain ⟨_, q⟩ := sendFcAll_frame d n b; rw [q]
@[simp] theorem sendFcAll_qs (d : Dev) (n : Nat) (b : Bytes) : (d.sendFcAll n b).qs = d.qs := by obtain ⟨_, q⟩ := sendFcAll_frame d n b; rw [q]
@[simp] theorem sendFcAll_sch (d : Dev) (n : Nat) (b : Bytes) : (d.sendFcAll n b).sch = d.sch := by obtain ⟨_, q⟩ := sendFcAll_frame d n b; rw [q]
@[simp] theorem sendFcAll_hbm (d : Dev) (n : Nat) (b : Bytes) : (d.sendFcAll n b).hbm = d.hbm := by obtain ⟨_, q⟩ := sendFcAll_frame d n b; rw [q]
@[simp] theorem sendFcAll_csw (d : Dev) (n : Nat) (b : Bytes) : (d.sendFcAll n b).csw = d.csw := by obtain ⟨_, q⟩ := sendFcAll_frame d n b; rw [q]
@[simp] theorem sendFcAll_time (d : Dev) (n : Nat) (b : Bytes) : (d.sendFcAll n b).time = d.time := by obtain ⟨_, q⟩ := sendFcAll_frame d n b; rw [q]
@[simp] theorem sendFcAll_dma (d : Dev) (n : Nat) (b : Bytes) : (d.sendFcAll n b).dma = d.dma := by obtain ⟨_, q⟩ := sendFcAll_frame d n b; rw [q]
@[simp] theorem sendFcAll_tri (d : Dev) (n : Nat) (b : Bytes) : (d.sendFcAll n b).tri = d.tri := by obtain ⟨_, q⟩ := sendFcAll_frame d n b; rw [q]
@[simp] theorem sendFcAll_bridge (d : Dev) (n : Nat) (b : Bytes) : (d.sendFcAll n b).bridge = d.bridge := by obtain ⟨_, q⟩ := sendFcAll_frame d n b; rw [q]
@[simp] theorem sendFcAll_fw (d : Dev) (n : Nat) (b : Bytes) : (d.sendFcAll n b).fw = d.fw := by obtain ⟨_, q⟩ := sendFcAll_frame d n b; rw [q]
@[simp] theorem sendFcAll_pwr (d : Dev) (n : Nat) (b : Bytes) : (d.sendFcAll n b).pwr = d.pwr := by obtain ⟨_, q⟩ := sendFcAll_frame d n b; rw [q]
@[simp] theorem sendFcAll_sec (d : Dev) (n : Nat) (b : Bytes) : (d.sendFcAll n b).sec = d.sec := by obtain ⟨_, q⟩ := sendFcAll_frame d n b; rw [q]
@[simp] theorem sendFcAll_jtag (d : Dev) (n : Nat) (b : Bytes) : (d.sendFcAll n b).jtag = d.jtag := by obtain ⟨_, q⟩ := sendFcAll_frame d n b; rw [q]

@[simp] theorem dropCmd_now (d : Dev) (k : Nat) : (d.dropCmd k).now = d.now := by obtain ⟨_, _, _, q⟩ := dropCmd_frame d k; rw [q]
@[simp] theorem dropCmd_fresh (d : Dev) (k : Nat) : (d.dropCmd k).fresh = d.fresh := by obtain ⟨_, _, _, q⟩ := dropCmd_frame d k; rw [q]
@[simp] theorem dropCmd_out (d : Dev) (k : Nat) : (d.dropCmd k).out = d.out := by obtain ⟨_, _, _, q⟩ := dropCmd_frame d k; rw [q]
@[simp] theorem dropCmd_evt (d : Dev) (k : Nat) : (d.dropCmd k).evt = d.evt := by obtain ⟨_, _, _, q⟩ := dropCmd_frame d k; rw [q]
@[simp] theorem dropCmd_port (d : Dev) (k : Nat) : (d.dropCmd k).port = d.port := by obtain ⟨_, _, _, q⟩ := dropCmd_frame d k; rw [q]
@[simp] theorem dropCmd_lane (d : Dev) (k : Nat) : (d.dropCmd k).lane = d.lane := by obtain ⟨_, _, _, q⟩ := dropCmd_frame d k; rw [q]
@[simp] theorem dropCmd_pmSeq15 (d : Dev) (k : Nat) : (d.dropCmd k).pmSeq15 = d.pmSeq15 := by obtain ⟨_, _, _, q⟩ := dropCmd_frame d k; rw [q]
@[simp] theorem dropCmd_pmSeqDay (d : Dev) (k : Nat) : (d.dropCmd k).pmSeqDay = d.pmSeqDay := by obtain ⟨_, _, _, q⟩ := dropCmd_frame d k; rw [q]
@[simp] theorem dropCmd_fwd (d : Dev) (k : Nat) : (d.dropCmd k).fwd = d.fwd := by obtain ⟨_, _, _, q⟩ := dropCmd_frame d k; rw [q]
@[simp] theorem dropCmd_pipe (d : Dev) (k : Nat) : (d.dropCmd k).pipe = d.pipe := by obtain ⟨_, _, _, q⟩ := dropCmd_frame d k; rw [q]
@[simp] theorem dropCmd_fids (d : Dev) (k : Nat) : (d.dropCmd k).fids = d.fids := by obtain ⟨_, _, _, q⟩ := dropCmd_frame d k; rw [q]
@[simp] theorem dropCmd_tx (d : Dev) (k : Nat) : (d.dropCmd k).tx = d.tx := by obtain ⟨_, _, _, q⟩ := dropCmd_frame d k; rw [q]
@[simp] theorem dropCmd_portDrops (d : Dev) (k : Nat) : (d.dropCmd k).portDrops = d.portDrops := by obtain ⟨_, _, _, q⟩ := dropCmd_frame d k; rw [q]
@[simp] theorem dropCmd_laneDrops (d : Dev) (k : Nat) : (d.dropCmd k).laneDrops = d.laneDrops := by obtain ⟨_, _, _, q⟩ := dropCmd_frame d k; rw [q]
@[simp] theorem dropCmd_cnt (d : Dev) (k : Nat) : (d.dropCmd k).cnt = d.cnt := by obtain ⟨_, _, _, q⟩ := dropCmd_frame d k; rw [q]
@[simp] theorem dropCmd_aclCnt (d : Dev) (k : Nat) : (d.dropCmd k).aclCnt = d.aclCnt := by obtain ⟨_, _, _, q⟩ := dropCmd_frame d k; rw [q]
@[simp] theorem dropCmd_nhCnt (d : Dev) (k : Nat) : (d.dropCmd k).nhCnt = d.nhCnt := by obtain ⟨_, _, _, q⟩ := dropCmd_frame d k; rw [q]
@[simp] theorem dropCmd_pe (d : Dev) (k : Nat) : (d.dropCmd k).pe = d.pe := by obtain ⟨_, _, _, q⟩ := dropCmd_frame d k; rw [q]
@[simp] theorem dropCmd_buf (d : Dev) (k : Nat) : (d.dropCmd k).buf = d.buf := by obtain ⟨_, _, _, q⟩ := dropCmd_frame d k; rw [q]
@[simp] theorem dropCmd_qs (d : Dev) (k : Nat) : (d.dropCmd k).qs = d.qs := by obtain ⟨_, _, _, q⟩ := dropCmd_frame d k; rw [q]
@[simp] theorem dropCmd_sch (d : Dev) (k : Nat) : (d.dropCmd k).sch = d.sch := by obtain ⟨_, _, _, q⟩ := dropCmd_frame d k; rw [q]
@[simp] theorem dropCmd_hbm (d : Dev) (k : Nat) : (d.dropCmd k).hbm = d.hbm := by obtain ⟨_, _, _, q⟩ := dropCmd_frame d k; rw [q]
@[simp] theorem dropCmd_csw (d : Dev) (k : Nat) : (d.dropCmd k).csw = d.csw := by obtain ⟨_, _, _, q⟩ := dropCmd_frame d k; rw [q]
@[simp] theorem dropCmd_fab (d : Dev) (k : Nat) : (d.dropCmd k).fab = d.fab := by obtain ⟨_, _, _, q⟩ := dropCmd_frame d k; rw [q]
@[simp] theorem dropCmd_time (d : Dev) (k : Nat) : (d.dropCmd k).time = d.time := by obtain ⟨_, _, _, q⟩ := dropCmd_frame d k; rw [q]
@[simp] theorem dropCmd_dma (d : Dev) (k : Nat) : (d.dropCmd k).dma = d.dma := by obtain ⟨_, _, _, q⟩ := dropCmd_frame d k; rw [q]
@[simp] theorem dropCmd_bridge (d : Dev) (k : Nat) : (d.dropCmd k).bridge = d.bridge := by obtain ⟨_, _, _, q⟩ := dropCmd_frame d k; rw [q]
@[simp] theorem dropCmd_fw (d : Dev) (k : Nat) : (d.dropCmd k).fw = d.fw := by obtain ⟨_, _, _, q⟩ := dropCmd_frame d k; rw [q]
@[simp] theorem dropCmd_sec (d : Dev) (k : Nat) : (d.dropCmd k).sec = d.sec := by obtain ⟨_, _, _, q⟩ := dropCmd_frame d k; rw [q]
@[simp] theorem dropCmd_jtag (d : Dev) (k : Nat) : (d.dropCmd k).jtag = d.jtag := by obtain ⟨_, _, _, q⟩ := dropCmd_frame d k; rw [q]

@[simp] theorem noteWrite_now (d : Dev) (k : Nat) (w : JWord) : (d.noteWrite k w).now = d.now := by obtain ⟨_, q⟩ := noteWrite_frame d k w; rw [q]
@[simp] theorem noteWrite_fresh (d : Dev) (k : Nat) (w : JWord) : (d.noteWrite k w).fresh = d.fresh := by obtain ⟨_, q⟩ := noteWrite_frame d k w; rw [q]
@[simp] theorem noteWrite_out (d : Dev) (k : Nat) (w : JWord) : (d.noteWrite k w).out = d.out := by obtain ⟨_, q⟩ := noteWrite_frame d k w; rw [q]
@[simp] theorem noteWrite_hif (d : Dev) (k : Nat) (w : JWord) : (d.noteWrite k w).hif = d.hif := by obtain ⟨_, q⟩ := noteWrite_frame d k w; rw [q]
@[simp] theorem noteWrite_evt (d : Dev) (k : Nat) (w : JWord) : (d.noteWrite k w).evt = d.evt := by obtain ⟨_, q⟩ := noteWrite_frame d k w; rw [q]
@[simp] theorem noteWrite_port (d : Dev) (k : Nat) (w : JWord) : (d.noteWrite k w).port = d.port := by obtain ⟨_, q⟩ := noteWrite_frame d k w; rw [q]
@[simp] theorem noteWrite_lane (d : Dev) (k : Nat) (w : JWord) : (d.noteWrite k w).lane = d.lane := by obtain ⟨_, q⟩ := noteWrite_frame d k w; rw [q]
@[simp] theorem noteWrite_pmSeq15 (d : Dev) (k : Nat) (w : JWord) : (d.noteWrite k w).pmSeq15 = d.pmSeq15 := by obtain ⟨_, q⟩ := noteWrite_frame d k w; rw [q]
@[simp] theorem noteWrite_pmSeqDay (d : Dev) (k : Nat) (w : JWord) : (d.noteWrite k w).pmSeqDay = d.pmSeqDay := by obtain ⟨_, q⟩ := noteWrite_frame d k w; rw [q]
@[simp] theorem noteWrite_fwd (d : Dev) (k : Nat) (w : JWord) : (d.noteWrite k w).fwd = d.fwd := by obtain ⟨_, q⟩ := noteWrite_frame d k w; rw [q]
@[simp] theorem noteWrite_pipe (d : Dev) (k : Nat) (w : JWord) : (d.noteWrite k w).pipe = d.pipe := by obtain ⟨_, q⟩ := noteWrite_frame d k w; rw [q]
@[simp] theorem noteWrite_fids (d : Dev) (k : Nat) (w : JWord) : (d.noteWrite k w).fids = d.fids := by obtain ⟨_, q⟩ := noteWrite_frame d k w; rw [q]
@[simp] theorem noteWrite_tx (d : Dev) (k : Nat) (w : JWord) : (d.noteWrite k w).tx = d.tx := by obtain ⟨_, q⟩ := noteWrite_frame d k w; rw [q]
@[simp] theorem noteWrite_portDrops (d : Dev) (k : Nat) (w : JWord) : (d.noteWrite k w).portDrops = d.portDrops := by obtain ⟨_, q⟩ := noteWrite_frame d k w; rw [q]
@[simp] theorem noteWrite_laneDrops (d : Dev) (k : Nat) (w : JWord) : (d.noteWrite k w).laneDrops = d.laneDrops := by obtain ⟨_, q⟩ := noteWrite_frame d k w; rw [q]
@[simp] theorem noteWrite_cnt (d : Dev) (k : Nat) (w : JWord) : (d.noteWrite k w).cnt = d.cnt := by obtain ⟨_, q⟩ := noteWrite_frame d k w; rw [q]
@[simp] theorem noteWrite_aclCnt (d : Dev) (k : Nat) (w : JWord) : (d.noteWrite k w).aclCnt = d.aclCnt := by obtain ⟨_, q⟩ := noteWrite_frame d k w; rw [q]
@[simp] theorem noteWrite_nhCnt (d : Dev) (k : Nat) (w : JWord) : (d.noteWrite k w).nhCnt = d.nhCnt := by obtain ⟨_, q⟩ := noteWrite_frame d k w; rw [q]
@[simp] theorem noteWrite_pe (d : Dev) (k : Nat) (w : JWord) : (d.noteWrite k w).pe = d.pe := by obtain ⟨_, q⟩ := noteWrite_frame d k w; rw [q]
@[simp] theorem noteWrite_buf (d : Dev) (k : Nat) (w : JWord) : (d.noteWrite k w).buf = d.buf := by obtain ⟨_, q⟩ := noteWrite_frame d k w; rw [q]
@[simp] theorem noteWrite_qs (d : Dev) (k : Nat) (w : JWord) : (d.noteWrite k w).qs = d.qs := by obtain ⟨_, q⟩ := noteWrite_frame d k w; rw [q]
@[simp] theorem noteWrite_sch (d : Dev) (k : Nat) (w : JWord) : (d.noteWrite k w).sch = d.sch := by obtain ⟨_, q⟩ := noteWrite_frame d k w; rw [q]
@[simp] theorem noteWrite_hbm (d : Dev) (k : Nat) (w : JWord) : (d.noteWrite k w).hbm = d.hbm := by obtain ⟨_, q⟩ := noteWrite_frame d k w; rw [q]
@[simp] theorem noteWrite_csw (d : Dev) (k : Nat) (w : JWord) : (d.noteWrite k w).csw = d.csw := by obtain ⟨_, q⟩ := noteWrite_frame d k w; rw [q]
@[simp] theorem noteWrite_fab (d : Dev) (k : Nat) (w : JWord) : (d.noteWrite k w).fab = d.fab := by obtain ⟨_, q⟩ := noteWrite_frame d k w; rw [q]
@[simp] theorem noteWrite_time (d : Dev) (k : Nat) (w : JWord) : (d.noteWrite k w).time = d.time := by obtain ⟨_, q⟩ := noteWrite_frame d k w; rw [q]
@[simp] theorem noteWrite_dma (d : Dev) (k : Nat) (w : JWord) : (d.noteWrite k w).dma = d.dma := by obtain ⟨_, q⟩ := noteWrite_frame d k w; rw [q]
@[simp] theorem noteWrite_bridge (d : Dev) (k : Nat) (w : JWord) : (d.noteWrite k w).bridge = d.bridge := by obtain ⟨_, q⟩ := noteWrite_frame d k w; rw [q]
@[simp] theorem noteWrite_fw (d : Dev) (k : Nat) (w : JWord) : (d.noteWrite k w).fw = d.fw := by obtain ⟨_, q⟩ := noteWrite_frame d k w; rw [q]
@[simp] theorem noteWrite_pwr (d : Dev) (k : Nat) (w : JWord) : (d.noteWrite k w).pwr = d.pwr := by obtain ⟨_, q⟩ := noteWrite_frame d k w; rw [q]
@[simp] theorem noteWrite_sec (d : Dev) (k : Nat) (w : JWord) : (d.noteWrite k w).sec = d.sec := by obtain ⟨_, q⟩ := noteWrite_frame d k w; rw [q]
@[simp] theorem noteWrite_jtag (d : Dev) (k : Nat) (w : JWord) : (d.noteWrite k w).jtag = d.jtag := by obtain ⟨_, q⟩ := noteWrite_frame d k w; rw [q]

end Dev

/-- A byte written keeps the canonical form of HBM. -/
theorem hbmPutByte_wf {d : Dev} (h : Memory.wf d.hbm.mem = true) (a : Nat) (v : Byte) :
    Memory.wf (d.hbmPutByte a v).hbm.mem = true := by
  simp only [Dev.hbmPutByte]
  split
  · exact h
  · split
    · exact h
    · exact Memory_wf_tset h a v

end Sys2Proof.Machine
end

