-- ==== Sys2Proof/Tests/Slice0.lean ====
section
/-! SUPPORT. Small tests: a state and operands that meet the hypotheses of every statement, ill-formed terms for the checks of WellFormed, and
worked examples of the manual. Each theorem is about one command on a small state. -/

namespace Sys2Proof.Tests
open Sys2Proof Sys2Proof.Machine

set_option Elab.async false

/-! ### Small states -/

/-- A 32-byte payload from fields: offset, width, value. -/
def inl (l : List (Nat × Nat × Nat)) : Bytes := l.foldl (fun b x => patch b x.1 (le x.2.1 x.2.2)) (List.replicate 32 0)

/-- `n` bytes from fields: offset, width, value. -/
def bytesOf (n : Nat) (l : List (Nat × Nat × Nat)) : Bytes := l.foldl (fun b x => patch b x.1 (le x.2.1 x.2.2)) (List.replicate n 0)

/-- Mailbox 0. -/
def m0 : Src := .mbox 0

/-- The command that mailbox 0 wrote. -/
def cmdOf (op h : Nat) (b : Bytes) : Cmd :=
  { src := m0, ring := 0, intake := 0, opcode := op, fence := false, noIrq := false, handle := h, payload := 0, inl := b }

/-- A device on which that command waits. -/
def waits (d : Dev) (c : Cmd) : State := { dev := { d with hif := { d.hif with answers := true, cmds := [c] } } }

/-- A device after bring-up. -/
def ready : Dev := { hif := { answers := true, up := true } }

/-- How the command ends: the status in the mailbox, 100 where it is taken up and goes on, 101 where it still waits. -/
def answer (i : Instr) (s : State) : Nat :=
  match exec i s with
  | .next t => (match t.dev.hif.cmds with | [] => (tgetD t.dev.hif.mbox {} 0).status | c :: _ => if c.started then 100 else 101)
  | _ => 102

/-- `State.runs` as a test. -/
def runsB (s : State) (op : Nat) (c : Cmd) : Bool := s.dev.nextCmd op m0 == some c && (s.dev.gateCmd c).isNone

theorem runsB_runs {s : State} {op : Nat} {c : Cmd} (h : runsB s op c = true) : s.runs op m0 c := by
  simpa [runsB, State.runs] using h

/-- The command may run and ends with the code given. Status 0 is reached only past every test of the row. -/
def replied (code : Nat) (i : Instr) (op ty idx : Nat) (l : List (Nat × Nat × Nat)) (d : Dev := ready) : Bool :=
  let c := cmdOf op (handle ty idx) (inl l)
  runsB (waits d c) op c && answer i (waits d c) == code

/-- The answer to a command whose DATA has its own layout. -/
def repliedData (code : Nat) (i : Instr) (op : Nat) (b : Bytes) (d : Dev := ready) : Bool :=
  let c := cmdOf op 0 b
  runsB (waits d c) op c && answer i (waits d c) == code

/-- The row answers a next state whose device part meets `f`. -/
def eff (i : Instr) (d : Dev) (f : Dev → Bool) : Bool :=
  match exec i { dev := d } with
  | .next t => f t.dev
  | _ => false

/-- The size operand of a status command. -/
def sz : List (Nat × Nat × Nat) := [(28, 4, 0xFFFF)]

/-- Port 0 of one lane, STOPPED, then RUNNING. -/
def port0 (d : Dev) : Dev := { d with port := [(0, { (d.getPort 0) with width := 1 })] }
def portRun (d : Dev) : Dev := let p := d.getPort 0; { d with port := [(0, { p with width := 1, obj := { p.obj with st := .running } })] }

/-- Pipeline 0 RUNNING. -/
def pipeRun (d : Dev) : Dev := { d with pipe := [(0, { obj := { st := .running } })] }

/-- Every HBM channel RUNNING. -/
def hbmRun (d : Dev) : Dev := { d with hbm := { d.hbm with ch := (List.range 256).map fun k => (k, { obj := { st := .running } }) } }

/-! ### Host interface -/

def rings : Dev := { ready with hif := { ready.hif with
  sq := [(0, { size := 16, cq := 0, base := 4096 })], cq := [(0, { size := 16, base := 8192, tail := 3 })]
  punt := [(0, { size := 16, slot := 2048, base := 0, tail := 3 })], inj := [(0, { size := 16, slot := 2048, pipeline := 0, base := 0, wb := 0, tail := 1 })]
  ev := some { size := 256, base := 0, wb := 0, tail := 3 } } }

theorem witness_PcieRowsComplete :
    eff (.pcieConfigRequest (.read .command)) {} (fun d => d.out == [.cfgReply true none]) &&
    eff (.pcieConfigRequest (.read .classRev)) ready (fun d => d.out == [.cfgReply false (some 0x028000A1)]) &&
    eff (.pcieConfigRequest .d0) ready (fun d => d.out == [.cfgReply false none]) &&
    eff (.pcieConfigRequest (.bar true 0x12345678#64)) ready (fun d => d.hif.bar2 == 0x12340000) &&
    eff .flr ready (fun d => d.hif.reset == some { trigger := .flr, mboxes := [], lost := 0 }) &&
    eff .busMasterDisable { ready with hif := { ready.hif with busMaster := true } } (fun d => d.hif.reset.isSome) := by decide +kernel

theorem witness_IfaceResetRowsComplete :
    replied 100 (.hifIfaceReset m0) 0x003 0 0 [] &&
    eff .ifaceResetQuiesced { rings with hif := { rings.hif with reset := some { trigger := .flr, mboxes := [], lost := 0 } } }
      (fun d => d.hif.resets == 1 && d.hif.sq == []) := by decide +kernel

theorem witness_DoorbellRowsComplete :
    rings.dbOpen && eff (.sqTailWrite 0 5#16) rings (fun d => (tget d.hif.sq 0).map (·.tail) == some 5) &&
    eff (.sqTailWrite 0 16#16) rings (fun d => (tget d.hif.sq 0).map (·.tail) == some 0) &&
    eff (.cqHeadWrite 0 3#16) rings (fun d => (tget d.hif.cq 0).map (·.head) == some 3) &&
    eff (.cqHeadWrite 0 4#16) rings (fun d => (tget d.hif.cq 0).map (·.head) == some 0) &&
    eff (.puntHeadWrite 0 2#16) rings (fun d => (tget d.hif.punt 0).map (·.head) == some 2) &&
    eff (.injectTailWrite 0 2#16) rings (fun d => (tget d.hif.inj 0).map (·.tail) == some 2) &&
    eff (.eventHeadWrite 3#16) rings (fun d => d.hif.ev.map (·.head) == some 3) := by decide +kernel

theorem witness_RegisterRowsComplete :
    eff (.mbCtrlWrite 0 0x80000006#32) ready (fun d => d.hif.cmds.map (·.opcode) == [6]) &&
    eff (.mbCtrlWrite 0 0x00000006#32) ready (fun d => d.hif.cmds == []) &&
    eff (.hifIntCauseWrite 1#64) { ready with hif := { ready.hif with cause := 3 } } (fun d => d.hif.cause == 2) &&
    eff (.hifAlarmWrite 2#64) { ready with hif := { ready.hif with alarm := 3 } } (fun d => d.hif.alarm.getLsbD 0) &&
    eff (.bar0RegisterWrite 0x2000 8 0xFF#8 1#64) { ready with hif := { ready.hif with cause := 3 } } (fun d => d.hif.cause == 2) &&
    eff (.bar0RegisterWrite 0x3000 8 0xFF#8 2#64) { ready with hif := { ready.hif with alarm := 3 } } (fun d => d.hif.alarm.getLsbD 0) &&
    eff (.bar0RegisterWrite 0x1000 4 0x0F#8 0x80000006#64) ready (fun d => d.hif.cmds.length == 1) &&
    eff (.bar0RegisterWrite 0x1F0 4 0x0F#8 5#64) ready (fun d => d.evt.fifo.length == 1) &&
    eff (.bar0RegisterWrite 0x100 4 0x0F#8 5#64) rings (fun d => (tget d.hif.sq 0).map (·.tail) == some 5) &&
    eff (.bar0RegisterWrite 0x101 4 0x0F#8 5#64) rings (· == rings) := by decide +kernel

theorem witness_RegisterRowsComplete_msix :
    eff (.msixVectorMaskWrite 0 ⟨4096, 9, false⟩) ready (fun d => d.hif.msixUnmasked == [0] && d.hif.msixEntry == [(0, (4096, 9))]) &&
    eff (.msixGapExpiry 0) { ready with hif := { ready.hif with gapHeld := [0], msixEnable := true, msixUnmasked := [0] } }
      (fun d => d.out == [.msix 0 0 0] && d.hif.gapHeld == []) := by decide +kernel

theorem witness_RingRowsComplete :
    repliedData 0 (.hifRingCreate m0) 0x001 (bytesOf 240 [(0,1,1),(2,1,4),(8,8,4096)]) &&
    repliedData 0 (.hifRingCreate m0) 0x001 (bytesOf 240 [(1,1,1),(2,1,4),(8,8,4096)]) rings &&
    repliedData 5 (.hifRingCreate m0) 0x001 (bytesOf 240 [(1,1,1),(2,1,4),(8,8,4096)]) &&
    replied 0 (.hifRingDelete m0) 0x002 0 0 [(0,1,3)] rings && replied 0 (.hifSetPunt m0) 0x004 0 0 [(4,4,64),(8,8,1000000)] &&
    replied 0 (.hifSetPunt m0) 0x004 0 0 [(2,1,255),(4,4,4194304),(8,8,200000000)] &&
    replied 0 (.hifSetPunt m0) 0x004 0 0 [(0,1,1),(4,4,64),(8,8,1)] && replied 0 (.hifGetPktStatus m0) 0x005 0 0 sz := by decide +kernel

/-- The second ring has the turn: an entry joins the command list, and a failed read stops it. -/
theorem witness_RingRowsComplete_submission :
    (let d : Dev := { rings with hif := { rings.hif with sq := [(0, { size := 16, cq := 0, base := 4096, tail := 1 })] } }
     d.sqTurn == some 0 && eff (.submissionTake 0 (some (bytesOf 64 [(0,2,6),(4,2,1)]))) d
       (fun x => x.hif.cmds.map (·.opcode) == [6] && (tget x.hif.sq 0).map (·.head) == some 1) &&
     eff (.submissionTake 0 none) d (fun x => (tget x.hif.sq 0).map (·.stopped) == some true)) := by decide +kernel

/-- The command of DEV_GET_INFO, whose answer holds an open value. -/
def waitsZero : Bool := let c := cmdOf 0 0 (inl []); runsB (waits ready c) 0 c && !c.bad 0 && !c.dirty 0 32

theorem witness_InformationRowsComplete :
    waitsZero && replied 0 (.objGetState m0) 0x006 1 0 [] && replied 0 (.objGetState m0) 0x006 0x0F 5 [] &&
    eff (.smbusHealthRead .word 0#8) ready (fun d => d.out == [.smbus (some [0x00, 0x71]) false]) &&
    eff (.smbusHealthRead .byte 2#8) ready (fun d => d.out.length == 1) && eff (.smbusHealthRead .word 4#8) ready (fun d => d.out.length == 1) &&
    eff (.smbusHealthRead .word 0#8) {} (fun d => d.out == [.smbus none true]) := by decide +kernel

/-! ### Ports and lanes -/

/-- Lane 0 with signal; port 0 changed; port 0 that carries data; a time of two seconds. -/
def sig (d : Dev) : Dev := { d with lane := [(0, { (d.getLane 0) with signal := true })] }
def modP (f : Port → Port) (d : Dev) : Dev := { d with port := [(0, f (d.getPort 0))] }
def portData : Dev := sig (modP (fun p => { p with trained := true }) (portRun ready))
def late (d : Dev) : Dev := { d with now := secT 2 }

theorem witness_PortSettingRowsComplete :
    replied 0 (.portSetMode m0) 0x100 1 0 [(0,1,1),(1,1,2)] && replied 0 (.portSetMode m0) 0x100 1 8 [(0,1,8),(1,1,0),(2,1,1)] &&
    replied 0 (.portSetMode m0) 0x100 1 0 [] (port0 ready) && replied 0 (.portSetAbilities m0) 0x103 1 0 [(0,1,1),(1,1,1)] (port0 ready) &&
    replied 0 (.portSetLimits m0) 0x10C 1 0 [(0,2,9000),(2,2,0)] && replied 0 (.portSetLimits m0) 0x10C 1 0 [(0,2,64),(2,2,16383)] &&
    replied 5 (.portSetLimits m0) 0x10C 1 0 [(0,2,63)] && replied 6 (.portSetLimits m0) 0x10C 2 0 [] &&
    replied 0 (.frmSetTti m0 (some (bytesOf 136 [(128,1,3),(129,1,1)]))) 0x107 1 0 [] (modP (fun p => { p with width := 4, otucn := true }) ready) &&
    replied 0 (.frmSetActions m0) 0x108 1 0 [(0,2,10000),(4,4,3600000)] := by decide +kernel

theorem witness_PortObjectRowsComplete :
    replied 0 (.portEnable m0) 0x101 1 0 [] (port0 ready) && replied 0 (.portDisable m0) 0x102 1 0 [] (portRun ready) &&
    eff (.lanesReady 0) (modP (fun p => { p with width := 1, obj := { p.obj with st := .starting } }) ready)
      (fun d => (d.getPort 0).obj.st == .running) &&
    eff (.portStopDone 0) (modP (fun p => { p with width := 1, obj := { p.obj with st := .stopping } }) ready)
      (fun d => (d.getPort 0).obj.st == .stopped) := by decide +kernel

/-- A measurement of port 0 in progress. -/
def measures (op : Nat) : Dev :=
  { portRun ready with hif := { ready.hif with cmds := [{ cmdOf op (handle 1 0) (inl [(0,2,16)]) with started := true }] } }

theorem witness_PortReadingRowsComplete :
    replied 0 (.portGetStatus m0) 0x104 1 0 sz (port0 ready) && replied 100 (.laneMeasure m0) 0x105 1 0 [(0,1,67)] (sig (portRun ready)) &&
    replied 100 (.portMeasureRtt m0) 0x106 1 0 [(0,2,16)] (portRun ready) && replied 0 (.frmGetDefects m0) 0x109 1 0 [] &&
    replied 0 (.pmGetBins m0) 0x10A 1 0 [(1,1,33)] && replied 0 (.pmSetTca m0) 0x10B 1 0 [(0,1,1),(4,4,9)] &&
    eff (.laneMeasureDone 0 [{ il := 100, refl := [(3, -5)], snr := 200 }]) (measures 0x105) (fun d => d.hif.cmds == []) &&
    eff (.rttMeasureDone 0 (List.replicate 8 10 ++ List.replicate 8 20)) (measures 0x106) (fun d => (tgetD d.hif.mbox {} 0).result == 15) &&
    eff (.rttMeasureDone 0 []) (late (modP (fun p => { p with rttAt := some 0 }) (measures 0x106))) (fun d => (tgetD d.hif.mbox {} 0).status == 13) := by decide +kernel

/-- Port 0 in a phase of the detection cycle. -/
def phase (k : Cycle) : Dev := modP (fun p => { p with cycle := k, stepDue := some 0, allowed := 3, negotiate := true }) (portRun ready)

theorem witness_TrainingRowsComplete :
    eff (.abilityFrame 0 0#32 0#32) (phase .ability) (fun d => (d.getLane 0).abCount == 1) &&
    eff (.abilityFrame 0 1#32 0#32) (phase .ability) (fun d => (d.getLane 0).abCount == 0) &&
    eff (.abilityFrame 0 1#32 0#32) (phase .train) (· == phase .train) &&
    eff (.abilityFrame 0 0#32 3#32) (modP (fun p => { p with partnerId := some 1 }) (phase .ready)) (fun d => (d.getPort 0).cycle == .ability) &&
    eff (.trainFrame 0 0x40000001#32 0#32 0#9 true) (phase .train) (fun d => (d.getPort 0).cycle == .ready) &&
    eff (.readyFrame 0 ⟨0x80000001#32, 0x80000001#32⟩ ⟨0#9, true⟩) { phase .ready with lane := [(0, { ((phase .ready).getLane 0) with rxReady := true, step := 4, countdown := 1 })] }
      (fun d => (d.getPort 0).trained) &&
    eff (.abilityTimeout 0) (phase .ability) (fun d => (d.getPort 0).cycle == .autoneg) &&
    eff (.trainTimeout 0) (phase .train) (fun d => (d.getPort 0).cycle == .restartWait) &&
    eff (.trainingRestartDelay 0) (phase .restartWait) (fun d => (d.getPort 0).cycle == .ability) &&
    eff (.autonegPage 0 3#3 0#48) (phase .autoneg) (fun d => (d.getPort 0).resolved == some 1) &&
    eff (.autonegTimeout 0) (phase .autoneg) (· != phase .autoneg) &&
    eff (.partnerGoneTimeout 0) (late (portRun ready)) (fun d => (d.getPort 0).gone) &&
    eff (.clause73LinkTraining 0 0#8 true) (phase .linkTrain) (fun d => (d.getPort 0).trained) := by decide +kernel

theorem witness_LineReceiveRowsComplete :
    eff (.laneSignalChange 0 true) (late (portRun ready)) (fun d => (d.getLane 0).signal && (d.getLane 0).sigSince == secT 2) &&
    eff (.laneSignalChange 0 false) portData (fun d => !(d.getLane 0).signal) &&
    eff (.codewordReceive 0 15 0) portData (fun d => (d.getLane 0).rsCorr == 15) &&
    eff (.codewordReceive 0 15 1) portData (fun d => (d.getLane 0).rsUncorr == 1) &&
    eff (.otucFrame 0 { fas := [true], skewNs := 100, mfas := 1, bip8 := [2], bei := [0], bdi := true, stat := 7, tti := 0 })
      (modP (fun p => { p with otucn := true, trained := true }) (portRun ready)) (fun d => (d.getPort 0).aisRun == 1 && d.out != []) &&
    eff (.faultOrderedSet 0 false 5) (portRun ready) (fun d => (d.getPort 0).lfCols == [5]) &&
    eff (.alignmentMarker 0 true true true) { portData with lane := [(0, { (portData.getLane 0) with amHits := 1 })] }
      (fun d => (d.getLane 0).amLock) &&
    eff (.alignmentMarker 0 false true true) { portData with lane := [(0, { (portData.getLane 0) with amLock := true, amMiss := 9 })] }
      (fun d => !(d.getLane 0).amLock) := by decide +kernel

theorem witness_DefectRowsComplete :
    eff (.defectDeclare 0 .los) (late (modP (fun p => { p with protDown := false }) (portRun ready)))
      (fun d => (d.getPort 0).raw == 1 && (d.getPort 0).protDown && (d.getPort 0).link == .down) &&
    eff (.defectClear 0 .los) (late (modP (fun p => { p with raw := 1 }) (sig (portRun ready)))) (fun d => (d.getPort 0).raw == 0) &&
    eff (.linkDownPersist 0) (modP (fun p => { p with raw := 1, laneMode := 2, persistDue := some 0 }) (portRun ready))
      (fun d => (d.getPort 0).cycle == .ability) &&
    eff (.holdoffExpiry 0) (modP (fun p => { p with raw := 1, holdoffDue := [(0, 0)], protDown := false }) (portRun ready))
      (fun d => (d.getPort 0).protDown) &&
    eff (.wtrExpiry 0) (modP (fun p => { p with wtrDue := some 0, link := .up }) (portRun (pipeRun ready))) (fun d => !(d.getPort 0).protDown) := by
  decide +kernel


/-- Port 0 a day and an hour after time 0. -/
def days : Dev := { portRun ready with now := secT 90000 }

theorem witness_DefectRowsComplete_bins :
    eff (.pmSecond 0) days (fun d => (d.getPort 0).secUtc == 90000 && (d.getPort 0).secBlocks == 0) &&
    eff (.pmBinClose false) days (fun d => d.pmSeq15 == 1 && d.pmSeqDay == 0) && eff (.pmBinClose true) days (fun d => d.pmSeqDay == 1) &&
    eff (.pmBinFinal 0 false) (modP (fun p => { p with bins15 := [{ start := 89990 }, { flags := 0x28 }] }) days)
      (fun d => (d.getPort 0).bins15.map (·.flags) == [0x28, 0x08]) := by decide +kernel

/-! ### Events -/

/-- An event of a type, and a device whose FIFO holds it. -/
def ev0 (type sev : Nat) : Event := { type := type, sev := sev, flags := 0, subject := 0, time := 0, detail := [] }
def fifo0 : Dev := { ready with evt := { ready.evt with fifo := [ev0 0x0105 1] } }

theorem witness_EventRowsComplete :
    eff .eventRecordWrite fifo0 (fun d => d.evt.fifo == [] && d.evt.store.length == 1 && d.evt.nextSeq == 2) &&
    eff .coalesceClose { ready with evt := { ready.evt with coal := [(0x0105, { count := 7, maxSev := 2 })] } }
      (fun d => d.evt.coal == [] && d.evt.fifo.map (·.type) == [2]) &&
    eff .eventRingDeliver { rings with evt := { rings.evt with store := [(1, [])] } } (fun d => d.evt.store == [] && d.hif.cause.getLsbD 16) &&
    eff (.eventWindowEnd 0x0105#16 0#64)
      { ready with evt := { ready.evt with windows := [{ type := 0x0105, key := 0, ends := 0, count := 3, first := some (ev0 0x0105 1), countAt := 0 }] } }
      (fun d => d.evt.fifo.length == 1) &&
    replied 0 (.evtSetFilter m0) 0x900 0 0 [(0,2,0x0105),(2,1,1)] && replied 0 (.evtGetStats m0) 0x901 0 0 [] &&
    replied 0 (.evtTest m0 none) 0x902 0 0 [(0,1,3)] := by decide +kernel

/-- An event of its own in the FIFO, and one that finds the FIFO full. -/
theorem witness_EventGoesToOnePlace :
    ((ready.evPut (ev0 0x0105 1)).evt.fifo == [ev0 0x0105 1]) && (fifo0.evPut (ev0 0x0105 3)).evt.suppressed == 0 &&
    (let d : Dev := { ready with evt := { ready.evt with fifo := List.replicate 256 (ev0 0x0105 1) } }
     (d.evPut (ev0 0x0105 1)).evt.coalesced == 1 && (d.evPut (ev0 0x0105 1)).hif.alarm.getLsbD 6) := by decide +kernel

/-! ### Tables, groups, frames -/

def setT (f : Tables → Tables) (d : Dev) : Dev := { d with fwd := { d.fwd with tbl := f d.fwd.tbl } }

theorem witness_TableCommandRowsComplete :
    replied 0 (.tblCreate m0) 0x208 6 0 [(1,1,1),(8,4,4096)] && replied 0 (.tblCreate m0) 0x208 6 31 [(0,1,5),(1,1,2),(8,4,4096),(12,4,86400)] &&
    replied 0 (.tblCreate m0) 0x208 8 0 [(0,1,16),(5,1,2),(6,1,2),(8,4,32)] && replied 0 (.tblCreate m0) 0x208 8 31 [(0,1,17),(8,4,1)] &&
    replied 0 (.tblGetStatus m0) 0x20B 0 0 sz && replied 0 (.tblRead m0) 0x20C 9 0 sz &&
    replied 0 (.vrfSet m0) 0x20E 9 3 [(0,4,100),(8,1,255),(9,1,255)] && replied 0 (.tblSetExtRate m0) 0x20F 3 0 [(0,2,25)] &&
    replied 0 (.tblSetProfile m0) 0x210 0 0 ([(0,2,1)] ++ (List.range 8).map fun k => (2 + k, 1, if k = 2 then 0 else 255)) := by decide +kernel

/-- On-die table 0 with one learn request; a TCAM entry whose array differs from its copy. -/
def table0 : Dev := setT (fun t => { t with em := [(0, { kind := 0, keyBits := 62, resBits := 32, w := 1, n := 4096, seed := 1, learn := true
                                                         learnQ := [{ key := List.replicate 8 0, gport := 1 }] })] }) ready
def acl0 (ue : Bool) : Dev := setT (fun t => { t with acl := [(0, { key := 1, mask := 1, action := 0, arrKey := 3, arrMask := 1, copyKey := 1, copyMask := 1, copyUe := ue })] }) ready

theorem witness_TableCommandRowsComplete_table :
    replied 0 (.tblDestroy m0) 0x209 6 0 [] table0 && replied 0 (.tblSetAgeing m0) 0x20D 6 0 [(0,4,86400)] table0 := by decide +kernel

/-- A batch of one record: the deletion of the default IPv4 route of VRF 0. -/
def batch1 (fl : Nat) : HostRead := some (bytesOf 96 [(0,4,1),(4,4,32),(8,4,fl),(64,1,2),(68,2,32),(72,1,4)])

theorem witness_TableUpdateRowsComplete :
    (Dev.cutRecords 1 ((((batch1 0).getD []).drop 64).take 32)).2 && replied 0 (.tblBatchApply m0 (batch1 0)) 0x20A 0 0 [] &&
    replied 100 (.tblBatchApply m0 (batch1 1)) 0x20A 0 0 [] &&
    eff .batchCommit { ready with fwd := { ready.fwd with batch := some { intake := 0, records := [], notBefore := 0, commitNs := 0 } } }
      (fun d => d.fwd.batch == none && d.fwd.view && d.fwd.oldTbl.isSome) &&
    eff .viewRelease { ready with fwd := { ready.fwd with oldTbl := some {} } } (fun d => d.fwd.oldTbl == none) &&
    eff (.learnRequestApply 0) table0 (fun d => (tget d.fwd.tbl.em 0).map (·.learnQ) == some []) &&
    eff (.ageingSweep 0) (late table0) (fun d => (tget d.fwd.tbl.em 0).map (·.swept) == some (secT 2)) &&
    eff (.tcamScrub 0) (acl0 false) (fun d => (tget d.fwd.tbl.acl 0).map (·.arrKey) == some 1) &&
    eff (.tcamScrub 0) (acl0 true) (fun d => (tget d.fwd.tbl.acl 0).map (·.copyUe) == some false) &&
    eff (.shadowRebuild (.tcam 0)) (acl0 true) (fun d => (tget d.fwd.tbl.acl 0).map (·.arrKey) == some 1) := by decide +kernel

theorem witness_PipelineObjectRowsComplete :
    replied 0 (.pipeEnable m0) 0x200 3 0 [] && replied 0 (.pipeDisable m0) 0x201 3 0 [] (pipeRun ready) &&
    replied 0 (.pipeGetStatus m0) 0x202 3 0 sz && replied 0 (.pipeSetHash m0) 0x203 0 0 [(4,2,1023),(6,1,1)] &&
    eff (.pipeFailure 0 .uncorrectable) (pipeRun ready) (fun d => (d.getPipe 0).obj.st == .stopping && d.hif.alarm.getLsbD 7) &&
    eff (.pipeSelfTestDone 0 true) { ready with pipe := [(0, { obj := { st := .starting } })] } (fun d => (d.getPipe 0).obj.st == .running) &&
    eff (.pipeStopDone 0) { ready with pipe := [(0, { obj := { st := .stopping } })] } (fun d => (d.getPipe 0).obj.st == .stopped) := by decide +kernel

/-- Group 0 of two members, assigned automatically, with port 0 up and released. -/
def group0 : Dev := modP (fun p => { p with protDown := false, link := .up }) { portRun ready with fwd := { ready.fwd with
  ecmp := [(0, { members := [(7, 1), (8, 1)], log2B := 1, auto := true, buckets := [0, 1], live := [true, false] })] } }

theorem witness_GroupRowsComplete :
    replied 0 (.nhSet m0) 0x204 4 7 [(1,1,1),(4,4,5)] && replied 0 (.nhSet m0) 0x204 4 7 [(0,1,2),(2,1,255)] &&
    replied 0 (.nhSet m0) 0x204 4 7 [(0,1,3),(4,4,65535)] && replied 5 (.nhSet m0) 0x204 4 7 [(1,1,1),(4,4,5),(12,4,7)] &&
    replied 100 (.ecmpSetGroup m0 (some (bytesOf 24 [(0,2,1),(16,4,7),(20,2,1)]))) 0x205 5 0 [] &&
    replied 100 (.ecmpSetGroup m0 (some (bytesOf 16 [(3,1,2)]))) 0x205 5 0 [] group0 &&
    eff (.ecmpGroupSwitch 0) { group0 with fwd := { group0.fwd with switches := [{ group := 0, intake := 9, new := none }] } }
      (fun d => d.fwd.ecmp == []) &&
    eff (.ecmpRebalance 0) group0 (fun d => (tget d.fwd.ecmp 0).map (fun e => e.live == d.liveMembers e) == some true) &&
    replied 0 (.frrForce m0) 0x206 1 0 [(0,1,1)] (portRun ready) && replied 0 (.dropGetCounters m0) 0x207 3 0 [] &&
    replied 0 (.cntRead m0) 0x211 0 0 [(0,4,5),(4,4,1),(8,1,1)] && replied 0 (.cntRead m0) 0x211 0 0 [(0,4,67108863),(4,4,1)] := by decide +kernel

/-! ### Frames -/

/-- An IPv4 header from 10.0.0.1 to 10.0.0.2 with its checksum, and a UDP frame of 64 bytes with it. -/
def ip0 : Bytes := [0x45, 0, 0, 0x2E, 0, 0, 0, 0, 64, 17, 0x66, 0xBD, 10, 0, 0, 1, 10, 0, 0, 2]

def frame0 : RxFrame := {
  len := 64, raw := be 6 2 ++ be 6 4 ++ be 2 0x0800 ++ ip0 ++ be 2 1 ++ be 2 2 ++ List.replicate 26 0, fcsOk := true
  macsec := { isProtected := false, chan := 0, an := 0, pn := 0, icvOk := false }, labelSpace := 0, vlanAdmit := true, vrf := 0, svc := 0, routed := true
  flood := 0, profile := 0, aclKey := 0, flowKey := 0, pol1 := none, cntPort := none, cntRoute := none }

/-- That frame in ingress pipeline 0, where it stands at a place. -/
def flight (pl : Place) : Flight := { (Dev.newFlight (modP (fun p => { p with link := .up }) (portRun (pipeRun ready))) (.port 0) frame0) with place := pl }
def withFlight (f : Flight) : Dev := { portRun (pipeRun ready) with pipe := [(0, { obj := { st := .running }, ingress := [f] })] }
def ext0 (d : Dev) : Dev := setT (fun t => { t with ext := [(0, { kind := 0, keyBits := 62, resBits := 32, w := 1, n := 4096, seed := 1 })] }) d

theorem witness_FrameRowsComplete_ingress :
    eff (.frameReceive 0 frame0 false) (portRun (pipeRun ready)) (fun d => d.fids == 1) &&
    eff (.frameReceive 0 { frame0 with fcsOk := false } false) (portRun (pipeRun ready)) (fun d => d.portDrops.length == 1) &&
    eff (.frameReceive 0 frame0 false) (portRun ready) (fun d => d.portDrops == [(6, { pkts := 1, bytes := 64 })]) &&
    eff (.extLookupReply 0 0 .eccBoth) (ext0 (hbmRun (withFlight { flight (.ext 5) with stage := 7 }))) (fun d => (d.getPipe 0).extEcc == 1) &&
    eff (.extLookupReply 0 0 .eccBoth) (late (ext0 (withFlight (flight (.ext 5))))) (· == late (ext0 (withFlight (flight (.ext 5))))) &&
    eff (.extLate 0 0) (late (ext0 (withFlight { flight (.ext 5) with stage := 7 }))) (fun d => (d.getPipe 0).extLate == 1) &&
    eff (.excursionReturn 0 0) (withFlight { flight .away with verdict := some .discard }) (fun d => (d.getPipe 0).ingress == []) &&
    eff (.excursionReturn 0 0) (withFlight { flight .away with verdict := some (.cont (some (.port 3)) none none none none { off := 0, removed := 0, insert := [] }) })
      (fun d => !((d.getPipe 0).ingress.any fun f => f.place == .away)) &&
    eff (.excursionReturn 0 0) (withFlight (flight .away)) (· == withFlight (flight .away)) &&
    eff (.frameHandoff 0) (withFlight (flight .ready)) (fun d => (d.getPipe 0).ingress == []) := by decide +kernel

theorem witness_FrameRowsComplete_egress :
    (let d : Dev := modP (fun p => { p with link := .up }) (portRun (pipeRun ready))
     eff (.egressDelivery 0 0 0 none false 0) { d with pipe := [(0, { obj := { st := .running }, egress := [flight .stages] })] }
       (fun x => (x.getPipe 0).egress == []) &&
     eff (.frameTransmit 0 false) { d with tx := [(0, [flight .stages])] } (fun x => x.out.length == 1 && x.tx == [] && x.portDrops == []) &&
     eff (.frameTransmit 0 false) { ready with tx := [(0, [flight .stages])] } (fun x => x.portDrops == [(37, { pkts := 1, bytes := 64 })])) := by
  decide +kernel

/-! ### Packet engines -/

def modEng (f : Engine → Engine) (d : Dev) : Dev := { d with pe := { d.pe with eng := [(0, f (d.getEng 0))] } }
def engRun : Dev := modEng (fun e => { e with obj := { e.obj with st := .running } }) ready

/-- Module 0 loaded, then function 0 of it. -/
def mod0 : Module := { version := 1, image := [], prog := 1, data := 1, hbm := 0, entries := 4 }
def modl (d : Dev) : Dev := { d with pe := { d.pe with module := [(0, mod0)] } }
def fun0 (d : Dev) : Dev := { modl d with pe := { (modl d).pe with
  fn := [(0, { module := 0, drop := false, userTrace := false, entry := 0, timeNs := 10000, issues := 256, placement := 1 })] } }

/-- An issue, an invocation, and engine 0 whose thread 2 runs one. -/
def at0 : IssueAt := { offset := 0, addr := 0, issues := 0 }
def inv0 (w : Work) : Invocation := { fn := 0, module := 0, version := 1, entry := 0, work := w, start := 0, timeNs := 10000, issues := 256, userTrace := false, drop := false, placement := 0 }
def thr (w : Work) : Dev := modEng (fun e => e.setThread 2 { st := .running, inv := some (inv0 w) }) engRun
def trig0 (wait : List Nat) (d : Dev) : Dev := { d with pe := { d.pe with trig := [(0, { fn := 0, k := 1, periodNs := 1000, start := 0, waiting := wait })] } }

theorem witness_EngineCommandRowsComplete :
    replied 0 (.peEnable m0) 0x300 10 0 [] && replied 0 (.peDisable m0) 0x301 10 0 [] engRun && replied 0 (.peGetStatus m0) 0x302 10 0 sz &&
    replied 0 (.peGetStatus m0) 0x302 11 0 sz (fun0 ready) && replied 0 (.peModuleLoad m0 none) 0x303 12 0 [] (modl ready) &&
    replied 0 (.fnSet m0) 0x304 11 0 [(16,8,1)] (modl ready) && replied 0 (.fnSet m0) 0x304 11 0 [(2,2,3),(4,4,100000),(8,2,16),(16,8,1)] (modl ready) &&
    replied 0 (.fnSet m0) 0x304 11 0 [(1,1,4)] (fun0 ready) && replied 0 (.peSetSlots m0) 0x305 10 0 ((List.range 16).map fun k => (k, 1, k)) &&
    replied 4 (.pePatch m0 (some [])) 0x306 12 0 [] { modl ready with pe := { (modl ready).pe with
      roll := some { intake := 0, module := 0, old := mod0, new := mod0, todo := [], done := [], back := false } } } &&
    replied 0 (.peThreadRestore m0) 0x307 10 0 [(0,1,15)] && replied 0 (.peTraceRead m0) 0x308 10 0 [] && replied 0 (.peTraceConfig m0) 0x309 10 0 [] &&
    replied 0 (.fnSetTrigger m0) 0x30A 13 0 [] (trig0 [] ready) && replied 0 (.fnSetTrigger m0) 0x30A 13 0 [(4,4,1),(8,8,1000),(16,8,5)] (fun0 ready) := by
  decide +kernel

theorem witness_ThreadRowsComplete :
    eff (.triggerInvocation 0) (trig0 [] (fun0 ready)) (fun d => (tget d.pe.trig 0).map (·.begun) == some true) &&
    eff (.triggerInvocation 0) { trig0 [] (fun0 ready) with time := { ready.time with off := -1 } } (fun d => (tget d.pe.trig 0).map (·.begun) == some false) &&
    eff (.startRegisterWrite 0 2) (modEng (fun e => { e with inbox := [inv0 (.trigger 0 0)], slots := List.range 16 }) engRun) (fun d => (d.getEng 0).inbox == []) &&
    eff (.releaseMask 0 4#16) (modEng (fun e => e.setThread 2 { st := .claimed, inv := some (inv0 (.trigger 0 0)) }) engRun)
      (fun d => ((d.getEng 0).thread 2).st == .running) &&
    eff (.peFork 0 2 1) (thr (.trigger 0 0)) (fun d => (d.getEng 0).threads.any fun t => match t.inv with | some i => i.work == .fork 2 | none => false) &&
    eff (.peJoin 0 2 3) (modEng (fun e => e.setThread 2 { e.thread 2 with kids := [(3, .runs)] }) (thr (.trigger 0 0)))
      (fun d => ((d.getEng 0).thread 2).join == some 3) &&
    eff (.peEmit 0 2 ⟨0, 7⟩ frame0 at0) (thr (.trigger 0 0)) (fun d => (d.getPipe 0).emits.length == 1) &&
    eff (.peEmit 0 2 ⟨0, 7⟩ { frame0 with len := 641 } at0) (thr (.trigger 0 0)) (fun d => (d.getEng 0).excq.length == 1) &&
    eff (.threadVerdict 0 2 ⟨[], .endTrigger, at0⟩) (thr (.trigger 0 0)) (fun d => ((d.getEng 0).thread 2).inv == none) &&
    eff (.threadVerdict 0 2 ⟨[], .discard, at0⟩) { withFlight (flight .away) with pe := (thr (.frame 0 0 false)).pe }
      (fun d => (d.getPipe 0).ingress.map (·.verdict) == [some .discard]) &&
    eff (.threadVerdict 0 3 ⟨[], .discard, at0⟩) (thr (.trigger 0 0)) (· == thr (.trigger 0 0)) &&
    eff (.threadFault 0 2 3 0 0 0) (thr (.trigger 0 0)) (fun d => (d.getEng 0).excq.map (·.cause) == [3]) &&
    eff (.watchdog 0 2 0 0) (late (thr (.trigger 0 0))) (fun d => (d.getEng 0).excq.map (·.cause) == [2]) &&
    eff (.supervisorHandle 0) (modEng (fun e => { e with excq := [{ thread := 2, cause := 3, fn := 0, offset := 0, addr := 0, frameRef := 0, issues := 0, time := 0 }] })
      (thr (.trigger 0 0))) (fun d => (d.getEng 0).excq == []) := by decide +kernel

theorem witness_EngineLifeRowsComplete :
    eff (.engineFailure 0 .supervisor) engRun (fun d => (d.getEng 0).obj.st == .stopping) &&
    eff (.engineReenable 0) (modEng (fun e => { e with reenable := some 0 }) ready) (fun d => (d.getEng 0).obj.st == .starting) &&
    eff (.engineSelfTestDone 0 true) (modEng (fun e => { e with obj := { e.obj with st := .starting } }) ready) (fun d => (d.getEng 0).obj.st == .running) &&
    eff (.engineStopDone 0) (modEng (fun e => { e with obj := { e.obj with st := .stopping } }) ready) (fun d => (d.getEng 0).obj.st == .stopped) &&
    eff (.idleGate 0) (late engRun) (fun d => (d.getEng 0).gated) &&
    (let d : Dev := { engRun with pe := { engRun.pe with
       roll := some { intake := 0, module := 0, old := mod0, new := { mod0 with version := 2 }, todo := [0], done := [], back := false } } }
     eff (.patchEngineDrained 0 true) d (fun x => x.pe.roll == none && (tget x.pe.module 0).map (·.version) == some 2)) := by decide +kernel

/-! ### Buffers and queues -/

/-- A frame of one cell stored at pointer 0 and queued in a hot queue. -/
def ent0 : QEntry := { ptr := 0, shared := false, cls := 0, len := 64, quota := 0, arrival := 0 }
def queue0 (f : Queue → Queue) : Dev := { ready with
  qs := { ready.qs with q := [(0, f { part := .shared, chain := [ent0], balance := 10 })] }
  buf := { ready.buf with cell := [(0, { head := true, shared := false, next := 0, owner := 0, refcnt := 1 })]
                          frame := [(0, { fl := flight .stages, cells := [0], quota := 0 })] } }
def inSlice (f : Flight) (d : Dev) : Dev := { d with buf := { d.buf with slice := [(0, { (d.getSlice 0) with inbox := [f] })] } }

theorem witness_BufferRowsComplete_rows :
    eff (.voqAdmit 0) (inSlice { flight .ready with dec := .unicast 3 } ready) (fun d => (d.getSlice 0).inbox == []) &&
    (let d : Dev := inSlice { flight .ready with dec := .unicast 0, len := 80 } { queue0 (fun q => { q with chain := [] }) with
       csw := { ready.csw with cut := [(0, 255)] } }
     (d.quietExit.cutThrough { flight .ready with dec := .unicast 0, len := 80 }) == some 0 &&
     eff (.voqAdmit 0) d (fun x => ((x.getPipe 0).drops.map (·.1) == [8]) || (x.getSlice 0).drops != [])) &&
    eff (.stripeCloseTimeout 0) (late { ready with buf := { ready.buf with stripe := [(5, {})], slice := [(0, { stripe := some { stripe := 5, pos := 0, last := 0 } })] } })
      (fun d => d.buf.stripe == [] && (d.getSlice 0).stripe == none) &&
    eff (.scarabPass true) ready (fun d => d.buf.passesHbm == 1) && eff (.scarabPass false) (late ready) (fun d => d.buf.passesOnd == 1) &&
    eff .queueAgeingSweep (late ready) (fun d => d.sch.ageAt == secT 2) := by decide +kernel

/-- The head of VOQ 0, of this device, is read and put into staging. -/
theorem witness_BufferRowsComplete_dequeue :
    (let d := queue0 id
     (Dev.readHead 0 0 ent0 ((d.ageQueue 0).setQ 0 { ((d.ageQueue 0).getQ 0) with chain := [], balance := 9 })).1 &&
     eff (.voqDequeue 0) d (fun x => (x.getQ 0).chain == [] && x.csw.stage != [])) &&
    eff (.voqDequeue 0) (queue0 fun q => { q with balance := 0 }) (fun x => (x.getQ 0).chain == [ent0]) := by decide +kernel

theorem witness_BufferRowsComplete_commands :
    replied 0 (.bufSetPool m0) 0x400 0 0 [(0,1,88),(2,2,400),(4,4,10)] (hbmRun ready) && replied 0 (.bufSetQuota m0) 0x401 14 0 [(4,4,1000)] &&
    replied 0 (.bufSetClass m0) 0x402 0 0 [(0,1,3)] && replied 0 (.bufSetSojourn m0) 0x403 15 0 [(0,4,1),(4,4,100)] &&
    replied 0 (.bufGetStatus m0) 0x404 0 0 sz && replied 0 (.bufGetQuota m0) 0x405 14 0 sz && replied 0 (.bufGetDrops m0) 0x406 3 0 sz &&
    replied 0 (.bufGetDrops m0) 0x406 1 255 sz := by decide +kernel

theorem witness_QueueRowsComplete :
    eff (.activationComplete 0) (hbmRun (queue0 fun q => { q with actSince := some 0, chain := [], parked := [ent0] }))
      (fun d => Dev.Queue.isHot (d.getQ 0) && (d.getQ 0).chain == [ent0]) &&
    eff (.activeIdleTimeout 0) (late (queue0 fun q => { q with chain := [], balance := 0 })) (fun d => (d.getQ 0).part == .cold) &&
    (let d := { queue0 id with qs := { (queue0 id).qs with unreach := [(0, 0)], flushDue := [(0, 0)], flow := [(0, { demand := 1, outstanding := 0, seq := 0 })] } }
     eff (.destFlushTimeout 0) (late d) (fun x => x.qs.flushed == [0] && (x.getQ 0).chain == []) &&
     eff (.reservationRelease 0) (late d) (fun x => x.qs.released == [0] && x.qs.flow == [])) &&
    eff (.queueStartDone 0) (queue0 fun q => { q with obj := { q.obj with st := .starting } }) (fun d => (d.getQ 0).obj.st == .running) &&
    eff (.queueStopDone 0) (queue0 fun q => { q with chain := [], obj := { q.obj with st := .stopping } }) (fun d => (d.getQ 0).obj.st == .stopped) &&
    replied 0 (.qEnable m0) 0x407 15 5 [] && replied 0 (.qDisable m0) 0x408 15 5 [] && replied 0 (.qGetStatus m0) 0x409 15 5 sz &&
    replied 0 (.qSetActive m0) 0x40A 0 0 [(0,4,1000000),(4,4,131072),(8,4,60000)] && replied 100 (.qPin m0) 0x40B 15 5 [(0,1,1)] &&
    replied 0 (.qPin m0) 0x40B 15 5 [] && replied 0 (.qSetEgressMap m0) 0x40C 1 0 [(4,4,0x400000)] &&
    replied 0 (.qSetCredit m0) 0x40D 1 0 ([(4,1,8),(5,1,2)] ++ (List.range 8).map fun k => (8 + 2 * k, 2, 1)) &&
    replied 0 (.qGetCreditStatus m0) 0x40E 1 0 sz := by decide +kernel

/-! ### Credits, scheduling, observation -/

/-- A credit flow of device 5 toward port 0. -/
def flow0 : Dev := { portRun ready with qs := { ready.qs with flow := [(5, { demand := 3, outstanding := 16, seq := 0 })] }, fwd := { ready.fwd with reachable := [5] } }
def msg0 : CreditMsg := { srcDev := 5, voq := 0, value := 4, seq := 0 }

theorem witness_CreditRowsComplete :
    eff (.creditReq msg0) flow0 (fun d => (tget d.qs.flow 5).map (·.demand) == some 4) &&
    eff (.creditReq msg0) ready (fun d => (tget d.qs.flow 5).map (·.demand) == some 4) &&
    eff (.creditReturn { msg0 with value := 16 }) flow0 (fun d => (tget d.qs.flow 5).map (·.outstanding) == some 0) &&
    eff (.creditGrant msg0) (queue0 id) (fun d => (d.getQ 0).chain == [ent0]) &&
    eff (.creditReqRefresh 10240) (late { flow0 with qs := { flow0.qs with q := [(10240, { part := .shared, chain := [ent0] })] } }) (fun d => d.fab.fcq.map (·.1) == [5]) &&
    flow0.grantRoom 0 && flow0.nextSource 0 0 == some 5 &&
    eff (.grantIssue 0) flow0 (fun d => (tget d.qs.flow 5).map (·.outstanding) == some 32 && (d.getCredit 0).grants == 1) &&
    eff (.lostCreditRelease 0 5 0) (late { flow0 with qs := { flow0.qs with flow := [(5, { demand := 0, outstanding := 16, seq := 0 })] } })
      (fun d => d.qs.flow == []) := by decide +kernel

/-- Port 0 up, and the base egress queue of its class 0 hot with a frame of 64 bytes. -/
def egress0 : Dev := { modP (fun p => { p with link := .up }) (portRun (pipeRun (queue0 id))) with
  qs := { (queue0 id).qs with q := [(0x400000, { part := .shared, chain := [ent0] })] } }

theorem witness_SchedulerRowsComplete_selection :
    (Dev.select 1 0 4 egress0).1 == some (0x400000, [(2, 0x400000)]) && eff (.egressSelection 0) egress0 (fun d => (d.getQ 0x400000).chain == [] && (d.getPipe 0).egress.length == 1) &&
    eff (.egressSelection 0) (portRun (pipeRun ready)) (· == portRun (pipeRun ready)) &&
    eff (.shaperDebtEnd 0 0) (late { ready with sch := { ready.sch with port := [(0, { (ready.schPort 0) with shaper := { on := true, rate := 1000000 } })] } })
      (fun d => (d.schPort 0).shaper.bucket.stamp == secT 2) := by decide +kernel

theorem witness_SchedulerRowsComplete_commands :
    replied 0 (.schSet m0) 0x40F 1 0 [(0,1,1),(1,1,4),(5,1,0xC0),(12,4,256),(16,8,3200000000)] && replied 0 (.schSet m0) 0x40F 0x0F 0x400000 [(2,2,4096),(4,1,3)] &&
    replied 0 (.schSet m0) 0x40F 0x10 3 [(0,1,2)] { ready with sch := { ready.sch with node := [(3, {})] } } && replied 0 (.schGet m0) 0x410 1 0 sz &&
    replied 0 (.polSetProfile m0) 0x411 18 1 [(0,8,1000),(8,4,64)] && replied 0 (.polSet m0) 0x412 17 0 [(4,4,0xFFFFFFFF)] &&
    replied 0 (.polGet m0) 0x413 17 0 sz := by decide +kernel

/-- Accounting set 0 of one pair, with one closed interval. -/
def acct0 : Dev := { ready with sch := { ready.sch with acct := [(0, {
  base := 10, n := 1, mins := 15, start := 0, opened := 0, flags := 8, ends := 1
  closed := [(some false, { flags := 0, seq := 0, start := 0, durMs := 1, skipped := 0, pairs := [] })] })] }, cnt := [(10, { pkts := 1, bytes := 64 })] }

theorem witness_ObservationRowsComplete :
    eff .watchedSample (late ready) (fun d => d.sch.watchAt == secT 2) && eff .hotQueueSweep (late ready) (fun d => tgetD d.dma.lines 0 17 == 1) &&
    eff .histogramAdd (late ready) (fun d => d.sch.addAt == secT 2) &&
    eff (.acctBoundary 0) (late acct0) (fun d => (tget d.sch.acct 0).map (fun a => a.seq == 1 && a.bank && a.ends == 900) == some true) &&
    eff (.acctExport 0) acct0 (fun d => d.cnt == [] && (tget d.sch.acct 0).map (·.ring.length) == some 1) &&
    replied 0 (.obsSetQueue m0) 0x414 15 0 [(0,4,1),(5,1,1)] &&
    replied 0 (.obsSetHistProfile m0 (some (bytesOf 120 ((List.range 30).map fun k => (4 * k, 4, k % 15 + 1))))) 0x415 20 0 [] &&
    replied 0 (.obsGetHist m0) 0x416 15 0 [(0,4,1),(4,1,1)] && replied 0 (.acctSet m0) 0x417 19 0 [(0,1,15),(8,4,100)] &&
    replied 0 (.acctGet m0) 0x418 19 0 [] acct0 := by decide +kernel

/-! ### HBM -/

def modC (f : HbmCh → HbmCh) (d : Dev) : Dev := { d with hbm := { d.hbm with ch := [(0, f (d.getCh 0))] } }
def ch0 (st : ObjSt) (f : HbmCh → HbmCh) : Dev := modC (fun c => f { c with obj := { c.obj with st := st } }) ready
def modS (f : HbmStack → HbmStack) (d : Dev) : Dev := { d with hbm := { d.hbm with stack := [(0, f (d.getStack 0))] } }
def req0 (w : Bool) : HbmReq := { port := 2, addr := 0, write := w, granules := 1#8, data := List.replicate 32 7, bank := 0 }
def wait0 (w iss : Bool) : HbmWait := { id := 5, req := req0 w, at_ := 0, issued := iss }

theorem witness_HbmTrafficRowsComplete :
    eff (.hbmRequest (req0 true)) (ch0 .running id) (fun d => (d.getCh 0).reqs.map (·.id) == [0]) &&
    eff (.hbmRequest { req0 false with granules := 0 }) ready (fun d => d.out == [.hbmDone 2 0 [] false]) &&
    eff (.hbmRequest (req0 true)) (modS (fun x => { x with sr := .asleep }) ready) (fun d => (d.getStack 0).sr == .leaving) &&
    eff (.channelCommandSlot 0 false) (ch0 .running fun c => { c with refAt := 1, reqs := [wait0 false false] }) (fun d => (d.getCh 0).reqs.map (·.issued) == [true]) &&
    eff (.channelCommandSlot 0 true) (ch0 .running fun c => { c with refAt := 1, reqs := [wait0 false false] }) (fun d => (d.getCh 0).obj.st == .frozen) &&
    eff (.hbmRequestComplete 0 5 [.ok]) (ch0 .running fun c => { c with reqs := [wait0 false true] })
      (fun d => (d.getCh 0).reqs == [] && d.out == [.hbmDone 2 5 (List.replicate 32 0) true]) &&
    eff (.hbmRequestComplete 0 5 [.parity]) (ch0 .running fun c => { c with reqs := [wait0 false true] }) (fun d => (d.getCh 0).obj.st == .frozen) &&
    eff (.refreshDeadline 0) (ch0 .running fun c => { c with refLate := 8 }) (fun d => d.out != []) &&
    eff (.selfRefreshEntry 0) (late ready) (fun d => (d.getStack 0).sr == .asleep) &&
    eff (.selfRefreshExit 0) (modS (fun x => { x with sr := .leaving }) ready) (fun d => (d.getStack 0).sr == .awake) &&
    eff (.retrainPause 0) (late (ch0 .running id)) (fun d => (d.getCh 0).forced == 1) &&
    eff (.pressureWindow 0 100 1) (late ready) (fun d => (d.getStack 0).press == 1) &&
    eff .shedRise (late (modS (fun x => { x with press := 4 }) ready)) (fun d => d.hbm.level == 1) &&
    eff .shedFall (late { ready with hbm := { ready.hbm with level := 1 } }) (fun d => d.hbm.level == 0) := by decide +kernel

/-- A frozen channel with its snapshot. -/
def snap0 : Dev := ch0 .frozen fun c => { c with snap := some { cause := 1, discarded := 0, addr := none, time := 0, syndrome := [], cmds := [] } }

theorem witness_HbmServiceRowsComplete :
    eff (.thawTrainingDone 0 true) (ch0 .starting fun c => { c with thaw := .training }) (fun d => (d.getCh 0).thaw == .rebuild) &&
    eff (.thawTrainingDone 0 false) (ch0 .starting fun c => { c with thaw := .training }) (fun d => (d.getCh 0).obj.st == .frozen) &&
    eff (.rebuildDone 0 0 []) (ch0 .starting fun c => { c with thaw := .rebuild }) (fun d => (d.getCh 0).obj.st == .running) &&
    eff (.retireSalvageDone 0 (some [])) (ch0 .frozen fun c => { c with salvage := some 1 }) (fun d => (d.getCh 0).obj.st == .retired && (d.getCh 0).slot == some 1) &&
    eff (.channelStopDone 0) (ch0 .stopping id) (fun d => (d.getCh 0).obj.st == .stopped) &&
    replied 1 (.memChEnable m0) 0x500 21 0 [] && replied 0 (.memChEnable m0) 0x500 21 0 [] (hbmRun ready) &&
    replied 0 (.memChDisable m0) 0x501 21 0 [] (hbmRun ready) && replied 0 (.memGetStatus m0) 0x502 21 0 sz &&
    replied 0 (.memSetPort m0) 0x503 0 0 [(0,1,4),(8,4,100)] (hbmRun ready) && replied 0 (.memSetPower m0) 0x504 0 0 [(0,4,1000000)] &&
    replied 0 (.memSetTraining m0 none) 0x505 0 0 [] && replied 0 (.memGetSnapshot m0) 0x506 21 0 [] snap0 &&
    replied 100 (.memThaw m0) 0x507 21 0 [(0,1,1)] snap0 && replied 100 (.memRetire m0) 0x508 21 0 [(0,1,1)] snap0 := by decide +kernel

/-! ### Cell switch and fabric -/

def cell0 : FabCell := sealCell {
  kind := 2, cls := 0, parity := false, abort := false, firstHdr := none, ackValid := false, resent := false, payLen := 0,
  srcDev := 5, dstDev := 0, dstSlice := 0, srcSlice := 0, prio := 0, fabSeq := 0, linkSeq := 0, ackSeq := 0, hcs := 0, fecOk := true, payload := [] }
def modL (f : FLink → FLink) (d : Dev) : Dev := { d with fab := { d.fab with link := [(0, f (d.getLink 0))] } }
def linkIn (st : ObjSt) (f : FLink → FLink) : Dev := modL (fun x => f { x with obj := { x.obj with st := st } }) ready
def fabR (f : Fab → Fab) (d : Dev) : Dev := { d with fab := f d.fab }

theorem witness_SwitchRowsComplete :
    eff .switchPhase ready (fun d => d.csw.phases == 1) &&
    eff (.xpointHoldExpiry 0 0) { ready with csw := { ready.csw with phases := 64, xp := [(0, { holds := [(0, 0)] })] } } (fun d => (d.getXp 0 0).holds == []) &&
    eff (.outputHeldTimeout 0) ready (fun d => d.evt.fifo == []) &&
    eff (.egressStartTimeout 0 0) (late { ready with csw := { ready.csw with asm := [(0, [{
      dev := 2048, srcSlice := 0, cls := 0, fl := flight .stages, q := 0x400000
      cells := [], n := 2, got := 1, mark := true, rate := 100, firstAt := 0 }])] } }) (fun d => (d.getAsm 0).length ≤ 1) &&
    replied 0 (.cswSetCut m0) 0x600 1 0 [(0,1,0xFF)] && replied 0 (.cswGetStatus m0) 0x601 0 0 sz && replied 0 (.fabSetReseq m0) 0x609 0 0 [(0,4,25)] &&
    eff (.fabricCellReceive 0 cell0) (linkIn .running id) (fun d => (d.getLink 0).rxSeq == 1) &&
    eff (.fabricCellReceive 0 cell0) (linkIn .running fun x => { x with rxSeq := 65535 }) (fun d => (d.getLink 0).gap && (d.getLink 0).rxSeq == 65535) &&
    eff (.fabricCellReceive 0 { cell0 with hcs := cell0.hcs ^^^ 1 }) (linkIn .running id) (fun d => (d.getLink 0).hcsBad == 1 && (d.getLink 0).rxSeq == 0) &&
    eff (.linkRetry 0 0) (linkIn .running fun x => { x with retry := [{ cell := cell0, sentAt := 0, replays := 0 }] }) (fun d => (d.getLink 0).replays == 1) &&
    eff (.ackIdleTimeout 0) (late (linkIn .running id)) (fun d => d.out != []) &&
    eff (.retryTimeout 0) (late (linkIn .running fun x => { x with retry := [{ cell := cell0, sentAt := 0, replays := 0 }] })) (fun d => (d.getLink 0).retry.length == 1) &&
    eff (.linkHcsTimeout 0) (late (linkIn .running id)) (fun d => (d.getLink 0).obj.st == .starting) &&
    eff (.linkDownNotice 0) (linkIn .running id) (fun d => (d.getLink 0).phase == .discover) &&
    eff (.reseqHoldExpiry 0 5 0) (late { ready with fab := { ready.fab with reseq := [(80, { next := 1, held := [(0, { cell0 with fabSeq := 3 })] })] } })
      (fun d => (tget d.fab.reseq 80).map (·.held) == some []) := by decide +kernel

theorem witness_FabricLinkRowsComplete :
    eff (.discover 0 { isDevice := true, id := 5, plane := 0, port := 1 }) (fabR (fun f => { f with light := [0] }) (linkIn .starting fun x => { x with phase := .discover }))
      (fun d => (d.getLink 0).phase == .qualify) &&
    eff (.discover 0 { isDevice := true, id := 0, plane := 0, port := 1 }) (fabR (fun f => { f with light := [0] }) (linkIn .starting fun x => { x with phase := .discover }))
      (fun d => (d.getLink 0).phase == .retry) &&
    eff (.qualificationEnd 0 0 0) (linkIn .starting fun x => { x with phase := .qualify, phaseDue := some 0, peer := some (true, 5, 0, 1), delay := some (nsT 1500) })
      (fun d => (d.getLink 0).obj.st == .running && (d.getLink 0).reach == [5]) &&
    eff (.qualificationRetry 0) (linkIn .starting fun x => { x with phase := .retry, phaseDue := some 0 }) (fun d => (d.getLink 0).phase == .discover) &&
    eff (.reach 0 [5]) (linkIn .running fun x => { x with peer := some (false, 1, 0, 1) }) (fun d => (d.getLink 0).reach == [5]) &&
    eff (.reachDelta 0 5 true) (linkIn .running fun x => { x with peer := some (false, 1, 0, 1) }) (fun d => (d.getLink 0).reach == [5]) &&
    eff (.linkDelayMeasure 0) (linkIn .running id) (fun d => (d.getLink 0).dseq == 1) && eff (.delayReq 0 7 0) ready (fun d => d.out.length == 1) &&
    eff (.delayResp 0 7 200 300 0) { linkIn .running (fun x => { x with dreq := some (7, 0) }) with now := 400 } (fun d => (d.getLink 0).delay == some 150) &&
    eff (.fabricLinkStopDone 0) (linkIn .stopping id) (fun d => (d.getLink 0).obj.st == .stopped) &&
    eff (.laserInputChange 0 0 true) (fabR (fun f => { f with light := [0, 8] }) (linkIn .running id)) (fun d => d.fab.light == [8] && (d.getLink 0).obj.st == .starting) &&
    eff (.portState 5 3 true) ready (fun d => d.fwd.portDown == [1283]) && eff (.portVector 5 1#256) ready (fun d => d.fwd.portDown == [1280]) &&
    eff .portVectorSend ready (fun d => d.fab.pvAt == msT 1) && replied 0 (.fabLinkEnable m0) 0x602 22 0 [] && replied 0 (.fabLinkDisable m0) 0x603 22 0 [] &&
    replied 0 (.fabGetLink m0) 0x604 22 0 sz := by decide +kernel

def prep0 : PrepareMsg := { src := 0, epoch := 1, kinds := 7, at_ns := 9000000, classMap := List.replicate 8 1, excluded := 2, term := 0 }
def coord0 (acks : Tab Nat) : Fab → Fab := fun f => { f with coord := some { intake := none, epoch := 1, at_ := 0, members := [0], acks := acks } }
def stage0 : Bytes := le 2 5 ++ le 2 1 ++ le 2 3

theorem witness_EpochRowsComplete :
    eff .heartbeatSend ready (fun d => d.fab.hbAt == msT 1) && eff (.heartbeat 5 1 0 0) (fabR (fun f => { f with backup := 5 }) ready) (fun d => d.fab.holder == 5 && d.fab.term == 1) &&
    eff (.heartbeat 5 0 0 0) ready (fun d => d.fab.holder == 0) &&
    eff .heartbeatLoss (late (fabR (fun f => { f with backup := 0, holder := 5, meridian := 5, configured := true }) ready)) (fun d => d.fab.holder == 0 && d.fab.term == 1) &&
    eff (.meridianClaim 1 1) ready (fun d => d.fab.holder == 1) &&
    eff (.epochPrepare prep0) (fabR (fun f => { f with staged := some (1, [(5, [3])]) }) ready) (fun d => d.fab.prep.map (·.tab.planes) == some 2) &&
    eff (.epochPrepare { prep0 with kinds := 6 }) (fabR (fun f => { f with old := some ({}, 0) }) ready) (fun d => d.fab.prep == none) &&
    eff (.epochAck 5 1 0) (fabR (coord0 []) ready) (fun d => d.fab.coord.map (·.acks) == some [(5, 0)]) &&
    eff .epochDecision (fabR (coord0 [(0, 0)]) ready) (fun d => d.fab.coord.map (·.decided) == some true) &&
    eff .epochDecision (fabR (coord0 []) ready) (fun d => d.fab.coord == none) &&
    eff .epochActivate (fabR (fun f => { f with prep := some { src := 0, kinds := 7, at_ := 0, tab := { epoch := 1 } } }) ready)
      (fun d => d.fab.cur.epoch == 1 && d.fab.old.isSome) &&
    eff .epochRetentionEnd (fabR (fun f => { f with old := some ({}, 0) }) ready) (fun d => d.fab.old == none) &&
    eff (.epochCancel 0 1) (fabR (fun f => { f with old := some ({}, 9), cur := { epoch := 1 } }) ready) (fun d => d.fab.cur.epoch == 0 && d.fab.old == none) &&
    replied 0 (.fabSetSystem m0) 0x605 0 0 [(0,2,2047),(2,2,2),(4,2,3)] &&
    (Dev.stageRows 1 stage0).isSome &&
    replied 0 (.fabStage m0 (some (le 4 1 ++ le 2 1 ++ List.replicate 6 0 ++ le 4 (crc32c 0xFFFFFFFF stage0) ++ stage0))) 0x606 0 0 [] &&
    replied 100 (.fabEpochPrepare m0) 0x607 0 0 [(0,4,1),(4,1,6),(8,8,5000000)] && replied 0 (.fabGetStatus m0) 0x608 0 0 sz := by decide +kernel

def relay0 (f : Relay → Relay) : Dev := fabR (fun x => { x with holder := 5, relay := some (f { image := 1, count := 2, succ := some 7, chunks := [(0, [1])], sent := [(0, 0)] }) }) ready

theorem witness_QuarantineRelayRowsComplete :
    eff (.epochStatus 5 0 0) (fabR (fun f => { f with quar := [5] }) ready) (fun d => d.fab.quar == []) &&
    eff .epochStatusSend (fabR (fun f => { f with quar := [0], holder := 5 }) ready) (fun d => d.fab.stAt == msT 1) &&
    eff (.quarantine 0 5 true) ready (fun d => d.fab.quar == [5]) &&
    eff (.observation { src := 5, subjKind := 0, kind := 2, subj := 6, epoch := 0, time := 0 }) ready (fun d => d.fab.quar == [6]) &&
    eff (.observation { src := 5, subjKind := 1, kind := 0, subj := 6, epoch := 0, time := 0 }) ready (fun d => d.fab.obs.length == 1) &&
    eff (.observationWindow 1 6 0) (late (fabR (fun f => { f with obs := [{ subjKind := 1, subj := 6, kind := 0, epoch := 0, observers := [5], first := 0, last := 0, opened := 0 }] }) ready))
      (fun d => d.fab.obs.map (·.closed) == [true] && d.evt.fifo.length == 1) &&
    eff (.relayChunk 5 1 0 2 (crc32c 0xFFFFFFFF [1, 2]) [1, 2]) (fabR (fun f => { f with holder := 5 }) ready) (fun d => d.fab.relay.map (·.count) == some 2) &&
    eff (.relayAck 7 1 0 false) (relay0 fun r => { r with nextIdx := 1 }) (fun d => d.fab.relay.map (·.sent) == some []) &&
    eff (.relayAck 5 1 0 true) (relay0 fun r => { r with intake := some 0 }) (fun d => d.fab.relay == none) &&
    eff (.relayResend 0) (late (relay0 id)) (fun d => d.fab.relay.map (·.sent) == some [(0, secT 2)]) &&
    eff .relaySkipTimeout (late (relay0 id)) (fun d => d.fab.relay.map (·.succ) == some none) := by decide +kernel

/-! ### Time -/

/-- Port 0 in PTP instance 0 (domain 24), and time settings changed. -/
def inst0 (pr : Nat) : PtpInst := { profile := pr, domain := 24, prio1 := 128, prio2 := 128, localPrio := 128, slaveOnly := false, clockId := 9 }
def ptp0 (pr : Nat) (f : TPort → TPort) : Dev := { portRun ready with time := { ready.time with
  inst := [(0, inst0 pr)], port := [(0, f { inst := some 0, role := 1, oneStep := true, portNo := 1 })] } }
def modTm (f : TimeSt → TimeSt) (d : Dev) : Dev := { d with time := f d.time }
def pmsg : PtpMsg := { domain := 24, seq := 7, twoStep := false, origin := 50, corr := 0, srcId := 3, srcPort := 1 }
def ann0 : AnnounceMsg := { gm := 3, prio1 := 128, prio2 := 128, clockClass := 6, accuracy := 33, variance := 0, stepsRemoved := 0, srcId := 3, srcPort := 1
                            utcOffset := none, leap61 := false, leap59 := false }

theorem witness_PtpRowsComplete :
    (ptp0 0 id).bcTakes 0 24 && eff (.ptpSync 0 pmsg) { ptp0 0 id with now := 100 } (fun d => (d.getT 0).t12 == some 50) &&
    eff (.ptpSync 0 { pmsg with twoStep := true }) (ptp0 0 id) (fun d => (d.getT 0).two.isSome) &&
    eff (.ptpFollowUp 0 pmsg) (ptp0 0 fun t => { t with two := some (7, 100, 0, 3, 1) }) (fun d => (d.getT 0).t12 == some 50) &&
    eff (.ptpDelayReq 0 pmsg) (ptp0 0 fun t => { t with st := .master }) (fun d => d.out.length == 1) &&
    eff (.ptpDelayResp 0 pmsg 9 1) (ptp0 0 fun t => { t with dreq := some (7, 40), t12 := some 20 }) (fun d => (d.getT 0).delays == [15]) &&
    eff (.ptpPdelay 0 .req pmsg) (ptp0 1 id) (fun d => d.out.length == 1) && eff (.ptpPdelay 0 .req pmsg) (ptp0 0 id) (· == ptp0 0 id) &&
    eff (.ptpPdelay 0 .resp pmsg) { ptp0 1 (fun t => { t with preq := some (7, 40) }) with now := 100 } (fun d => (d.getT 0).delays == [30]) &&
    eff (.ptpAnnounce 0 24 ann0) (ptp0 0 id) (fun d => (d.getT 0).foreign.isSome) &&
    eff (.ptpMessageSend 0 0) (ptp0 0 fun t => { t with st := .master }) (fun d => d.out == [.ptp 0 0 [24, 0, 0]]) &&
    eff (.ptpMessageSend 0 0) (ptp0 0 fun t => { t with st := .master, dueAt := [5, 0, 0, 0] }) (fun d => d.out == []) &&
    eff (.unicastNegotiation 0 5 0 true 300) (ptp0 3 fun t => { t with st := .master }) (fun d => (tget d.time.inst 0).map (·.sessions.length) == some 1) &&
    eff (.unicastNegotiation 0 5 0 false 300) (ptp0 3 id) (fun d => d.out == [.ptp 0 12 [24, 5, 0, 0, 1]]) &&
    eff (.ptpManagement 0 0x2003) (ptp0 0 id) (fun d => d.out == [.ptp 0 13 [24, 0x2003, 0, 0, 0]]) &&
    eff (.esmcPduSend 0) (ptp0 0 fun t => { t with esmc := true, esmcNew := true, ql := 4 }) (fun d => d.out == [.esmc 0 4 true]) &&
    eff (.esmcPdu 0 4) (ptp0 0 fun t => { t with esmc := true }) (fun d => (d.getT 0).rxQl == some 4 && d.evt.fifo.length == 1) &&
    replied 0 (.timeSetInstance m0) 0x700 23 0 [(5,1,1)] && replied 0 (.timeSetInstance m0) 0x700 23 0 [(0,1,255)] &&
    replied 0 (.timeSetPort m0) 0x701 1 0 [(0,1,255),(6,2,1)] && replied 0 (.timeSetPort m0) 0x701 1 0 [(0,1,255),(1,1,3),(3,1,0xF9),(6,2,65534)] &&
    replied 0 (.timeGetPort m0) 0x706 1 0 sz := by decide +kernel

def sysFab (d : Dev) : Dev := fabR (fun f => { f with configured := true }) d
def notice0 : StepNotice := { src := 5, seq := 1, mode := 1, apply_ns := 1000, sec := 0, ns := 0, frac := 0 }
def tsync0 : TimeSyncMsg := { root := 5, seq := 3, link := 0, resent := false, origin := 10, corr := 2, utc := 0, leap61 := false, leap59 := false
                              timeTraceable := true, freqTraceable := true, clockClass := 6 }

theorem witness_TimeRowsComplete_rows :
    eff (.refLoss (.sref 0)) ready (fun d => d.time.transit == 1 && d.hif.alarm.getLsbD 8) && eff (.refLoss .pcie) ready (fun d => !d.time.pcieRef) &&
    eff (.sourceLostTimeout (.ptp 0)) { (ptp0 0 fun t => { t with st := .slave }) with now := secT 3 } (fun d => (d.getT 0).slaveAt == secT 3) &&
    eff (.sourceLostTimeout .pps) (late (modTm (fun t => { t with ppsLast := some 0 }) ready)) (fun d => d.time.ppsLast == none) &&
    eff (.sourceLostTimeout .relay) (late (modTm (fun t => { t with rRun := 4 }) ready)) (fun d => d.time.rRun == 0) &&
    eff (.sourceLostTimeout .freqIn) (modTm (fun t => { t with freqOk := true }) ready) (fun d => !d.time.freqOk) &&
    eff .servoLock (modTm (fun t => { t with servo := .acquiring }) ready) (fun d => d.time.servo == .locked) &&
    eff .holdoverLimit (modTm (fun t => { t with servo := .holdover }) ready) (fun d => d.time.servo == .expired) &&
    eff .timeStepApply (late (modTm (fun t => { t with step := some { seq := 1, absolute := false, applyNs := 0, value := 0, intake := none } }) ready))
      (fun d => d.time.step == none && d.time.doneStep == some (0, 1)) &&
    eff .timeStepApply (modTm (fun t => { t with autoWait := some 65536000000 }) ready) (fun d => d.time.autoWait == none && d.time.step.isSome) &&
    eff (.leapSecond true) (modTm (fun t => { t with leap61 := true }) ready) (fun d => d.time.utc == 1 && !d.time.leap61) &&
    eff (.leapSecond false) (modTm (fun t => { t with leap59 := true }) { ready with now := secT 86399 }) (fun d => d.time.utc == -1) &&
    eff (.ppsIn 7) ready (fun d => d.time.ppsLast == some 7) &&
    eff (.todIn 5 0) (modTm (fun t => { t with ppsLast := some 7, todSec := some 7 }) ready) (fun d => d.time.todBad == 1) &&
    eff (.todIn 5 0) ready (· == ready) &&
    eff .freqInEdgeLoss (modTm (fun t => { t with freqOk := true }) ready) (fun d => d.evt.fifo.length == 1) && eff .freqInValid ready (fun d => d.time.freqOk) &&
    eff .ppsOutSecond (late ready) (fun d => d.out.length == 2 && d.time.ppsOut == 2) &&
    eff .timeSyncSend (sysFab ready) (fun d => d.time.syncSeq == 1) && eff (.timeSync tsync0) { modTm (fun t => { t with root := 5 }) (sysFab ready) with now := 20 } (fun d => d.time.rDiff == some 8) &&
    eff .timeDelayReqSend (modTm (fun t => { t with root := 5, rLink := some 0 }) (sysFab ready)) (fun d => d.time.rSeq == 1) &&
    eff (.timeDelayReq 5 1 false) (sysFab { ready with fwd := { ready.fwd with reachable := [5] } }) (fun d => d.fab.fcq.map (·.1) == [5]) &&
    eff (.timeDelayResp 1 ⟨30, 0⟩ false) (modTm (fun t => { t with rReq := some (1, 10), rDiff := some 8, rExch := 15 }) ready) (fun d => d.time.rDelay == some 14) &&
    eff (.timeStepNotice notice0) (modTm (fun t => { t with root := 5 }) (sysFab ready)) (fun d => d.time.step.map (·.applyNs) == some 1000) &&
    eff (.timeStepNotice { notice0 with apply_ns := 0 }) (modTm (fun t => { t with root := 5 }) (sysFab ready)) (fun d => d.time.doneStep == some (5, 1)) &&
    eff (.timeCandidate { src := 5, kind := 1, prio := 1, clockClass := 6, accuracy := 33, variance := 0, gm := 3, steps := 0 }) ready
      (fun d => (tget d.time.cands 5).isSome) &&
    eff (.timeRoot 0 ⟨5, 1⟩ false) ready (fun d => d.time.root == 5) := by decide +kernel

/-- The TIME commands; a device in no system is its own root. -/
theorem witness_TimeRowsComplete_commands :
    replied 0 (.timeSetSource m0) 0x702 0 0 [(4,2,100),(6,2,100),(8,4,1000),(12,2,100)] &&
    replied 0 (.timeSetSource m0) 0x702 0 0 [(3,1,3),(4,2,10000),(6,2,10000),(8,4,10),(12,2,1000)] && replied 0 (.timeSetIo m0) 0x703 0 0 [(12,4,500000)] &&
    replied 100 (.timeStep m0) 0x704 0 0 [(16,8,1)] && replied 0 (.timeGetStatus m0) 0x705 0 0 sz := by decide +kernel

/-! ### DMA, check values -/

/-- Channel 0 RUNNING, with the engine, over the instruction given by its fields. -/
def ins (l : List (Nat × Nat × Nat)) : Bytes := bytesOf 32 l
def dmaIn (st : ObjSt) (i : Bytes) : Dev := { ready with dma := { ready.dma with holder := some 0, ch := [(0, { prog := [i], obj := { st := st } })] } }

theorem witness_DmaProgramRowsComplete_rows :
    eff (.mailboxPost 0 2 1) (thr (.trigger 0 0)) (fun d => tgetD d.dma.lines 0 25 == 1) &&
    eff (.dmaEnd 0) (dmaIn .running (ins [])) (fun d => (d.getDma 0).obj.st == .stopped) &&
    eff (.dmaMove 0 none) (dmaIn .running (ins [(0,1,1)])) (fun d => (d.getDma 0).pc == 1) &&
    eff (.dmaMove 0 none) (dmaIn .running (ins [(0,1,1),(1,1,12),(4,4,8),(16,8,4096)])) (fun d => (d.getDma 0).moved == 8 || (d.getDma 0).last == .badArg) &&
    eff (.dmaMove 0 none) (dmaIn .running (ins [(0,1,1),(1,1,0x11),(4,4,8),(24,1,1)])) (fun d => (d.getDma 0).last == .badArg) &&
    eff (.dmaLoop 0) (dmaIn .running (ins [(0,1,2),(4,4,3)])) (fun d => (d.getDma 0).loops == [(0, 1)]) &&
    eff (.dmaLoop 0) (dmaIn .running (ins [(0,1,2),(4,4,1)])) (fun d => (d.getDma 0).pc == 1) &&
    eff (.dmaWait 0) (dmaIn .running (ins [(0,1,3),(4,1,8)])) (fun d => (d.getDma 0).waits == some 8 && d.dma.holder == none) &&
    eff (.dmaWait 0) (let d := dmaIn .running (ins [(0,1,3),(4,1,8)]); { d with dma := { d.dma with lines := [(8, 1)] } }) (fun d => (d.getDma 0).pc == 1 && d.dma.lines == []) &&
    eff (.dmaSignal 0) (dmaIn .running (ins [(0,1,4),(4,1,2),(5,1,8)])) (fun d => tgetD d.dma.lines 0 8 == 1) &&
    eff (.dmaShuffle 0) (dmaIn .running (ins [(0,1,5),(4,1,1),(5,1,2),(6,1,4),(8,4,8)])) (fun d => (d.getDma 0).stride == 8) &&
    eff (.dmaRunBudgetExpiry 0) (late (dmaIn .running (ins []))) (fun d => (d.getDma 0).last == .timeout) &&
    eff (.dmaChannelStartDone 0) (dmaIn .starting (ins [])) (fun d => (d.getDma 0).obj.st == .running) &&
    eff (.dmaChannelStopDone 0) (dmaIn .stopping (ins [])) (fun d => (d.getDma 0).obj.st == .stopped) := by decide +kernel

theorem witness_DmaProgramRowsComplete_commands :
    replied 0 (.dmaLoad m0 (some (ins []))) 0x800 24 0 [(0,2,1),(2,1,100)] && replied 0 (.dmaLoad m0 (some (ins [(0,1,3),(4,1,8)]))) 0x800 24 13 [(0,2,1)] &&
    replied 0 (.dmaEnable m0) 0x801 24 0 [] (dmaIn .stopped (ins [])) && replied 2 (.dmaEnable m0) 0x801 24 0 [] (dmaIn .stopping (ins [])) &&
    replied 0 (.dmaHalt m0) 0x802 24 0 [] && replied 0 (.dmaGetStatus m0) 0x803 24 0 sz && replied 4 (.dmaHalt m0) 0x802 24 14 [] := by decide +kernel

def xs0 : XStream := { clear := false, period := 10, base := 0, count := 1, next := 0 }
def scan0 : Scan := { intake := 0, addr := 0x400000000000, len := 2 ^ 26, poly := 0, flags := 0, expected := 0, run := 0xFFFFFFFF }
def cv1 : Dev := { ready with dma := { ready.dma with cv := [(1, { scan := some scan0 })] } }

theorem witness_ExportRowsComplete :
    replied 0 (.dmaSetExport m0) 0x804 0 0 [(0,1,3),(1,1,3),(4,4,60000),(8,4,67043328),(12,4,65536)] && replied 0 (.dmaSetExport m0) 0x804 0 0 [(0,1,4),(4,4,1)] &&
    eff (.counterExport 0) (late { ready with dma := { ready.dma with exp := [(0, xs0)] } }) (fun d => (tget d.dma.exp 0).map (·.done) == some 1) &&
    eff .telemetryExport (late { ready with dma := { ready.dma with exp := [(4, xs0)] } }) (fun d => (tget d.dma.exp 4).map (·.done) == some 1) &&
    (cv1.getCv 1).scan == some scan0 && decide (scan0.addr < 2 ^ 63) && decide (scan0.done + 16 * 2 ^ 20 < scan0.len) && cv1.dma.queue == [] &&
    eff (.cvSegmentEnd 0 none) cv1 (· == cv1) && eff .scrubBlock { ready with fwd := { ready.fwd with ce := [0x400000000008] } } (fun d => d.dma.scrub == 1 && d.fwd.ce == []) &&
    eff (.sramScrub 0x500000000008) { ready with fwd := { ready.fwd with ce := [0x500000000008] } } (fun d => d.fwd.ce == []) &&
    eff (.sramScrub 0x400000000008) ready (· == ready) &&
    replied 100 (.cvScan m0) 0x808 0 0 [(0,8,0x400000000000),(8,6,64)] && replied 0 (.cvGetStatus m0) 0x809 25 0 sz := by decide +kernel

/-! ### Triad and bridge -/

def tri (f : Triad → Triad) (r : List Role) : Dev := { ready with tri := f { ready.tri with ch := r.zipIdx.map fun x => (x.2, { role := x.1 }) } }
def vvv : List Role := [.voter, .voter, .voter]

theorem witness_TriadRowsComplete_votes :
    eff (.outputCopy 0 1 7#64) (tri id vvv) (fun d => d.tri.copies == [(1, [(0, 7)])]) && eff (.outputCopy 0 1 7#64) (tri id [.failed]) (· == tri id [.failed]) &&
    eff (.outputCopy 0 1 7#64) (tri (fun t => { t with copies := [(1, [(1, 7)])] }) vvv) (fun d => d.tri.released == [(1, (7, 0, [2]))]) &&
    eff (.outputCopy 0 1 7#64) (tri (fun t => { t with copies := [(1, [(1, 8)])] }) [.voter, .voter, .selftest]) (fun d => d.hif.frozen && d.tri.attempt == 1) &&
    eff (.voteTimeout 2) (late (tri (fun t => { t with released := [(1, (7, 0, [2]))] }) vvv)) (fun d => (d.getTri 2).role == .resync) &&
    eff (.checkpoint 1#64 1#64 2#64) (late (tri id vvv)) (fun d => d.tri.commits == 1) &&
    eff (.channelUe 0) (tri id vvv) (fun d => (d.getTri 0).role == .resync) && eff (.channelUe 0) (tri id [.voter, .voter, .resync]) (fun d => d.hif.headless) &&
    eff (.channelUe 0) (tri id [.standby, .voter, .voter]) (fun d => (d.getTri 0).role == .resync) &&
    eff .swapDue (late (tri (fun t => { t with swapDue := 0 }) vvv)) (fun d => (d.getTri 0).role == .selftest) &&
    eff (.selftestEnd 0 true) (late (tri id [.selftest, .voter, .voter])) (fun d => (d.getTri 0).stOk == 1 && d.tri.swapNext == 1) &&
    eff (.resyncDone 0 true) (tri id [.resync, .voter, .voter]) (fun d => (d.getTri 0).role == .standby) &&
    eff (.triadReturn ⟨false, true⟩ ⟨false, true⟩ ⟨true, true⟩) (tri (fun t => { t with restart := some { cause := .command, kind := .same, intake := none, began := 0 } }) [])
      (fun d => d.tri.restart.map (·.tries) == some 2) &&
    eff .headlessTimeout { tri (fun t => { t with restart := some { cause := .command, kind := .same, intake := none, began := 0 } }) [] with now := secT 120 }
      (fun d => d.tri.overrun && d.hif.alarm.getLsbD 0) &&
    replied 0 (.triadGetStatus m0) 0x910 0 0 sz && replied 0 (.triadSetSwap m0) 0x911 0 0 [(0,2,1440)] && replied 100 (.triadRestart m0) 0x912 0 0 [] &&
    replied 0 (.triadTraceRead m0) 0x913 26 0 [] := by decide +kernel

def group (f : BGroup → BGroup) : Dev := { ready with bridge := [(0, f {})] }
def flit (n : Nat) (ok : Bool) : Flit := { seq := n, crcOk := ok, ackSeq := 0, data := [] }

theorem witness_BridgeRowsComplete :
    eff (.bridgeLaneFail 0 0 .lock) ready (fun d => (Dev.bLane (d.getGroup 0) 0).st == .failed && (Dev.bLane (d.getGroup 0) 38).st == .service) &&
    eff (.spareSwapDone 0) (group fun x => { x with stalled := true }) (fun d => !(d.getGroup 0).stalled) &&
    eff (.laneEyeCheck 0 0 5 false) ready (fun d => (Dev.bLane (d.getGroup 0) 0).margin == 5) &&
    eff (.laneEyeCheck 0 0 5 true) ready (fun d => (Dev.bLane (d.getGroup 0) 0).st == .failed) &&
    eff (.laneRetrain 0 0 true) { group (fun x => { x with lane := x.lane.set 0 { st := .failed, goodAt := some 0 } }) with now := secT 1 }
      (fun d => (Dev.bLane (d.getGroup 0) 0).st == .spare) &&
    eff (.flitReceive 0 true (flit 0 true)) ready (fun d => (d.getGroup 0).rxSeq == [0, 1]) &&
    eff (.flitReceive 0 true (flit 2 true)) ready (fun d => (d.getGroup 0).asked == [false, true]) &&
    eff (.flitReceive 0 true (flit 0 false)) (group fun x => { x with asked := [false, true] }) (fun d => (d.getGroup 0).asked == [false, true] && (d.getGroup 0).rxSeq == [0, 0]) &&
    replied 0 (.bridgeGetStatus m0) 0x914 3 0 sz && replied 0 (.diagInject m0) 0x915 0 0 [(0,1,3)] && replied 0 (.diagInject m0) 0x915 0 0 [(0,1,2)] (tri id vvv) &&
    replied 0 (.diagInject m0) 0x915 0 0 [(0,1,4),(4,4,255)] (hbmRun ready) := by decide +kernel

/-! ### Boot and firmware. Images are checked with open functions (log 8), so a command that verifies one has no closed witness beyond its checks. -/

def env0 (src : Fin 4) : BootEnv := {
  bootSrc := src, smbAddr := 0, railsValid := true, romOk := true, chanPass := (true, true, true), trainFail := [], cold := [], light := [], pipeFail := []
  engFail := [], tamper := none, readyMs := 100, timeMs := 0, cfgReadable := true }

/-- The row answers a next state that meets `f`. -/
def effS (i : Instr) (s : State) (f : State → Bool) : Bool := match exec i s with | .next t => f t | _ => false
def chry (f : FwSt → FwSt) : Dev := { hif := { answers := true, chrysalis := true }, fw := f {} }
def smb : Recovery := { smbus := true, busy := true, len := 32, crc := crc32c 0xFFFFFFFF (List.replicate 32 0), code := 1 }

theorem witness_BootRowsComplete :
    effS (.bringUp { env0 0 with romOk := false }) {} (fun t => t.dev.hif.bootPhase == 0xF) && effS (.bringUp (env0 1)) {} (fun t => t.dev.hif.bootPhase == 0xC) &&
    effS (.bringUp (env0 2)) {} (fun t => t.dev.hif.bootPhase == 0xD) && effS (.bringUp { env0 2 with railsValid := false }) {} (· == {}) &&
    effS .deviceReset { dev := ready, nv := { slotA := { st := .writing }, minVer := 3 } } (fun t => !t.dev.hif.up && t.nv.slotA.st == .empty && t.nv.minVer == 3) &&
    effS .recoveryReset { dev := ready } (fun t => t.dev.hif.up) && effS .recoveryReset { dev := { ready with fw := { ready.fw with resetDue := some 0 } } } (fun t => !t.dev.hif.up) &&
    replied 3 (.fwRecoveryWrite m0 none true) 0xA10 0 0 [] &&
    repliedData 0 (.fwRecoveryWrite m0 (some (List.replicate 16 0)) true) 0xA10
      (bytesOf 240 [(0,1,1),(8,4,16),(24,4,crc32c 0xFFFFFFFF (List.replicate 16 0))]) (chry fun f => { f with hostBoot := true }) &&
    repliedData 0 (.fwRecoveryStatus m0) 0xA11 (bytesOf 240 []) (chry id) &&
    repliedData 0 (.fwRecoveryBoot m0) 0xA12 (bytesOf 240 [(4,4,crc32c 0xFFFFFFFF [])]) (chry id) &&
    repliedData 5 (.fwRecoveryBoot m0) 0xA12 (bytesOf 240 [(8,1,1)]) (chry id) &&
    effS (.smbRecoveryBegin 32 0 false) { dev := chry id } (fun t => t.dev.out == [.smbus none false]) &&
    effS (.smbRecoveryData (List.replicate 32 0) true) { dev := chry fun f => { f with recov := smb } } (fun t => t.nv.slotA.image.length == 32) &&
    effS (.smbRecoveryFinish true) { dev := chry fun f => { f with recov := smb }, nv := { slotA := { image := List.replicate 32 0 } } } (fun t => t.nv.slotA.st == .written) &&
    eff .smbRecoveryStatus (chry fun f => { f with recov := smb }) (fun d => d.out == [.smbus (some [1]) false]) := by decide +kernel

/-- A device that runs slot A, with slot B written. -/
def slotB (c : Cmd) : State := let s := waits ready c; { s with nv := { slotB := { st := .written } } }

theorem witness_FirmwareRowsComplete :
    eff .confirmTimeout { ready with fw := { ready.fw with confirmDue := some 0 } } (fun d => d.hif.headless && d.tri.restart.isSome) &&
    eff .parserBankSwap (late { ready with fw := { ready.fw with patch := some { bank := 2, version := 3, image := [1], at_ := 0, intake := 9 } } })
      (fun d => d.fw.patch == none && d.fw.bankVer.getD 2 0 == 3) &&
    replied 6 (.fwGetStatus m0) 0xA00 1 0 sz && replied 5 (.fwWrite m0 none true true) 0xA01 0 0 [] &&
    (let c := cmdOf 0xA02 (handle 0 0) (inl [(0,2,1440),(2,1,1)]); runsB (slotB c) 0xA02 c && answer (.fwActivate m0) (slotB c) == 100) &&
    replied 0 (.fwConfirm m0) 0xA03 0 0 [] && replied 4 (.fwRevert m0) 0xA04 0 0 [] &&
    (let c := cmdOf 0xA04 (handle 0 0) (inl []); answer (.fwRevert m0) { waits ready c with nv := { trial := some 1 } } == 100) &&
    replied 5 (.fwRelay m0 none) 0xA05 0 0 [] && replied 5 (.parserPatch m0 none) 0xA06 0 0 [] := by decide +kernel

/-! ### Power -/

def loopF (f : Loop → Loop) : Dev := { ready with pwr := { ready.pwr with loopF := f {} } }

/-- One value `n` times: the crickets of a die, its blocks, the sensors. -/
def same {α : Type} (n : Nat) (r : α) : List α := List.replicate n r

theorem witness_PowerRowsComplete :
    eff (.governorLoop false (same 64 9000) (same 65 9000)) ready (fun d => (d.getLoop false).v == 795 && (d.getLoop false).target == 9450) &&
    eff (.governorLoop false (same 64 9600) (same 65 9000)) { ready with pwr := { ready.pwr with fixed := true } } (fun d => (d.getLoop false).v == 620) &&
    eff (.governorLoop false (same 64 9900) (same 65 9000)) { ready with now := usT 100, pwr := { ready.pwr with loopQ := { highAt := some 0 } } } (fun d => (d.getLoop false).v == 745) &&
    eff (.governorLoop true (same 64 9900) (same 64 9000)) (loopF fun l => { l with short := true }) (fun d => (d.getLoop true).v == 800) &&
    eff (.avsTelemetryRead true true 750 1000) ready (fun d => (d.getLoop true).tmv == 750) &&
    eff (.avsTelemetryRead true false 750 1000) (loopF fun l => { l with nacks := 2 }) (fun d => (d.getLoop true).faulted) &&
    eff (.shortfallStart true) (late (loopF fun l => { l with lowAt := some 0 })) (fun d => (d.getLoop true).short) &&
    eff (.shortfallEnd true) (late (loopF fun l => { l with okAt := some 0, short := true })) (fun d => !(d.getLoop true).short) &&
    eff (.railSample 2 0) ready (fun d => ((d.pwr.rail.getD 2 {}).outAt).isSome) && !(ready.railSlewing 2) &&
    effS (.supplyGlitch 2 0) { dev := ready } (fun t => t.nv.latch != 0) && ({ ready with pwr := { ready.pwr with loopF := { sent := 700, setAt := 0 } } } : Dev).railSlewing 0 == true &&
    effS (.temperatureSample (same 64 430) (same 8 50)) { dev := ready } (fun t => !t.dev.pwr.trip && t.dev.hif.alarm.getLsbD 2) &&
    effS (.temperatureSample (same 64 (-170)) (same 8 50)) { dev := ready } (fun t => t.dev.sec.firing == 8#4) &&
    eff .quietEntry (late ready) (fun d => d.pwr.quiet) && replied 6 (.pwrGetStatus m0) 0xC00 1 0 sz &&
    replied 0 (.govSet m0) 0xC01 0 0 [(1,1,5),(2,2,620),(4,1,100)] && replied 0 (.govSet m0) 0xC01 0 0 [(0,1,1),(1,1,25),(2,2,800),(4,1,140),(8,4,60000)] &&
    replied 0 (.pwrSetThermal m0) 0xC02 0 0 [(0,1,80)] && replied 0 (.pwrSetThermal m0) 0xC02 0 0 [(0,1,104)] := by decide +kernel

/-! ### Security -/

def sec (f : Sec → Sec) : Dev := { ready with sec := f ready.sec }
def mac (f : Mac → Mac) : Dev := { ready with sec := { ready.sec with mac := [(0, f {})] } }
def sa0 : Sa := { key := [], salt := [], pn := 1, ssci := 0 }

theorem witness_SecurityRowsComplete :
    effS (.tamperDetect 1#4) { dev := ready } (fun t => t.dev.sec.kek == none && t.dev.hif.alarm.getLsbD 1) &&
    effS (.tamperDetect 1#4) { dev := sec fun x => { x with alarmOnly := 1#4, kek := some [] } } (fun t => t.dev.sec.kek == some []) &&
    effS (.tamperDetect 1#4) {} (fun t => t.nv.tamperLog.length == 1) && effS (.tamperDetect 1#4) { dev := sec fun x => { x with firing := 1#4 } } (fun t => t.nv == {}) &&
    replied 3 (.secGetIdentity m0) 0xB00 0 0 sz && replied 3 (.secAttest m0) 0xB01 0 0 [] && replied 5 (.secRevokeKey m0 none) 0xB02 0 0 [] &&
    replied 0 (.secRaiseMin m0) 0xB03 0 0 [] && replied 0 (.secSetTamper m0) 0xB04 0 0 [(0,1,1)] && replied 0 (.secGetTamper m0) 0xB05 0 0 sz &&
    replied 0 (.secTamperClear m0 0#4) 0xB06 0 0 [] && eff (.jtagInstruction .extest) ready (fun d => d.jtag.ir == .bypass) &&
    eff (.jtagInstruction .extest) {} (fun d => d.jtag.ir == .extest) := by decide +kernel

theorem witness_MacsecRowsComplete :
    replied 0 (.macsecSetPort m0) 0xB07 1 0 [(0,1,1)] && replied 0 (.macsecSetPort m0) 0xB07 1 0 [(2,1,2),(3,1,7),(4,1,50),(16,4,2 ^ 30)] &&
    replied 3 (.macsecKekAgree m0 (some [])) 0xB08 0 0 [] && replied 0 (.macsecSaInstall m0 (some (List.replicate 96 0))) 0xB09 27 0 [] &&
    replied 0 (.macsecSaDelete m0) 0xB0A 27 0 [(0,1,3)] && replied 0 (.macsecTxSelect m0) 0xB0B 27 0 [] (mac fun m => { m with sa := [(0, sa0)] }) &&
    replied 0 (.macsecGetStatus m0) 0xB0C 27 0 sz && replied 11 (.macsecSaDelete m0) 0xB0A 27 0 [] (sec fun x => { x with firing := 1#4 }) := by decide +kernel

/-! ### The machine -/

/-- A step answers a next state that meets `f`. -/
def stepB (s : State) (f : State → Bool) : Bool := match step s with | .next t => f t | _ => false

theorem witness_StepRunsFrontCommand :
    stepB { pending := [.flr], dev := ready } (fun t => t.dev.hif.reset.isSome && t.pending == []) &&
    stepB { dev := ready } (fun t => t.dev.now == 65536) && stepB {} (· == {}) := by decide +kernel

theorem witness_FusesOnlyBurn :
    stepB { pending := [.tamperDetect 3#4] } (fun t => t.nv.tamperLog.length == 1 && decide (t.nv.generation < 2 ^ 32)) := by decide +kernel

theorem witness_EveryCommandAnswers : Instr.nvRow .flr = false ∧ Instr.nvRow .deviceReset = true := by decide

theorem witness_EveryStepKeepsInv : State.reset.Inv ∧ (match step { pending := [.deviceReset] } with | .next _ => true | _ => false) = true := by
  unfold State.Inv; decide +kernel

theorem witness_HbmBytesReadBack :
    Memory.wf ready.hbm.mem = true ∧ ¬(0x397800000 ≤ 5 % 2 ^ 34 ∧ 5 % 2 ^ 34 < 0x3A4800000) ∧ ((ready.hbmPutByte 5 7).hbmPutByte 3 1).hbm.mem = [(3, 1), (5, 7)] := by
  decide +kernel

theorem witness_ObjectsFollowTheCommonMachine :
    ([.stopped, .starting, .running, .stopping].map fun st => (Obj.enable { st := st } 0).status) = [Status.ok, .refusedBusy, .ok, .deferred] := by decide

theorem witness_DmaEnableStartsAfresh :
    runsB (waits (dmaIn .stopped (ins [])) (cmdOf 0x801 (handle 24 0) (inl []))) 0x801 (cmdOf 0x801 (handle 24 0) (inl [])) &&
    replied 0 (.dmaEnable m0) 0x801 24 0 [] (dmaIn .stopped (ins [])) && replied 3 (.dmaEnable m0) 0x801 24 13 [] := by decide +kernel

theorem witness_TimeSourceTakesItsPayload :
    replied 0 (.timeSetSource m0) 0x702 0 0 [(4,2,10),(6,2,1),(8,4,10),(12,2,1)] := by decide +kernel

theorem witness_CutTakesItsPayload :
    replied 0 (.cswSetCut m0) 0x600 1 255 [(0,1,255)] && replied 5 (.cswSetCut m0) 0x600 1 255 [(31,1,1)] := by decide +kernel

theorem witness_CompletionChangesOnlyTheInterface :
    ((Dev.settle (cmdOf 6 0 []) (.done ready {})).hif.cmds == [] && (Dev.settle (cmdOf 6 0 []) (.pend (fun0 ready))).pe.fn.length == 1) := by decide +kernel

/-! One row of each family of the frames, and that it answers a next state. -/

theorem witness_HostRowsFrame : (Instr.hostRow .flr && effS .flr { dev := ready } fun t => t.dev.hif.reset.isSome) := by decide +kernel
theorem witness_LineRowsFrame : (Instr.lineRow (.pmSecond 0) && effS (.pmSecond 0) {} fun _ => true) := by decide +kernel
theorem witness_LookupRowsFrame : (Instr.lookupRow .batchCommit && effS .batchCommit {} fun _ => true) := by decide +kernel
theorem witness_QueueRowsFrame : (Instr.queueRow .watchedSample && effS .watchedSample {} fun _ => true) := by decide +kernel
theorem witness_FabricRowsFrame : (Instr.fabricRow .heartbeatSend && effS .heartbeatSend {} fun _ => true) := by decide +kernel

/-! ### Decoding and ill-formed terms -/

/-- The table gives its rows no bits, so no word spells a command. -/
theorem test_decodeTableWord : decodeTableWord 16 0 = none ∧ (State.reset.withFetchWord 16 0) = State.reset := by decide +kernel

/-- A term that WellFormed refuses. -/
def ill (l : List Instr) : Bool := l.all fun i => !i.wf
/-- The same terms inside their bounds. -/
def well (l : List Instr) : Bool := l.all fun i => i.wf

theorem test_wf_source : ill [.devGetInfo (.ring 65536)] && well [.devGetInfo (.ring 65535), .devGetInfo m0] := by decide +kernel

theorem test_wf_bringUp :
    ill [.bringUp { env0 0 with cold := [(8, 0)] }, .bringUp { env0 0 with cold := [(1, 0), (1, 2)] }, .bringUp { env0 0 with readyMs := 2 ^ 32 }] &&
    well [.bringUp (env0 0)] := by decide +kernel

theorem test_wf_host :
    ill [.bar0RegisterWrite 0 2 0 0, .bar0RegisterWrite 4 8 0 0, .bar0RegisterWrite 65536 4 0 0, .submissionTake 0 (some [0]),
      .injectSlotRead 0 (some [0]) frame0, .smbRecoveryBegin (2 ^ 32) 0 true, .smbRecoveryBegin 0 (2 ^ 32) true, .smbRecoveryData [] true] &&
    well [.bar0RegisterWrite 65532 4 0 0, .bar0RegisterWrite 65528 8 0 0, .submissionTake 0 none] := by decide +kernel

theorem test_wf_frame :
    ill ([{ frame0 with raw := [0] }, { frame0 with vrf := 65536 }, { frame0 with svc := 65536 }, { frame0 with labelSpace := 256 },
      { frame0 with flood := 65536 }, { frame0 with profile := 1024 }].map fun f => .frameReceive 0 f false) &&
    ill [.peEmit 0 2 ⟨0, 2 ^ 21⟩ frame0 at0, .threadFault 0 2 3 (2 ^ 32) 0 0,
      .threadVerdict 0 2 ⟨[], .cont (some (.group 65536)) none none none none { off := 0, removed := 0, insert := [] }, at0⟩] &&
    well [.frameReceive 0 frame0 false, .peEmit 0 2 ⟨0, 7⟩ frame0 at0, .threadVerdict 0 2 ⟨[], .discard, at0⟩] := by decide +kernel

theorem test_wf_line :
    ill [.laneMeasureDone 0 (List.replicate 9 { il := 0, refl := [], snr := 0 }), .rttMeasureDone 0 (List.replicate 257 0), .codewordReceive 0 500 45,
      .faultOrderedSet 0 false 128, .flitReceive 0 true { flit 0 true with data := List.replicate 257 0 }, .egressDelivery 0 0 1024 none false 0] &&
    well [.codewordReceive 0 500 44, .faultOrderedSet 0 false 127] := by decide +kernel

theorem test_wf_indexes :
    ill [.ecmpGroupSwitch 262144, .ecmpRebalance 262144, .tcamScrub 262144, .voqDequeue 4194304, .activationComplete 0x500000, .activeIdleTimeout 0x500000,
      .destFlushTimeout 2048, .reservationRelease 2048, .creditReqRefresh 4194304, .queueStartDone 0x500000, .queueStopDone 0x500000, .sramScrub 4] &&
    well [.ecmpGroupSwitch 262143, .tcamScrub 262143, .voqDequeue 4194303, .queueStartDone 0x4FFFFF, .destFlushTimeout 2047, .sramScrub 8] := by decide +kernel

theorem test_wf_credit :
    ill ([{ msg0 with srcDev := 2048 }, { msg0 with voq := 4194304 }, { msg0 with value := 65536 }, { msg0 with seq := 65536 }].flatMap fun m =>
      [.creditReq m, .creditGrant m, .creditReturn m]) && well [.creditReq msg0, .creditGrant msg0, .creditReturn msg0] := by decide +kernel

theorem test_wf_hbm :
    ill [.hbmRequest { req0 true with addr := 2 ^ 37 }, .hbmRequest { req0 true with bank := 64 }, .hbmRequest { req0 true with data := List.replicate 257 0 },
      .hbmRequestComplete 0 0 (List.replicate 9 .ok)] && well [.hbmRequest (req0 true)] := by decide +kernel

theorem test_wf_cell :
    ill ([{ cell0 with cls := 16 }, { cell0 with payLen := 257 }, { cell0 with srcDev := 2048 }, { cell0 with dstDev := 2048 }, { cell0 with prio := 4 },
      { cell0 with fabSeq := 65536 }, { cell0 with linkSeq := 65536 }, { cell0 with ackSeq := 65536 }].map fun c => .fabricCellReceive 0 c) &&
    well [.fabricCellReceive 0 cell0] := by decide +kernel

theorem test_wf_fabric :
    ill [.linkRetry 0 65536, .reseqHoldExpiry 0 2048 0, .reseqHoldExpiry 0 0 9, .lostCreditRelease 0 2048 0, .lostCreditRelease 0 0 8,
      .discover 0 { isDevice := true, id := 2048, plane := 0, port := 0 }, .reachDelta 0 2048 true, .portState 2048 0 true, .portVector 2048 0, .heartbeat 2048 0 0 0,
      .heartbeat 0 (2 ^ 32) 0 0, .meridianClaim 2048 0, .epochPrepare { prep0 with src := 2048 }, .epochPrepare { prep0 with classMap := [0] }, .epochAck 2048 0 0,
      .epochCancel 2048 0, .epochStatus 2048 0 0, .quarantine 2048 0 true, .relayChunk 2048 0 0 1 0 [], .relayChunk 0 0 0 1 0 (List.replicate 4097 0),
      .relayChunk 0 0 1 1 0 [], .relayAck 2048 0 0 true] &&
    ill ([(2048, 0, 0), (0, 3, 0), (0, 0, 4)].map fun x => .observation { src := x.1, subjKind := x.2.1, kind := x.2.2, subj := 0, epoch := 0, time := 0 }) &&
    well [.epochPrepare prep0, .relayChunk 0 0 0 1 0 []] := by decide +kernel

theorem test_wf_time_power :
    ill [.esmcPdu 0 16, .timeSync { tsync0 with root := 2048 }, .timeDelayReq 2048 0 false, .timeStepNotice { notice0 with src := 2048 },
      .timeCandidate { src := 2048, kind := 0, prio := 0, clockClass := 0, accuracy := 0, variance := 0, gm := 0, steps := 0 }, .timeRoot 2048 ⟨0, 0⟩ false,
      .avsTelemetryRead true true 65536 0, .avsTelemetryRead true true 0 (2 ^ 32), .railSample 0 65536, .supplyGlitch 0 65536, .temperatureSample [] (List.replicate 8 0),
      .temperatureSample (List.replicate 64 0) []] && well [.esmcPdu 0 15, .timeSync tsync0, .temperatureSample (List.replicate 64 0) (List.replicate 8 0)] := by decide +kernel

/-! ### Worked examples and check values of the manual -/

def digits : Bytes := [0x31, 0x32, 0x33, 0x34, 0x35, 0x36, 0x37, 0x38, 0x39]

/-- Table 12.2 and Table 17.6: the check values over "123456789". -/
theorem test_crc_checks :
    crc16 digits = 0x29B1 ∧ crc32c 0xFFFFFFFF digits = 0xE3069283 ∧ cvFinal 0 (cvRun 0 (cvInit 0) digits) = 0xCBF43926#64 ∧
    cvFinal 1 (cvRun 1 (cvInit 1) digits) = 0xE3069283#64 ∧ cvFinal 2 (cvRun 2 (cvInit 2) digits) = 0x6C40DF5F0B497347#64 := by decide +kernel

/-- R156: the key bytes of label space 5 and label 0x1_2345. -/
theorem test_key_bytes : keyBytes 28 (5 * 2 ^ 20 + 0x12345) = [0x05, 0x12, 0x34, 0x50] := by decide +kernel

/-- The two frames of chapter 1. -/
theorem test_voq_numbers : Dev.voqOf 342400 5 = 0x29CC05 ∧ Dev.voqOf 14792 2 = 0x1CE42 := by decide +kernel

/-- Chapter 4, a member lost and rebalanced. -/
theorem test_ecmp_rebalance :
    Dev.targets 64 [5, 3, 2] [true, true, true] = [32, 19, 13] ∧ (Dev.probes { log2B := 6, members := [], buckets := [], auto := true, live := [] } 0x9A3C0000 0x12345678).take 2 = [38, 27] ∧
    Dev.targets 64 [5, 3, 2] [true, false, true] = [46, 0, 18] ∧
    ((Dev.reassign ((Dev.freshBuckets [32, 19, 13]).map some) [46, 0, 18]).drop 32).take 19 = List.replicate 14 0 ++ List.replicate 5 2 := by decide +kernel

/-- Chapter 20, a load step: a need of 1.00 at a rate of 1.017 raises the floor of 0.62 V to 0.655 V. -/
theorem test_governor_raise :
    eff (.governorLoop true (same 64 10170) (same 64 10000)) (loopF fun l => { l with v := 620, acked := 620, sent := 620 }) (fun d => (d.getLoop true).v == 655 && (d.getLoop true).target == 10500) := by
  decide +kernel

/-- Table 2.3: the levels of bits 00, 01, 11, 10; the inner code of 1, 2, 3 from 0, and its reverse; R44: blocks dealt to the two instances. -/
theorem test_line_code :
    grayLevels [false, false, false, true, true, true, true, false] = [0, 1, 2, 3] ∧ accumulate 0 [1, 2, 3] = [1, 3, 2] ∧ differences 0 [1, 3, 2] = [1, 2, 3] ∧
    deal3200 [0, 1, 2, 3, 4] = ([0, 2, 4], [1, 3]) ∧ merge3200 [0, 2, 4] [1, 3] = [0, 1, 2, 3, 4] := by decide +kernel

/-- Table 2.4: a field is spelled by 256 symbols, and read back; a word of odd parity is discarded. -/
theorem test_training_field :
    (fieldLevels 0x80000001).length = 256 ∧ levelsField (fieldLevels 0x80000001) = 0x80000001 ∧ Dev.parityOk 0x80000001 = true ∧ Dev.parityOk 1 = false := by
  decide +kernel

/-- The header of `frame0` is read from its bytes, and its checksum stays right when the TTL falls. -/
theorem test_headers :
    (stdParse none 64 frame0.raw).layers.map (fun l => l.ip.map fun h => (h.sa, h.da, h.ttl)) = [some (0x0A000001, 0x0A000002, 64)] ∧
    (stdParse none 64 frame0.raw).bad = false ∧ inetSum (lowerTtl ip0 0) = 0 ∧ net (lowerTtl ip0 0) 8 1 = 63 := by decide +kernel

/-- Table 15.3: PART and STEPPING, and a register the table does not list. -/
theorem test_bar0_read : ready.bar0Read 0 8 = 0x7100A100 ∧ ready.bar0Read 0x7FF8 8 = 0 := by decide +kernel

/-- R560: a write of the command with intake number 4 enters the journal, is dropped with the command, and is taken back by a restart. -/
theorem test_journal :
    (ready.noteWrite 4 (.queue 7 none)).tri.journal.length = 1 ∧
    (Dev.undo 4 ({ ready with qs := { ready.qs with q := [(7, {})] } }.noteWrite 4 (.queue 7 none))).qs.q = [] := by decide +kernel

end Sys2Proof.Tests
end

section
/-! PROOFS. O47: every command answers a next state with the queue and the elapsed time as they were. No operation of the device part writes `now`,
so each has one lemma `f_now`; the lemmas stand in the order of the model's files, and the last part goes through the rows. -/

namespace Sys2Proof.Machine
open Sys2Proof

/-- The device that an answer leaves. -/
def Reply.dev : Reply → Dev
  | .done d _ => d
  | .pend d => d

@[simp] theorem Reply.dev_done (d : Dev) (r : Resp) : (Reply.done d r).dev = d := rfl
@[simp] theorem Reply.dev_pend (d : Dev) : (Reply.pend d).dev = d := rfl
@[simp] theorem Reply.dev_ite (p : Prop) [Decidable p] (a b : Reply) : (if p then a else b).dev = if p then a.dev else b.dev :=
  apply_ite _ _ _ _

/-- The device that a stage of the pipeline leaves. -/
def StRes.dev : StRes → Dev
  | .go _ d | .wait _ d | .drop _ _ d | .punted _ d => d

@[simp] theorem StRes.dev_go (f : Flight) (d : Dev) : (StRes.go f d).dev = d := rfl
@[simp] theorem StRes.dev_wait (f : Flight) (d : Dev) : (StRes.wait f d).dev = d := rfl
@[simp] theorem StRes.dev_drop (n : Nat) (f : Flight) (d : Dev) : (StRes.drop n f d).dev = d := rfl
@[simp] theorem StRes.dev_punted (f : Flight) (d : Dev) : (StRes.punted f d).dev = d := rfl
@[simp] theorem StRes.dev_ite (p : Prop) [Decidable p] (a b : StRes) : (if p then a else b).dev = if p then a.dev else b.dev :=
  apply_ite _ _ _ _

/-- The device that a lookup leaves. -/
def Dev.Look.dev : Dev.Look → Dev
  | .hit _ _ d | .miss _ d | .wait _ d | .discard _ d => d

@[simp] theorem Dev.Look.dev_hit (n : Nat) (f : Flight) (d : Dev) : (Dev.Look.hit n f d).dev = d := rfl
@[simp] theorem Dev.Look.dev_miss (f : Flight) (d : Dev) : (Dev.Look.miss f d).dev = d := rfl
@[simp] theorem Dev.Look.dev_wait (f : Flight) (d : Dev) : (Dev.Look.wait f d).dev = d := rfl
@[simp] theorem Dev.Look.dev_discard (f : Flight) (d : Dev) : (Dev.Look.discard f d).dev = d := rfl
@[simp] theorem Dev.Look.dev_ite (p : Prop) [Decidable p] (a b : Look) : (if p then a else b).dev = if p then a.dev else b.dev :=
  apply_ite _ _ _ _

@[simp] theorem State.dev_ite (p : Prop) [Decidable p] (a b : State) : (if p then a else b).dev = if p then a.dev else b.dev :=
  apply_ite _ _ _ _

namespace Dev

@[simp] theorem ite_now (p : Prop) [Decidable p] (a b : Dev) : (if p then a else b).now = if p then a.now else b.now :=
  apply_ite _ _ _ _

@[simp] theorem foldl_now {α : Type} (f : Dev → α → Dev) (h : ∀ d x, (f d x).now = d.now) (l : List α) (d : Dev) :
    (l.foldl f d).now = d.now := by
  induction l generalizing d with
  | nil => rfl
  | cons x l ih => rw [List.foldl_cons, ih, h]

/-- A fold over a state of which the device is one part. -/
theorem foldl_keeps {α β : Type} (p : β → Dev) (f : β → α → β) (h : ∀ b x, (p (f b x)).now = (p b).now) (l : List α) (b : β) :
    (p (l.foldl f b)).now = (p b).now := by
  induction l generalizing b with
  | nil => rfl
  | cons x l ih => rw [List.foldl_cons, ih, h]

@[simp] theorem foldl_fst_now {α β : Type} (f : Dev × β → α → Dev × β) (h : ∀ p x, (f p x).1.now = p.1.now) (l : List α) (p : Dev × β) :
    (l.foldl f p).1.now = p.1.now := foldl_keeps Prod.fst f h l p

@[simp] theorem foldl_snd_now {α β : Type} (f : β × Dev → α → β × Dev) (h : ∀ p x, (f p x).2.now = p.2.now) (l : List α) (p : β × Dev) :
    (l.foldl f p).2.now = p.2.now := foldl_keeps Prod.snd f h l p

/-- A handler that starts with tests keeps what its work keeps: a test that applies changes nothing. -/
theorem check_now {d : Dev} {l : List (Bool × Status)} {go : Reply} (h : go.dev.now = d.now) : (d.check l go).dev.now = d.now := by
  unfold check; split
  · rfl
  · exact h

theorem checkNv_now {nv : Nv} {d : Dev} {l : List (Bool × Status)} {go : Nv × Reply} (h : go.2.dev.now = d.now) :
    (d.checkNv nv l go).2.dev.now = d.now := by
  unfold checkNv; split
  · rfl
  · exact h

@[simp] theorem statusReply_now (c : Cmd) (d : Dev) (l : List Fld) (f : Dev → Dev) (h : (f d).now = d.now) :
    (statusReply c d l f).dev.now = d.now := by
  simp only [statusReply]; split
  · rfl
  · exact h

/-- The device of a pair, once the pair is known. -/
theorem snd_now {α : Type} {p : α × Dev} {a : α} {e : Dev} (h : p = (a, e)) : e.now = p.2.now := by rw [h]

end Dev
end Sys2Proof.Machine

namespace Sys2Proof.Machine
open Sys2Proof

namespace Dev

/-! ### Operations every part shares -/

@[simp] theorem openVal_now (d) : (openVal d).2.now = d.now := by simp [openVal]
@[simp] theorem openBytes_now (d w) : (openBytes d w).2.now = d.now := by simp [openBytes]
@[simp] theorem vecSend_now (d v) : (vecSend d v).now = d.now := by simp [vecSend]
@[simp] theorem vecUpdate_now (d v) : (vecUpdate d v).now = d.now := by simp [vecUpdate]
@[simp] theorem vecUpdateAll_now (d) : (vecUpdateAll d).now = d.now := by simp [vecUpdateAll]
@[simp] theorem evCoalesce_now (d e) : (evCoalesce d e).now = d.now := by simp [evCoalesce]
@[simp] theorem openWindow_now (d type key countAt) : (openWindow d type key countAt).now = d.now := by simp [openWindow]
@[simp] theorem mapWindow_now (d type key f) : (mapWindow d type key f).now = d.now := by simp [mapWindow]
@[simp] theorem completeNow_now (d c r) : (completeNow d c r).now = d.now := by fun_cases completeNow <;> grind [dropCmd_now, emit_now, setCause_now]
@[simp] theorem complete_now (d c r) : (complete d c r).now = d.now := by simp [complete]
@[simp] theorem releaseDone_now (d) : (releaseDone d).now = d.now := foldl_now _ (fun x p => by grind [completeNow_now]) _ _
@[simp] theorem startCmd_now (d k) : (startCmd d k).now = d.now := by simp [startCmd]
@[simp] theorem settle_now (c : Cmd) (r : Reply) : (settle c r).now = r.dev.now := by cases r <;> simp [settle]

theorem runCmd_now (op : Nat) (src : Src) (h : Cmd → Dev → Reply) (k : ∀ c d, (h c d).dev.now = d.now) (d : Dev) :
    (runCmd op src h d).now = d.now := by
  unfold runCmd; split
  · rfl
  · split <;> simp [k]

@[simp] theorem finish_now (d op h r) : (finish d op h r).now = d.now := by unfold finish; split <;> simp

/-! ### The event path -/

@[simp] theorem eventRecordWrite_now (d) : (eventRecordWrite d).now = d.now := by unfold eventRecordWrite; split <;> simp
@[simp] theorem coalesceClose_now (d) : (coalesceClose d).now = d.now := by unfold coalesceClose; split <;> simp
@[simp] theorem eventRingDeliver_now (d) : (eventRingDeliver d).now = d.now := by unfold eventRingDeliver; split <;> simp
@[simp] theorem eventWindowEnd_now (type key d) : (eventWindowEnd type key d).now = d.now := by fun_cases eventWindowEnd <;> simp
@[simp] theorem evtSetFilter_now (c d) : (evtSetFilter c d).dev.now = d.now := check_now (by simp)
@[simp] theorem evtGetStats_now (c d) : (evtGetStats c d).dev.now = d.now := check_now (by simp)
@[simp] theorem evtTest_now (pl c d) : (evtTest pl c d).dev.now = d.now := check_now (by simp)

/-! ### Readings and effects shared across chapters -/

@[simp] theorem putT_now (d p t) : (putT d p t).now = d.now := by simp [putT]
@[simp] theorem modT_now (d p f) : (modT d p f).now = d.now := by simp [modT]
@[simp] theorem announcePort_now (d p down) : (announcePort d p down).now = d.now := by simp [announcePort]
@[simp] theorem synceSquelch_now (d) : (synceSquelch d).now = d.now := by simp [synceSquelch]
@[simp] theorem rateShort_now (d l) : (rateShort d l).now = d.now := by simp [rateShort]
@[simp] theorem quietEvent_now (d entered) : (quietEvent d entered).now = d.now := by unfold quietEvent; split <;> simp
@[simp] theorem modTri_now (d k f) : (modTri d k f).now = d.now := by simp [modTri]
@[simp] theorem triTrace_now (type a b k d) : (triTrace type a b k d).now = d.now := by simp [triTrace]
@[simp] theorem quietExit_now (d) : (quietExit d).now = d.now := by simp [quietExit]
@[simp] theorem dmaHaltCh_now (k d) : (dmaHaltCh k d).2.now = d.now := by simp [dmaHaltCh]
@[simp] theorem dmaRequest_now (d line) : (dmaRequest d line).now = d.now := by simp [dmaRequest]
@[simp] theorem putSlot_now (nv d b x) : (putSlot nv d b x).2.now = d.now := by unfold putSlot; split <;> simp
@[simp] theorem putMac_now (d p m) : (putMac d p m).now = d.now := by simp [putMac]
@[simp] theorem macRx_now (d p cause) : (macRx d p cause).2.now = d.now := by simp [macRx]
@[simp] theorem macsecReceive_now (d p f) : (macsecReceive d p f).2.now = d.now := by fun_cases macsecReceive <;> simp
@[simp] theorem macsecSend_now (d p inverted f) : (macsecSend d p inverted f).2.now = d.now := by simp only [macsecSend]; (repeat' split) <;> simp
@[simp] theorem logIn_now (k d) : (logIn k d).now = d.now := by simp [logIn]
@[simp] theorem shadowNeed_now (i d) : (shadowNeed i d).now = d.now := by simp [shadowNeed]
@[simp] theorem liveCheck_now (d) : (liveCheck d).now = d.now := by simp [liveCheck]

/-! ### HBM as its requester ports see it -/

@[simp] theorem modCh_now (d k f) : (modCh d k f).now = d.now := by simp [modCh]
@[simp] theorem modStack_now (d k f) : (modStack d k f).now = d.now := by simp [modStack]

@[simp] theorem hbmPutByte_now (d a v) : (hbmPutByte d a v).now = d.now := by simp [hbmPutByte]

theorem hbmPutBytes_now (l : List (Byte × Nat)) (a : Byte × Nat → Nat) (d : Dev) :
    (l.foldl (fun (x : Dev) p => x.hbmPutByte (a p) p.1) d).now = d.now := foldl_now _ (fun _ _ => hbmPutByte_now ..) _ _

@[simp] theorem hbmWrite_now (a bs d) : (hbmWrite a bs d).now = d.now := by simp [hbmWrite]
@[simp] theorem setPoison_now (g on d) : (setPoison g on d).now = d.now := by simp [setPoison]
@[simp] theorem hbmAnswer_now (w data ok d) : (hbmAnswer w data ok d).now = d.now := by simp [hbmAnswer]
@[simp] theorem raiseDouble_now (d c) : (raiseDouble d c).now = d.now := by simp [raiseDouble]
@[simp] theorem markUnit_now (u d) : (markUnit u d).now = d.now := by simp [markUnit]
@[simp] theorem applyWrite_now (r shift d) : (applyWrite r shift d).now = d.now := by simp [applyWrite]
@[simp] theorem elsewhere_now (d u) : (elsewhere d u).2.now = d.now := by fun_cases elsewhere <;> simp
@[simp] theorem writeLost_now (k n d) : (writeLost k n d).now = d.now := by simp [writeLost]
@[simp] theorem lostUpdate_now (k port d) : (lostUpdate k port d).now = d.now := by simp [lostUpdate]
@[simp] theorem holdWrite_now (k h d) : (holdWrite k h d).2.now = d.now := by unfold holdWrite; split <;> simp

@[simp] theorem serveElsewhere_now (w d) : (serveElsewhere w d).now = d.now := by
  fun_cases serveElsewhere <;> grind [!elsewhere_now, hbmAnswer_now, lostUpdate_now, markUnit_now, applyWrite_now, !holdWrite_now]

@[simp] theorem enterCh_now (w d) : (enterCh w d).now = d.now := by simp [enterCh]
@[simp] theorem portsDrain_now (s l d) : (portsDrain s l d).now = d.now := by fun_induction portsDrain <;> grind [enterCh_now, modStack_now]
@[simp] theorem drainStack_now (s d) : (drainStack s d).now = d.now := by simp [drainStack]
@[simp] theorem hbmRequest_now (r d) : (hbmRequest r d).now = d.now := by simp only [hbmRequest]; (repeat' split) <;> simp

@[simp] theorem p4Skips_now (a : Nat) (put : Dev → Dev) (d : Dev) (h : (put d).now = d.now) : (p4Skips a put d).now = d.now := by
  unfold p4Skips; split <;> simp [h]

@[simp] theorem addPair_now (i len d) : (addPair i len d).now = d.now := by simp [addPair]
@[simp] theorem addBins_now (q g l d) : (addBins q g l d).now = d.now := by simp [addBins]
@[simp] theorem applyHeld_now (d h) : (applyHeld d h).now = d.now := by unfold applyHeld; split <;> simp
@[simp] theorem setIncomplete_now (j d) : (setIncomplete j d).now = d.now := by simp [setIncomplete]

@[simp] theorem countPair_now (d i len) : (countPair d i len).now = d.now := by
  fun_cases countPair <;> grind [addPair_now, !holdWrite_now, setIncomplete_now]

@[simp] theorem countBins_now (q l d) : (countBins q l d).now = d.now := by simp [countBins]
@[simp] theorem clearPoison_now (a n d) : (clearPoison a n d).now = d.now := by simp [clearPoison]
@[simp] theorem writeCopies_now (c n d) : (writeCopies c n d).now = d.now := by simp [writeCopies]
@[simp] theorem readPort_now (p a n d) : (readPort p a n d).now = d.now := by simp [readPort]
@[simp] theorem readP3_now (a n d) : (readP3 a n d).now = d.now := by simp [readP3]
@[simp] theorem queueCfgRead_now (q d) : (queueCfgRead q d).now = d.now := by simp [queueCfgRead]

/-! ### Lookup tables -/

@[simp] theorem setTbl_now (d f) : (setTbl d f).now = d.now := by simp [setTbl]
@[simp] theorem setEm_now (d isExt i t) : (setEm d isExt i t).now = d.now := by simp [setEm]
@[simp] theorem modAcl_now (d i f) : (modAcl d i f).now = d.now := by simp [modAcl]
@[simp] theorem ceRead_now (reads d) : (ceRead reads d).now = d.now := by simp [ceRead]

@[simp] theorem tcamSearch_now (old tab tabIdx key tt n d) : (tcamSearch old tab tabIdx key tt n d).2.now = d.now := by
  fun_induction tcamSearch <;> grind [ceRead_now, raise_now, modAcl_now, setTbl_now]

@[simp] theorem nearFullCheck_now (h was usedN cap d) : (nearFullCheck h was usedN cap d).2.now = d.now := by fun_cases nearFullCheck <;> simp
@[simp] theorem emNear_now (isExt i d) : (emNear isExt i d).now = d.now := by unfold emNear; split <;> simp
@[simp] theorem lpmNear_now (d) : (lpmNear d).now = d.now := by simp [lpmNear]
@[simp] theorem emInsert_now (isExt i e d) : (emInsert isExt i e d).2.now = d.now := by simp only [emInsert]; (repeat' split) <;> simp
@[simp] theorem recLpm_now (add x d) : (recLpm add x d).d.now = d.now := by fun_cases recLpm <;> simp
@[simp] theorem extStored_now (isExt t j d) : (extStored isExt t j d).now = d.now := by simp [extStored]
@[simp] theorem extWrote_now (isExt i k d) : (extWrote isExt i k d).now = d.now := by fun_cases extWrote <;> simp

@[simp] theorem recEm_now (isExt add i r d) : (recEm isExt add i r d).d.now = d.now := by
  fun_cases recEm <;> grind [!emInsert_now, extWrote_now, extStored_now, emNear_now, setEm_now]

@[simp] theorem tcamNear_now (i d) : (tcamNear i d).now = d.now := by unfold tcamNear; split <;> simp
@[simp] theorem recAcl_now (add i r d) : (recAcl add i r d).d.now = d.now := by fun_cases recAcl <;> simp
@[simp] theorem touchLines_now (d ls) : (touchLines d ls).now = d.now := setFwd_now d _
@[simp] theorem encapStored_now (add i big pin d) : (encapStored add i big pin d).now = d.now := by simp [encapStored]
@[simp] theorem recEncap_now (add r d) : (recEncap add r d).d.now = d.now := by unfold recEncap; split <;> simp
@[simp] theorem recApply_now (d r) : (recApply d r).d.now = d.now := by fun_cases recApply <;> simp

theorem runRecords_now (f : Dev → Bytes → RecRes) (h : ∀ d r, (f d r).d.now = d.now) (b : BatchRes) (l : List Bytes) :
    (runRecords f b l).d.now = b.d.now := by
  fun_induction runRecords f b l <;> grind

@[simp] theorem modBatch_now (d f) : (modBatch d f).now = d.now := by simp [modBatch]

@[simp] theorem recReserve_now (d r) : (recReserve d r).d.now = d.now := by
  fun_cases recReserve <;> grind [modBatch_now, lpmNear_now, !emInsert_now, tcamNear_now, setTbl_now]

@[simp] theorem recCommit_now (d r) : (recCommit d r).d.now = d.now := by fun_cases recCommit <;> simp

@[simp] theorem freeReserved_now (b d) : (freeReserved b d).now = d.now := by
  simp only [freeReserved, setTbl_now]
  refine foldl_now _ (fun x m => ?_) _ _
  grind [setEm_now]

@[simp] theorem allNear_now (d) : (allNear d).now = d.now := by simp [allNear]

@[simp] theorem tblBatchApply_now (pl c d) : (tblBatchApply pl c d).dev.now = d.now := by
  fun_cases tblBatchApply <;> grind [runRecords_now, !recApply_now, setFwd_now, !recReserve_now, noteWrite_now, Reply.dev]

@[simp] theorem batchCommit_now (d) : (batchCommit d).now = d.now := by
  fun_cases batchCommit <;> grind [runRecords_now, !recCommit_now, setFwd_now, freeReserved_now, allNear_now, complete_now]

@[simp] theorem releaseOld_now (d) : (releaseOld d).now = d.now := by simp [releaseOld]
@[simp] theorem tblCreate_now (c d) : (tblCreate c d).dev.now = d.now := check_now (by simp)
@[simp] theorem tblDestroy_now (c d) : (tblDestroy c d).dev.now = d.now := check_now (by simp)
@[simp] theorem tblSetAgeing_now (c d) : (tblSetAgeing c d).dev.now = d.now := by unfold tblSetAgeing; split <;> simp
@[simp] theorem vrfSet_now (c d) : (vrfSet c d).dev.now = d.now := check_now (by simp)
@[simp] theorem tblSetProfile_now (c d) : (tblSetProfile c d).dev.now = d.now := check_now (by simp)
@[simp] theorem tblRead_now (c d) : (tblRead c d).dev.now = d.now := check_now (by simp)
@[simp] theorem learnApply_now (i d) : (learnApply i d).now = d.now := by simp only [learnApply]; (repeat' split) <;> simp
@[simp] theorem ageingSweep_now (i d) : (ageingSweep i d).now = d.now := by unfold ageingSweep; split <;> simp
@[simp] theorem tcamScrub_now (idx d) : (tcamScrub idx d).now = d.now := by unfold tcamScrub; split <;> simp
@[simp] theorem shadowRebuild_now (x d) : (shadowRebuild x d).now = d.now := by simp only [shadowRebuild]; (repeat' split) <;> simp

/-! ### Counters, policers and punts -/

@[simp] theorem modPipe_now (d i f) : (modPipe d i f).now = d.now := by simp [modPipe]
@[simp] theorem dropPipe_now (d pl code len) : (dropPipe d pl code len).now = d.now := by simp [dropPipe]
@[simp] theorem dropPort_now (d p code len) : (dropPort d p code len).now = d.now := by simp [dropPort]
@[simp] theorem dropLane_now (d l code len) : (dropLane d l code len).now = d.now := by simp [dropLane]
@[simp] theorem police_now (d i len) : (police d i len).2.now = d.now := by simp only [police]; (repeat' split) <;> simp
@[simp] theorem puntCounted_now (d r f) : (puntCounted d r f).now = d.now := by simp [puntCounted]
@[simp] theorem punt_now (d i) : (punt d i).now = d.now := by fun_cases punt <;> grind [puntCounted_now, dropPipe_now, setCause_now, emit_now]
@[simp] theorem cntRead_now (c d) : (cntRead c d).dev.now = d.now := check_now (by simp)

/-! ### Ports and lanes -/

@[simp] theorem modPort_now (d p f) : (modPort d p f).now = d.now := by simp [modPort]
@[simp] theorem modLane_now (d l f) : (modLane d l f).now = d.now := by simp [modLane]
@[simp] theorem modLanes_now (d p f) : (modLanes d p f).now = d.now := by simp [modLanes]
@[simp] theorem raisePort_now (d p type sev detail) : (raisePort d p type sev detail).now = d.now := by simp [raisePort]
@[simp] theorem protect_now (d p cause) : (protect d p cause).now = d.now := by simp [protect]
@[simp] theorem unprotect_now (d p) : (unprotect d p).now = d.now := by simp [unprotect]
@[simp] theorem firstRelease_now (d p) : (firstRelease d p).now = d.now := by simp [firstRelease]
@[simp] theorem macEval_now (d p cause) : (macEval d p cause).now = d.now := by simp [macEval]
@[simp] theorem tryLinkUp_now (d p) : (tryLinkUp d p).now = d.now := by simp [tryLinkUp]
@[simp] theorem cancelMeasures_now (d p) : (cancelMeasures d p).now = d.now := by simp [cancelMeasures]
@[simp] theorem linkDown_now (d p cause) : (linkDown d p cause).now = d.now := by simp [linkDown]
@[simp] theorem startAbility_now (d p) : (startAbility d p).now = d.now := by simp [startAbility]
@[simp] theorem startAutoneg_now (d p) : (startAutoneg d p).now = d.now := by simp [startAutoneg]
@[simp] theorem startCycle_now (d p) : (startCycle d p).now = d.now := by simp [startCycle]
@[simp] theorem noCommonMode_now (d p ab) : (noCommonMode d p ab).now = d.now := by simp [noCommonMode]
@[simp] theorem restartWait_now (d p) : (restartWait d p).now = d.now := by simp [restartWait]
@[simp] theorem sendTrain_now (d p l preset) : (sendTrain d p l preset).now = d.now := by simp [sendTrain]
@[simp] theorem abilityCheck_now (d p) : (abilityCheck d p).now = d.now := by simp only [abilityCheck]; (repeat' split) <;> simp
@[simp] theorem abilityCount_now (d p l control id) : (abilityCount d p l control id).now = d.now := by simp [abilityCount]
@[simp] theorem abilityFrame_now (l control status d) : (abilityFrame l control status d).now = d.now := by unfold abilityFrame; split <;> simp
@[simp] theorem dataStart_now (d p) : (dataStart d p).now = d.now := by simp [dataStart]

@[simp] theorem trainKind_now (kind l control status adapt rxReady d) : (trainKind kind l control status adapt rxReady d).now = d.now := by
  unfold trainKind; split <;> simp

@[simp] theorem trainFrame_now (n v v2 v3 b d) : (trainFrame n v v2 v3 b d).now = d.now := by simp [trainFrame]
@[simp] theorem readyFrame_now (n v v2 v3 b d) : (readyFrame n v v2 v3 b d).now = d.now := by simp [readyFrame]
@[simp] theorem abilityTimeout_now (p d) : (abilityTimeout p d).now = d.now := by simp [abilityTimeout]
@[simp] theorem trainTimeout_now (p d) : (trainTimeout p d).now = d.now := by simp [trainTimeout]
@[simp] theorem trainingRestart_now (p d) : (trainingRestart p d).now = d.now := by simp [trainingRestart]
@[simp] theorem autonegPage_now (p abilities page d) : (autonegPage p abilities page d).now = d.now := by simp [autonegPage]
@[simp] theorem autonegTimeout_now (p d) : (autonegTimeout p d).now = d.now := by simp [autonegTimeout]
@[simp] theorem linkTraining_now (l req complete d) : (linkTraining l req complete d).now = d.now := by unfold linkTraining; split <;> simp
@[simp] theorem partnerGone_now (p d) : (partnerGone p d).now = d.now := by simp [partnerGone]
@[simp] theorem laneSignal_now (l present d) : (laneSignal l present d).now = d.now := by unfold laneSignal; split <;> simp
@[simp] theorem codeword_now (l e f d) : (codeword l e f d).now = d.now := by unfold codeword; split <;> simp

@[simp] theorem alignmentMarker_now (l inPlace blockLock calOk d) : (alignmentMarker l inPlace blockLock calOk d).now = d.now := by
  unfold alignmentMarker; split <;> simp

@[simp] theorem faultSet_now (p remote column d) : (faultSet p remote column d).now = d.now := by simp [faultSet]
@[simp] theorem otucSend_now (p bip8 d) : (otucSend p bip8 d).now = d.now := by simp [otucSend]
@[simp] theorem otucFrame_now (p o0 d) : (otucFrame p o0 d).now = d.now := by simp [otucFrame]
@[simp] theorem declareReported_now (p d) : (declareReported p d).now = d.now := by simp [declareReported]
@[simp] theorem switchOn_now (p b d) : (switchOn p b d).now = d.now := by simp [switchOn]
@[simp] theorem switchOff_now (p was d) : (switchOff p was d).now = d.now := by simp [switchOff]
@[simp] theorem defectDeclare_now (p x d) : (defectDeclare p x d).now = d.now := by simp [defectDeclare]
@[simp] theorem defectClear_now (p x d) : (defectClear p x d).now = d.now := by simp [defectClear]
@[simp] theorem linkDownPersist_now (p d) : (linkDownPersist p d).now = d.now := by simp [linkDownPersist]
@[simp] theorem holdoffExpiry_now (p d) : (holdoffExpiry p d).now = d.now := by simp only [holdoffExpiry]; split <;> simp
@[simp] theorem wtrExpiry_now (p d) : (wtrExpiry p d).now = d.now := by simp [wtrExpiry]
@[simp] theorem leaveRunning_now (p d) : (leaveRunning p d).now = d.now := by simp [leaveRunning]
@[simp] theorem binsIncomplete_now (p d) : (binsIncomplete p d).now = d.now := by simp [binsIncomplete]
@[simp] theorem portStarting_now (p d) : (portStarting p d).now = d.now := by simp [portStarting]
@[simp] theorem portEnable_now (c d) : (portEnable c d).dev.now = d.now := check_now (by simp)
@[simp] theorem portDisable_now (c d) : (portDisable c d).dev.now = d.now := check_now (by simp)
@[simp] theorem lanesReady_now (p d) : (lanesReady p d).now = d.now := by simp [lanesReady]

theorem portStopDone_now (flush : Nat → Dev → Dev × Nat) (h : ∀ p d, (flush p d).1.now = d.now) (p : Nat) (d : Dev) :
    (portStopDone flush p d).now = d.now := by
  simp only [portStopDone]; split
  · split <;> simp [h]
  · rfl

@[simp] theorem portSetMode_now (c d) : (portSetMode c d).dev.now = d.now := check_now (by simp)
@[simp] theorem portSetAbilities_now (c d) : (portSetAbilities c d).dev.now = d.now := check_now (by simp)
@[simp] theorem portSetLimits_now (c d) : (portSetLimits c d).dev.now = d.now := check_now (by simp)
@[simp] theorem portGetStatus_now (c d) : (portGetStatus c d).dev.now = d.now := check_now (by simp)
@[simp] theorem laneMeasure_now (c d) : (laneMeasure c d).dev.now = d.now := check_now (by simp)
@[simp] theorem laneMeasureDone_now (p ms d) : (laneMeasureDone p ms d).now = d.now := by unfold laneMeasureDone; split <;> simp
@[simp] theorem portMeasureRtt_now (c d) : (portMeasureRtt c d).dev.now = d.now := check_now (by simp)
@[simp] theorem rttMeasureDone_now (p rtts d) : (rttMeasureDone p rtts d).now = d.now := by fun_cases rttMeasureDone <;> simp
@[simp] theorem ttiApply_now (p tx ex mode act d) : (ttiApply p tx ex mode act d).now = d.now := by simp [ttiApply]
@[simp] theorem frmSetTti_now (pl c d) : (frmSetTti pl c d).dev.now = d.now := check_now (by simp)
@[simp] theorem frmSetActions_now (c d) : (frmSetActions c d).dev.now = d.now := check_now (by simp)
@[simp] theorem frmGetDefects_now (c d) : (frmGetDefects c d).dev.now = d.now := check_now (by simp)

/-! ### The ingress pipeline -/

@[simp] theorem nhRead_now (i d) : (nhRead i d).now = d.now := by simp [nhRead]
@[simp] theorem nhLook_now (i d) : (nhLook i d).2.now = d.now := by unfold nhLook; split <;> simp
@[simp] theorem ecmpError_now (gi d) : (ecmpError gi d).now = d.now := by simp [ecmpError]

@[simp] theorem ecmpWalk_now (gi g l d) : (ecmpWalk gi g l d).2.now = d.now := by
  fun_induction ecmpWalk <;> grind [ceRead_now, ecmpError_now, !nhLook_now]

@[simp] theorem readBucket_now (t b d) : (readBucket t b d).now = d.now := by simp [readBucket]
@[simp] theorem extIssue_now (pl i key f d) : (extIssue pl i key f d).dev.now = d.now := by unfold extIssue; split <;> simp
@[simp] theorem emError_now (d i) : (emError d i).now = d.now := by unfold emError; split <;> simp
@[simp] theorem emHit_now (d i k) : (emHit d i k).now = d.now := by fun_cases emHit <;> simp
@[simp] theorem emLook_now (d f i k mark) : (emLook d f i k mark).2.now = d.now := by simp only [emLook]; (repeat' split) <;> simp

@[simp] theorem look_now (d pl kind em k mark f) : (look d pl kind em k mark f).dev.now = d.now := by
  fun_cases look <;> grind [!emLook_now, !extIssue_now, Look.dev, StRes.dev]

@[simp] theorem stage1_now (_pl f d) : (stage1 _pl f d).dev.now = d.now := by simp [stage1]
@[simp] theorem stage2_now (_pl f d) : (stage2 _pl f d).dev.now = d.now := by simp [stage2]
@[simp] theorem learn_now (t f d) : (learn t f d).now = d.now := by simp only [learn]; (repeat' split) <;> simp
@[simp] theorem stage3_now (pl f d) : (stage3 pl f d).dev.now = d.now := by fun_cases stage3 <;> grind [learn_now, !look_now, Look.dev, StRes.dev]

@[simp] theorem terminate_now (pl t l f d) : (terminate pl t l f d).dev.now = d.now := by
  fun_induction terminate <;> grind [!look_now, Look.dev, StRes.dev]

@[simp] theorem stage4_now (pl f d) : (stage4 pl f d).dev.now = d.now := by simp [stage4]
@[simp] theorem ttlCopy_now (pl f d) : (ttlCopy pl f d).now = d.now := by fun_cases ttlCopy <;> grind [punt_now]
@[simp] theorem takeRoute_now (pl ttl r ip f d) : (takeRoute pl ttl r ip f d).dev.now = d.now := by unfold takeRoute; split <;> simp
@[simp] theorem prefixRoute_now (d f h da) : (prefixRoute d f h da).2.now = d.now := by simp only [prefixRoute]; (repeat' split) <;> simp

@[simp] theorem l3Look_now (pl f d) : (l3Look pl f d).dev.now = d.now := by
  fun_cases l3Look <;> grind [!look_now, !takeRoute_now, !prefixRoute_now, Look.dev, StRes.dev]

@[simp] theorem stage5_now (pl f d) : (stage5 pl f d).dev.now = d.now := by simp [stage5]

@[simp] theorem labels_now (pl t n f d) : (labels pl t n f d).dev.now = d.now := by
  fun_induction labels <;> grind [!l3Look_now, !look_now, !takeRoute_now, ttlCopy_now, Look.dev, StRes.dev]

@[simp] theorem stage6_now (pl f d) : (stage6 pl f d).dev.now = d.now := by simp [stage6]
@[simp] theorem aclFind_now (d f tab key) : (aclFind d f tab key).2.now = d.now := by unfold aclFind; split <;> simp
@[simp] theorem aclAct_now (i a f d) : (aclAct i a f d).dev.now = d.now := by simp only [aclAct]; split <;> simp
@[simp] theorem flowLook_now (pl f d) : (flowLook pl f d).dev.now = d.now := by fun_cases flowLook <;> grind [!look_now, Look.dev, StRes.dev]

@[simp] theorem stage7_now (pl f d) : (stage7 pl f d).dev.now = d.now := by
  fun_cases stage7 <;> grind [!flowLook_now, !aclFind_now, !aclAct_now, StRes.dev]

/-! ### Packet engines -/

@[simp] theorem setEng_now (d e x) : (setEng d e x).now = d.now := by simp [setEng]
@[simp] theorem traceRec_now (d e type thread fn data) : (traceRec d e type thread fn data).now = d.now := by simp [traceRec]
@[simp] theorem modeRec_now (was e d) : (modeRec was e d).now = d.now := by simp [modeRec]
@[simp] theorem modEng_now (d e f) : (modEng d e f).now = d.now := by simp [modEng]
@[simp] theorem modFn_now (d i f) : (modFn d i f).now = d.now := by unfold modFn; split <;> simp
@[simp] theorem sendFlits_now (g toQueueing len d) : (sendFlits g toQueueing len d).now = d.now := by simp [sendFlits]
@[simp] theorem egressFlush_now (pl d) : (egressFlush pl d).now = d.now := by simp [egressFlush]
@[simp] theorem dropFlight_now (d pl fid code egress) : (dropFlight d pl fid code egress).now = d.now := by simp only [dropFlight]; split <;> simp
@[simp] theorem sampleRec_now (d e t fn) : (sampleRec d e t fn).now = d.now := by simp only [sampleRec]; split <;> simp
@[simp] theorem startThread_now (d e t i st) : (startThread d e t i st).now = d.now := by simp [startThread]
@[simp] theorem hiveHand_now (e n d) : (hiveHand e n d).now = d.now := by fun_induction hiveHand <;> grind [startThread_now, setEng_now]
@[simp] theorem wake_now (d e) : (wake d e).now = d.now := by simp [wake]

theorem send_now {d : Dev} {i : Invocation} {e : Dev} (h : send d i = some e) : e.now = d.now := by
  unfold send at h; grind [hiveHand_now, wake_now, modEng_now]

theorem dispatch_now {d : Dev} {n : Nat} {w : Work} {e : Dev} (h : dispatch d n w = some e) : e.now = d.now := by
  unfold dispatch at h; grind [→ send_now, modFn_now]

@[simp] theorem endThread_now (e t d) : (endThread e t d).now = d.now := by simp [endThread]
@[simp] theorem issue_now (e t d) : (issue e t d).now = d.now := by simp [issue]
@[simp] theorem answerThread_now (e t a d) : (answerThread e t a d).now = d.now := by simp [answerThread]
@[simp] theorem startRegister_now (e t d) : (startRegister e t d).now = d.now := by simp only [startRegister]; (repeat' split) <;> simp
@[simp] theorem releaseMask_now (e mask d) : (releaseMask e mask d).now = d.now := by simp [releaseMask]
@[simp] theorem fork_now (e t entry d) : (fork e t entry d).now = d.now := by simp only [fork]; (repeat' split) <;> simp
@[simp] theorem join_now (e t c d) : (join e t c d).now = d.now := by unfold join; split <;> simp
@[simp] theorem faultThread_now (e t cause a d) : (faultThread e t cause a d).now = d.now := by simp [faultThread]
@[simp] theorem watchdog_now (e t a d) : (watchdog e t a d).now = d.now := by unfold watchdog; split <;> simp
@[simp] theorem dropWork_now (d fn w) : (dropWork d fn w).now = d.now := by unfold dropWork; split <;> simp
@[simp] theorem supervisor_now (e d) : (supervisor e d).now = d.now := by simp only [supervisor]; (repeat' split) <;> simp

theorem access_now {e t : Nat} {i : Invocation} {a : Access} {d x : Dev} (h : access e t i a d = .made x) : x.now = d.now := by
  cases a <;> simp only [access] at h
  case area =>
    split at h
    · split at h <;> cases h
      exact hbmPutBytes_now _ _ _
    · cases h
  case ext =>
    split at h
    · split at h <;> next hx => cases h; simpa using (congrArg (·.dev.now) hx).symm
    · cases h
  all_goals (repeat' split at h) <;> cases h <;> simp

@[simp] theorem accesses_now (e t i n l d) : (accesses e t i n l d).1.now = d.now := by fun_induction accesses <;> grind [→ access_now]
@[simp] theorem putVerdict_now (pl fid egress v d) : (putVerdict pl fid egress v d).now = d.now := by simp [putVerdict]

@[simp] theorem threadVerdict_now (e t acts v a d) : (threadVerdict e t acts v a d).now = d.now := by
  simp only [threadVerdict]; (repeat' split) <;> simp

@[simp] theorem emitFrame_now (e t pl f nh a d) : (emitFrame e t pl f nh a d).now = d.now := by unfold emitFrame; split <;> simp
@[simp] theorem drainTrigger_now (k n d) : (drainTrigger k n d).now = d.now := by fun_induction drainTrigger <;> grind [→ dispatch_now]
@[simp] theorem triggerInvocation_now (k d) : (triggerInvocation k d).now = d.now := by unfold triggerInvocation; split <;> simp

@[simp] theorem redispatch_now (d i) : (redispatch d i).now = d.now := by
  fun_cases redispatch <;> grind [→ send_now, modFn_now, dropFlight_now, putVerdict_now]

@[simp] theorem discardHeld_now (e d) : (discardHeld e d).now = d.now := by simp [discardHeld]
@[simp] theorem peEnable_now (c d) : (peEnable c d).dev.now = d.now := check_now (by simp)
@[simp] theorem engLeave_now (d e o) : (engLeave d e o).now = d.now := by simp [engLeave]
@[simp] theorem peDisable_now (c d) : (peDisable c d).dev.now = d.now := check_now (by simp)
@[simp] theorem raiseEngFailed_now (d e c again) : (raiseEngFailed d e c again).now = d.now := by simp [raiseEngFailed]
@[simp] theorem engineFailure_now (e c d) : (engineFailure e c d).now = d.now := by simp [engineFailure]
@[simp] theorem threadFault_now (e t cause a d) : (threadFault e t cause a d).now = d.now := by fun_cases threadFault <;> simp
@[simp] theorem engineReenable_now (e d) : (engineReenable e d).now = d.now := by simp [engineReenable]
@[simp] theorem engineSelfTest_now (e ok d) : (engineSelfTest e ok d).now = d.now := by simp [engineSelfTest]
@[simp] theorem engineStopDone_now (e d) : (engineStopDone e d).now = d.now := by simp [engineStopDone]
@[simp] theorem idleGate_now (e d) : (idleGate e d).now = d.now := by simp [idleGate]
@[simp] theorem freeAreas_now (d) : (freeAreas d).now = d.now := by simp [freeAreas]

theorem takeArea_now {m : Nat} {d e : Dev} (h : takeArea m d = some e) : e.now = d.now := by
  simp only [takeArea] at h; split at h
  · simp at h
  · split at h
    · simp_all
    · obtain ⟨b, -, rfl⟩ := Option.map_eq_some_iff.1 h
      rfl

@[simp] theorem peModuleLoad_now (nv pl c d) : (peModuleLoad nv pl c d).dev.now = d.now := by
  simp only [peModuleLoad]; split
  · exact check_now (by simp)
  · split
    · exact check_now (by simp)
    · refine check_now ?_
      rw [Reply.dev_done]; split
      · rcases h : takeArea _ _ with _ | e
        · rfl
        · simp [takeArea_now h]
      · rfl

@[simp] theorem fnSet_now (c d) : (fnSet c d).dev.now = d.now := by
  simp only [fnSet]; split
  · exact check_now (by simp)
  · refine check_now ?_
    rw [Reply.dev_done, foldl_now]
    · cases h : takeArea _ _ <;> grind [→ takeArea_now, freeAreas_now]
    · intro x e; split <;> simp

@[simp] theorem peSetSlots_now (c d) : (peSetSlots c d).dev.now = d.now := check_now (by simp)
@[simp] theorem peThreadRestore_now (c d) : (peThreadRestore c d).dev.now = d.now := check_now (by simp)
@[simp] theorem peTraceRead_now (c d) : (peTraceRead c d).dev.now = d.now := check_now (by simp)
@[simp] theorem peTraceConfig_now (c d) : (peTraceConfig c d).dev.now = d.now := check_now (by simp)
@[simp] theorem fnSetTrigger_now (c d) : (fnSetTrigger c d).dev.now = d.now := by simp only [fnSetTrigger]; split <;> exact check_now (by simp)

@[simp] theorem peGetStatus_now (c d) : (peGetStatus c d).dev.now = d.now := by
  simp only [peGetStatus]; split
  · split
    · rfl
    · simp
  · exact check_now (by simp)

@[simp] theorem patchNext_now (d r) : (patchNext d r).now = d.now := by simp only [patchNext]; (repeat' split) <;> simp
@[simp] theorem pePatch_now (nv pl c d) : (pePatch nv pl c d).dev.now = d.now := by simp only [pePatch]; split <;> simp
@[simp] theorem patchDrained_now (e crcOk d) : (patchDrained e crcOk d).now = d.now := by unfold patchDrained; split <;> simp

/-! ### The stages behind the engines, and the egress pipeline -/

@[simp] theorem steer_now (pl egress f d) : (steer pl egress f d).dev.now = d.now := by
  fun_cases steer <;> grind [→ dispatch_now, setPipe_now, modPipe_now, modFn_now, StRes.dev]

@[simp] theorem policeOpt_now (i f d) : (policeOpt i f d).2.now = d.now := by unfold policeOpt; split <;> simp
@[simp] theorem stage8_now (_pl f d) : (stage8 _pl f d).dev.now = d.now := by simp [stage8]
@[simp] theorem useNh_now (i f d) : (useNh i f d).dev.now = d.now := by simp only [useNh]; split <;> simp

@[simp] theorem stage9_now (_pl f d) : (stage9 _pl f d).dev.now = d.now := by
  fun_cases stage9 <;> grind [!nhLook_now, !useNh_now, ecmpError_now, !ecmpWalk_now, StRes.dev]

@[simp] theorem countOpt_now (d i len) : (countOpt d i len).now = d.now := by unfold countOpt; split <;> simp
@[simp] theorem cross_now (pl f d) : (cross pl f d).now = d.now := by simp [cross]
@[simp] theorem mirrorCopy_now (pl egress f d) : (mirrorCopy pl egress f d).now = d.now := by fun_cases mirrorCopy <;> grind [punt_now, cross_now]

@[simp] theorem stage11_now (pl f d) : (stage11 pl f d).dev.now = d.now := by
  fun_cases stage11 <;> grind [countOpt_now, mirrorCopy_now, punt_now, StRes.dev]

theorem stageList_now : ∀ s ∈ stageList, ∀ pl f d, (s pl f d).dev.now = d.now := by simp [stageList]

theorem runStages_now (pl : Nat) (l : List (Nat → Flight → Dev → StRes)) (h : ∀ s ∈ l, ∀ pl f d, (s pl f d).dev.now = d.now)
    (k : Nat) (f : Flight) (d : Dev) : (runStages pl k l f d).dev.now = d.now := by
  induction l generalizing k f d with
  | nil => rfl
  | cons s r ih =>
    have hs : ∀ f d, (s pl f d).dev.now = d.now := h s (by simp) pl
    unfold runStages; split
    · next g e hg => rw [ih (fun t ht => h t (by simp [ht])), ← hs _ d, hg, StRes.dev_go]
    · exact hs _ _

@[simp] theorem resumeStages_now (pl f d) :
    (resumeStages pl f d).dev.now = d.now := runStages_now pl _ (fun s hs => stageList_now s (List.mem_of_mem_drop hs)) _ f d

@[simp] theorem settleFlight_now (pl i r) : (settleFlight pl i r).now = r.dev.now := by cases r <;> simp [settleFlight, StRes.dev]
@[simp] theorem enterIngress_now (pl f d) : (enterIngress pl f d).now = d.now := by simp [enterIngress]
@[simp] theorem takeFlight_now (d pl fid) : (takeFlight d pl fid).now = d.now := by simp [takeFlight]
@[simp] theorem extAnswer_now (pl i f a d) : (extAnswer pl i f a d).now = d.now := by simp [extAnswer]

@[simp] theorem extReply_now (pl fid r d) : (extReply pl fid r d).now = d.now := by
  fun_cases extReply <;> grind [extAnswer_now, takeFlight_now, setEm_now, modPipe_now, touchLines_now]

@[simp] theorem extLateRow_now (pl fid d) : (extLateRow pl fid d).now = d.now := by
  fun_cases extLateRow <;> grind [settleFlight_now, !resumeStages_now, modPipe_now, takeFlight_now, StRes.dev]

@[simp] theorem egressReady_now (pl i f d) : (egressReady pl i f d).now = d.now := by simp [egressReady]

@[simp] theorem egressStage2_now (pl i f d) : (egressStage2 pl i f d).now = d.now := by
  fun_cases egressStage2 <;> grind [!aclFind_now, egressFlush_now, dropPipe_now, mirrorCopy_now, dropPort_now, punt_now, countOpt_now,
    egressReady_now]

@[simp] theorem egressDelivery_now (pl aclKey profile cnt fn d) : (egressDelivery pl aclKey profile cnt fn d).now = d.now := by
  fun_cases egressDelivery <;> grind [setPipe_now, egressFlush_now, dropPort_now, !steer_now, egressStage2_now, modPipe_now, dropPipe_now, StRes.dev]

@[simp] theorem verdictDrop_now (fn d) : (verdictDrop fn d).now = d.now := by unfold verdictDrop; split <;> simp

@[simp] theorem excursionReturn_now (pl fid d) : (excursionReturn pl fid d).now = d.now := by
  fun_cases excursionReturn <;> grind [takeFlight_now, settleFlight_now, !resumeStages_now, verdictDrop_now, setPipe_now, egressStage2_now,
    egressFlush_now, punt_now, dropPipe_now, mirrorCopy_now, StRes.dev]

@[simp] theorem frameReceive_now (p f overrun d) : (frameReceive p f overrun d).now = d.now := by simp [frameReceive]
@[simp] theorem handOver_now (pl f d) : (handOver pl f d).now = d.now := by simp [handOver]

@[simp] theorem frameHandoff_now (pl d) : (frameHandoff pl d).now = d.now := by
  fun_cases frameHandoff <;> grind [handOver_now, takeFlight_now, setPipe_now, !resumeStages_now, settleFlight_now, StRes.dev]

@[simp] theorem tcStage_now (p f d) : (tcStage p f d).2.now = d.now := by simp only [tcStage]; (repeat' split) <;> simp

@[simp] theorem frameTransmit_now (p underrun d) : (frameTransmit p underrun d).now = d.now := by
  fun_cases frameTransmit <;> grind [dropPort_now, !tcStage_now, !macsecSend_now, macEval_now, emit_now, rateShort_now, modLane_now, dropLane_now]

@[simp] theorem viewRelease_now (d) : (viewRelease d).now = d.now := by simp [viewRelease]
@[simp] theorem ecmpSwitch_now (g d) : (ecmpSwitch g d).now = d.now := by simp only [ecmpSwitch]; (repeat' split) <;> simp
@[simp] theorem ecmpRebalance_now (g d) : (ecmpRebalance g d).now = d.now := by unfold ecmpRebalance; split <;> simp
@[simp] theorem protectPorts_now (pl d) : (protectPorts pl d).now = d.now := by simp [protectPorts]

@[simp] theorem flushPipe_now (pl code d) : (flushPipe pl code d).now = d.now := by
  simp only [flushPipe]
  rw [foldl_now, foldl_now]
  · simp
  · intro y f; split <;> simp
  · intro y f; simp

@[simp] theorem failPipe_now (pl cause d) : (failPipe pl cause d).now = d.now := by simp [failPipe]
@[simp] theorem pipeFailure_now (pl c d) : (pipeFailure pl c d).now = d.now := by unfold pipeFailure; split <;> simp
@[simp] theorem pipeSelfTest_now (pl ok d) : (pipeSelfTest pl ok d).now = d.now := by simp [pipeSelfTest]

theorem pipeStopDone_now (flush : Nat → Dev → Dev × Nat) (h : ∀ p d, (flush p d).1.now = d.now) (pl : Nat) (d : Dev) :
    (pipeStopDone flush pl d).now = d.now := by
  simp only [pipeStopDone]; split
  · simp [h]
  · rfl

@[simp] theorem pipeEnable_now (c d) : (pipeEnable c d).dev.now = d.now := check_now (by simp)
@[simp] theorem pipeDisable_now (c d) : (pipeDisable c d).dev.now = d.now := check_now (by simp)
@[simp] theorem pipeGetStatus_now (c d) : (pipeGetStatus c d).dev.now = d.now := check_now (by simp)
@[simp] theorem pipeSetHash_now (c d) : (pipeSetHash c d).dev.now = d.now := check_now (by simp)
@[simp] theorem refreshLive_now (d) : (refreshLive d).now = d.now := by simp [refreshLive]
@[simp] theorem nhSet_now (c d) : (nhSet c d).dev.now = d.now := check_now (by simp)
@[simp] theorem ecmpSetGroup_now (pl c d) : (ecmpSetGroup pl c d).dev.now = d.now := by simp only [ecmpSetGroup]; split <;> exact check_now (by simp)
@[simp] theorem frrForce_now (c d) : (frrForce c d).dev.now = d.now := check_now (by simp)

@[simp] theorem dropGetCounters_now (c d) : (dropGetCounters c d).dev.now = d.now := by
  simp only [dropGetCounters]; split <;> exact check_now (by simp)

@[simp] theorem tblGetStatus_now (c d) : (tblGetStatus c d).dev.now = d.now := by simp only [tblGetStatus]; (repeat' split) <;> simp
@[simp] theorem tblSetExtRate_now (c d) : (tblSetExtRate c d).dev.now = d.now := check_now (by simp)

/-! ### Buffer pools -/

@[simp] theorem modSlice_now (d s f) : (modSlice d s f).now = d.now := by simp [modSlice]
@[simp] theorem modQuota_now (d k f) : (modQuota d k f).now = d.now := by simp [modQuota]
@[simp] theorem setQ_now (d q x) : (setQ d q x).now = d.now := by simp [setQ]
@[simp] theorem modQ_now (d q f) : (modQ d q f).now = d.now := by simp [modQ]
@[simp] theorem dropSlice_now (d s code len) : (dropSlice d s code len).now = d.now := by simp [dropSlice]
@[simp] theorem dropSlicePort_now (d s p code len) : (dropSlicePort d s p code len).now = d.now := by simp [dropSlicePort]
@[simp] theorem chargeOnd_now (d k n) : (chargeOnd d k n).now = d.now := by simp [chargeOnd]
@[simp] theorem chargeHbm_now (d k n) : (chargeHbm d k n).now = d.now := by simp [chargeHbm]
@[simp] theorem uncharge_now (d k cells) : (uncharge d k cells).now = d.now := by simp [uncharge]
@[simp] theorem putRec_now (d p r) : (putRec d p r).now = d.now := by simp [putRec]
@[simp] theorem delRec_now (d p) : (delRec d p).now = d.now := by simp [delRec]

@[simp] theorem writeRecs_now (owner ref shared l b d) : (writeRecs owner ref shared l b d).now = d.now := by
  fun_induction writeRecs <;> grind [putRec_now]

@[simp] theorem doubleFree_now (d s p req) : (doubleFree d s p req).now = d.now := by simp [doubleFree]
@[simp] theorem ownerFault_now (d s p owner req) : (ownerFault d s p owner req).now = d.now := by simp [ownerFault]
@[simp] theorem ptrFault_now (d s p op) : (ptrFault d s p op).now = d.now := by simp [ptrFault]
@[simp] theorem freeCell_now (s req d p) : (freeCell s req d p).now = d.now := by fun_cases freeCell <;> simp
@[simp] theorem releaseFrame_now (s req p d) : (releaseFrame s req p d).now = d.now := by unfold releaseFrame; split <;> simp
@[simp] theorem discardEntry_now (q code port d e) : (discardEntry q code port d e).now = d.now := by unfold discardEntry; split <;> simp
@[simp] theorem putCell_now (a b d) : (putCell a b d).now = d.now := by simp [putCell]
@[simp] theorem putParity_now (o d) : (putParity o d).now = d.now := putCell_now ..

theorem takeHbm_now {s : Nat} {l : List Bytes} {k : List Nat} {d e : Dev} (h : takeHbm s l d = some (k, e)) : e.now = d.now := by
  fun_induction takeHbm generalizing k <;> grind [putCell_now, setBuf_now, modSlice_now, putParity_now]

@[simp] theorem stripeClose_now (s d) : (stripeClose s d).now = d.now := by unfold stripeClose; split <;> simp
@[simp] theorem unstack_now (l d) : (unstack l d).now = d.now := by simp [unstack]
@[simp] theorem evict_now (d v) : (evict d v).now = d.now := by unfold evict; split <;> simp
@[simp] theorem pushOut_now (d c n) : (pushOut d c n).2.now = d.now := by simp only [pushOut]; split <;> simp

@[simp] theorem place_now (s f d) : (place s f d).2.now = d.now := by
  fun_cases place <;> grind [chargeOnd_now, → takeHbm_now, chargeHbm_now, setBuf_now, !pushOut_now]

@[simp] theorem cfgWrite_now (q f d) : (cfgWrite q f d).now = d.now := by simp [cfgWrite]
@[simp] theorem leaveActive_now (d q) : (leaveActive d q).now = d.now := by simp [leaveActive]

theorem takeEntry_now {d : Dev} {q : Nat} {b : Bool} {p : Part} {e : Dev} (h : takeEntry d q b = some (p, e)) : e.now = d.now := by
  simp only [takeEntry] at h; split at h
  · simp_all
  · split at h
    · simp at h
    · obtain ⟨v, -, hv⟩ := Option.map_eq_some_iff.1 h
      simp [← (Prod.mk.inj hv).2]

@[simp] theorem handToQueue_now (q e d) : (handToQueue q e d).now = d.now := by
  fun_cases handToQueue <;> grind [setQ_now, → takeEntry_now, modQ_now, raiseCounted_now, discardEntry_now, queueCfgRead_now]

@[simp] theorem store_now (d f cells owner copies k) : (store d f cells owner copies k).now = d.now := by simp [store]

@[simp] theorem admitGroup_now (s f vs d) : (admitGroup s f vs d).now = d.now := by
  unfold admitGroup; dsimp only; split
  · rfl
  · split
    · next h => rw [foldl_now _ (by simp)]; simp [snd_now h]
    · next h => rw [foldl_now _ (by simp)]; split <;> simp [snd_now h]

@[simp] theorem admitFrame_now (s f d) : (admitFrame s f d).now = d.now := by simp [admitFrame]
@[simp] theorem ageHeads_now (q n d) : (ageHeads q n d).now = d.now := by fun_induction ageHeads <;> grind [discardEntry_now, setQ_now]
@[simp] theorem ageQueue_now (d q) : (ageQueue d q).now = d.now := by simp [ageQueue]
@[simp] theorem reclaim_now (d c) : (reclaim d c).now = d.now := by simp only [reclaim]; split <;> simp
@[simp] theorem scarab_now (hbm d) : (scarab hbm d).now = d.now := by simp [scarab]
@[simp] theorem strandedCheck_now (d) : (strandedCheck d).now = d.now := by simp [strandedCheck]
@[simp] theorem voqAdmit_now (s d) : (voqAdmit s d).now = d.now := by unfold voqAdmit; split <;> simp
@[simp] theorem bufSetPool_now (c d) : (bufSetPool c d).dev.now = d.now := check_now (by simp)
@[simp] theorem bufSetQuota_now (c d) : (bufSetQuota c d).dev.now = d.now := check_now (by simp)
@[simp] theorem bufSetClass_now (c d) : (bufSetClass c d).dev.now = d.now := check_now (by simp)
@[simp] theorem bufSetSojourn_now (c d) : (bufSetSojourn c d).dev.now = d.now := check_now (by simp)
@[simp] theorem bufGetStatus_now (c d) : (bufGetStatus c d).dev.now = d.now := check_now (by simp)
@[simp] theorem bufGetQuota_now (c d) : (bufGetQuota c d).dev.now = d.now := check_now (by simp)
@[simp] theorem bufGetDrops_now (c d) : (bufGetDrops c d).dev.now = d.now := by simp only [bufGetDrops]; split <;> exact check_now (by simp)

/-! ### Queues and credits -/

@[simp] theorem modCredit_now (d p f) : (modCredit d p f).now = d.now := by simp [modCredit]
@[simp] theorem seqRestart_now (k d) : (seqRestart k d).now = d.now := by simp [seqRestart]
@[simp] theorem putFlow_now (d k f) : (putFlow d k f).now = d.now := by simp [putFlow]
@[simp] theorem flowTouch_now (d k) : (flowTouch d k).now = d.now := by simp [flowTouch]
@[simp] theorem creditReqAt_now (src voq value seq d) : (creditReqAt src voq value seq d).now = d.now := by fun_cases creditReqAt <;> simp
@[simp] theorem unreserve_now (d p n) : (unreserve d p n).now = d.now := by simp [unreserve]
@[simp] theorem creditReturnAt_now (src voq value d) : (creditReturnAt src voq value d).now = d.now := by fun_cases creditReturnAt <;> simp
@[simp] theorem sendReq_now (d v value seq) : (sendReq d v value seq).now = d.now := by simp [sendReq]
@[simp] theorem sendReturn_now (d v value seq) : (sendReturn d v value seq).now = d.now := by simp [sendReturn]
@[simp] theorem voqDemand_now (v d) : (voqDemand v d).now = d.now := by simp [voqDemand]
@[simp] theorem demandAll_now (d) : (demandAll d).now = d.now := by simp [demandAll]
@[simp] theorem creditGrantAt_now (v value seq d) : (creditGrantAt v value seq d).now = d.now := by simp [creditGrantAt]
@[simp] theorem grantIssue_now (p d) : (grantIssue p d).now = d.now := by simp only [grantIssue]; (repeat' split) <;> simp
@[simp] theorem creditRefresh_now (v d) : (creditRefresh v d).now = d.now := by simp [creditRefresh]
@[simp] theorem creditUnreach_now (dev d) : (creditUnreach dev d).now = d.now := by simp [creditUnreach]
@[simp] theorem creditReach_now (dev d) : (creditReach dev d).now = d.now := by simp [creditReach]
@[simp] theorem flushQueue_now (q code d) : (flushQueue q code d).1.now = d.now := by simp [flushQueue]

@[simp] theorem destFlush_now (dev d) : (destFlush dev d).now = d.now := by
  unfold destFlush; split
  · rfl
  · simp

@[simp] theorem resvRelease_now (dev d) : (resvRelease dev d).now = d.now := by unfold resvRelease; split <;> simp
@[simp] theorem activationComplete_now (q d) : (activationComplete q d).now = d.now := by unfold activationComplete; split <;> simp

@[simp] theorem pinBases_now (p d) : (pinBases p d).now = d.now := by
  unfold pinBases; split
  · rfl
  · exact foldl_now _ (fun x c => by grind [→ takeEntry_now, modQ_now]) _ _

@[simp] theorem activeIdle_now (q d) : (activeIdle q d).now = d.now := by simp [activeIdle]
@[simp] theorem queueStartDone_now (q d) : (queueStartDone q d).now = d.now := by simp [queueStartDone]
@[simp] theorem queueStopDone_now (q d) : (queueStopDone q d).now = d.now := by simp [queueStopDone]
@[simp] theorem voqAdmitAll_now (s d) : (voqAdmitAll s d).now = d.now := by simp [voqAdmitAll]
@[simp] theorem queueAgeing_now (d) : (queueAgeing d).now = d.now := by simp [queueAgeing]

@[simp] theorem flushPort_now (p d) : (flushPort p d).1.now = d.now := by
  simp only [flushPort]
  rw [foldl_now _ (by simp)]
  simp only [setPipe_now]
  refine foldl_now _ (fun y q => ?_) _ _
  rw [foldl_now]
  · simp
  · intro y e; split <;> simp

@[simp] theorem qEnable_now (c d) : (qEnable c d).dev.now = d.now := check_now (by simp)
@[simp] theorem qDisable_now (c d) : (qDisable c d).dev.now = d.now := check_now (by simp)
@[simp] theorem qGetStatus_now (c d) : (qGetStatus c d).dev.now = d.now := check_now (by simp)
@[simp] theorem qSetActive_now (c d) : (qSetActive c d).dev.now = d.now := check_now (by simp)

@[simp] theorem qPin_now (c d) : (qPin c d).dev.now = d.now :=
    check_now (by grind [cfgWrite_now, noteWrite_now, → takeEntry_now, queueCfgRead_now, Reply.dev])

@[simp] theorem putSchQ_now (d q e) : (putSchQ d q e).now = d.now := by simp [putSchQ]
@[simp] theorem putSchNode_now (d n e) : (putSchNode d n e).now = d.now := by simp [putSchNode]
@[simp] theorem putSchPort_now (d p e) : (putSchPort d p e).now = d.now := by simp [putSchPort]
@[simp] theorem unmapQueue_now (q d) : (unmapQueue q d).now = d.now := by simp [unmapQueue]
@[simp] theorem qSetEgressMap_now (c d) : (qSetEgressMap c d).dev.now = d.now := check_now (by simp)
@[simp] theorem qSetCredit_now (c d) : (qSetCredit c d).dev.now = d.now := check_now (by simp)
@[simp] theorem qGetCreditStatus_now (c d) : (qGetCreditStatus c d).dev.now = d.now := check_now (by simp)

/-! ### The egress scheduler, observation and accounting -/

@[simp] theorem putElem_now (d kind i e) : (putElem d kind i e).now = d.now := by unfold putElem; split <;> simp
@[simp] theorem encapFetch_now (f d) : (encapFetch f d).now = d.now := by unfold encapFetch; (repeat' split) <;> simp
@[simp] theorem encapDamage_now (p d) : (encapDamage p d).now = d.now := foldl_now _ (fun x f => by grind [shadowNeed_now, raise_now]) _ _
@[simp] theorem putDrr_now (l w d) : (putDrr l w d).now = d.now := foldl_now _ (fun x c => by grind [putElem_now]) l d
@[simp] theorem select_now (kind i n d) : (select kind i n d).2.now = d.now := by fun_induction select <;> grind [putElem_now, putDrr_now]
@[simp] theorem pay_now (len d x) : (pay len d x).now = d.now := by unfold pay; split <;> simp
@[simp] theorem cellRepair_now (p d) : (cellRepair p d).now = d.now := by simp [cellRepair]
@[simp] theorem readHead_now (s q e d) : (readHead s q e d).2.now = d.now := by unfold readHead; (repeat' split) <;> simp

@[simp] theorem egressSelection_now (p d) : (egressSelection p d).now = d.now := by
  simp only [egressSelection]; split
  · rfl
  · split
    · simp
    · next h =>
      split
      · simp [snd_now h]
      · split
        · next h' _ => rw [modPipe_now, sendFlits_now, encapFetch_now, foldl_now _ (by simp)]; simp [snd_now h', snd_now h]
        · next h' _ => simp [snd_now h', snd_now h]

@[simp] theorem debtEnd_now (kind i d) : (debtEnd kind i d).now = d.now := by unfold debtEnd; split <;> simp

@[simp] theorem schSet_now (c d) : (schSet c d).dev.now = d.now := by
  simp only [schSet]; split
  · exact check_now (by simp)
  · split
    · split
      · rfl
      · exact check_now (by simp)
    · exact check_now (by simp)

@[simp] theorem schGet_now (c d) : (schGet c d).dev.now = d.now := check_now (by simp)
@[simp] theorem polSetProfile_now (c d) : (polSetProfile c d).dev.now = d.now := check_now (by simp)
@[simp] theorem polSet_now (c d) : (polSet c d).dev.now = d.now := check_now (by simp)
@[simp] theorem polGet_now (c d) : (polGet c d).dev.now = d.now := check_now (by simp)
@[simp] theorem thresholds_now (k d) : (thresholds k d).now = d.now := by simp [thresholds]
@[simp] theorem watchedSample_now (d) : (watchedSample d).now = d.now := by simp [watchedSample]
@[simp] theorem histogramAdd_now (d) : (histogramAdd d).now = d.now := by simp [histogramAdd]
@[simp] theorem hotSweep_now (d) : (hotSweep d).now = d.now := by simp [hotSweep]
@[simp] theorem obsSetQueue_now (c d) : (obsSetQueue c d).dev.now = d.now := check_now (by simp)
@[simp] theorem obsSetHistProfile_now (pl c d) : (obsSetHistProfile pl c d).dev.now = d.now := check_now (by simp)
@[simp] theorem obsGetHist_now (c d) : (obsGetHist c d).dev.now = d.now := check_now (by simp)
@[simp] theorem clearBank_now (d a b) : (clearBank d a b).now = d.now := by simp [clearBank]
@[simp] theorem putAcct_now (d s a) : (putAcct d s a).now = d.now := by simp [putAcct]
@[simp] theorem acctExport_now (s d) : (acctExport s d).now = d.now := by unfold acctExport; (repeat' split) <;> simp
@[simp] theorem acctExportAll_now (s n d) : (acctExportAll s n d).now = d.now := by fun_induction acctExportAll <;> grind [acctExport_now]
@[simp] theorem acctClose_now (s more start flags d) : (acctClose s more start flags d).now = d.now := by simp only [acctClose]; split <;> simp
@[simp] theorem acctBoundary_now (s d) : (acctBoundary s d).now = d.now := by unfold acctBoundary; split <;> simp
@[simp] theorem acctSet_now (c d) : (acctSet c d).dev.now = d.now := by simp only [acctSet]; (repeat' split) <;> simp
@[simp] theorem acctGet_now (c d) : (acctGet c d).dev.now = d.now := by simp only [acctGet]; split <;> simp

/-! ### Cells: fabric streams, the switch and reassembly -/

@[simp] theorem putLink_now (d l x) : (putLink d l x).now = d.now := by simp [putLink]
@[simp] theorem modLink_now (d l f) : (modLink d l f).now = d.now := by simp [modLink]

theorem spray_now {d : Dev} {s dst : Nat} {ok : Nat → Bool} {l : Nat} {e : Dev} (h : spray d s dst ok = some (l, e)) : e.now = d.now := by
  unfold spray at h; grind [setFab_now]

@[simp] theorem stampCell_now (c d) : (stampCell c d).2.now = d.now := by fun_cases stampCell <;> simp
@[simp] theorem linkSend_now (d l c0) : (linkSend d l c0).now = d.now := by simp [linkSend]
@[simp] theorem ackIdle_now (l d) : (ackIdle l d).now = d.now := by simp [ackIdle]

@[simp] theorem resendCells_now (l cs d) :
    (resendCells l cs d).now = d.now := foldl_now _ (fun x r => by grind [→ spray_now, modLink_now, linkSend_now]) _ _

@[simp] theorem retryTimeout_now (l d) : (retryTimeout l d).now = d.now := by simp [retryTimeout]
@[simp] theorem stageCell_now (d i j cls load bad) : (stageCell d i j cls load bad).now = d.now := by simp [stageCell]

theorem streamCell_now {s dev slice cls : Nat} {bytes : Bytes} {first : Option Nat} {d e : Dev}
    (h : streamCell s dev slice cls bytes first d = some e) : e.now = d.now := by
  unfold streamCell at h; grind [→ spray_now, stageCell_now, setFab_now]

@[simp] theorem cutCells_now (s x n d) : (cutCells s x n d).now = d.now := by fun_induction cutCells <;> grind [setFab_now, → streamCell_now]
@[simp] theorem streamFrame_now (s dev slice cls b d) : (streamFrame s dev slice cls b d).now = d.now := by simp [streamFrame]
@[simp] theorem flushParts_now (d) : (flushParts d).now = d.now := foldl_now _ (fun x p => by grind [→ streamCell_now, setFab_now]) _ _
@[simp] theorem fcCell_now (dev d) : (fcCell dev d).now = d.now := by fun_cases fcCell <;> grind [→ spray_now, stageCell_now, setFab_now]
@[simp] theorem flushFc_now (d) : (flushFc d).now = d.now := by simp [flushFc]
@[simp] theorem stageLocal_now (s f v n mark abort d) : (stageLocal s f v n mark abort d).now = d.now := by simp [stageLocal]

@[simp] theorem voqSend_now (v mark d abort) : (voqSend v mark d abort).now = d.now := by
  fun_cases voqSend <;> grind [ageQueue_now, voqDemand_now, ptrFault_now, setQ_now, !readHead_now, modQ_now, stageLocal_now, streamFrame_now,
    strandedCheck_now, releaseFrame_now]

@[simp] theorem voqArrive_now (s d) : (voqArrive s d).now = d.now := by simp only [voqArrive]; (repeat' split) <;> simp
@[simp] theorem putAsm_now (d s l) : (putAsm d s l).now = d.now := by simp [putAsm]

theorem takeCredit_now {d : Dev} {src port cls n : Nat} {e : Dev} (h : takeCredit d src port cls n = some e) : e.now = d.now := by
  unfold takeCredit at h; grind [chargeOnd_now, modCredit_now, flowTouch_now, putFlow_now]

@[simp] theorem startFrame_now (s dev srcSlice cls fl eCls mark rate d) : (startFrame s dev srcSlice cls fl eCls mark rate d).now = d.now := by
  fun_cases startFrame <;> grind [→ takeCredit_now, putAsm_now, modQ_now, dropSlice_now, store_now]

@[simp] theorem modAsm_now (s dev srcSlice cls f d) : (modAsm s dev srcSlice cls f d).now = d.now := by unfold modAsm; split <;> simp
@[simp] theorem noteUnattached_now (s q d) : (noteUnattached s q d).now = d.now := by simp [noteUnattached]
@[simp] theorem joinFrame_now (s a d) : (joinFrame s a d).now = d.now := by simp [joinFrame]

@[simp] theorem joinFrames_now (s held l d) : (joinFrames s held l d).2.now = d.now := by
  fun_induction joinFrames <;> grind [releaseFrame_now, joinFrame_now]

@[simp] theorem tryJoin_now (s d) : (tryJoin s d).now = d.now := by simp [tryJoin]
@[simp] theorem fillFrame_now (fid raw d) : (fillFrame fid raw d).now = d.now := by simp [fillFrame]
@[simp] theorem failAsm_now (s dev srcSlice cls d) : (failAsm s dev srcSlice cls d).now = d.now := by simp [failAsm]

@[simp] theorem takePiece_now (s input c f port cls n mark abort d) : (takePiece s input c f port cls n mark abort d).now = d.now := by
  unfold takePiece; split <;> simp

@[simp] theorem putCtx_now (d k x) : (putCtx d k x).now = d.now := by simp [putCtx]
@[simp] theorem seqLoss_now (dev cls d) : (seqLoss dev cls d).now = d.now := by simp [seqLoss]
@[simp] theorem breakFrame_now (s dev srcSlice cls d) : (breakFrame s dev srcSlice cls d).now = d.now := by simp [breakFrame]

@[simp] theorem takeFrames_now (s dev srcSlice cls cmap n bs d) : (takeFrames s dev srcSlice cls cmap n bs d).now = d.now := by
  fun_induction takeFrames <;> grind [putCtx_now, seqLoss_now, startFrame_now, modAsm_now, fillFrame_now]

@[simp] theorem ctxFeed_now (s cmap c d) : (ctxFeed s cmap c d).now = d.now := by unfold ctxFeed; split <;> simp
@[simp] theorem reseqRun_now (s k n d) : (reseqRun s k n d).now = d.now := by fun_induction reseqRun <;> grind [setFab_now, ctxFeed_now]
@[simp] theorem reseqTake_now (s c d) : (reseqTake s c d).now = d.now := by simp [reseqTake]
@[simp] theorem reseqSkip_now (s dev cls d) : (reseqSkip s dev cls d).now = d.now := by simp [reseqSkip]
@[simp] theorem lostCredit_now (p dev cls d) : (lostCredit p dev cls d).now = d.now := by simp only [lostCredit]; split <;> simp
@[simp] theorem egressTake_now (s c d) : (egressTake s c d).now = d.now := by unfold egressTake; split <;> simp
@[simp] theorem fabricTake_now (j c d) : (fabricTake j c d).now = d.now := by unfold fabricTake; split <;> simp
@[simp] theorem outTake_now (j c d) : (outTake j c d).now = d.now := by simp [outTake]
@[simp] theorem outRun_now (j n d) : (outRun j n d).now = d.now := by fun_induction outRun <;> grind [setCsw_now, outTake_now]
@[simp] theorem outAccept_now (j c d) : (outAccept j c d).now = d.now := by simp [outAccept]

@[simp] theorem sendWaiting_now (j d) : (sendWaiting j d).now = d.now := by
  simp only [sendWaiting]
  rw [foldl_now]
  · simp
  · intro x p; split <;> simp

@[simp] theorem raiseHeld_now (j since released d) : (raiseHeld j since released d).now = d.now := by simp [raiseHeld]
@[simp] theorem noteHeld_now (j d) : (noteHeld j d).now = d.now := by simp only [noteHeld]; (repeat' split) <;> simp
@[simp] theorem putXp_now (d m j x) : (putXp d m j x).now = d.now := by simp [putXp]
@[simp] theorem meetOut_now (m j d) : (meetOut m j d).now = d.now := by simp only [meetOut]; (repeat' split) <;> simp
@[simp] theorem meetIn_now (i m d) : (meetIn i m d).now = d.now := by unfold meetIn; split <;> simp
@[simp] theorem switchPhase_now (d) : (switchPhase d).now = d.now := by simp [switchPhase]
@[simp] theorem xpExpire_now (m j d) : (xpExpire m j d).now = d.now := by simp [xpExpire]
@[simp] theorem outputHeld_now (j d) : (outputHeld j d).now = d.now := by simp only [outputHeld]; split <;> simp
@[simp] theorem egressStart_now (s fid d) : (egressStart s fid d).now = d.now := by simp [egressStart]
@[simp] theorem transmit_now (p underrun d) : (transmit p underrun d).now = d.now := by unfold transmit; (repeat' split) <;> simp
@[simp] theorem askRetry_now (l d) : (askRetry l d).now = d.now := by simp [askRetry]
@[simp] theorem fabricIn_now (l c d) : (fabricIn l c d).now = d.now := by simp [fabricIn]
@[simp] theorem takeAck_now (l c d) : (takeAck l c d).now = d.now := by simp [takeAck]

/-! ### The fabric -/

@[simp] theorem obsTake_now (m d) : (obsTake m d).now = d.now := by simp only [obsTake]; split <;> simp
@[simp] theorem observe_now (subjKind kind subj d) : (observe subjKind kind subj d).now = d.now := by simp [observe]
@[simp] theorem obsWindow_now (subjKind subj kind d) : (obsWindow subjKind subj kind d).now = d.now := by unfold obsWindow; split <;> simp
@[simp] theorem reachRefresh_now (d) : (reachRefresh d).now = d.now := by simp [reachRefresh]
@[simp] theorem sendDiscover_now (l d) : (sendDiscover l d).now = d.now := by simp [sendDiscover]
@[simp] theorem linkDrop_now (l c d) : (linkDrop l c d).now = d.now := by simp [linkDrop]
@[simp] theorem discoverMsg_now (l m d) : (discoverMsg l m d).now = d.now := by simp [discoverMsg]
@[simp] theorem qualifyEnd_now (l fec hcs d) : (qualifyEnd l fec hcs d).now = d.now := by simp only [qualifyEnd]; (repeat' split) <;> simp
@[simp] theorem qualifyRetry_now (l d) : (qualifyRetry l d).now = d.now := by simp [qualifyRetry]
@[simp] theorem reachMap_now (l m d) : (reachMap l m d).now = d.now := by simp only [reachMap]; split <;> simp
@[simp] theorem reachDelta_now (l dev on d) : (reachDelta l dev on d).now = d.now := by simp [reachDelta]
@[simp] theorem delayMeasure_now (l d) : (delayMeasure l d).now = d.now := by simp [delayMeasure]
@[simp] theorem delayReqMsg_now (l seq held d) : (delayReqMsg l seq held d).now = d.now := by simp [delayReqMsg]

@[simp] theorem delayRespMsg_now (l seq peerRx peerTx held d) : (delayRespMsg l seq peerRx peerTx held d).now = d.now := by
  simp only [delayRespMsg]; split <;> simp

@[simp] theorem linkRetry_now (l n d) : (linkRetry l n d).now = d.now := by
  unfold linkRetry; dsimp only; split
  · rfl
  · split <;> simp

@[simp] theorem linkSilent_now (l d) : (linkSilent l d).now = d.now := by simp [linkSilent]
@[simp] theorem linkStopDone_now (l d) : (linkStopDone l d).now = d.now := by simp [linkStopDone]
@[simp] theorem laserInput_now (oe m lost d) : (laserInput oe m lost d).now = d.now := by simp [laserInput]
@[simp] theorem cellReceive_now (l c d) : (cellReceive l c d).now = d.now := by simp [cellReceive]
@[simp] theorem portStateMsg_now (dev p down d) : (portStateMsg dev p down d).now = d.now := by simp [portStateMsg]
@[simp] theorem portVectorMsg_now (dev v d) : (portVectorMsg dev v d).now = d.now := by simp [portVectorMsg]
@[simp] theorem portVectorOut_now (d) : (portVectorOut d).now = d.now := by simp [portVectorOut]
@[simp] theorem heartbeatOut_now (d) : (heartbeatOut d).now = d.now := by simp [heartbeatOut]
@[simp] theorem relayStop_now (d) : (relayStop d).now = d.now := by simp only [relayStop]; (repeat' split) <;> simp
@[simp] theorem roleTo_now (dev term d) : (roleTo dev term d).now = d.now := by simp [roleTo]
@[simp] theorem switchEpoch_now (t d) : (switchEpoch t d).now = d.now := by simp [switchEpoch]
@[simp] theorem memberPrepare_now (m d) : (memberPrepare m d).2.now = d.now := by fun_cases memberPrepare <;> simp
@[simp] theorem epochPrepareMsg_now (m d) : (epochPrepareMsg m d).now = d.now := by simp [epochPrepareMsg]
@[simp] theorem epochAckMsg_now (dev epoch result d) : (epochAckMsg dev epoch result d).now = d.now := by simp [epochAckMsg]
@[simp] theorem cancelEpoch_now (n d) : (cancelEpoch n d).now = d.now := by simp only [cancelEpoch]; (repeat' split) <;> simp
@[simp] theorem coordDone_now (st d) : (coordDone st d).now = d.now := by simp only [coordDone]; (repeat' split) <;> simp
@[simp] theorem cancelMsgs_now (members epoch d) : (cancelMsgs members epoch d).now = d.now := by simp [cancelMsgs]
@[simp] theorem cancelAgain_now (d) : (cancelAgain d).now = d.now := by unfold cancelAgain; split <;> simp
@[simp] theorem coordCancel_now (c d) : (coordCancel c d).now = d.now := by simp [coordCancel]
@[simp] theorem epochDecision_now (d) : (epochDecision d).now = d.now := by simp only [epochDecision]; split <;> simp
@[simp] theorem epochActivate_now (d) : (epochActivate d).now = d.now := by unfold epochActivate; split <;> simp
@[simp] theorem retentionEnd_now (d) : (retentionEnd d).now = d.now := by simp only [retentionEnd]; (repeat' split) <;> simp
@[simp] theorem epochCancelMsg_now (dev epoch d) : (epochCancelMsg dev epoch d).now = d.now := by simp only [epochCancelMsg]; (repeat' split) <;> simp

@[simp] theorem heartbeatMsg_now (dev term epoch d) : (heartbeatMsg dev term epoch d).now = d.now := by
  unfold heartbeatMsg; split
  · rfl
  · have h1 : (if d.fab.holder = dev then d.setFab fun f => { f with term := term, hbSeen := d.now } else roleTo dev term d).now = d.now := by
      split <;> simp
    dsimp only; generalize (if d.fab.holder = dev then _ else _ : Dev) = d1 at h1 ⊢
    (repeat' split) <;> simp [h1]

@[simp] theorem heartbeatIn_now (dev term epoch pending d) : (heartbeatIn dev term epoch pending d).now = d.now := by simp [heartbeatIn]
@[simp] theorem heartbeatLost_now (d) : (heartbeatLost d).now = d.now := by simp only [heartbeatLost]; (repeat' split) <;> simp
@[simp] theorem meridianClaim_now (dev term d) : (meridianClaim dev term d).now = d.now := by simp [meridianClaim]

@[simp] theorem quarantineSet_now (subject enter d) : (quarantineSet subject enter d).now = d.now := by
  simp only [quarantineSet]
  split
  · rw [foldl_now] <;> [simp; (intro x l; split <;> simp)]
  · rw [raise_now, foldl_now] <;> [simp; (intro x l; split <;> simp)]

@[simp] theorem quarantineMsg_now (dev subject enter d) : (quarantineMsg dev subject enter d).now = d.now := by simp [quarantineMsg]
@[simp] theorem quarantineAll_now (subject enter d) : (quarantineAll subject enter d).now = d.now := by simp [quarantineAll]
@[simp] theorem observationMsg_now (m d) : (observationMsg m d).now = d.now := by simp [observationMsg]
@[simp] theorem epochStatusMsg_now (dev current d) : (epochStatusMsg dev current d).now = d.now := by simp [epochStatusMsg]
@[simp] theorem epochStatusOut_now (d) : (epochStatusOut d).now = d.now := by simp [epochStatusOut]
@[simp] theorem cswSetCut_now (c d) : (cswSetCut c d).dev.now = d.now := check_now (by simp)
@[simp] theorem cswGetStatus_now (c d) : (cswGetStatus c d).dev.now = d.now := check_now (by simp)
@[simp] theorem fabLinkEnable_now (c d) : (fabLinkEnable c d).dev.now = d.now := check_now (by simp)
@[simp] theorem fabLinkDisable_now (c d) : (fabLinkDisable c d).dev.now = d.now := check_now (by simp)
@[simp] theorem fabGetLink_now (c d) : (fabGetLink c d).dev.now = d.now := check_now (by simp)
@[simp] theorem fabSetSystem_now (c d) : (fabSetSystem c d).dev.now = d.now := check_now (by simp)
@[simp] theorem fabStage_now (pl c d) : (fabStage pl c d).dev.now = d.now := check_now (by simp)
@[simp] theorem fabEpochPrepare_now (c d) : (fabEpochPrepare c d).dev.now = d.now := check_now (by simp)
@[simp] theorem fabGetStatus_now (c d) : (fabGetStatus c d).dev.now = d.now := check_now (by simp)
@[simp] theorem fabSetReseq_now (c d) : (fabSetReseq c d).dev.now = d.now := check_now (by simp)

/-! ### HBM channels -/

@[simp] theorem budgetWatch_now (d) : (budgetWatch d).now = d.now := by simp [budgetWatch]
@[simp] theorem logCmds_now (k l d) : (logCmds k l d).now = d.now := by simp [logCmds]
@[simp] theorem thawEnds_now (k st d) : (thawEnds k st d).now = d.now := by simp [thawEnds]
@[simp] theorem freeze_now (k cause addr d) : (freeze k cause addr d).now = d.now := by simp only [freeze]; (repeat' split) <;> simp
@[simp] theorem issueRefresh_now (k d) : (issueRefresh k d).now = d.now := by simp [issueRefresh]
@[simp] theorem issueReq_now (k w d) : (issueReq k w d).now = d.now := by simp [issueReq]
@[simp] theorem refreshStep_now (k d) : (refreshStep k d).2.now = d.now := by simp only [refreshStep]; (repeat' split) <;> simp
@[simp] theorem commandSlot_now (k parityError d) : (commandSlot k parityError d).now = d.now := by simp only [commandSlot]; (repeat' split) <;> simp
@[simp] theorem refreshDeadline_now (k d) : (refreshDeadline k d).now = d.now := by simp [refreshDeadline]
@[simp] theorem eccCe_now (k a d) : (eccCe k a d).now = d.now := by simp [eccCe]
@[simp] theorem eccUe_now (k a d) : (eccUe k a d).now = d.now := by simp [eccUe]
@[simp] theorem writeCopy_now (r d) : (writeCopy r d).now = d.now := by simp only [writeCopy]; split <;> simp

@[simp] theorem readPoison_now (w d) : (readPoison w d).now = d.now := by
  unfold readPoison; dsimp only; split
  · next h => simp [snd_now h]
  · next h => simp [snd_now h]

@[simp] theorem writeGranules_now (k r meet l d b) : (writeGranules k r meet l d b).1.now = d.now := by
  fun_induction writeGranules k r meet l d b <;> grind [setPoison_now, eccCe_now, eccUe_now, foldl_now, hbmPutByte_now]

@[simp] theorem requestComplete_now (k id meet d) : (requestComplete k id meet d).now = d.now := by
  unfold requestComplete; split
  · rfl
  · extract_lets r gs u d1 s fin o d2
    have hd : d1.now = d.now := by simp [d1]
    have hf (x : Dev) : (fin x).now = x.now := by simp [fin]
    have h2 : d2.now = d.now := by rw [← hd]; exact foldl_now _ (fun x g => by split <;> simp) _ _
    (repeat' split) <;> simp [hf, hd, h2, o]

@[simp] theorem selfRefreshEntry_now (s d) : (selfRefreshEntry s d).now = d.now := by simp [selfRefreshEntry]
@[simp] theorem selfRefreshExit_now (s d) : (selfRefreshExit s d).now = d.now := by simp [selfRefreshExit]
@[simp] theorem trainingEnds_now (d) : (trainingEnds d).now = d.now := by simp [trainingEnds]
@[simp] theorem retrainPause_now (k d) : (retrainPause k d).now = d.now := by simp only [retrainPause]; (repeat' split) <;> simp
@[simp] theorem stackTemp_now (s t d) : (stackTemp s t d).now = d.now := by simp [stackTemp]
@[simp] theorem beginThaw_now (k d) : (beginThaw k d).now = d.now := by simp [beginThaw]
@[simp] theorem trainingDone_now (k ok d) : (trainingDone k ok d).now = d.now := by simp [trainingDone]

@[simp] theorem rebuildUnits_now (k d) : (rebuildUnits k d).now = d.now := by
  simp only [rebuildUnits]
  rw [setBuf_now, foldl_now, foldl_now]
  · intro x u; simp
  · intro x u; split <;> simp

@[simp] theorem rebuildDone_now (k bad d) : (rebuildDone k bad d).now = d.now := by simp [rebuildDone]
@[simp] theorem salvageDone_now (k trained bad d) : (salvageDone k trained bad d).now = d.now := by simp only [salvageDone]; split <;> simp
@[simp] theorem chStopDone_now (k d) : (chStopDone k d).now = d.now := by simp [chStopDone]
@[simp] theorem setLevel_now (n rise s d) : (setLevel n rise s d).now = d.now := by simp [setLevel]
@[simp] theorem shedRise_now (d) : (shedRise d).now = d.now := by unfold shedRise; split <;> simp
@[simp] theorem shedFall_now (d) : (shedFall d).now = d.now := by simp [shedFall]
@[simp] theorem pressureWindow_now (s completed late d) : (pressureWindow s completed late d).now = d.now := by simp [pressureWindow]
@[simp] theorem memChEnable_now (c d) : (memChEnable c d).dev.now = d.now := check_now (by split <;> simp)
@[simp] theorem memChDisable_now (c d) : (memChDisable c d).dev.now = d.now := check_now (by split <;> simp)
@[simp] theorem memGetStatus_now (c d) : (memGetStatus c d).dev.now = d.now := check_now (by simp)
@[simp] theorem memSetPort_now (c d) : (memSetPort c d).dev.now = d.now := check_now (by simp)
@[simp] theorem memSetPower_now (c d) : (memSetPower c d).dev.now = d.now := check_now (by simp)
@[simp] theorem memSetTraining_now (pl c d) : (memSetTraining pl c d).dev.now = d.now := check_now (by simp)

@[simp] theorem memGetSnapshot_now (c d) : (memGetSnapshot c d).dev.now = d.now := by
  unfold memGetSnapshot; refine check_now ?_
  split
  · rfl
  · rw [Reply.dev_done, modCh_now]
    split <;> simp

@[simp] theorem memThaw_now (c d) : (memThaw c d).dev.now = d.now := check_now (by simp)
@[simp] theorem memRetire_now (c d) : (memRetire c d).dev.now = d.now := check_now (by simp)

/-! ### The host interface -/

@[simp] theorem cfgReset_now (d) : (cfgReset d).now = d.now := by simp [cfgReset]
@[simp] theorem msixFlush_now (d) : (msixFlush d).now = d.now := by simp [msixFlush]
@[simp] theorem pcieConfigRequest_now (q d) : (pcieConfigRequest q d).now = d.now := by unfold pcieConfigRequest; (repeat' split) <;> simp
@[simp] theorem ifaceReset_now (t m d) : (ifaceReset t m d).now = d.now := by unfold ifaceReset; (repeat' split) <;> simp
@[simp] theorem flr_now (d) : (flr d).now = d.now := by simp [flr]
@[simp] theorem busMasterDisable_now (d) : (busMasterDisable d).now = d.now := by simp [busMasterDisable]
@[simp] theorem d3hotEntry_now (d) : (d3hotEntry d).now = d.now := by simp [d3hotEntry]
@[simp] theorem mboxCancel_now (joined d m) : (mboxCancel joined d m).now = d.now := by simp [mboxCancel]
@[simp] theorem ifaceResetQuiesced_now (d) : (ifaceResetQuiesced d).now = d.now := by unfold ifaceResetQuiesced; split <;> simp
@[simp] theorem ringFault_now (d kind idx cause) : (ringFault d kind idx cause).now = d.now := by simp [ringFault]
@[simp] theorem sqTailWrite_now (r v d) : (sqTailWrite r v d).now = d.now := by simp only [sqTailWrite]; (repeat' split) <;> simp
@[simp] theorem cqHeadWrite_now (r v d) : (cqHeadWrite r v d).now = d.now := by simp only [cqHeadWrite]; (repeat' split) <;> simp
@[simp] theorem puntHeadWrite_now (i v d) : (puntHeadWrite i v d).now = d.now := by simp only [puntHeadWrite]; (repeat' split) <;> simp
@[simp] theorem injectTailWrite_now (i v d) : (injectTailWrite i v d).now = d.now := by simp only [injectTailWrite]; (repeat' split) <;> simp
@[simp] theorem eventHeadWrite_now (v d) : (eventHeadWrite v d).now = d.now := by simp only [eventHeadWrite]; (repeat' split) <;> simp
@[simp] theorem mbCtrlWrite_now (m w d) : (mbCtrlWrite m w d).now = d.now := by simp [mbCtrlWrite]
@[simp] theorem mbDataWrite_now (m off v d) : (mbDataWrite m off v d).now = d.now := by simp [mbDataWrite]
@[simp] theorem intCauseWrite_now (v d) : (intCauseWrite v d).now = d.now := by simp [intCauseWrite]
@[simp] theorem intMaskWrite_now (v d) : (intMaskWrite v d).now = d.now := by simp [intMaskWrite]
@[simp] theorem msixGapExpiry_now (v d) : (msixGapExpiry v d).now = d.now := by simp [msixGapExpiry]
@[simp] theorem msixVectorMask_now (v addr data masked d) : (msixVectorMask v addr data masked d).now = d.now := by simp [msixVectorMask]
@[simp] theorem sqServed_now (d r) : (sqServed d r).now = d.now := by simp [sqServed]
@[simp] theorem submissionTake_now (r entry d) : (submissionTake r entry d).now = d.now := by simp only [submissionTake]; (repeat' split) <;> simp
@[simp] theorem bar0Word_now (off w d) : (bar0Word off w d).now = d.now := by unfold bar0Word; (repeat' split) <;> simp
@[simp] theorem bar0Narrow_now (off en data size d) : (bar0Narrow off en data size d).now = d.now := by simp [bar0Narrow]
@[simp] theorem bar0Write_now (off size be data d) : (bar0Write off size be data d).now = d.now := by simp [bar0Write]
@[simp] theorem hifRingCreate_now (c d) : (hifRingCreate c d).dev.now = d.now := check_now (by simp)
@[simp] theorem hifRingDelete_now (c d) : (hifRingDelete c d).dev.now = d.now := check_now (by simp)
@[simp] theorem hifIfaceReset_now (c d) : (hifIfaceReset c d).dev.now = d.now := by simp [hifIfaceReset]
@[simp] theorem hifSetPunt_now (c d) : (hifSetPunt c d).dev.now = d.now := check_now (by simp)
@[simp] theorem hifGetPktStatus_now (c d) : (hifGetPktStatus c d).dev.now = d.now := check_now (by simp)

/-! ### Performance monitoring -/

@[simp] theorem tcaCheck_now (p day d) : (tcaCheck p day d).now = d.now := by simp only [tcaCheck]; split <;> simp
@[simp] theorem closeSecond_now (p d) : (closeSecond p d).now = d.now := by simp [closeSecond]
@[simp] theorem pmSecond_now (p d) : (pmSecond p d).now = d.now := by simp [pmSecond]
@[simp] theorem setPmSeq_now (d day n) : (setPmSeq d day n).now = d.now := by simp [setPmSeq]
@[simp] theorem pmBinClose_now (day d) : (pmBinClose day d).now = d.now := by simp [pmBinClose]
@[simp] theorem pmBinFinal_now (p day d) : (pmBinFinal p day d).now = d.now := by simp [pmBinFinal]
@[simp] theorem pmStepType_now (old new day d) : (pmStepType old new day d).now = d.now := by simp [pmStepType]
@[simp] theorem pmTimeStep_now (old back sizeNs d) : (pmTimeStep old back sizeNs d).now = d.now := by simp [pmTimeStep]
@[simp] theorem pmGetBins_now (c d) : (pmGetBins c d).dev.now = d.now := check_now (by simp)
@[simp] theorem pmSetTca_now (c d) : (pmSetTca c d).dev.now = d.now := check_now (by simp)

/-! ### Transit and PTP -/

@[simp] theorem acctStepSet_now (old back sizeNs s d) : (acctStepSet old back sizeNs s d).now = d.now := by
  simp only [acctStepSet]; (repeat' split) <;> simp

@[simp] theorem utcStepped_now (old back sizeNs d) : (utcStepped old back sizeNs d).now = d.now := by simp [utcStepped]
@[simp] theorem acctAll_now (d) : (acctAll d).now = d.now := by simp [acctAll]
@[simp] theorem applyStep_now (size seq late d) : (applyStep size seq late d).now = d.now := by simp [applyStep]
@[simp] theorem setUtc_now (u l61 l59 d) : (setUtc u l61 l59 d).now = d.now := by simp [setUtc]
@[simp] theorem acceptStep_now (absolute applyNs value intake d) : (acceptStep absolute applyNs value intake d).now = d.now := by simp [acceptStep]
@[simp] theorem autoStep_now (off d) : (autoStep off d).now = d.now := by simp [autoStep]
@[simp] theorem timeStepApply_now (d) : (timeStepApply d).now = d.now := by simp only [timeStepApply]; (repeat' split) <;> simp
@[simp] theorem stepNotice_now (m d) : (stepNotice m d).now = d.now := by simp [stepNotice]
@[simp] theorem leapSecond_now (positive d) : (leapSecond positive d).now = d.now := by simp [leapSecond]
@[simp] theorem toServo_now (s d) : (toServo s d).now = d.now := by simp [toServo]
@[simp] theorem toSource_now (s d) : (toSource s d).now = d.now := by simp [toSource]
@[simp] theorem servoSelect_now (d) : (servoSelect d).now = d.now := by unfold servoSelect; split <;> simp
@[simp] theorem learnRoot_now (root seq d) : (learnRoot root seq d).now = d.now := by simp [learnRoot]
@[simp] theorem candTake_now (c d) : (candTake c d).now = d.now := by simp only [candTake]; (repeat' split) <;> simp
@[simp] theorem tellCandidate_now (d) : (tellCandidate d).now = d.now := by simp [tellCandidate]
@[simp] theorem sourcesChanged_now (d) : (sourcesChanged d).now = d.now := by simp [sourcesChanged]
@[simp] theorem sample_now (s off d) : (sample s off d).now = d.now := by simp [sample]
@[simp] theorem sourceValid_now (s d) : (sourceValid s d).now = d.now := by simp [sourceValid]
@[simp] theorem sourceGone_now (s d) : (sourceGone s d).now = d.now := by simp [sourceGone]
@[simp] theorem servoLock_now (d) : (servoLock d).now = d.now := by simp [servoLock]
@[simp] theorem holdoverLimit_now (d) : (holdoverLimit d).now = d.now := by simp [holdoverLimit]
@[simp] theorem setPtp_now (p st d) : (setPtp p st d).now = d.now := by simp [setPtp]
@[simp] theorem bmca_now (k d) : (bmca k d).now = d.now := by unfold bmca; split <;> simp
@[simp] theorem delayDone_now (p x d) : (delayDone p x d).now = d.now := by simp [delayDone]
@[simp] theorem slaveCheck_now (p d) : (slaveCheck p d).now = d.now := by simp [slaveCheck]
@[simp] theorem passiveSample_now (p off d) : (passiveSample p off d).now = d.now := by simp [passiveSample]
@[simp] theorem syncDone_now (p t1 rx d) : (syncDone p t1 rx d).now = d.now := by simp only [syncDone]; (repeat' split) <;> simp
@[simp] theorem ptpSync_now (p m d) : (ptpSync p m d).now = d.now := by simp [ptpSync]
@[simp] theorem ptpFollowUp_now (p m d) : (ptpFollowUp p m d).now = d.now := by unfold ptpFollowUp; split <;> simp
@[simp] theorem ptpDelayReq_now (p m d) : (ptpDelayReq p m d).now = d.now := by unfold ptpDelayReq; split <;> simp
@[simp] theorem ptpDelayResp_now (p m reqId reqPort d) : (ptpDelayResp p m reqId reqPort d).now = d.now := by simp only [ptpDelayResp]; split <;> simp
@[simp] theorem ptpPdelay_now (p k m d) : (ptpPdelay p k m d).now = d.now := by fun_cases ptpPdelay <;> simp
@[simp] theorem ptpAnnounce_now (p domain m d) : (ptpAnnounce p domain m d).now = d.now := by unfold ptpAnnounce; (repeat' split) <;> simp
@[simp] theorem ptpOut_now (p k i d) : (ptpOut p k i d).now = d.now := by simp only [ptpOut]; split <;> simp
@[simp] theorem ptpSend_now (p k d) : (ptpSend p k d).now = d.now := by simp [ptpSend]
@[simp] theorem unicast_now (p peer msg grant durS d) : (unicast p peer msg grant durS d).now = d.now := by simp only [unicast]; split <;> simp
@[simp] theorem ptpManage_now (p id d) : (ptpManage p id d).now = d.now := by unfold ptpManage; split <;> simp
@[simp] theorem sourceTimeout_now (s d) : (sourceTimeout s d).now = d.now := by simp only [sourceTimeout]; split <;> simp
@[simp] theorem ppsIn_now (t d) : (ppsIn t d).now = d.now := by simp [ppsIn]
@[simp] theorem todIn_now (sec utc d) : (todIn sec utc d).now = d.now := by unfold todIn; split <;> simp
@[simp] theorem freqValid_now (d) : (freqValid d).now = d.now := by simp [freqValid]
@[simp] theorem ppsOut_now (d) : (ppsOut d).now = d.now := by simp [ppsOut]
@[simp] theorem refLoss_now (r d) : (refLoss r d).now = d.now := by unfold refLoss; split <;> simp
@[simp] theorem esmcSend_now (p d) : (esmcSend p d).now = d.now := by simp [esmcSend]
@[simp] theorem esmcIn_now (p ql d) : (esmcIn p ql d).now = d.now := by simp [esmcIn]

@[simp] theorem timeSyncOut_now (d) : (timeSyncOut d).now = d.now := by
  simp only [timeSyncOut]; split
  · rfl
  · rw [foldl_now]
    · simp
    · intro x n; split
      · rfl
      · split <;> simp

@[simp] theorem timeSyncIn_now (m d) : (timeSyncIn m d).now = d.now := by simp only [timeSyncIn]; (repeat' split) <;> simp
@[simp] theorem timeReqOut_now (d) : (timeReqOut d).now = d.now := by simp [timeReqOut]
@[simp] theorem timeReqIn_now (dev seq resent d) : (timeReqIn dev seq resent d).now = d.now := by simp [timeReqIn]
@[simp] theorem timeRespIn_now (seq rxTime corr resent d) : (timeRespIn seq rxTime corr resent d).now = d.now := by unfold timeRespIn; split <;> simp
@[simp] theorem timeRootIn_now (dev root seq resent d) : (timeRootIn dev root seq resent d).now = d.now := by simp [timeRootIn]
@[simp] theorem timeSetInstance_now (c d) : (timeSetInstance c d).dev.now = d.now := check_now (by simp)
@[simp] theorem timeSetPort_now (c d) : (timeSetPort c d).dev.now = d.now := check_now (by split <;> simp)
@[simp] theorem timeSetSource_now (c d) : (timeSetSource c d).dev.now = d.now := check_now (by simp)
@[simp] theorem timeSetIo_now (c d) : (timeSetIo c d).dev.now = d.now := check_now (by simp)
@[simp] theorem timeStep_now (c d) : (timeStep c d).dev.now = d.now := check_now (by simp)
@[simp] theorem timeGetStatus_now (c d) : (timeGetStatus c d).dev.now = d.now := check_now (by simp)
@[simp] theorem timeGetPort_now (c d) : (timeGetPort c d).dev.now = d.now := check_now (by simp)

/-! ### Fuses, tamper and MACsec -/

@[simp] theorem zeroise_now (d) : (zeroise d).now = d.now := by simp [zeroise]

@[simp] theorem cutFrame_now (p d) : (cutFrame p d).now = d.now := by
  fun_cases cutFrame <;> grind [!tcStage_now, !macsecSend_now, emit_now, dropPort_now]

@[simp] theorem keyOpAbort_now (c d) : (keyOpAbort c d).now = d.now := by simp [keyOpAbort]
@[simp] theorem macEvalAll_now (d) : (macEvalAll d).now = d.now := by simp [macEvalAll]
@[simp] theorem tamperEvent_now (src alarm st n d) : (tamperEvent src alarm st n d).now = d.now := by simp [tamperEvent]
@[simp] theorem enterChrysalis_now (cause d) : (enterChrysalis cause d).now = d.now := by simp [enterChrysalis]

end Dev

@[simp] theorem State.tamperStart_now (src s) : (State.tamperStart src s).dev.now = s.dev.now := by simp only [State.tamperStart]; split <;> simp

@[simp] theorem State.tamperRun_now (src s) : (State.tamperRun src s).dev.now = s.dev.now := by
  simp only [State.tamperRun]; split
  · simp
  · simp

@[simp] theorem State.tamper_now (src s) : (State.tamper src s).dev.now = s.dev.now := by simp only [State.tamper]; (repeat' split) <;> simp
@[simp] theorem State.tamperPulse_now (src s) : (State.tamperPulse src s).dev.now = s.dev.now := by simp [State.tamperPulse]

namespace Dev

@[simp] theorem secGetIdentity_now (c d) : (secGetIdentity c d).dev.now = d.now := check_now (by simp)
@[simp] theorem secAttest_now (nv c d) : (secAttest nv c d).dev.now = d.now := check_now (by simp)
@[simp] theorem secRevokeKey_now (pl c nv d) : (secRevokeKey pl c nv d).2.dev.now = d.now := checkNv_now (by simp)
@[simp] theorem secRaiseMin_now (c nv d) : (secRaiseMin c nv d).2.dev.now = d.now := checkNv_now (by simp)
@[simp] theorem secSetTamper_now (c nv d) : (secSetTamper c nv d).2.dev.now = d.now := checkNv_now (by simp)
@[simp] theorem secGetTamper_now (nv c d) : (secGetTamper nv c d).dev.now = d.now := check_now (by simp)
@[simp] theorem secTamperClear_now (c nv d) : (secTamperClear c nv d).2.dev.now = d.now := checkNv_now (by simp)
@[simp] theorem macsecSetPort_now (c d) : (macsecSetPort c d).dev.now = d.now := check_now (by simp)
@[simp] theorem macsecKekAgree_now (pl c d) : (macsecKekAgree pl c d).dev.now = d.now := check_now (by simp)
@[simp] theorem macsecSaInstall_now (pl c d) : (macsecSaInstall pl c d).dev.now = d.now := check_now (by simp)
@[simp] theorem macsecSaDelete_now (c d) : (macsecSaDelete c d).dev.now = d.now := check_now (by simp)
@[simp] theorem macsecTxSelect_now (c d) : (macsecTxSelect c d).dev.now = d.now := check_now (by simp)
@[simp] theorem macsecGetStatus_now (c d) : (macsecGetStatus c d).dev.now = d.now := check_now (by simp)
@[simp] theorem loadIr_now (i d) : (loadIr i d).now = d.now := by simp [loadIr]

/-! ### Alarms and register writes -/

@[simp] theorem alarmWrite_now (nv v d) : (alarmWrite nv v d).now = d.now := by simp [alarmWrite]
@[simp] theorem bar0Register_now (nv off size be data d) : (bar0Register nv off size be data d).now = d.now := by simp [bar0Register]

/-! ### Power and sensing -/

@[simp] theorem putLoop_now (d fwd l) : (putLoop d fwd l).now = d.now := by simp [putLoop]
@[simp] theorem noteBacklog_now (d) : (noteBacklog d).now = d.now := by simp [noteBacklog]
@[simp] theorem readCrickets_now (fwd rates d) : (readCrickets fwd rates d).now = d.now := by simp [readCrickets]

@[simp] theorem governorLoop_now (fwd rates offered d) : (governorLoop fwd rates offered d).now = d.now := by
  unfold governorLoop; split
  · rfl
  · extract_lets e
    have he : e.now = d.now := by simp [e]
    split <;> simp [he]

@[simp] theorem avsTelemetry_now (fwd ack mv ma d) : (avsTelemetry fwd ack mv ma d).now = d.now := by simp [avsTelemetry]
@[simp] theorem shortfallEvent_now (fwd cleared d) : (shortfallEvent fwd cleared d).now = d.now := by simp [shortfallEvent]
@[simp] theorem shortfallStart_now (fwd d) : (shortfallStart fwd d).now = d.now := by simp only [shortfallStart]; split <;> simp
@[simp] theorem shortfallEnd_now (fwd d) : (shortfallEnd fwd d).now = d.now := by simp only [shortfallEnd]; split <;> simp
@[simp] theorem railSample_now (k mv d) : (railSample k mv d).now = d.now := by simp [railSample]
@[simp] theorem thermalWarn_now (d) : (thermalWarn d).now = d.now := by simp only [thermalWarn]; split <;> simp

@[simp] theorem thermTrip_now (d) : (thermTrip d).now = d.now := by
  simp only [thermTrip]; rw [foldl_now _ (by simp), setPwr_now, foldl_now _ (by simp), emit_now]

@[simp] theorem temperatures_now (sites hbm d) : (temperatures sites hbm d).now = d.now := by
  simp only [temperatures, ite_now, thermTrip_now, setAlarm_now, thermalWarn_now, ite_self]
  rw [foldl_now, setPwr_now]
  intro x s; split <;> simp

@[simp] theorem gateEngine_now (e d) : (gateEngine e d).now = d.now := by simp [gateEngine]
@[simp] theorem quietEntry_now (d) : (quietEntry d).now = d.now := by simp [quietEntry]
@[simp] theorem pwrGetStatus_now (c d) : (pwrGetStatus c d).dev.now = d.now := check_now (by simp)
@[simp] theorem govSet_now (c d) : (govSet c d).dev.now = d.now := check_now (by simp)
@[simp] theorem pwrSetThermal_now (c d) : (pwrSetThermal c d).dev.now = d.now := check_now (by simp)

/-! ### DMA and check values -/

@[simp] theorem putDma_now (d k c) : (putDma d k c).now = d.now := by simp [putDma]
@[simp] theorem dmaTake_now (k d) : (dmaTake k d).now = d.now := by simp [dmaTake]
@[simp] theorem dmaRelease_now (k d) : (dmaRelease k d).now = d.now := by simp [dmaRelease]
@[simp] theorem dmaStopEvent_now (k d) : (dmaStopEvent k d).now = d.now := by simp [dmaStopEvent]
@[simp] theorem dmaFail_now (k st addr d) : (dmaFail k st addr d).now = d.now := by simp [dmaFail]
@[simp] theorem addrFault_now (requester write addr d) : (addrFault requester write addr d).now = d.now := by simp [addrFault]
@[simp] theorem dmaEnd_now (k d) : (dmaEnd k d).now = d.now := by unfold dmaEnd; split <;> simp
@[simp] theorem dmaLoop_now (k d) : (dmaLoop k d).now = d.now := by unfold dmaLoop; split <;> simp
@[simp] theorem dmaWait_now (k d) : (dmaWait k d).now = d.now := by unfold dmaWait; split <;> simp
@[simp] theorem directMsix_now (v d) : (directMsix v d).now = d.now := by simp [directMsix]
@[simp] theorem dmaSignal_now (k d) : (dmaSignal k d).now = d.now := by unfold dmaSignal; (repeat' split) <;> simp
@[simp] theorem dmaShuffle_now (k d) : (dmaShuffle k d).now = d.now := by unfold dmaShuffle; split <;> simp
@[simp] theorem hbmPut_now (a bs d) : (hbmPut a bs d).2.now = d.now := by fun_cases hbmPut <;> simp
@[simp] theorem sramPut_now (a bs d) : (sramPut a bs d).2.now = d.now := by simp only [sramPut]; (repeat' split) <;> simp

@[simp] theorem writeRuns_now (both l d) : (writeRuns both l d).2.now = d.now := by
  fun_induction writeRuns <;> grind [emit_now, !hbmPut_now, !sramPut_now]

@[simp] theorem moveUnit_now (fw both n sReg dReg shuffle host x u) : (moveUnit fw both n sReg dReg shuffle host x u).2.now = x.2.now := by
  fun_cases moveUnit <;> grind [!writeRuns_now]

@[simp] theorem dmaMove_now (k host d) : (dmaMove k host d).now = d.now := by
  simp only [dmaMove]; split
  · rfl
  · split
    · simp
    · split
      · simp
      · split
        · split <;> simp [foldl_snd_now]
        · simp [foldl_snd_now]

@[simp] theorem dmaBudget_now (k d) : (dmaBudget k d).now = d.now := by simp [dmaBudget]
@[simp] theorem dmaStarted_now (k d) : (dmaStarted k d).now = d.now := by simp [dmaStarted]
@[simp] theorem dmaStopped_now (k d) : (dmaStopped k d).now = d.now := by simp [dmaStopped]
@[simp] theorem dmaLoad_now (pl c d) : (dmaLoad pl c d).dev.now = d.now := check_now (by simp)
@[simp] theorem dmaEnable_now (c d) : (dmaEnable c d).dev.now = d.now := check_now (by simp)
@[simp] theorem dmaHalt_now (c d) : (dmaHalt c d).dev.now = d.now := check_now (by simp)
@[simp] theorem dmaGetStatus_now (c d) : (dmaGetStatus c d).dev.now = d.now := check_now (by simp)
@[simp] theorem scratchPut_now (x bs d) : (scratchPut x bs d).now = d.now := by simp [scratchPut]
@[simp] theorem counterExport_now (k d) : (counterExport k d).now = d.now := by unfold counterExport; split <;> simp
@[simp] theorem telemetryExport_now (d) : (telemetryExport d).now = d.now := by unfold telemetryExport; split <;> simp
@[simp] theorem dmaSetExport_now (c d) : (dmaSetExport c d).dev.now = d.now := check_now (by simp)
@[simp] theorem mailboxPost_now (e t m d) : (mailboxPost e t m d).now = d.now := by unfold mailboxPost; split <;> simp
@[simp] theorem putCv_now (d u c) : (putCv d u c).now = d.now := by simp [putCv]

@[simp] theorem cvFill_now (d) : (cvFill d).now = d.now :=
  foldl_now _ (fun x u => by dsimp only; split <;> simp) _ d

@[simp] theorem cvScan_now (c d) : (cvScan c d).dev.now = d.now := check_now (by simp)
@[simp] theorem scanEnds_now (u s d) : (scanEnds u s d).now = d.now := by simp only [scanEnds]; split <;> simp

@[simp] theorem cvSegmentEnd_now (u host d) : (cvSegmentEnd u host d).now = d.now := by
  unfold cvSegmentEnd; dsimp only; split
  · rfl
  · split
    · rw [cvFill_now]; split <;> simp
    · split
      · split <;> simp
      · simp

@[simp] theorem scrubCe_now (a n d) : (scrubCe a n d).now = d.now := by simp [scrubCe]
@[simp] theorem scrubUe_now (w d) : (scrubUe w d).now = d.now := by simp [scrubUe]
@[simp] theorem scrubBlock_now (d) : (scrubBlock d).now = d.now := by simp [scrubBlock]
@[simp] theorem sramScrub_now (a d) : (sramScrub a d).now = d.now := by simp [sramScrub]
@[simp] theorem cvGetStatus_now (c d) : (cvGetStatus c d).dev.now = d.now := check_now (by simp)

/-! ### The triad and the bridge -/

@[simp] theorem setRole_now (k r cause d) : (setRole k r cause d).now = d.now := by simp [setRole]
@[simp] theorem setRoleOpen_now (k r d) : (setRoleOpen k r d).now = d.now := by simp [setRoleOpen]
@[simp] theorem rollbackEvent_now (d) : (rollbackEvent d).now = d.now := by simp [rollbackEvent]
@[simp] theorem beginRestart_now (cause kind intake d) : (beginRestart cause kind intake d).now = d.now := by simp [beginRestart]
@[simp] theorem leaveVote_now (k cause d) : (leaveVote k cause d).now = d.now := by simp [leaveVote]
@[simp] theorem standbyBad_now (k d) : (standbyBad k d).now = d.now := by simp [standbyBad]
@[simp] theorem resume_now (d) : (resume d).now = d.now := by simp [resume]
@[simp] theorem disagree_now (d) : (disagree d).now = d.now := by unfold disagree; split <;> simp
@[simp] theorem releaseOutput_now (n y d) : (releaseOutput n y d).now = d.now := by simp [releaseOutput]
@[simp] theorem settleOutput_now (n d) : (settleOutput n d).now = d.now := by simp only [settleOutput]; split <;> simp
@[simp] theorem outputCopy_now (ch n x d) : (outputCopy ch n x d).now = d.now := by fun_cases outputCopy <;> simp
@[simp] theorem voteTimeout_now (ch d) : (voteTimeout ch d).now = d.now := by simp [voteTimeout]
@[simp] theorem commit_now (y dig d) : (commit y dig d).now = d.now := by simp [commit]
@[simp] theorem checkpoint_now (a b c d) : (checkpoint a b c d).now = d.now := by fun_cases checkpoint <;> simp
@[simp] theorem channelUe_now (k d) : (channelUe k d).now = d.now := by simp [channelUe]

@[simp] theorem swapDue_now (d) : (swapDue d).now = d.now := by
  unfold swapDue; extract_lets t; split
  · rfl
  · exact (setRole_now ..).trans (by simp)

@[simp] theorem selftestEnd_now (k ok d) : (selftestEnd k ok d).now = d.now := by simp [selftestEnd]
@[simp] theorem resyncDone_now (k ok d) : (resyncDone k ok d).now = d.now := by simp [resyncDone]
@[simp] theorem headlessTimeout_now (d) : (headlessTimeout d).now = d.now := by unfold headlessTimeout; split <;> simp
@[simp] theorem laneFail_now (g l cause d) : (laneFail g l cause d).now = d.now := by simp [laneFail]
@[simp] theorem bridgeLaneFail_now (g l c d) : (bridgeLaneFail g l c d).now = d.now := by simp [bridgeLaneFail]
@[simp] theorem spareSwapDone_now (g d) : (spareSwapDone g d).now = d.now := by simp [spareSwapDone]
@[simp] theorem laneEyeCheck_now (g l margin below d) : (laneEyeCheck g l margin below d).now = d.now := by simp [laneEyeCheck]
@[simp] theorem laneRetrain_now (g l ok d) : (laneRetrain g l ok d).now = d.now := by simp [laneRetrain]
@[simp] theorem flitRetry_now (g seq d) : (flitRetry g seq d).now = d.now := by simp [flitRetry]
@[simp] theorem flitReceive_now (g toQueueing f d) : (flitReceive g toQueueing f d).now = d.now := by simp [flitReceive]
@[simp] theorem triadGetStatus_now (c d) : (triadGetStatus c d).dev.now = d.now := check_now (by simp)
@[simp] theorem triadSetSwap_now (c d) : (triadSetSwap c d).dev.now = d.now := check_now (by simp)
@[simp] theorem triadRestart_now (c d) : (triadRestart c d).dev.now = d.now := check_now (by simp)
@[simp] theorem triadTraceRead_now (c d) : (triadTraceRead c d).dev.now = d.now := check_now (by simp)
@[simp] theorem bridgeGetStatus_now (c d) : (bridgeGetStatus c d).dev.now = d.now := check_now (by simp)
@[simp] theorem reinitQueue_now (q a d) : (reinitQueue q a d).now = d.now := by simp [reinitQueue]
@[simp] theorem sramUe_now (a d) : (sramUe a d).now = d.now := by simp only [sramUe]; (repeat' split) <;> simp
@[simp] theorem injectError_now (ue a d) : (injectError ue a d).now = d.now := by simp [injectError]
@[simp] theorem diagInject_now (c d) : (diagInject c d).dev.now = d.now := check_now (by split <;> simp)

/-! ### Boot and firmware -/

@[simp] theorem markBad_now (nv d b cause) : (markBad nv d b cause).2.now = d.now := by simp [markBad]

@[simp] theorem chooseSlot_now (count nv d) : (chooseSlot count nv d).1.2.now = d.now := by
  unfold chooseSlot; extract_lets s0 n1 used p _ p1 s f1
  have h1 : p1.2.now = d.now := by simp only [p1]; split <;> simp [p]
  split
  · exact h1
  · dsimp only; split <;> simp [h1]

@[simp] theorem fallbackEvents_now (l d) : (fallbackEvents l d).now = d.now := by simp [fallbackEvents]
@[simp] theorem runSlot_now (nv b d) : (runSlot nv b d).now = d.now := by simp [runSlot]
@[simp] theorem defaultsEvent_now (c d) : (defaultsEvent c d).now = d.now := by unfold defaultsEvent; split <;> simp
@[simp] theorem phases_now (l d) : (phases l d).now = d.now := by simp [phases]
@[simp] theorem halt_now (phase d) : (halt phase d).now = d.now := by simp [halt]

@[simp] theorem bringHbm_now (e p new d) : (bringHbm e p new d).now = d.now := by
  simp only [bringHbm]
  rw [budgetWatch_now, foldl_now _ (by simp)]
  split
  · simp
  · rw [raise_now, foldl_snd_now]
    · simp
    · intro x s; split <;> simp

@[simp] theorem bringObjects_now (e d) : (bringObjects e d).now = d.now := by simp [bringObjects]
@[simp] theorem becomeReady_now (e nv fall d) : (becomeReady e nv fall d).now = d.now := by simp [becomeReady]

end Dev

@[simp] theorem State.bootRest_now (e b fall s) : (State.bootRest e b fall s).dev.now = s.dev.now := by
  simp only [State.bootRest]; split
  · simp
  · simp

@[simp] theorem State.boot_now (e s) : (State.boot e s).dev.now = s.dev.now := by simp only [State.boot]; (repeat' split) <;> simp
@[simp] theorem State.bringUp_now (e s) : (State.bringUp e s).dev.now = s.dev.now := by unfold State.bringUp; split <;> simp
@[simp] theorem State.deviceReset_now (s) : (State.deviceReset s).dev.now = s.dev.now := by simp [State.deviceReset]
@[simp] theorem State.recoveryReset_now (s) : (State.recoveryReset s).dev.now = s.dev.now := by unfold State.recoveryReset; split <;> simp

namespace Dev

@[simp] theorem answer_now (k r d) : (answer k r d).now = d.now := by unfold answer; split <;> simp
@[simp] theorem rollBack_now (d) : (rollBack d).1.now = d.now := by unfold rollBack; split <;> simp
@[simp] theorem restartRoles_now (pass d) : (restartRoles pass d).now = d.now := by simp [restartRoles]
@[simp] theorem undoWord_now (w d) : (undoWord w d).now = d.now := by fun_cases undoWord <;> simp
@[simp] theorem undo_now (k d) : (undo k d).now = d.now := foldl_now _ (by simp) _ _
@[simp] theorem settleCmds_now (d) : (settleCmds d).now = d.now := by simp [settleCmds]
@[simp] theorem triadBack_now (r pass d) : (triadBack r pass d).now = d.now := by simp [triadBack]

end Dev

@[simp] theorem State.returnInto_now (r pass swapOk b fall s) : (State.returnInto r pass swapOk b fall s).dev.now = s.dev.now := by
  simp [State.returnInto]

@[simp] theorem State.triadReturn_now (pass swapOk s) : (State.triadReturn pass swapOk s).dev.now = s.dev.now := by
  unfold State.triadReturn; split
  · rfl
  · split
    · rfl
    · split
      · simp
      · dsimp only; split <;> split <;> simp

namespace Dev

@[simp] theorem confirmTimeout_now (d) : (confirmTimeout d).now = d.now := by simp [confirmTimeout]
@[simp] theorem parserSwap_now (d) : (parserSwap d).now = d.now := by unfold parserSwap; split <;> simp
@[simp] theorem fwGetStatus_now (nv c d) : (fwGetStatus nv c d).dev.now = d.now := check_now (by simp)
@[simp] theorem writeSlot_now (b img relayed nv d) : (writeSlot b img relayed nv d).2.now = d.now := by simp [writeSlot]
@[simp] theorem fwWrite_now (pl ok1 ok2 c nv d) : (fwWrite pl ok1 ok2 c nv d).2.dev.now = d.now := checkNv_now (by split <;> simp)
@[simp] theorem fwActivate_now (c nv d) : (fwActivate c nv d).2.dev.now = d.now := checkNv_now (by simp)
@[simp] theorem fwConfirm_now (c nv d) : (fwConfirm c nv d).2.dev.now = d.now := checkNv_now (by split <;> simp)
@[simp] theorem fwRevert_now (nv c d) : (fwRevert nv c d).dev.now = d.now := check_now (by simp)

@[simp] theorem parserPatch_now (nv pl c d) : (parserPatch nv pl c d).dev.now = d.now := by
  unfold parserPatch; extract_lets img go
  split <;> exact check_now rfl

@[simp] theorem setRelay_now (d r) : (setRelay d r).now = d.now := by simp [setRelay]
@[simp] theorem relaySend_now (r x k b d) : (relaySend r x k b d).now = d.now := by simp [relaySend]
@[simp] theorem relayPump_now (n d) : (relayPump n d).now = d.now := by fun_induction relayPump <;> grind [setRelay_now, relaySend_now]
@[simp] theorem relayDone_now (r d) : (relayDone r d).now = d.now := by simp [relayDone]
@[simp] theorem relayTail_now (d) : (relayTail d).now = d.now := by unfold relayTail; split <;> simp
@[simp] theorem fwRelay_now (pl c nv d) : (fwRelay pl c nv d).2.dev.now = d.now := checkNv_now (by split <;> simp)

@[simp] theorem relayChunk_now (dev image idx count crc b nv d) : (relayChunk dev image idx count crc b nv d).2.now = d.now := by
  simp only [relayChunk]; (repeat' split) <;> simp

@[simp] theorem relayAck_now (dev image idx complete d) : (relayAck dev image idx complete d).now = d.now := by unfold relayAck; split <;> simp
@[simp] theorem relayResend_now (idx d) : (relayResend idx d).now = d.now := by fun_cases relayResend <;> simp
@[simp] theorem relaySkip_now (d) : (relaySkip d).now = d.now := by unfold relaySkip; (repeat' split) <;> simp
@[simp] theorem flashPhase_now (on d) : (flashPhase on d).now = d.now := by simp [flashPhase]
@[simp] theorem setRecov_now (d f) : (setRecov d f).now = d.now := by simp [setRecov]
@[simp] theorem recoveryWrite_now (chunk ok c nv d) : (recoveryWrite chunk ok c nv d).2.dev.now = d.now := checkNv_now (by split <;> simp)
@[simp] theorem recoveryStatus_now (nv c d) : (recoveryStatus nv c d).dev.now = d.now := check_now (by simp)
@[simp] theorem recoverSlotA_now (img nv d) : (recoverSlotA img nv d).2.now = d.now := by simp [recoverSlotA]
@[simp] theorem smbBegin_now (len crc pec nv d) : (smbBegin len crc pec nv d).2.now = d.now := by simp only [smbBegin]; split <;> simp
@[simp] theorem smbData_now (b pec nv d) : (smbData b pec nv d).2.now = d.now := by simp only [smbData]; split <;> simp
@[simp] theorem smbFinish_now (pec nv d) : (smbFinish pec nv d).2.now = d.now := by simp only [smbFinish]; (repeat' split) <;> simp
@[simp] theorem smbStatus_now (d) : (smbStatus d).now = d.now := by simp [smbStatus]

end Dev

@[simp] theorem State.recoveryBoot_now (src s) : (State.recoveryBoot src s).dev.now = s.dev.now := by
  unfold State.recoveryBoot; split
  · rfl
  · dsimp only; (repeat' split) <;> simp

/-! ### DEV_GET_INFO, inject rings and SMBus -/

namespace Dev

@[simp] theorem devGetInfo_now (c d) : (devGetInfo c d).dev.now = d.now := check_now (by simp)
@[simp] theorem objGetState_now (c d) : (objGetState c d).dev.now = d.now := by unfold objGetState; split <;> simp
@[simp] theorem injectSlot_now (i hdr f d) : (injectSlot i hdr f d).now = d.now := by unfold injectSlot; split <;> simp
@[simp] theorem smbusHealth_now (p c d) : (smbusHealth p c d).now = d.now := by unfold smbusHealth; (repeat' split) <;> simp

end Dev

end Sys2Proof.Machine

/-! ### The whole machine: what an answer keeps -/

namespace Sys2Proof.Machine
open Sys2Proof

namespace State

@[simp] theorem pending_ite (p : Prop) [Decidable p] (a b : State) : (if p then a else b).pending = if p then a.pending else b.pending :=
  apply_ite _ _ _ _

@[simp] theorem tamperStart_pending (src s) : (tamperStart src s).pending = s.pending := rfl

@[simp] theorem tamperRun_pending (src s) : (tamperRun src s).pending = s.pending := by simp [tamperRun]

@[simp] theorem tamper_pending (src s) : (tamper src s).pending = s.pending := by simp [tamper]

@[simp] theorem tamperPulse_pending (src s) : (tamperPulse src s).pending = s.pending := by simp [tamperPulse]

@[simp] theorem bootRest_pending (e b fall s) : (bootRest e b fall s).pending = s.pending := by simp [bootRest]

@[simp] theorem boot_pending (e s) : (boot e s).pending = s.pending := by
  simp only [boot]; (repeat' split) <;> simp

@[simp] theorem bringUp_pending (e s) : (bringUp e s).pending = s.pending := by simp [bringUp]

@[simp] theorem deviceReset_pending (s) : (deviceReset s).pending = s.pending := rfl

@[simp] theorem recoveryReset_pending (s) : (recoveryReset s).pending = s.pending := by simp [recoveryReset]

@[simp] theorem returnInto_pending (r pass swapOk b fall s) : (returnInto r pass swapOk b fall s).pending = s.pending := by simp [returnInto]

@[simp] theorem triadReturn_pending (pass swapOk s) : (triadReturn pass swapOk s).pending = s.pending := by
  unfold triadReturn; split
  · rfl
  · split
    · rfl
    · split
      · rfl
      · dsimp only; split <;> split <;> simp

@[simp] theorem recoveryBoot_pending (src s) : (recoveryBoot src s).pending = s.pending := by
  unfold recoveryBoot; split
  · rfl
  · dsimp only; (repeat' split) <;> simp

/-- `o` answers a next state with the queue and the elapsed time of `s`, and unless `nv` is set with its fuses, flash and tamper latch. -/
def Answers (s : State) (nv : Bool) (o : Out) : Prop :=
  ∃ t, o = .next t ∧ t.pending = s.pending ∧ t.dev.now = s.dev.now ∧ (nv = false → t.nv = s.nv)

theorem answers_next {s t : State} (hp : t.pending = s.pending) (hn : t.dev.now = s.dev.now) : s.Answers true (.next t) :=
  ⟨t, rfl, hp, hn, nofun⟩

/-- A meaning on the device part leaves everything else. -/
theorem answers_onDev {s : State} {nv : Bool} {f : Dev → Dev} (h : (f s.dev).now = s.dev.now) : s.Answers nv (s.onDev f) :=
  ⟨_, rfl, rfl, h, fun _ => rfl⟩

/-- A message that the triad's journal notes as an input. -/
theorem answers_logIn {s : State} {nv : Bool} {f : Dev → Dev} {k : LogKind} (h : (f s.dev).now = s.dev.now) :
    s.Answers nv (s.onDev fun d => (f d).logIn k) := answers_onDev ((Dev.logIn_now k _).trans h)

/-- A command of a ring or a mailbox whose handler keeps the elapsed time. -/
theorem answers_runCmd {s : State} {nv : Bool} {op : Nat} {src : Src} {f : Cmd → Dev → Reply} (h : ∀ c d, (f c d).dev.now = d.now) :
    s.Answers nv (s.onDev (Dev.runCmd op src f)) := answers_onDev (Dev.runCmd_now op src f h s.dev)

/-- A command of a ring or a mailbox that may change fuses, flash or the tamper latch. -/
theorem answers_runNv {s r : State} {op : Nat} {src : Src} {f : Cmd → Nv → Dev → Nv × Reply} (hp : r.pending = s.pending)
    (hn : r.dev.now = s.dev.now) (h : ∀ c nv d, (f c nv d).2.dev.now = d.now) : s.Answers true (r.runNv op src f) := by
  unfold runNv; split
  · exact answers_next hp hn
  · split
    · exact answers_next hp (by simp [hn])
    · exact answers_next hp (by simp [h, hn])

end State
end Sys2Proof.Machine

namespace Sys2Proof.Machine
open Sys2Proof State Dev

theorem execLanesReady_answers (p : Fin 256) (s : State) : s.Answers false (execLanesReady p s) := by
  unfold execLanesReady; apply answers_onDev; simp

theorem execTblBatchApply_answers (src : Src) (pl : HostRead) (s : State) : s.Answers false (execTblBatchApply src pl s) := by
  unfold execTblBatchApply; apply answers_onDev
  rw [ite_now, runCmd_now _ _ _ (tblBatchApply_now pl), ite_self]

theorem execVoqDequeue_answers (v : Nat) (s : State) : s.Answers false (execVoqDequeue v s) := by
  unfold execVoqDequeue; apply answers_onDev; simp

theorem execTimeCandidate_answers (m : CandidateMsg) (s : State) : s.Answers false (execTimeCandidate m s) := by
  unfold execTimeCandidate; apply answers_onDev; simp

theorem execSupplyGlitch_answers (rail : Fin 8) (mv : Nat) (s : State) : s.Answers true (execSupplyGlitch rail mv s) := by
  unfold execSupplyGlitch; split
  · exact answers_next (tamperPulse_pending ..) (tamperPulse_now ..)
  · exact answers_next rfl rfl

/-- Every row answers, each by the lemma about its meaning. -/
theorem exec_answers (i : Instr) (s : State) : s.Answers i.nvRow (exec i s) := by
  cases i with
  | bringUp _ => exact answers_next (State.bringUp_pending ..) (State.bringUp_now ..)
  | deviceReset => exact answers_next (State.deviceReset_pending ..) (State.deviceReset_now ..)
  | recoveryReset => exact answers_next (State.recoveryReset_pending ..) (State.recoveryReset_now ..)
  | pcieConfigRequest _ => exact answers_onDev (pcieConfigRequest_now ..)
  | flr => exact answers_onDev (flr_now ..)
  | hotReset => exact answers_onDev (ifaceReset_now ..)
  | pcieLinkDown => exact answers_onDev (ifaceReset_now ..)
  | busMasterDisable => exact answers_onDev (busMasterDisable_now ..)
  | d3hotEntry => exact answers_onDev (d3hotEntry_now ..)
  | ifaceResetQuiesced => exact answers_onDev (ifaceResetQuiesced_now ..)
  | sqTailWrite _ _ => exact answers_onDev (sqTailWrite_now ..)
  | cqHeadWrite _ _ => exact answers_onDev (cqHeadWrite_now ..)
  | puntHeadWrite _ _ => exact answers_onDev (puntHeadWrite_now ..)
  | injectTailWrite _ _ => exact answers_onDev (injectTailWrite_now ..)
  | eventHeadWrite _ => exact answers_onDev (eventHeadWrite_now ..)
  | mbCtrlWrite _ _ => exact answers_onDev (mbCtrlWrite_now ..)
  | hifIntCauseWrite _ => exact answers_onDev (intCauseWrite_now ..)
  | hifAlarmWrite _ => exact answers_onDev (alarmWrite_now ..)
  | bar0RegisterWrite _ _ _ _ => exact answers_onDev (bar0Register_now ..)
  | msixGapExpiry _ => exact answers_onDev (msixGapExpiry_now ..)
  | submissionTake _ _ => exact answers_onDev (submissionTake_now ..)
  | devGetInfo _ => exact answers_runCmd devGetInfo_now
  | hifRingCreate _ => exact answers_runCmd hifRingCreate_now
  | hifRingDelete _ => exact answers_runCmd hifRingDelete_now
  | hifIfaceReset _ => exact answers_runCmd hifIfaceReset_now
  | hifSetPunt _ => exact answers_runCmd hifSetPunt_now
  | hifGetPktStatus _ => exact answers_runCmd hifGetPktStatus_now
  | objGetState _ => exact answers_runCmd objGetState_now
  | injectSlotRead _ _ _ => exact answers_onDev (injectSlot_now ..)
  | smbusHealthRead _ _ => exact answers_onDev (smbusHealth_now ..)
  | smbRecoveryBegin _ _ _ => exact answers_next rfl (smbBegin_now ..)
  | smbRecoveryData _ _ => exact answers_next rfl (smbData_now ..)
  | smbRecoveryFinish _ => exact answers_next rfl (smbFinish_now ..)
  | smbRecoveryStatus => exact answers_onDev (smbStatus_now ..)
  | portSetMode _ => exact answers_runCmd portSetMode_now
  | portEnable _ => exact answers_runCmd portEnable_now
  | portDisable _ => exact answers_runCmd portDisable_now
  | portSetAbilities _ => exact answers_runCmd portSetAbilities_now
  | portGetStatus _ => exact answers_runCmd portGetStatus_now
  | laneMeasure _ => exact answers_runCmd laneMeasure_now
  | portMeasureRtt _ => exact answers_runCmd portMeasureRtt_now
  | portSetLimits _ => exact answers_runCmd portSetLimits_now
  | laneMeasureDone _ _ => exact answers_onDev (laneMeasureDone_now ..)
  | rttMeasureDone _ _ => exact answers_onDev (rttMeasureDone_now ..)
  | lanesReady _ => exact execLanesReady_answers ..
  | portStopDone _ => exact answers_onDev (portStopDone_now _ (fun _ _ => flushPort_now ..) ..)
  | abilityFrame _ _ _ => exact answers_onDev (abilityFrame_now ..)
  | trainFrame _ _ _ _ _ => exact answers_onDev (trainFrame_now ..)
  | readyFrame _ _ _ => exact answers_onDev (readyFrame_now ..)
  | abilityTimeout _ => exact answers_onDev (abilityTimeout_now ..)
  | trainTimeout _ => exact answers_onDev (trainTimeout_now ..)
  | trainingRestartDelay _ => exact answers_onDev (trainingRestart_now ..)
  | autonegPage _ _ _ => exact answers_onDev (autonegPage_now ..)
  | autonegTimeout _ => exact answers_onDev (autonegTimeout_now ..)
  | partnerGoneTimeout _ => exact answers_onDev (partnerGone_now ..)
  | laneSignalChange _ _ => exact answers_onDev (laneSignal_now ..)
  | codewordReceive _ _ _ => exact answers_onDev (codeword_now ..)
  | otucFrame _ _ => exact answers_onDev (otucFrame_now ..)
  | faultOrderedSet _ _ _ => exact answers_onDev (faultSet_now ..)
  | defectDeclare _ _ => exact answers_onDev (defectDeclare_now ..)
  | defectClear _ _ => exact answers_onDev (defectClear_now ..)
  | linkDownPersist _ => exact answers_onDev (linkDownPersist_now ..)
  | holdoffExpiry _ => exact answers_onDev (holdoffExpiry_now ..)
  | wtrExpiry _ => exact answers_onDev (wtrExpiry_now ..)
  | pmSecond _ => exact answers_onDev (pmSecond_now ..)
  | pmBinClose _ => exact answers_onDev (pmBinClose_now ..)
  | pmBinFinal _ _ => exact answers_onDev (pmBinFinal_now ..)
  | frmSetTti _ _ => exact answers_runCmd (frmSetTti_now _)
  | frmSetActions _ => exact answers_runCmd frmSetActions_now
  | frmGetDefects _ => exact answers_runCmd frmGetDefects_now
  | pmGetBins _ => exact answers_runCmd pmGetBins_now
  | pmSetTca _ => exact answers_runCmd pmSetTca_now
  | frameReceive _ _ _ => exact answers_onDev (frameReceive_now ..)
  | extLookupReply _ _ _ => exact answers_onDev (extReply_now ..)
  | extLate _ _ => exact answers_onDev (extLateRow_now ..)
  | excursionReturn _ _ => exact answers_onDev (excursionReturn_now ..)
  | frameHandoff _ => exact answers_onDev (frameHandoff_now ..)
  | egressDelivery _ _ _ _ _ _ => exact answers_onDev (egressDelivery_now ..)
  | frameTransmit _ _ => exact answers_onDev (transmit_now ..)
  | flitReceive _ _ _ => exact answers_onDev (flitReceive_now ..)
  | batchCommit => exact answers_onDev (batchCommit_now ..)
  | viewRelease => exact answers_onDev (viewRelease_now ..)
  | ecmpGroupSwitch _ => exact answers_onDev (ecmpSwitch_now ..)
  | ecmpRebalance _ => exact answers_onDev (ecmpRebalance_now ..)
  | pipeFailure _ _ => exact answers_onDev (pipeFailure_now ..)
  | pipeSelfTestDone _ _ => exact answers_onDev (pipeSelfTest_now ..)
  | pipeStopDone _ => exact answers_onDev (pipeStopDone_now _ (fun _ _ => flushPort_now ..) ..)
  | pipeEnable _ => exact answers_runCmd pipeEnable_now
  | pipeDisable _ => exact answers_runCmd pipeDisable_now
  | pipeGetStatus _ => exact answers_runCmd pipeGetStatus_now
  | pipeSetHash _ => exact answers_runCmd pipeSetHash_now
  | nhSet _ => exact answers_runCmd nhSet_now
  | ecmpSetGroup _ _ => exact answers_runCmd (ecmpSetGroup_now _)
  | frrForce _ => exact answers_runCmd frrForce_now
  | dropGetCounters _ => exact answers_runCmd dropGetCounters_now
  | tblCreate _ => exact answers_runCmd tblCreate_now
  | tblDestroy _ => exact answers_runCmd tblDestroy_now
  | tblBatchApply _ _ => exact execTblBatchApply_answers ..
  | tblGetStatus _ => exact answers_runCmd tblGetStatus_now
  | tblRead _ => exact answers_runCmd tblRead_now
  | tblSetAgeing _ => exact answers_runCmd tblSetAgeing_now
  | vrfSet _ => exact answers_runCmd vrfSet_now
  | tblSetExtRate _ => exact answers_runCmd tblSetExtRate_now
  | tblSetProfile _ => exact answers_runCmd tblSetProfile_now
  | cntRead _ => exact answers_runCmd cntRead_now
  | learnRequestApply _ => exact answers_onDev (learnApply_now ..)
  | ageingSweep _ => exact answers_onDev (ageingSweep_now ..)
  | tcamScrub _ => exact answers_onDev (tcamScrub_now ..)
  | shadowRebuild _ => exact answers_onDev (shadowRebuild_now ..)
  | peEnable _ => exact answers_runCmd peEnable_now
  | peDisable _ => exact answers_runCmd peDisable_now
  | peGetStatus _ => exact answers_runCmd peGetStatus_now
  | peModuleLoad _ _ => exact answers_runCmd (peModuleLoad_now _ _)
  | fnSet _ => exact answers_runCmd fnSet_now
  | peSetSlots _ => exact answers_runCmd peSetSlots_now
  | pePatch _ _ => exact answers_runCmd (pePatch_now _ _)
  | peThreadRestore _ => exact answers_runCmd peThreadRestore_now
  | peTraceRead _ => exact answers_runCmd peTraceRead_now
  | peTraceConfig _ => exact answers_runCmd peTraceConfig_now
  | fnSetTrigger _ => exact answers_runCmd fnSetTrigger_now
  | triggerInvocation _ => exact answers_onDev (triggerInvocation_now ..)
  | startRegisterWrite _ _ => exact answers_onDev (startRegister_now ..)
  | releaseMask _ _ => exact answers_onDev (releaseMask_now ..)
  | peFork _ _ _ => exact answers_onDev (fork_now ..)
  | peJoin _ _ _ => exact answers_onDev (join_now ..)
  | peEmit _ _ _ _ _ => exact answers_onDev (emitFrame_now ..)
  | mailboxPost _ _ _ => exact answers_onDev (mailboxPost_now ..)
  | threadVerdict _ _ _ => exact answers_onDev (threadVerdict_now ..)
  | threadFault _ _ _ _ _ _ => exact answers_onDev (threadFault_now ..)
  | watchdog _ _ _ _ => exact answers_onDev (watchdog_now ..)
  | supervisorHandle _ => exact answers_onDev (supervisor_now ..)
  | engineFailure _ _ => exact answers_onDev (engineFailure_now ..)
  | engineReenable _ => exact answers_onDev (engineReenable_now ..)
  | engineSelfTestDone _ _ => exact answers_onDev (engineSelfTest_now ..)
  | engineStopDone _ => exact answers_onDev (engineStopDone_now ..)
  | idleGate _ => exact answers_onDev (idleGate_now ..)
  | patchEngineDrained _ _ => exact answers_onDev (patchDrained_now ..)
  | voqAdmit _ => exact answers_onDev (voqArrive_now ..)
  | stripeCloseTimeout _ => exact answers_onDev (stripeClose_now ..)
  | voqDequeue _ => exact execVoqDequeue_answers ..
  | scarabPass _ => exact answers_onDev (scarab_now ..)
  | queueAgeingSweep => exact answers_onDev (queueAgeing_now ..)
  | bufSetPool _ => exact answers_runCmd bufSetPool_now
  | bufSetQuota _ => exact answers_runCmd bufSetQuota_now
  | bufSetClass _ => exact answers_runCmd bufSetClass_now
  | bufSetSojourn _ => exact answers_runCmd bufSetSojourn_now
  | bufGetStatus _ => exact answers_runCmd bufGetStatus_now
  | bufGetQuota _ => exact answers_runCmd bufGetQuota_now
  | bufGetDrops _ => exact answers_runCmd bufGetDrops_now
  | activationComplete _ => exact answers_onDev (activationComplete_now ..)
  | activeIdleTimeout _ => exact answers_onDev (activeIdle_now ..)
  | destFlushTimeout _ => exact answers_onDev (destFlush_now ..)
  | reservationRelease _ => exact answers_onDev (resvRelease_now ..)
  | creditReqRefresh _ => exact answers_onDev (creditRefresh_now ..)
  | grantIssue _ => exact answers_onDev (grantIssue_now ..)
  | creditReq _ => exact answers_onDev (creditReqAt_now ..)
  | creditGrant _ => exact answers_onDev (creditGrantAt_now ..)
  | creditReturn _ => exact answers_onDev (creditReturnAt_now ..)
  | queueStartDone _ => exact answers_onDev (queueStartDone_now ..)
  | queueStopDone _ => exact answers_onDev (queueStopDone_now ..)
  | qEnable _ => exact answers_runCmd qEnable_now
  | qDisable _ => exact answers_runCmd qDisable_now
  | qGetStatus _ => exact answers_runCmd qGetStatus_now
  | qSetActive _ => exact answers_runCmd qSetActive_now
  | qPin _ => exact answers_runCmd qPin_now
  | qSetEgressMap _ => exact answers_runCmd qSetEgressMap_now
  | qSetCredit _ => exact answers_runCmd qSetCredit_now
  | qGetCreditStatus _ => exact answers_runCmd qGetCreditStatus_now
  | egressSelection _ => exact answers_onDev (egressSelection_now ..)
  | watchedSample => exact answers_onDev (watchedSample_now ..)
  | hotQueueSweep => exact answers_onDev (hotSweep_now ..)
  | histogramAdd => exact answers_onDev (histogramAdd_now ..)
  | acctBoundary _ => exact answers_onDev (acctBoundary_now ..)
  | acctExport _ => exact answers_onDev (acctExport_now ..)
  | schSet _ => exact answers_runCmd schSet_now
  | schGet _ => exact answers_runCmd schGet_now
  | polSetProfile _ => exact answers_runCmd polSetProfile_now
  | polSet _ => exact answers_runCmd polSet_now
  | polGet _ => exact answers_runCmd polGet_now
  | obsSetQueue _ => exact answers_runCmd obsSetQueue_now
  | obsSetHistProfile _ _ => exact answers_runCmd (obsSetHistProfile_now _)
  | obsGetHist _ => exact answers_runCmd obsGetHist_now
  | acctSet _ => exact answers_runCmd acctSet_now
  | acctGet _ => exact answers_runCmd acctGet_now
  | hbmRequest _ => exact answers_onDev (hbmRequest_now ..)
  | channelCommandSlot _ _ => exact answers_onDev (commandSlot_now ..)
  | hbmRequestComplete _ _ _ => exact answers_onDev (requestComplete_now ..)
  | refreshDeadline _ => exact answers_onDev (refreshDeadline_now ..)
  | selfRefreshEntry _ => exact answers_onDev (selfRefreshEntry_now ..)
  | selfRefreshExit _ => exact answers_onDev (selfRefreshExit_now ..)
  | retrainPause _ => exact answers_onDev (retrainPause_now ..)
  | thawTrainingDone _ _ => exact answers_onDev (trainingDone_now ..)
  | rebuildDone _ _ _ => exact answers_next rfl (rebuildDone_now ..)
  | retireSalvageDone _ _ => exact answers_next rfl (salvageDone_now ..)
  | channelStopDone _ => exact answers_onDev (chStopDone_now ..)
  | pressureWindow _ _ _ => exact answers_onDev (pressureWindow_now ..)
  | shedRise => exact answers_onDev (shedRise_now ..)
  | shedFall => exact answers_onDev (shedFall_now ..)
  | memChEnable _ => exact answers_runCmd memChEnable_now
  | memChDisable _ => exact answers_runCmd memChDisable_now
  | memGetStatus _ => exact answers_runCmd memGetStatus_now
  | memSetPort _ => exact answers_runCmd memSetPort_now
  | memSetPower _ => exact answers_runCmd memSetPower_now
  | memSetTraining _ _ => exact answers_next rfl (runCmd_now _ _ _ (memSetTraining_now _) _)
  | memGetSnapshot _ => exact answers_runCmd memGetSnapshot_now
  | memThaw _ => exact answers_runCmd memThaw_now
  | memRetire _ => exact answers_runCmd memRetire_now
  | switchPhase => exact answers_onDev (switchPhase_now ..)
  | xpointHoldExpiry _ _ => exact answers_onDev (xpExpire_now ..)
  | outputHeldTimeout _ => exact answers_onDev (outputHeld_now ..)
  | egressStartTimeout _ _ => exact answers_onDev (egressStart_now ..)
  | cswSetCut _ => exact answers_runCmd cswSetCut_now
  | cswGetStatus _ => exact answers_runCmd cswGetStatus_now
  | fabricCellReceive _ _ => exact answers_onDev (cellReceive_now ..)
  | linkRetry _ _ => exact answers_onDev (linkRetry_now ..)
  | ackIdleTimeout _ => exact answers_onDev (ackIdle_now ..)
  | retryTimeout _ => exact answers_onDev (retryTimeout_now ..)
  | linkHcsTimeout _ => exact answers_onDev (linkSilent_now ..)
  | linkDownNotice _ => exact answers_onDev (linkDrop_now ..)
  | reseqHoldExpiry _ _ _ => exact answers_onDev (reseqSkip_now ..)
  | lostCreditRelease _ _ _ => exact answers_onDev (lostCredit_now ..)
  | discover _ _ => exact answers_onDev (discoverMsg_now ..)
  | qualificationEnd _ _ _ => exact answers_onDev (qualifyEnd_now ..)
  | qualificationRetry _ => exact answers_onDev (qualifyRetry_now ..)
  | reach _ _ => exact answers_onDev (reachMap_now ..)
  | reachDelta _ _ _ => exact answers_onDev (reachDelta_now ..)
  | linkDelayMeasure _ => exact answers_onDev (delayMeasure_now ..)
  | delayReq _ _ _ => exact answers_onDev (delayReqMsg_now ..)
  | delayResp _ _ _ _ _ => exact answers_onDev (delayRespMsg_now ..)
  | fabricLinkStopDone _ => exact answers_onDev (linkStopDone_now ..)
  | portState _ _ _ => exact answers_onDev (portStateMsg_now ..)
  | portVector _ _ => exact answers_onDev (portVectorMsg_now ..)
  | portVectorSend => exact answers_onDev (portVectorOut_now ..)
  | heartbeatSend => exact answers_onDev (heartbeatOut_now ..)
  | heartbeat _ _ _ _ => exact answers_logIn (heartbeatIn_now ..)
  | heartbeatLoss => exact answers_onDev (heartbeatLost_now ..)
  | meridianClaim _ _ => exact answers_logIn (meridianClaim_now ..)
  | epochPrepare _ => exact answers_logIn (epochPrepareMsg_now ..)
  | epochAck _ _ _ => exact answers_logIn (epochAckMsg_now ..)
  | epochDecision => exact answers_onDev (epochDecision_now ..)
  | epochActivate => exact answers_onDev (epochActivate_now ..)
  | epochRetentionEnd => exact answers_onDev (retentionEnd_now ..)
  | epochCancel _ _ => exact answers_logIn (epochCancelMsg_now ..)
  | epochStatus _ _ _ => exact answers_logIn (epochStatusMsg_now ..)
  | epochStatusSend => exact answers_onDev (epochStatusOut_now ..)
  | quarantine _ _ _ => exact answers_logIn (quarantineMsg_now ..)
  | observation _ => exact answers_logIn (observationMsg_now ..)
  | observationWindow _ _ _ => exact answers_onDev (obsWindow_now ..)
  | relayChunk _ _ _ _ _ _ => exact answers_next rfl (by simp)
  | relayAck _ _ _ _ => exact answers_logIn (relayAck_now ..)
  | relayResend _ => exact answers_onDev (relayResend_now ..)
  | relaySkipTimeout => exact answers_onDev (relaySkip_now ..)
  | fabLinkEnable _ => exact answers_runCmd fabLinkEnable_now
  | fabLinkDisable _ => exact answers_runCmd fabLinkDisable_now
  | fabGetLink _ => exact answers_runCmd fabGetLink_now
  | fabSetSystem _ => exact answers_runCmd fabSetSystem_now
  | fabStage _ _ => exact answers_runCmd (fabStage_now _)
  | fabEpochPrepare _ => exact answers_runCmd fabEpochPrepare_now
  | fabGetStatus _ => exact answers_runCmd fabGetStatus_now
  | fabSetReseq _ => exact answers_runCmd fabSetReseq_now
  | laserInputChange _ _ _ => exact answers_onDev (laserInput_now ..)
  | refLoss _ => exact answers_onDev (refLoss_now ..)
  | ptpSync _ _ => exact answers_onDev (ptpSync_now ..)
  | ptpFollowUp _ _ => exact answers_onDev (ptpFollowUp_now ..)
  | ptpDelayReq _ _ => exact answers_onDev (ptpDelayReq_now ..)
  | ptpDelayResp _ _ _ _ => exact answers_onDev (ptpDelayResp_now ..)
  | ptpPdelay _ _ _ => exact answers_onDev (ptpPdelay_now ..)
  | ptpAnnounce _ _ _ => exact answers_onDev (ptpAnnounce_now ..)
  | ptpMessageSend _ _ => exact answers_onDev (ptpSend_now ..)
  | sourceLostTimeout _ => exact answers_onDev (sourceTimeout_now ..)
  | servoLock => exact answers_onDev (servoLock_now ..)
  | holdoverLimit => exact answers_onDev (holdoverLimit_now ..)
  | timeStepApply => exact answers_onDev (timeStepApply_now ..)
  | leapSecond _ => exact answers_onDev (leapSecond_now ..)
  | ppsIn _ => exact answers_onDev (ppsIn_now ..)
  | todIn _ _ => exact answers_onDev (todIn_now ..)
  | freqInEdgeLoss => exact answers_onDev (sourceGone_now ..)
  | ppsOutSecond => exact answers_onDev (ppsOut_now ..)
  | esmcPduSend _ => exact answers_onDev (esmcSend_now ..)
  | esmcPdu _ _ => exact answers_onDev (esmcIn_now ..)
  | timeSyncSend => exact answers_onDev (timeSyncOut_now ..)
  | timeSync _ => exact answers_onDev (timeSyncIn_now ..)
  | timeDelayReqSend => exact answers_onDev (timeReqOut_now ..)
  | timeDelayReq _ _ _ => exact answers_onDev (timeReqIn_now ..)
  | timeDelayResp _ _ _ => exact answers_onDev (timeRespIn_now ..)
  | timeStepNotice _ => exact answers_onDev (stepNotice_now ..)
  | timeCandidate _ => exact execTimeCandidate_answers ..
  | timeRoot _ _ _ => exact answers_onDev (timeRootIn_now ..)
  | timeSetInstance _ => exact answers_runCmd timeSetInstance_now
  | timeSetPort _ => exact answers_runCmd timeSetPort_now
  | timeSetSource _ => exact answers_runCmd timeSetSource_now
  | timeSetIo _ => exact answers_runCmd timeSetIo_now
  | timeStep _ => exact answers_runCmd timeStep_now
  | timeGetStatus _ => exact answers_runCmd timeGetStatus_now
  | timeGetPort _ => exact answers_runCmd timeGetPort_now
  | eventRecordWrite => exact answers_onDev (eventRecordWrite_now ..)
  | coalesceClose => exact answers_onDev (coalesceClose_now ..)
  | eventRingDeliver => exact answers_onDev (eventRingDeliver_now ..)
  | eventWindowEnd _ _ => exact answers_onDev (eventWindowEnd_now ..)
  | evtSetFilter _ => exact answers_runCmd evtSetFilter_now
  | evtGetStats _ => exact answers_runCmd evtGetStats_now
  | evtTest _ _ => exact answers_runCmd (evtTest_now _)
  | dmaLoad _ _ => exact answers_runCmd (dmaLoad_now _)
  | dmaEnable _ => exact answers_runCmd dmaEnable_now
  | dmaHalt _ => exact answers_runCmd dmaHalt_now
  | dmaGetStatus _ => exact answers_runCmd dmaGetStatus_now
  | dmaSetExport _ => exact answers_runCmd dmaSetExport_now
  | dmaEnd _ => exact answers_onDev (dmaEnd_now ..)
  | dmaMove _ _ => exact answers_onDev (dmaMove_now ..)
  | dmaLoop _ => exact answers_onDev (dmaLoop_now ..)
  | dmaWait _ => exact answers_onDev (dmaWait_now ..)
  | dmaSignal _ => exact answers_onDev (dmaSignal_now ..)
  | dmaShuffle _ => exact answers_onDev (dmaShuffle_now ..)
  | dmaRunBudgetExpiry _ => exact answers_onDev (dmaBudget_now ..)
  | dmaChannelStartDone _ => exact answers_onDev (dmaStarted_now ..)
  | dmaChannelStopDone _ => exact answers_onDev (dmaStopped_now ..)
  | counterExport _ => exact answers_onDev (counterExport_now ..)
  | telemetryExport => exact answers_onDev (telemetryExport_now ..)
  | cvSegmentEnd _ _ => exact answers_onDev (cvSegmentEnd_now ..)
  | scrubBlock => exact answers_onDev (scrubBlock_now ..)
  | cvScan _ => exact answers_runCmd cvScan_now
  | cvGetStatus _ => exact answers_runCmd cvGetStatus_now
  | outputCopy _ _ _ => exact answers_onDev (outputCopy_now ..)
  | voteTimeout _ => exact answers_onDev (voteTimeout_now ..)
  | checkpoint _ _ _ => exact answers_onDev (checkpoint_now ..)
  | channelUe _ => exact answers_onDev (channelUe_now ..)
  | swapDue => exact answers_onDev (swapDue_now ..)
  | selftestEnd _ _ => exact answers_onDev (selftestEnd_now ..)
  | resyncDone _ _ => exact answers_onDev (resyncDone_now ..)
  | triadReturn _ _ _ => exact answers_next (State.triadReturn_pending ..) (State.triadReturn_now ..)
  | headlessTimeout => exact answers_onDev (headlessTimeout_now ..)
  | bridgeLaneFail _ _ _ => exact answers_onDev (bridgeLaneFail_now ..)
  | spareSwapDone _ => exact answers_onDev (spareSwapDone_now ..)
  | laneEyeCheck _ _ _ _ => exact answers_onDev (laneEyeCheck_now ..)
  | laneRetrain _ _ _ => exact answers_onDev (laneRetrain_now ..)
  | sramScrub _ => exact answers_onDev (sramScrub_now ..)
  | triadGetStatus _ => exact answers_runCmd triadGetStatus_now
  | triadSetSwap _ => exact answers_runCmd triadSetSwap_now
  | triadRestart _ => exact answers_runCmd triadRestart_now
  | triadTraceRead _ => exact answers_runCmd triadTraceRead_now
  | bridgeGetStatus _ => exact answers_runCmd bridgeGetStatus_now
  | diagInject _ => exact answers_runCmd diagInject_now
  | confirmTimeout => exact answers_onDev (confirmTimeout_now ..)
  | parserBankSwap => exact answers_onDev (parserSwap_now ..)
  | fwGetStatus _ => exact answers_runCmd (fwGetStatus_now _)
  | fwWrite _ _ _ _ => exact answers_runNv rfl rfl (fwWrite_now _ _ _)
  | fwActivate _ => exact answers_runNv rfl rfl fwActivate_now
  | fwConfirm _ => exact answers_runNv rfl rfl fwConfirm_now
  | fwRevert _ => exact answers_runCmd (fwRevert_now _)
  | fwRelay _ _ => exact answers_runNv rfl rfl (fwRelay_now _)
  | parserPatch _ _ => exact answers_runCmd (parserPatch_now _ _)
  | fwRecoveryWrite _ _ _ => exact answers_runNv rfl rfl (recoveryWrite_now _ _)
  | fwRecoveryStatus _ => exact answers_runCmd (recoveryStatus_now _)
  | fwRecoveryBoot _ => exact answers_next (State.recoveryBoot_pending ..) (State.recoveryBoot_now ..)
  | governorLoop _ _ _ => exact answers_onDev (governorLoop_now ..)
  | avsTelemetryRead _ _ _ _ => exact answers_onDev (avsTelemetry_now ..)
  | shortfallStart _ => exact answers_onDev (shortfallStart_now ..)
  | shortfallEnd _ => exact answers_onDev (shortfallEnd_now ..)
  | railSample _ _ => exact answers_onDev (railSample_now ..)
  | supplyGlitch _ _ => exact execSupplyGlitch_answers ..
  | temperatureSample _ _ => exact answers_next (State.tamper_pending ..) (by simp)
  | quietEntry => exact answers_onDev (quietEntry_now ..)
  | pwrGetStatus _ => exact answers_runCmd pwrGetStatus_now
  | govSet _ => exact answers_runCmd govSet_now
  | pwrSetThermal _ => exact answers_runCmd pwrSetThermal_now
  | tamperDetect _ => exact answers_next (State.tamper_pending ..) (State.tamper_now ..)
  | secGetIdentity _ => exact answers_runCmd secGetIdentity_now
  | secAttest _ => exact answers_runCmd (secAttest_now _)
  | secRevokeKey _ _ => exact answers_runNv rfl rfl (secRevokeKey_now _)
  | secRaiseMin _ => exact answers_runNv rfl rfl secRaiseMin_now
  | secSetTamper _ => exact answers_runNv rfl rfl secSetTamper_now
  | secGetTamper _ => exact answers_runCmd (secGetTamper_now _)
  | secTamperClear _ _ => exact answers_runNv (State.tamper_pending ..) (State.tamper_now ..) secTamperClear_now
  | macsecSetPort _ => exact answers_runCmd macsecSetPort_now
  | macsecKekAgree _ _ => exact answers_runCmd (macsecKekAgree_now _)
  | macsecSaInstall _ _ => exact answers_runCmd (macsecSaInstall_now _)
  | macsecSaDelete _ => exact answers_runCmd macsecSaDelete_now
  | macsecTxSelect _ => exact answers_runCmd macsecTxSelect_now
  | macsecGetStatus _ => exact answers_runCmd macsecGetStatus_now
  | jtagInstruction _ => exact answers_onDev (loadIr_now ..)
  | alignmentMarker _ _ _ _ => exact answers_onDev (alignmentMarker_now ..)
  | clause73LinkTraining _ _ _ => exact answers_onDev (linkTraining_now ..)
  | freqInValid => exact answers_onDev (freqValid_now ..)
  | unicastNegotiation _ _ _ _ _ => exact answers_onDev (unicast_now ..)
  | ptpManagement _ _ => exact answers_onDev (ptpManage_now ..)
  | msixVectorMaskWrite _ _ => exact answers_onDev (msixVectorMask_now ..)
  | shaperDebtEnd _ _ => exact answers_onDev (debtEnd_now ..)

end Sys2Proof.Machine

namespace Sys2Proof
open Sys2Proof.Machine

/-- Settles O47: `exec_answers`, row by row. -/
theorem everyCommandAnswers : Obligations.EveryCommandAnswers := exec_answers

end Sys2Proof
end

section
/-! PROOFS. O57: a row of a line port leaves everything beyond the line as it was. What it may write is blanked out by `Dev.beyondLine`; no
operation of the ports changes the rest, so each has one lemma `f_beyondLine`, in the order of the model's files. -/

namespace Sys2Proof.Machine
open Sys2Proof

namespace Dev

/-- The device with all blanked out that a row of a line port may change: the trace, the interface, the events, the ports, the lanes, the
sequence numbers of the bins, time, power, what groups note of their members, the FC messages that wait and the undo journal. -/
def beyondLine (d : Dev) : Dev :=
  { d with
    out := [], hif := {}, evt := {}, port := [], lane := [], pmSeq15 := 0, pmSeqDay := 0, time := {}, pwr := {}
    fwd := { d.fwd with ecmp := [] }, fab := { d.fab with fcq := [] }, tri := { d.tri with journal := [] } }

/-- A fold keeps a part of the device that each of its steps keeps. -/
theorem foldl_keeps_part {α β : Type} (r : Dev → β) (f : Dev → α → Dev) (h : ∀ d x, r (f d x) = r d) (l : List α) (d : Dev) :
    r (l.foldl f d) = r d := by
  induction l generalizing d with
  | nil => rfl
  | cons x l ih => rw [List.foldl_cons, ih, h]

@[simp] theorem foldl_beyondLine {α : Type} (f : Dev → α → Dev) (h : ∀ d x, (f d x).beyondLine = d.beyondLine) (l : List α) (d : Dev) :
    (l.foldl f d).beyondLine = d.beyondLine := foldl_keeps_part beyondLine f h l d

@[simp] theorem ite_beyondLine (p : Prop) [Decidable p] (a b : Dev) :
    (if p then a else b).beyondLine = if p then a.beyondLine else b.beyondLine := apply_ite _ _ _ _

/-- A handler that starts with tests keeps what its work keeps. -/
theorem check_beyondLine {d : Dev} {l : List (Bool × Status)} {go : Reply} (h : go.dev.beyondLine = d.beyondLine) :
    (d.check l go).dev.beyondLine = d.beyondLine := by
  unfold check; split
  · rfl
  · exact h

/-! ### The parts a line row may write -/

@[simp] theorem beyondLine_out (d : Dev) (o : List Emission) : { d with out := o }.beyondLine = d.beyondLine := rfl
@[simp] theorem beyondLine_hif (d : Dev) (h : Hif) : { d with hif := h }.beyondLine = d.beyondLine := rfl
@[simp] theorem beyondLine_time (d : Dev) (t : TimeSt) : { d with time := t }.beyondLine = d.beyondLine := rfl
@[simp] theorem beyondLine_ecmp (d : Dev) (t : Tab Ecmp) : { d with fwd := { d.fwd with ecmp := t } }.beyondLine = d.beyondLine := rfl
@[simp] theorem setPort_beyondLine (d p q) : (setPort d p q).beyondLine = d.beyondLine := rfl
@[simp] theorem modPort_beyondLine (d p f) : (modPort d p f).beyondLine = d.beyondLine := rfl
@[simp] theorem setLane_beyondLine (d l x) : (setLane d l x).beyondLine = d.beyondLine := rfl
@[simp] theorem modLane_beyondLine (d l f) : (modLane d l f).beyondLine = d.beyondLine := rfl

/-! ### Operations every part shares -/

@[simp] theorem emit_beyondLine (d e) : (emit d e).beyondLine = d.beyondLine := by
  obtain ⟨_, h⟩ := emit_frame d e
  rw [h]; rfl

@[simp] theorem raise_beyondLine (d type sev subject detail) : (raise d type sev subject detail).beyondLine = d.beyondLine := by
  obtain ⟨_, _, _, h⟩ := raise_frame d type sev subject detail
  rw [h]; rfl

@[simp] theorem setCause_beyondLine (d i) : (setCause d i).beyondLine = d.beyondLine := by
  obtain ⟨_, _, h⟩ := setCause_frame d i
  rw [h]; rfl

@[simp] theorem sendFc_beyondLine (d dev kind body link) : (sendFc d dev kind body link).beyondLine = d.beyondLine := by
  unfold sendFc; split <;> rfl

@[simp] theorem dropCmd_beyondLine (d k) : (dropCmd d k).beyondLine = d.beyondLine := rfl

@[simp] theorem completeNow_beyondLine (d c r) : (completeNow d c r).beyondLine = d.beyondLine := by
  fun_cases completeNow <;> grind [dropCmd_beyondLine, emit_beyondLine, setCause_beyondLine, beyondLine_hif]

@[simp] theorem complete_beyondLine (d c r) : (complete d c r).beyondLine = d.beyondLine := by simp [complete]
@[simp] theorem startCmd_beyondLine (d k) : (startCmd d k).beyondLine = d.beyondLine := rfl
@[simp] theorem settle_beyondLine (c : Cmd) (r : Reply) : (settle c r).beyondLine = r.dev.beyondLine := by cases r <;> simp [settle]

theorem runCmd_beyondLine (op : Nat) (src : Src) (h : Cmd → Dev → Reply) (k : ∀ c d, (h c d).dev.beyondLine = d.beyondLine) (d : Dev) :
    (runCmd op src h d).beyondLine = d.beyondLine := by
  unfold runCmd; split
  · rfl
  · split <;> simp [k]

@[simp] theorem finish_beyondLine (d op h r) : (finish d op h r).beyondLine = d.beyondLine := by unfold finish; split <;> simp

@[simp] theorem statusReply_beyondLine (c : Cmd) (d : Dev) (l : List Fld) : (statusReply c d l).dev.beyondLine = d.beyondLine := by
  simp only [statusReply]; split <;> rfl

@[simp] theorem announcePort_beyondLine (d p down) : (announcePort d p down).beyondLine = d.beyondLine := by
  simp [announcePort, sendFcAll]

@[simp] theorem synceSquelch_beyondLine (d) : (synceSquelch d).beyondLine = d.beyondLine := by simp [synceSquelch]
@[simp] theorem liveCheck_beyondLine (d) : (liveCheck d).beyondLine = d.beyondLine := by simp [liveCheck]

/-! ### Protection, the link and the detection cycle -/

@[simp] theorem modLanes_beyondLine (d p f) : (modLanes d p f).beyondLine = d.beyondLine := by
  unfold modLanes
  exact foldl_beyondLine _ (fun _ _ => modLane_beyondLine ..) _ _

@[simp] theorem raisePort_beyondLine (d p type sev detail) : (raisePort d p type sev detail).beyondLine = d.beyondLine := by simp [raisePort]
@[simp] theorem protect_beyondLine (d p cause) : (protect d p cause).beyondLine = d.beyondLine := by simp [protect]
@[simp] theorem unprotect_beyondLine (d p) : (unprotect d p).beyondLine = d.beyondLine := by simp [unprotect]
@[simp] theorem firstRelease_beyondLine (d p) : (firstRelease d p).beyondLine = d.beyondLine := by simp [firstRelease]
@[simp] theorem tryLinkUp_beyondLine (d p) : (tryLinkUp d p).beyondLine = d.beyondLine := by simp [tryLinkUp]
@[simp] theorem cancelMeasures_beyondLine (d p) : (cancelMeasures d p).beyondLine = d.beyondLine := by simp [cancelMeasures]
@[simp] theorem linkDown_beyondLine (d p cause) : (linkDown d p cause).beyondLine = d.beyondLine := by simp [linkDown]
@[simp] theorem startAbility_beyondLine (d p) : (startAbility d p).beyondLine = d.beyondLine := by simp [startAbility]
@[simp] theorem startAutoneg_beyondLine (d p) : (startAutoneg d p).beyondLine = d.beyondLine := by simp [startAutoneg]
@[simp] theorem startCycle_beyondLine (d p) : (startCycle d p).beyondLine = d.beyondLine := by simp [startCycle]
@[simp] theorem noCommonMode_beyondLine (d p ab) : (noCommonMode d p ab).beyondLine = d.beyondLine := by simp [noCommonMode]
@[simp] theorem restartWait_beyondLine (d p) : (restartWait d p).beyondLine = d.beyondLine := by simp [restartWait]
@[simp] theorem sendTrain_beyondLine (d p l preset) : (sendTrain d p l preset).beyondLine = d.beyondLine := by simp [sendTrain]

@[simp] theorem abilityCheck_beyondLine (d p) : (abilityCheck d p).beyondLine = d.beyondLine := by
  simp only [abilityCheck]; (repeat' split) <;> simp

@[simp] theorem abilityCount_beyondLine (d p l control id) : (abilityCount d p l control id).beyondLine = d.beyondLine := by
  simp [abilityCount]

@[simp] theorem abilityFrame_beyondLine (l control status d) : (abilityFrame l control status d).beyondLine = d.beyondLine := by
  unfold abilityFrame; split <;> simp

@[simp] theorem dataStart_beyondLine (d p) : (dataStart d p).beyondLine = d.beyondLine := by simp [dataStart]

@[simp] theorem trainKind_beyondLine (kind l control status adapt rdy d) :
    (trainKind kind l control status adapt rdy d).beyondLine = d.beyondLine := by
  unfold trainKind; split <;> simp

@[simp] theorem abilityTimeout_beyondLine (p d) : (abilityTimeout p d).beyondLine = d.beyondLine := by simp [abilityTimeout]
@[simp] theorem trainTimeout_beyondLine (p d) : (trainTimeout p d).beyondLine = d.beyondLine := by simp [trainTimeout]
@[simp] theorem trainingRestart_beyondLine (p d) : (trainingRestart p d).beyondLine = d.beyondLine := by simp [trainingRestart]
@[simp] theorem autonegPage_beyondLine (p abilities page d) : (autonegPage p abilities page d).beyondLine = d.beyondLine := by
  simp [autonegPage]
@[simp] theorem autonegTimeout_beyondLine (p d) : (autonegTimeout p d).beyondLine = d.beyondLine := by simp [autonegTimeout]

@[simp] theorem linkTraining_beyondLine (l req complete d) : (linkTraining l req complete d).beyondLine = d.beyondLine := by
  unfold linkTraining; split <;> simp

/-! ### What the lanes receive, and defects -/

@[simp] theorem partnerGone_beyondLine (p d) : (partnerGone p d).beyondLine = d.beyondLine := by simp [partnerGone]

@[simp] theorem laneSignal_beyondLine (l present d) : (laneSignal l present d).beyondLine = d.beyondLine := by
  unfold laneSignal; split <;> simp

@[simp] theorem codeword_beyondLine (l e f d) : (codeword l e f d).beyondLine = d.beyondLine := by unfold codeword; split <;> simp

@[simp] theorem alignmentMarker_beyondLine (l inPlace blockLock calOk d) :
    (alignmentMarker l inPlace blockLock calOk d).beyondLine = d.beyondLine := by
  unfold alignmentMarker; split <;> simp

@[simp] theorem faultSet_beyondLine (p remote column d) : (faultSet p remote column d).beyondLine = d.beyondLine := by simp [faultSet]
@[simp] theorem otucSend_beyondLine (p bip8 d) : (otucSend p bip8 d).beyondLine = d.beyondLine := by simp [otucSend]
@[simp] theorem otucFrame_beyondLine (p o d) : (otucFrame p o d).beyondLine = d.beyondLine := by simp [otucFrame]
@[simp] theorem declareReported_beyondLine (p d) : (declareReported p d).beyondLine = d.beyondLine := by simp [declareReported]
@[simp] theorem switchOn_beyondLine (p b d) : (switchOn p b d).beyondLine = d.beyondLine := by simp [switchOn]
@[simp] theorem switchOff_beyondLine (p was d) : (switchOff p was d).beyondLine = d.beyondLine := by simp [switchOff]
@[simp] theorem defectDeclare_beyondLine (p x d) : (defectDeclare p x d).beyondLine = d.beyondLine := by simp [defectDeclare]
@[simp] theorem defectClear_beyondLine (p x d) : (defectClear p x d).beyondLine = d.beyondLine := by simp [defectClear]
@[simp] theorem linkDownPersist_beyondLine (p d) : (linkDownPersist p d).beyondLine = d.beyondLine := by simp [linkDownPersist]

@[simp] theorem holdoffExpiry_beyondLine (p d) : (holdoffExpiry p d).beyondLine = d.beyondLine := by
  unfold holdoffExpiry; dsimp only; split <;> simp

@[simp] theorem wtrExpiry_beyondLine (p d) : (wtrExpiry p d).beyondLine = d.beyondLine := by simp [wtrExpiry]

/-! ### Commands of the ports -/

theorem portSetMode_beyondLine (c d) : (portSetMode c d).dev.beyondLine = d.beyondLine := check_beyondLine (by simp)
theorem portSetAbilities_beyondLine (c d) : (portSetAbilities c d).dev.beyondLine = d.beyondLine := check_beyondLine (by simp)
theorem portSetLimits_beyondLine (c d) : (portSetLimits c d).dev.beyondLine = d.beyondLine := check_beyondLine (by simp)
theorem portGetStatus_beyondLine (c d) : (portGetStatus c d).dev.beyondLine = d.beyondLine := check_beyondLine (by simp)
theorem laneMeasure_beyondLine (c d) : (laneMeasure c d).dev.beyondLine = d.beyondLine := check_beyondLine rfl
theorem portMeasureRtt_beyondLine (c d) : (portMeasureRtt c d).dev.beyondLine = d.beyondLine := check_beyondLine (by simp)

@[simp] theorem laneMeasureDone_beyondLine (p ms d) : (laneMeasureDone p ms d).beyondLine = d.beyondLine := by
  unfold laneMeasureDone; split <;> simp

@[simp] theorem rttMeasureDone_beyondLine (p rtts d) : (rttMeasureDone p rtts d).beyondLine = d.beyondLine := by
  unfold rttMeasureDone; split
  · rfl
  · split <;> simp

@[simp] theorem ttiApply_beyondLine (p tx ex mode act d) : (ttiApply p tx ex mode act d).beyondLine = d.beyondLine := by simp [ttiApply]
theorem frmSetTti_beyondLine (pl c d) : (frmSetTti pl c d).dev.beyondLine = d.beyondLine := check_beyondLine (by simp)
theorem frmSetActions_beyondLine (c d) : (frmSetActions c d).dev.beyondLine = d.beyondLine := check_beyondLine (by simp)
theorem frmGetDefects_beyondLine (c d) : (frmGetDefects c d).dev.beyondLine = d.beyondLine := check_beyondLine rfl

/-! ### Performance monitoring -/

@[simp] theorem tcaCheck_beyondLine (p day d) : (tcaCheck p day d).beyondLine = d.beyondLine := by simp only [tcaCheck]; split <;> simp
@[simp] theorem closeSecond_beyondLine (p d) : (closeSecond p d).beyondLine = d.beyondLine := by simp [closeSecond]
@[simp] theorem pmSecond_beyondLine (p d) : (pmSecond p d).beyondLine = d.beyondLine := by simp [pmSecond]
@[simp] theorem setPmSeq_beyondLine (d day n) : (setPmSeq d day n).beyondLine = d.beyondLine := by cases day <;> rfl

@[simp] theorem pmBinClose_beyondLine (day d) : (pmBinClose day d).beyondLine = d.beyondLine := by
  simp only [pmBinClose, ite_beyondLine]
  rw [foldl_beyondLine _ (fun _ _ => modPort_beyondLine ..), setPmSeq_beyondLine, ite_self]

@[simp] theorem pmBinFinal_beyondLine (p day d) : (pmBinFinal p day d).beyondLine = d.beyondLine := rfl
theorem pmGetBins_beyondLine (c d) : (pmGetBins c d).dev.beyondLine = d.beyondLine := check_beyondLine rfl
theorem pmSetTca_beyondLine (c d) : (pmSetTca c d).dev.beyondLine = d.beyondLine := check_beyondLine (by simp)

end Dev

namespace State

/-- `o` answers a next state that differs from `s` only in what a row of a line port may change. -/
def OnLine (s : State) (o : Out) : Prop := ∃ d, o = .next { s with dev := d } ∧ d.beyondLine = s.dev.beyondLine

theorem onLine_onDev {s : State} {f : Dev → Dev} (h : (f s.dev).beyondLine = s.dev.beyondLine) : s.OnLine (s.onDev f) := ⟨_, rfl, h⟩

theorem onLine_runCmd {s : State} {op : Nat} {src : Src} {f : Cmd → Dev → Reply} (h : ∀ c d, (f c d).dev.beyondLine = d.beyondLine) :
    s.OnLine (s.onDev (Dev.runCmd op src f)) := onLine_onDev (Dev.runCmd_beyondLine op src f h s.dev)

end State

open State Dev in
/-- Row by row: a command changes what its handler changes, every other row what its operation on the device does. -/
theorem exec_onLine (s : State) (i : Instr) (h : i.lineRow = true) : s.OnLine (exec i s) := by
  cases i with
  | portSetMode => exact onLine_runCmd portSetMode_beyondLine
  | portSetAbilities => exact onLine_runCmd portSetAbilities_beyondLine
  | portSetLimits => exact onLine_runCmd portSetLimits_beyondLine
  | portGetStatus => exact onLine_runCmd portGetStatus_beyondLine
  | laneMeasure => exact onLine_runCmd laneMeasure_beyondLine
  | portMeasureRtt => exact onLine_runCmd portMeasureRtt_beyondLine
  | frmSetTti => exact onLine_runCmd (frmSetTti_beyondLine _)
  | frmSetActions => exact onLine_runCmd frmSetActions_beyondLine
  | frmGetDefects => exact onLine_runCmd frmGetDefects_beyondLine
  | pmGetBins => exact onLine_runCmd pmGetBins_beyondLine
  | pmSetTca => exact onLine_runCmd pmSetTca_beyondLine
  | laneMeasureDone => exact onLine_onDev (laneMeasureDone_beyondLine ..)
  | rttMeasureDone => exact onLine_onDev (rttMeasureDone_beyondLine ..)
  | abilityFrame => exact onLine_onDev (abilityFrame_beyondLine ..)
  | trainFrame => exact onLine_onDev (trainKind_beyondLine ..)
  | readyFrame => exact onLine_onDev (trainKind_beyondLine ..)
  | abilityTimeout => exact onLine_onDev (abilityTimeout_beyondLine ..)
  | trainTimeout => exact onLine_onDev (trainTimeout_beyondLine ..)
  | trainingRestartDelay => exact onLine_onDev (trainingRestart_beyondLine ..)
  | autonegPage => exact onLine_onDev (autonegPage_beyondLine ..)
  | autonegTimeout => exact onLine_onDev (autonegTimeout_beyondLine ..)
  | partnerGoneTimeout => exact onLine_onDev (partnerGone_beyondLine ..)
  | clause73LinkTraining => exact onLine_onDev (linkTraining_beyondLine ..)
  | laneSignalChange => exact onLine_onDev (laneSignal_beyondLine ..)
  | codewordReceive => exact onLine_onDev (codeword_beyondLine ..)
  | otucFrame => exact onLine_onDev (otucFrame_beyondLine ..)
  | faultOrderedSet => exact onLine_onDev (faultSet_beyondLine ..)
  | alignmentMarker => exact onLine_onDev (alignmentMarker_beyondLine ..)
  | defectDeclare => exact onLine_onDev (defectDeclare_beyondLine ..)
  | defectClear => exact onLine_onDev (defectClear_beyondLine ..)
  | linkDownPersist => exact onLine_onDev (linkDownPersist_beyondLine ..)
  | holdoffExpiry => exact onLine_onDev (holdoffExpiry_beyondLine ..)
  | wtrExpiry => exact onLine_onDev (wtrExpiry_beyondLine ..)
  | pmSecond => exact onLine_onDev (pmSecond_beyondLine ..)
  | pmBinClose => exact onLine_onDev (pmBinClose_beyondLine ..)
  | pmBinFinal => exact onLine_onDev (pmBinFinal_beyondLine ..)
  | _ => cases h

/-- What equal parts beyond the line come to, part by part. -/
theorem Dev.parts_of_beyondLine {d e : Dev} (h : e.beyondLine = d.beyondLine) :
    e.now = d.now ∧ e.fresh = d.fresh ∧ e.tx = d.tx ∧ e.buf = d.buf ∧ e.fwd = { d.fwd with ecmp := e.fwd.ecmp } ∧ e.pipe = d.pipe ∧
    e.fids = d.fids ∧ e.portDrops = d.portDrops ∧ e.laneDrops = d.laneDrops ∧ e.cnt = d.cnt ∧ e.aclCnt = d.aclCnt ∧ e.nhCnt = d.nhCnt ∧
    e.pe = d.pe ∧ e.qs = d.qs ∧ e.sch = d.sch ∧ e.hbm = d.hbm ∧ e.csw = d.csw ∧ e.fab = { d.fab with fcq := e.fab.fcq } ∧ e.dma = d.dma ∧
    e.tri = { d.tri with journal := e.tri.journal } ∧ e.bridge = d.bridge ∧ e.fw = d.fw ∧ e.sec = d.sec ∧ e.jtag = d.jtag := by
  have part {β : Type} (r : Dev → β) : r e.beyondLine = r d.beyondLine := congrArg r h
  have fwd : { e.fwd with ecmp := [] } = { d.fwd with ecmp := [] } := part Dev.fwd
  have fab : { e.fab with fcq := [] } = { d.fab with fcq := [] } := part Dev.fab
  have tri : { e.tri with journal := [] } = { d.tri with journal := [] } := part Dev.tri
  exact ⟨part Dev.now, part Dev.fresh, part Dev.tx, part Dev.buf, congrArg (fun x : Fwd => { x with ecmp := e.fwd.ecmp }) fwd,
    part Dev.pipe, part Dev.fids, part Dev.portDrops, part Dev.laneDrops, part Dev.cnt, part Dev.aclCnt, part Dev.nhCnt, part Dev.pe,
    part Dev.qs, part Dev.sch, part Dev.hbm, part Dev.csw, congrArg (fun x : Fab => { x with fcq := e.fab.fcq }) fab, part Dev.dma,
    congrArg (fun x : Triad => { x with journal := e.tri.journal }) tri, part Dev.bridge, part Dev.fw, part Dev.sec, part Dev.jtag⟩

end Sys2Proof.Machine

namespace Sys2Proof
open Sys2Proof.Machine

/-- Settles O57: `exec_onLine`, read part by part. -/
theorem lineRowsFrame : Obligations.LineRowsFrame := by
  intro s t i hi ht
  obtain ⟨d, he, hd⟩ := exec_onLine s i hi
  cases he.symm.trans ht
  exact ⟨rfl, rfl, Dev.parts_of_beyondLine hd⟩

end Sys2Proof
end

section
/-! PROOFS. Ports and lanes: what a port and a lane read as after another operation, and what each shared operation of the ports can do to them
at most. -/

namespace Sys2Proof.Machine
open Sys2Proof

namespace Dev

/-! ### Reading after writing -/

@[simp] theorem getPort_setPort_same (d p q) : (setPort d p q).getPort p = q := by simp [getPort]
@[simp] theorem getPort_modPort_same (d p f) : (modPort d p f).getPort p = f (d.getPort p) := by simp [modPort]
@[simp] theorem getPort_modLane (d l f p) : (modLane d l f).getPort p = d.getPort p := rfl
@[simp] theorem getPort_emit (d e p) : (emit d e).getPort p = d.getPort p := by simp [getPort]

@[simp] theorem getLane_setPort (d p q l) : (setPort d p q).getLane l = d.getLane l := rfl
@[simp] theorem getLane_modPort (d p f l) : (modPort d p f).getLane l = d.getLane l := rfl
@[simp] theorem getLane_emit (d e l) : (emit d e).getLane l = d.getLane l := by simp [getLane]
@[simp] theorem getLane_setLane_same (d l x) : (setLane d l x).getLane l = x := by simp [getLane]
@[simp] theorem getLane_modLane_same (d l f) : (modLane d l f).getLane l = f (d.getLane l) := by simp [modLane]

theorem getLane_modLane_other (d : Dev) (f : Lane → Lane) {k l : Nat} (h : k ≠ l) : (d.modLane l f).getLane k = d.getLane k :=
  tgetD_tset_other _ _ _ h

@[simp] theorem getPort_modLanes (d p f r) : (modLanes d p f).getPort r = d.getPort r :=
  foldl_keeps_part (·.getPort r) _ (fun x l => getPort_modLane x l f r) _ _

/-- `f` done to the lanes of a list without repetition. -/
theorem getLane_foldl_modLane (f : Lane → Lane) (l : Nat) (ls : List Nat) (h : ls.Nodup) (d : Dev) :
    (ls.foldl (fun x k => x.modLane k f) d).getLane l = if l ∈ ls then f (d.getLane l) else d.getLane l := by
  induction ls generalizing d with
  | nil => simp
  | cons k ks ih =>
    obtain ⟨hk, hks⟩ := List.nodup_cons.1 h
    rw [List.foldl_cons, ih hks]
    by_cases e : l = k
    · subst e; simp [hk]
    · simp [getLane_modLane_other, e]

theorem lanesOf_nodup (d : Dev) (p : Nat) : (d.lanesOf p).Nodup := List.nodup_range.map fun _ _ => Nat.add_left_cancel

theorem getLane_modLanes (d : Dev) (p : Nat) (f : Lane → Lane) (l : Nat) :
    (d.modLanes p f).getLane l = if l ∈ d.lanesOf p then f (d.getLane l) else d.getLane l :=
  getLane_foldl_modLane f l _ (lanesOf_nodup d p) d

/-- The lanes of a port are those of its width. -/
theorem lanesOf_of_width {d e : Dev} {p : Nat} (h : (e.getPort p).width = (d.getPort p).width) : e.lanesOf p = d.lanesOf p := by
  rw [lanesOf, h, lanesOf]

/-- The port of a lane has lanes. -/
theorem width_of_portOf {d : Dev} {l p : Nat} (h : d.portOf l = some p) : (d.getPort p).width ≠ 0 := by
  obtain ⟨w, hw, hp⟩ := List.exists_of_findSome?_eq_some h
  have w0 : w ≠ 0 := by rintro rfl; simp at hw
  split at hp
  · rename_i e; cases hp; rwa [e]
  · cases hp

theorem mem_lanesOf_self {d : Dev} {p : Nat} (h : (d.getPort p).width ≠ 0) : p ∈ d.lanesOf p := by
  simp only [lanesOf, List.mem_map, List.mem_range]
  exact ⟨0, Nat.pos_of_ne_zero h, rfl⟩

/-! ### What leaves every port or every lane as it was -/

@[simp] theorem getPort_raisePort (d p type sev detail r) : (raisePort d p type sev detail).getPort r = d.getPort r := by
  simp [getPort, raisePort]
@[simp] theorem getLane_raisePort (d p type sev detail l) : (raisePort d p type sev detail).getLane l = d.getLane l := by
  simp [getLane, raisePort]
@[simp] theorem getPort_announcePort (d p down r) : (announcePort d p down).getPort r = d.getPort r := by simp [getPort, announcePort]
@[simp] theorem getLane_announcePort (d p down l) : (announcePort d p down).getLane l = d.getLane l := by simp [getLane, announcePort]

@[simp] theorem getPort_liveCheck (d r) : (liveCheck d).getPort r = d.getPort r :=
  foldl_keeps_part (·.getPort r) _ (fun x p => by simp [getPort]) _ _

@[simp] theorem getLane_liveCheck (d l) : (liveCheck d).getLane l = d.getLane l :=
  foldl_keeps_part (·.getLane l) _ (fun x p => by simp [getLane]) _ _

@[simp] theorem getLane_synceSquelch (d l) : (synceSquelch d).getLane l = d.getLane l :=
  foldl_keeps_part (·.getLane l) _ (fun x k => by dsimp only; split <;> simp [getLane]) _ _

@[simp] theorem completeNow_port (d c r) : (completeNow d c r).port = d.port := by
  fun_cases completeNow <;> grind [dropCmd_port, emit_port, setCause_port]

@[simp] theorem complete_port (d c r) : (complete d c r).port = d.port := by unfold complete; (repeat' split) <;> simp

@[simp] theorem getPort_cancelMeasures (d p r) : (cancelMeasures d p).getPort r = d.getPort r := by
  unfold getPort cancelMeasures finish; (repeat' split) <;> simp

@[simp] theorem getPort_sendTrain (d p l preset r) : (sendTrain d p l preset).getPort r = d.getPort r := getPort_emit ..
@[simp] theorem getLane_sendTrain (d p l preset k) : (sendTrain d p l preset).getLane k = d.getLane k := getLane_emit ..

@[simp] theorem modPort_out (d p f) : (modPort d p f).out = d.out := rfl
@[simp] theorem modPort_pwr (d p f) : (modPort d p f).pwr = d.pwr := rfl

/-- What a transmitter that is driven puts on its pins. -/
theorem emit_out {d : Dev} {e : Emission} (ht : d.pwr.trip = false) (ho : d.txOff e = false) : (d.emit e).out = e :: d.out := by
  simp [emit, ht, ho]

/-- The transmitter of a RUNNING port is powered. -/
theorem txOff_of_running {d : Dev} {e : Emission} {p : Nat} (he : onPort e = some p) (hs : (d.getPort p).obj.st = .running) :
    d.txOff e = false := by
  simp only [txOff, he]
  rw [show (tgetD d.port {} p).obj.st = .running from hs]
  rfl

/-- Below step 4 a lane answers with a TRAIN frame. -/
theorem sendTrain_out {d : Dev} {l : Nat} (p : Nat) (preset : Bool) (ht : d.pwr.trip = false) (hx : (d.getLane l).step < 4) :
    ∃ c w, (d.sendTrain p l preset).out = .laneFrame l 1 c w :: d.out := by
  simp only [sendTrain, if_neg (Nat.not_le.2 hx)]
  exact ⟨_, _, emit_out ht rfl⟩

/-! ### The link and the protection switch -/

/-- The link going down changes of its port the link alone. -/
@[simp] theorem getPort_linkDown (d p cause) : (linkDown d p cause).getPort p = { d.getPort p with link := .down } := by
  unfold linkDown; split <;> simp

/-- Going protection-down sets the state and since when. -/
theorem getPort_protect (d : Dev) (p cause : Nat) :
    ∃ t, (d.protect p cause).getPort p = { d.getPort p with protDown := true, protSince := t } := by
  simp only [protect]; split
  · rename_i h; exact ⟨(d.getPort p).protSince, by rw [← h]⟩
  · exact ⟨d.now, by simp⟩

theorem protect_protDown (d : Dev) (p cause : Nat) : ((d.protect p cause).getPort p).protDown = true := by
  obtain ⟨t, h⟩ := getPort_protect d p cause
  rw [h]

/-- What the release of the protection switch, with the link's coming up, may change of a port. -/
def Released (a b : Port) : Prop :=
  ∃ k n t w u, b = { a with link := k, protDown := n, protSince := t, wtrDue := w, firstUp := u }

theorem Released.refl (a : Port) : Released a a := ⟨a.link, a.protDown, a.protSince, a.wtrDue, a.firstUp, rfl⟩

theorem unprotect_released (d : Dev) (p : Nat) : Released (d.getPort p) ((d.unprotect p).getPort p) := by
  simp only [unprotect]; split
  · exact ⟨(d.getPort p).link, false, d.now, none, false, by simp⟩
  · exact .refl _

theorem firstRelease_released (d : Dev) (p : Nat) : Released (d.getPort p) ((d.firstRelease p).getPort p) := by
  simp only [firstRelease]; split
  · exact unprotect_released d p
  · exact .refl _

theorem tryLinkUp_released (d : Dev) (p : Nat) : Released (d.getPort p) ((d.tryLinkUp p).getPort p) := by
  simp only [tryLinkUp]; split
  · obtain ⟨k, n, t, w, u, h⟩ := firstRelease_released ((d.setPort p { d.getPort p with link := .up }).raisePort p 0x0100 sevInfo
      [fByte (portMode (d.getPort p)), fByte ((d.getPort p).partnerAb.getD 0)]) p
    exact ⟨k, n, t, w, u, by rw [h]; simp⟩
  · exact .refl _

@[simp] theorem getLane_unprotect (d p l) : (unprotect d p).getLane l = d.getLane l := by simp only [unprotect]; split <;> simp
@[simp] theorem getLane_firstRelease (d p l) : (firstRelease d p).getLane l = d.getLane l := by simp only [firstRelease]; split <;> simp
@[simp] theorem getLane_tryLinkUp (d p l) : (tryLinkUp d p).getLane l = d.getLane l := by simp only [tryLinkUp]; split <;> simp

/-! ### The detection cycle -/

@[simp] theorem outOfFrame_width (t q) : (outOfFrame t q).width = q.width := by unfold outOfFrame; split <;> rfl
@[simp] theorem outOfFrame_link (t q) : (outOfFrame t q).link = q.link := by unfold outOfFrame; split <;> rfl
@[simp] theorem outOfFrame_cycle (t q) : (outOfFrame t q).cycle = q.cycle := by unfold outOfFrame; split <;> rfl
@[simp] theorem outOfFrame_partnerId (t q) : (outOfFrame t q).partnerId = q.partnerId := by unfold outOfFrame; split <;> rfl

/-- Step 1 of training leaves the link and the partner's identity, and keeps the lanes of the port. -/
theorem startAbility_port (d : Dev) (p : Nat) :
    ((d.startAbility p).getPort p).cycle = .ability ∧ ((d.startAbility p).getPort p).link = (d.getPort p).link ∧
    ((d.startAbility p).getPort p).partnerId = (d.getPort p).partnerId ∧ ((d.startAbility p).getPort p).width = (d.getPort p).width := by
  have h : (d.startAbility p).getPort p = outOfFrame d.now { d.getPort p with
      cycle := .ability, trained := false, anyAbility := false, loopRaised := false, stepDue := some (d.now + msT 20) } := by
    simp only [startAbility]
    rw [foldl_keeps_part (·.getPort p) _ fun x l => getPort_emit ..]
    simp
  simp [h]

/-- Step 1 of training begins every lane of the port anew. -/
theorem startAbility_lane (d : Dev) (p l : Nat) :
    (d.startAbility p).getLane l = if l ∈ d.lanesOf p then laneFresh 1 d.now (d.getLane l) else d.getLane l := by
  simp only [startAbility]
  rw [foldl_keeps_part (·.getLane l) _ fun x k => getLane_emit .., getLane_modLanes]
  rw [lanesOf_of_width (d := d) (by simp), getLane_setPort]

theorem startAutoneg_lane (d : Dev) (p l : Nat) :
    (d.startAutoneg p).getLane l = if l ∈ d.lanesOf p then laneFresh 0 d.now (d.getLane l) else d.getLane l := by
  simp only [startAutoneg]
  rw [getLane_emit, getLane_modLanes, lanesOf_of_width (d := d) (by simp), getLane_setPort]

/-- A detection cycle that begins leaves what the lanes see. -/
theorem startCycle_signal (d : Dev) (p l : Nat) :
    ((d.startCycle p).getLane l).signal = (d.getLane l).signal ∧ ((d.startCycle p).getLane l).sigSince = (d.getLane l).sigSince := by
  have fresh (s t : Nat) (ls : List Nat) (x : Lane) : (if l ∈ ls then laneFresh s t x else x).signal = x.signal ∧
      (if l ∈ ls then laneFresh s t x else x).sigSince = x.sigSince := by split <;> exact ⟨rfl, rfl⟩
  simp only [startCycle]; (repeat' split)
  · exact ⟨rfl, rfl⟩
  · rw [startAbility_lane]; exact fresh ..
  · simp
  · rw [startAbility_lane]; exact fresh ..
  · rw [startAutoneg_lane]; exact fresh ..

/-- While a lane of the port has fewer than three ABILITY frames, step 1 goes on. -/
theorem abilityCheck_waits {d : Dev} {p l : Nat} (hl : l ∈ d.lanesOf p) (h : (d.getLane l).abCount < 3) : d.abilityCheck p = d := by
  have : (d.lanesOf p).all (fun k => decide (3 ≤ (d.getLane k).abCount)) = false :=
    List.all_eq_false.2 ⟨l, hl, by simpa using h⟩
  simp [abilityCheck, this]

/-- Data starts once every lane of the port has ended its training (R52). -/
theorem dataStart_trained {d : Dev} {p : Nat} (h : ∀ k ∈ d.lanesOf p, (d.getLane k).step = 5) : ((d.dataStart p).getPort p).trained = true := by
  have ended : (d.lanesOf p).all (fun k => (d.getLane k).step == 5) = true := by simpa using h
  simp only [dataStart, ended, if_true]
  obtain ⟨_, _, _, _, _, h⟩ := tryLinkUp_released ((d.modPort p fun q => { q with cycle := .none, trained := true, stepDue := none }).modLanes p
    fun x => { x with step := 0 }) p
  rw [h]; simp

end Dev
end Sys2Proof.Machine
end

section
/-! PROOFS. O10: training and negotiation rows. Each row's operation on the device has one lemma per case of the statement. -/

namespace Sys2Proof.Machine
open Sys2Proof

namespace Dev

/-! ### ABILITY frames (R49-R53) -/

/-- The words of an ABILITY frame are whole and of type 0 (Table 2.5). -/
def abilityOk (ctl st : BitVec 32) : Prop := parityOk ctl = true ∧ parityOk st = true ∧ ctl.toNat / 2 ^ 30 = 0

theorem abilityOk_iff (ctl st : BitVec 32) :
    abilityOk ctl st ↔ (!parityOk ctl || !parityOk st || ctl.toNat / 2 ^ 30 != 0) = false := by simp [abilityOk, and_assoc]

/-- The first ABILITY frame after step 1 began ends nothing: another of the port's frames is still missing. -/
theorem abilityCount_first {d : Dev} {p : Nat} (hw : (d.getPort p).width ≠ 0) (l ctl id : Nat) :
    ((d.startAbility p).abilityCount p l ctl id).getPort p = { (d.startAbility p).getPort p with anyAbility := true } := by
  have hd : p ∈ d.lanesOf p := mem_lanesOf_self hw
  have fresh : ((d.startAbility p).getLane p).abCount = 0 := by rw [startAbility_lane, if_pos hd]; rfl
  unfold abilityCount
  rw [abilityCheck_waits (l := p)]
  · simp
  · exact mem_lanesOf_self (by simpa [(startAbility_port d p).2.2.2] using hw)
  · rw [getLane_modPort]
    by_cases h : p = l
    · subst h; simp [fresh]
    · simp [getLane_modLane_other _ _ h, fresh]

section
variable {d : Dev} {l p : Nat} {ctl st : BitVec 32}

theorem abilityFrame_no_port (hp : d.portOf l = none) : abilityFrame l ctl st d = d := by simp [abilityFrame, hp]

theorem abilityFrame_not_running (hp : d.portOf l = some p) (hs : (d.getPort p).obj.st ≠ .running) : abilityFrame l ctl st d = d := by
  simp [abilityFrame, hp, hs]

variable (hp : d.portOf l = some p) (hs : (d.getPort p).obj.st = .running)
include hp hs

theorem abilityFrame_bad (ok : ¬ abilityOk ctl st) : abilityFrame l ctl st d =
    if (d.getPort p).cycle = .ability then d.modLane l fun x => { x with abCount := 0 } else d := by
  rw [abilityOk_iff, Bool.not_eq_false] at ok
  simp only [abilityFrame, hp, ok]
  simp [hs]

variable (ok : abilityOk ctl st)
include ok

theorem abilityFrame_counts (hc : (d.getPort p).cycle = .ability) :
    abilityFrame l ctl st d = d.abilityCount p l ctl.toNat (st.toNat / 2) := by
  simp only [abilityFrame, hp, (abilityOk_iff ..).1 ok]
  simp [hs, hc]

variable (hc : (d.getPort p).cycle = .train ∨ (d.getPort p).cycle = .ready)
include hc

theorem abilityFrame_same_partner (hi : (d.getPort p).partnerId = some (st.toNat / 2)) :
    abilityFrame l ctl st d = ((d.linkDown p 4).startAbility p).abilityCount p l ctl.toNat (st.toNat / 2) := by
  simp only [abilityFrame, hp, (abilityOk_iff ..).1 ok]
  rcases hc with hc | hc <;> simp [hs, hc, hi]

/-- A new partner takes the link down, and step 1 begins with its first frame counted. -/
theorem abilityFrame_new_partner (hi : (d.getPort p).partnerId ≠ some (st.toNat / 2)) :
    ((abilityFrame l ctl st d).getPort p).partnerId = some (st.toNat / 2) ∧ ((abilityFrame l ctl st d).getPort p).link = .down ∧
    ((abilityFrame l ctl st d).getPort p).cycle = .ability := by
  let e := ((d.raisePort p 0x0102 sevMinor [fByte ((d.getPort p).partnerAb.getD 0), fByte (l400Abilities ctl.toNat)]).modPort p fun r =>
    { r with partnerId := some (st.toNat / 2), partnerAb := some (l400Abilities ctl.toNat) }).linkDown p 1
  have frame : abilityFrame l ctl st d = (e.startAbility p).abilityCount p l ctl.toNat (st.toNat / 2) := by
    simp only [abilityFrame, hp, (abilityOk_iff ..).1 ok]
    rcases hc with hc | hc <;> simp [hs, hc, Ne.symm hi, e]
  have hw : (e.getPort p).width ≠ 0 := by simpa [e] using width_of_portOf hp
  obtain ⟨cycle, link, partner, -⟩ := startAbility_port e p
  rw [frame, abilityCount_first hw]
  simp only [cycle, link, partner]
  simp [e]

end

/-! ### TRAIN and READY frames (R51, R52) -/

/-- A lane after obeying the words of a frame that came whole. -/
def laneObey (ctl st : BitVec 32) (adapt : Nat) (x : Lane) : Lane :=
  let y := if parityOk ctl then tapServe ctl.toNat x else x
  if parityOk st then tapSeek st.toNat adapt y else y

section
variable {ctl st : BitVec 32} {adapt : Nat} {rdy : Bool} {x : Lane}

@[simp] theorem laneObey_step : (laneObey ctl st adapt x).step = x.step := by
  simp [laneObey, tapSeek, tapServe, apply_ite Lane.step]

@[simp] theorem laneObey_rxReady : (laneObey ctl st adapt x).rxReady = x.rxReady := by
  simp [laneObey, tapSeek, tapServe, apply_ite Lane.rxReady]

theorem laneTrain_eq : laneTrain ctl st adapt rdy x =
    if 4 ≤ x.step then { laneObey ctl st adapt x with countdown := x.countdown - 1 }
    else if rdy || x.rxReady then { laneObey ctl st adapt x with rxReady := true, step := 4, countdown := 7 }
    else laneObey ctl st adapt x := rfl

/-- A lane whose receiver becomes ready goes to step 4 with the countdown at 7. -/
theorem laneTrain_ready (h : x.step < 4) : (laneTrain ctl st adapt true x).rxReady = true ∧ (laneTrain ctl st adapt true x).step = 4 ∧
    (laneTrain ctl st adapt true x).countdown = 7 := by simp [laneTrain_eq, Nat.not_le.2 h]

/-- A lane whose receiver is not ready stays at its step. -/
theorem laneTrain_waits (h : x.step < 4) (hr : x.rxReady = false) : (laneTrain ctl st adapt false x).step = x.step := by
  simp [laneTrain_eq, Nat.not_le.2 h, hr]

/-- At step 4 each frame takes one off the countdown. -/
theorem laneTrain_counts (h : x.step = 4) : (laneTrain ctl st adapt rdy x).step = 4 ∧
    (laneTrain ctl st adapt rdy x).countdown = x.countdown - 1 ∧ (laneTrain ctl st adapt rdy x).rxReady = x.rxReady := by
  simp [laneTrain_eq, h]

/-- A status word that came whole tells whether the partner's receiver is ready. -/
theorem laneTrain_peer (h : parityOk st = true) : (laneTrain ctl st adapt rdy x).peerReady = bit st.toNat 31 := by
  have obeyed : (laneObey ctl st adapt x).peerReady = bit st.toNat 31 := by simp [laneObey, h, tapSeek]
  rw [laneTrain_eq]; split
  · exact obeyed
  · split <;> exact obeyed

end

/-- A port in step 3 or 4 obeys a frame of this kind, or one whose control word did not come whole. -/
def trainHeard (kind : Nat) (ctl : BitVec 32) (q : Port) : Prop :=
  q.obj.st = .running ∧ (q.cycle = .train ∨ q.cycle = .ready) ∧ (parityOk ctl = true → ctl.toNat / 2 ^ 30 = kind)

theorem trainHeard_iff (kind : Nat) (ctl : BitVec 32) (q : Port) : trainHeard kind ctl q ↔
    (q.obj.st != .running || !(q.cycle = .train || q.cycle = .ready) || (parityOk ctl && ctl.toNat / 2 ^ 30 != kind)) = false := by
  simp [trainHeard, and_assoc, or_iff_not_imp_left]

/-- A frame of step 3 or 4 taken in by its lane and answered by one of ours. -/
def trainAnswer (l p : Nat) (ctl st : BitVec 32) (adapt : BitVec 9) (rdy : Bool) (d : Dev) : Dev :=
  let e := d.modLane l (laneTrain ctl st adapt.toNat rdy)
  (e.modPort p fun r => { r with cycle := if (d.lanesOf p).all fun k => decide (4 ≤ (e.getLane k).step) then .ready else .train }).sendTrain p l
    (adapt.getLsbD 8)

/-- Our frame with countdown 0 has gone out with both receivers ready. -/
def laneEnds (x : Lane) : Bool := x.step = 4 && x.countdown = 0 && x.rxReady && x.peerReady

theorem laneEnds_of_countdown {x : Lane} (h : x.countdown ≠ 0) : laneEnds x = false := by simp [laneEnds, h]

section
variable {d : Dev} {l p kind : Nat} {ctl st : BitVec 32} {ad : BitVec 9} {rdy : Bool}

theorem trainKind_no_port (hp : d.portOf l = none) : trainKind kind l ctl st ad rdy d = d := by simp [trainKind, hp]

theorem trainKind_unheard (hp : d.portOf l = some p) (h : ¬ trainHeard kind ctl (d.getPort p)) : trainKind kind l ctl st ad rdy d = d := by
  simp only [trainKind, hp]
  exact if_pos (by rwa [trainHeard_iff, Bool.not_eq_false] at h)

theorem trainKind_heard (hp : d.portOf l = some p) (h : trainHeard kind ctl (d.getPort p)) : trainKind kind l ctl st ad rdy d =
    if laneEnds ((trainAnswer l p ctl st ad rdy d).getLane l) then
      ((trainAnswer l p ctl st ad rdy d).modLane l fun y => { y with step := 5 }).dataStart p
    else trainAnswer l p ctl st ad rdy d := by
  simp only [trainKind, hp, (trainHeard_iff ..).1 h]
  rfl

@[simp] theorem trainAnswer_lane_same :
    (trainAnswer l p ctl st ad rdy d).getLane l = laneTrain ctl st ad.toNat rdy (d.getLane l) := by simp [trainAnswer]

theorem trainAnswer_lane_other {k : Nat} (h : k ≠ l) : (trainAnswer l p ctl st ad rdy d).getLane k = d.getLane k := by
  simp [trainAnswer, getLane_modLane_other _ _ h]

/-- The port is in step 4 once all its lanes are. -/
theorem trainAnswer_cycle : ((trainAnswer l p ctl st ad rdy d).getPort p).cycle =
    if ∀ k ∈ d.lanesOf p, 4 ≤ ((trainAnswer l p ctl st ad rdy d).getLane k).step then .ready else .train := by
  simp [trainAnswer]

theorem trainAnswer_lanesOf : (trainAnswer l p ctl st ad rdy d).lanesOf p = d.lanesOf p := lanesOf_of_width (by simp [trainAnswer])

/-- Below step 4 the answer is a TRAIN frame on the same lane. -/
theorem trainAnswer_out (ht : d.pwr.trip = false) (hx : (laneTrain ctl st ad.toNat rdy (d.getLane l)).step < 4) :
    ∃ c w, (trainAnswer l p ctl st ad rdy d).out = .laneFrame l 1 c w :: d.out := by
  simp only [trainAnswer]
  exact sendTrain_out p _ ht (by simpa using hx)

variable (hp : d.portOf l = some p) (h : trainHeard kind ctl (d.getPort p))
include hp h

/-- A lane that has not ended its training answers, and that is all. -/
theorem trainKind_goes_on (hx : laneEnds (laneTrain ctl st ad.toNat rdy (d.getLane l)) = false) :
    trainKind kind l ctl st ad rdy d = trainAnswer l p ctl st ad rdy d := by simp [trainKind_heard hp h, hx]

/-- A frame on a lane whose receiver is not ready is answered by a TRAIN frame. -/
theorem trainKind_waits (ht : d.pwr.trip = false) (hx : (d.getLane l).step < 4) (hr : (d.getLane l).rxReady = false) :
    ∃ c w, (trainKind kind l ctl st ad false d).out = .laneFrame l 1 c w :: d.out := by
  have step := laneTrain_waits (ctl := ctl) (st := st) (adapt := ad.toNat) hx hr
  have goes : laneEnds (laneTrain ctl st ad.toNat false (d.getLane l)) = false := by simp [laneEnds, step, Nat.ne_of_lt hx]
  rw [trainKind_goes_on hp h goes]
  exact trainAnswer_out ht (by rwa [step])

/-- A lane below step 4 whose receiver becomes ready moves to step 4, and the port with it when it is the last. -/
theorem trainKind_ready (hx : (d.getLane l).step < 4) : trainKind kind l ctl st ad true d = trainAnswer l p ctl st ad true d ∧
    ((∀ k ∈ d.lanesOf p, k ≠ l → 4 ≤ (d.getLane k).step) → ((trainKind kind l ctl st ad true d).getPort p).cycle = .ready) ∧
    ((∃ k ∈ d.lanesOf p, k ≠ l ∧ (d.getLane k).step < 4) → ((trainKind kind l ctl st ad true d).getPort p).cycle = .train) := by
  obtain ⟨-, step, count⟩ := laneTrain_ready (ctl := ctl) (st := st) (adapt := ad.toNat) hx
  have goes := trainKind_goes_on hp h (laneEnds_of_countdown (x := laneTrain ctl st ad.toNat true (d.getLane l)) (by simp [count]))
  refine ⟨goes, fun all => ?_, fun ⟨k, hk, hl, hs⟩ => ?_⟩
  · rw [goes, trainAnswer_cycle, if_pos]
    intro k hk
    by_cases e : k = l
    · subst e; simp [step]
    · rw [trainAnswer_lane_other e]; exact all k hk e
  · rw [goes, trainAnswer_cycle, if_neg]
    intro all
    have := all k hk
    rw [trainAnswer_lane_other hl] at this
    omega

/-- Once the last lane of the port has ended its training, data starts. -/
theorem trainKind_trained (hx : laneEnds (laneTrain ctl st ad.toNat rdy (d.getLane l)) = true)
    (others : ∀ k ∈ d.lanesOf p, k ≠ l → (d.getLane k).step = 5) : ((trainKind kind l ctl st ad rdy d).getPort p).trained = true := by
  rw [trainKind_heard hp h, trainAnswer_lane_same, if_pos hx]
  apply dataStart_trained
  intro k hk
  by_cases e : k = l
  · subst e; simp
  · rw [getLane_modLane_other _ _ e, trainAnswer_lane_other e]
    exact others k (by rwa [← trainAnswer_lanesOf]) e

end

/-! ### The timeouts, pages and IEEE link training (R53, R54, R58) -/

section
variable {d : Dev} {p : Nat} {ab : BitVec 3} {pg : BitVec 48}

theorem autonegPage_idle (h : (d.getPort p).obj.st ≠ .running ∨ (d.getPort p).negotiate = false) : autonegPage p ab pg d = d := by
  rcases h with h | h <;> simp [autonegPage, h]

/-- A page with a mode in common resolves the highest one, and link training begins. -/
theorem autonegPage_resolves (hs : (d.getPort p).obj.st = .running) (hn : (d.getPort p).negotiate = true) (hc : (d.getPort p).cycle = .autoneg)
    (common : ∃ k < 2, bit ab.toNat k = true ∧ bit (d.getPort p).allowed k = true) :
    ((autonegPage p ab pg d).getPort p).cycle = .linkTrain ∧ ((autonegPage p ab pg d).getPort p).link = .training ∧
    ((autonegPage p ab pg d).getPort p).resolved = some (if bit ab.toNat 1 && bit (d.getPort p).allowed 1 then 1 else 0) := by
  have shared : ((List.range 2).map fun k => bit ab.toNat k && bit (d.getPort p).allowed k) ≠ [false, false] := by
    obtain ⟨k, hk, h1, h2⟩ := common
    interval_cases k <;> simp [List.range_succ, h1, h2]
  simp only [autonegPage, hs, hn, hc]
  simp [if_neg shared]

end

section
variable {d : Dev} {l p : Nat} {rq : BitVec 8} {done : Bool}

theorem linkTraining_no_port (hp : d.portOf l = none) : linkTraining l rq done d = d := by simp [linkTraining, hp]

variable (hp : d.portOf l = some p)
include hp

theorem linkTraining_idle (h : ¬ ((d.getPort p).obj.st = .running ∧ (d.getPort p).cycle = .linkTrain)) : linkTraining l rq done d = d := by
  simp only [linkTraining, hp]
  exact if_pos (by simpa [imp_iff_not_or] using h)

/-- Once the last lane of the port has ended IEEE link training, data starts. -/
theorem linkTraining_trained (h : (d.getPort p).obj.st = .running ∧ (d.getPort p).cycle = .linkTrain)
    (others : ∀ k ∈ d.lanesOf p, k ≠ l → (d.getLane k).step = 5) : ((linkTraining l rq true d).getPort p).trained = true := by
  simp only [linkTraining, hp, h, bne_self_eq_false, Bool.or_false, Bool.false_eq_true, if_false, if_true]
  apply dataStart_trained
  intro k hk
  by_cases e : k = l
  · subst e; simp
  · rw [getLane_modLane_other _ _ e, getLane_emit, getLane_modLane_other _ _ e]
    refine others k ?_ e
    rwa [lanesOf_of_width (d := d) (by simp)] at hk

end

end Dev
end Sys2Proof.Machine

namespace Sys2Proof
open Sys2Proof.Machine Sys2Proof.Machine.Dev

/-- Settles O10: each clause is a case of its row, given above. -/
theorem trainingRowsComplete : Obligations.TrainingRowsComplete := by
  refine ⟨fun s l ctl st => onDev_devStep rfl ?_, fun s l ctl st ad rdy => onDev_devStep rfl ?_,
    fun s l ctl st ad rdy => onDev_devStep rfl ?_, fun s p => onDev_devStep rfl ?_, fun s p => onDev_devStep rfl ?_,
    fun s p => onDev_devStep rfl ?_, fun s p ab pg => onDev_devStep rfl ?_, fun s p => onDev_devStep rfl ?_,
    fun s p => onDev_devStep rfl ?_, fun s l rq done => onDev_devStep rfl ?_⟩
  case refine_1 =>
    split
    next hp => exact abilityFrame_no_port hp
    next p hp =>
      exact ⟨abilityFrame_not_running hp, fun hs ok hc => (abilityFrame_bad hp hs ok).trans (if_pos hc),
        fun hs ok hc => (abilityFrame_bad hp hs ok).trans (if_neg hc), fun hs ok hc => abilityFrame_counts hp hs ok hc,
        fun hs ok hc hi => abilityFrame_same_partner hp hs ok hc hi, fun hs ok hc hi => abilityFrame_new_partner hp hs ok hc hi⟩
  case refine_2 =>
    split
    next hp => exact trainKind_no_port hp
    next p hp =>
      dsimp only; split
      next h =>
        refine ⟨fun ht hx hr0 hr => ?_, fun hx hr => ?_⟩
        · subst hr0; exact trainKind_waits hp h ht hx hr
        · subst hr
          obtain ⟨answer, last, behind⟩ := trainKind_ready (st := st) (ad := ad) hp h hx
          have lane : (trainFrame l ctl st ad true s.dev).getLane l = laneTrain ctl st ad.toNat true (s.dev.getLane l) :=
            (congrArg (·.getLane l) answer).trans trainAnswer_lane_same
          obtain ⟨rx, step, count⟩ := laneTrain_ready (ctl := ctl) (st := st) (adapt := ad.toNat) hx
          rw [lane]
          exact ⟨rx, step, count, last, behind, laneTrain_peer⟩
      next h => exact trainKind_unheard hp h
  case refine_3 =>
    split
    next hp => exact trainKind_no_port hp
    next p hp =>
      dsimp only; split
      next h =>
        refine ⟨fun hc hx => ?_, fun hc hx hr hst hb others => ?_⟩
        · obtain ⟨-, count, -⟩ := laneTrain_counts (ctl := ctl) (st := st) (adapt := ad.toNat) (rdy := rdy) hx
          have answer := trainKind_goes_on hp h (laneEnds_of_countdown (x := laneTrain ctl st ad.toNat rdy (s.dev.getLane l)) (by omega))
          exact (congrArg (fun e : Dev => (e.getLane l).countdown) answer).trans (by rw [trainAnswer_lane_same, count])
        · obtain ⟨step, count, ready⟩ := laneTrain_counts (ctl := ctl) (st := st) (adapt := ad.toNat) (rdy := rdy) hx
          refine trainKind_trained hp h ?_ others
          simp [laneEnds, step, count, ready, laneTrain_peer hst, hc, hr, hb]
      next h => exact trainKind_unheard hp h
  case refine_4 =>
    dsimp only; split
    next h => simp [abilityTimeout, h, and_assoc]
    next h => exact if_neg (by simpa [and_assoc] using h)
  case refine_5 =>
    dsimp only; split
    next h => exact if_pos (by simpa [and_assoc] using h)
    next h => exact if_neg (by simpa [and_assoc] using h)
  case refine_6 => simp [trainingRestart, and_assoc]
  case refine_7 => exact ⟨autonegPage_idle, autonegPage_resolves⟩
  case refine_8 => simp [autonegTimeout, and_assoc]
  case refine_9 =>
    dsimp only; split
    next h => exact if_pos (by simpa [and_assoc] using h)
    next h => exact if_neg (by simpa [and_assoc] using h)
  case refine_10 =>
    split
    next hp => exact linkTraining_no_port hp
    next p hp =>
      split
      next h => intro hd others; subst hd; exact linkTraining_trained hp h others
      next h => exact linkTraining_idle hp h

end Sys2Proof
end

section
/-! PROOFS. O11: what a lane receives is recorded. -/

namespace Sys2Proof.Machine
open Sys2Proof

namespace Dev

/-! ### What leaves the package stays in the trace -/

theorem vecSend_out (d : Dev) (v : Nat) : d.out <:+ (d.vecSend v).out := by
  unfold vecSend; split
  · exact List.suffix_cons ..
  · exact List.suffix_rfl

theorem vecUpdate_out (d : Dev) (v : Nat) : d.out <:+ (d.vecUpdate v).out := by
  simp only [vecUpdate]; (repeat' split)
  · exact List.suffix_rfl
  · exact List.suffix_rfl
  · exact vecSend_out { d with hif := { d.hif with active := v :: d.hif.active } } v
  · exact List.suffix_rfl

theorem setAlarm_out (d : Dev) (i : Nat) : d.out <:+ (d.setAlarm i).out := by
  simp only [setAlarm, setCause]; split
  · exact List.suffix_rfl
  · refine .trans ?_ (vecUpdate_out _ _); exact List.suffix_rfl

theorem raise_out (d : Dev) (type sev subject : Nat) (detail : List Fld) : d.out <:+ (d.raise type sev subject detail).out := by
  simp only [raise, evPut]; (repeat' split)
  · exact List.suffix_rfl
  · simp only [evCoalesce]; split
    · refine .trans ?_ (setAlarm_out _ 6); exact List.suffix_rfl
    · exact List.suffix_rfl
  · exact List.suffix_rfl

theorem liveCheck_out (d : Dev) : d.out <:+ d.liveCheck.out := by
  have grows (l : List (Nat × Ecmp)) (x : Dev) :
      x.out <:+ (l.foldl (fun (x : Dev) p => x.raise 0x0202 sevMajor (handle 0x05 p.1) []) x).out := by
    induction l generalizing x with
    | nil => exact List.suffix_rfl
    | cons p l ih => exact (raise_out ..).trans (ih _)
  refine .trans ?_ (grows _ _); exact List.suffix_rfl

theorem unprotect_out (d : Dev) (p : Nat) : d.out <:+ (d.unprotect p).out := by
  simp only [unprotect]; split
  · refine .trans ?_ (liveCheck_out _)
    rw [announcePort, sendFcAll_out]
    refine .trans ?_ (raise_out ..); exact List.suffix_rfl
  · exact List.suffix_rfl

theorem tryLinkUp_out (d : Dev) (p : Nat) : d.out <:+ (d.tryLinkUp p).out := by
  simp only [tryLinkUp, firstRelease]; (repeat' split)
  · refine .trans ?_ ((raise_out ..).trans (unprotect_out ..)); exact List.suffix_rfl
  · refine .trans ?_ (raise_out ..); exact List.suffix_rfl
  · exact List.suffix_rfl

/-! ### Signal, codewords and markers (R47, R48, R76, R77) -/

/-- A lane of the port takes in what its signal carries. -/
def laneReceives (q : Port) (x : Lane) : Prop := q.obj.st ≠ .stopped ∧ x.signal = true ∧ q.trained = true

theorem laneReceives_iff (q : Port) (x : Lane) : laneReceives q x ↔ (q.obj.st = .stopped || !x.signal || !q.trained) = false := by
  simp [laneReceives, and_assoc]

section
variable {d : Dev} {l p : Nat} (hp : d.portOf l = some p)
include hp

theorem laneSignal_unseen {b : Bool} (h : (d.getPort p).obj.st = .stopped ∨ (d.getLane l).signal = b) : laneSignal l b d = d := by
  simp only [laneSignal, hp]
  exact if_pos (by simpa using h)

/-- A change of signal is noted with its time, and a lane without signal loses its locks. -/
theorem laneSignal_changes {b : Bool} (h : ¬ ((d.getPort p).obj.st = .stopped ∨ (d.getLane l).signal = b)) :
    ((laneSignal l b d).getLane l).signal = b ∧ ((laneSignal l b d).getLane l).sigSince = d.now ∧
    (b = false → ((laneSignal l b d).getLane l).blockLock = false ∧ ((laneSignal l b d).getLane l).amLock = false) := by
  simp only [laneSignal, hp]
  rw [if_neg (by simpa using h)]
  cases b with
  | true =>
    simp only [if_true]; split
    · obtain ⟨signal, since⟩ := startCycle_signal (((d.setLane l { d.getLane l with signal := true, sigSince := d.now }).synceSquelch).setPort p
        { d.getPort p with gone := false }) p l
      rw [signal, since]; simp
    · simp
  | false => simp

theorem codeword_unseen {e f : Nat} (h : ¬ laneReceives (d.getPort p) (d.getLane l)) : codeword l e f d = d := by
  rw [laneReceives_iff, Bool.not_eq_false] at h
  simp [codeword, hp, h]

theorem alignmentMarker_unseen {a b c : Bool} (h : ¬ laneReceives (d.getPort p) (d.getLane l)) : alignmentMarker l a b c d = d := by
  rw [laneReceives_iff, Bool.not_eq_false] at h
  simp [alignmentMarker, hp, h]

variable (h : laneReceives (d.getPort p) (d.getLane l))
include h

/-- A codeword within the code counts its symbols. -/
theorem codeword_corrects {e f : Nat} (hc : 2 * e + f ≤ 30) :
    ((codeword l e f d).getLane l).rsCorr = (d.getLane l).rsCorr + e + f ∧
    ((codeword l e f d).getLane l).erasures = (d.getLane l).erasures + f ∧ ((codeword l e f d).getLane l).uncorrSince = none := by
  simp [codeword, hp, (laneReceives_iff ..).1 h, rsCorrects, hc]

/-- A codeword beyond the code counts as uncorrectable. -/
theorem codeword_fails {e f : Nat} (hc : 30 < 2 * e + f) :
    ((codeword l e f d).getLane l).rsUncorr = (d.getLane l).rsUncorr + 1 ∧
    ((codeword l e f d).getLane l).uncorrSince = some ((d.getLane l).uncorrSince.getD d.now) := by
  simp [codeword, hp, (laneReceives_iff ..).1 h, rsCorrects, Nat.not_le.2 hc]

/-- The locks of a lane after a marker period (R48). -/
theorem alignmentMarker_locks (inPlace blk cal : Bool) :
    ((alignmentMarker l inPlace blk cal d).getLane l).blockLock = blk ∧
    ((alignmentMarker l inPlace blk cal d).getLane l).amLock =
      if (d.getLane l).amLock then decide ((if inPlace then 0 else (d.getLane l).amMiss + 1) < markerLoss (d.getPort p))
      else decide (2 ≤ if inPlace then (d.getLane l).amHits + 1 else 0) := by
  simp only [alignmentMarker, hp, (laneReceives_iff ..).1 h, Bool.false_eq_true, if_false, getLane_tryLinkUp,
    apply_ite (fun e : Dev => e.getLane l), getLane_raisePort, ite_self, getLane_synceSquelch, getLane_setLane_same]
  exact ⟨trivial, trivial⟩

end

theorem markerLoss_pos (q : Port) : 0 < markerLoss q := by unfold markerLoss; split <;> decide

/-! ### OTUC frames (R71-R74, R80) -/

/-- What the port notes of an OTUC frame, FAS read as absent where the lanes are dark. -/
def otucNote (o : OtucIn) (now : Nat) (q : Port) : Port :=
  let a := alignStep o now q
  { a with
    aisRun := if o.stat = 7 then a.aisRun + 1 else 0, aisOff := if o.stat = 7 then 0 else a.aisOff + 1
    bdiRun := if o.bdi then a.bdiRun + 1 else 0, bdiOff := if o.bdi then 0 else a.bdiOff + 1
    secBlocks := a.secBlocks + o.fas.length, secNe := a.secNe + (o.bip8.filter (0 < ·)).length
    secFe := a.secFe + (o.bei.filter (0 < ·)).length }

/-- The frame as the port takes it: with a lane without signal, or during training, the FAS is absent. -/
def otucSeen (d : Dev) (p : Nat) (o : OtucIn) : OtucIn :=
  if !(d.getPort p).trained || (d.lanesOf p).any fun l => !(d.getLane l).signal then { o with fas := o.fas.map fun _ => false } else o

/-- The port after an OTUC frame: out of frame or multiframe no trace byte is taken. -/
def otucTake (o : OtucIn) (now : Nat) (q : Port) : Port :=
  let b := otucNote o now q
  if b.oof || b.oom then { b with ttiBuf := [], ttiSame := 0 } else ttiByte o.mfas o.tti b

section
variable {d : Dev} {p : Nat} {o : OtucIn}

/-- Taking the trace byte changes the trace fields alone. -/
theorem otucTake_eq (o : OtucIn) (now : Nat) (q : Port) : ∃ buf last same acc, otucTake o now q =
    { otucNote o now q with ttiBuf := buf, ttiLast := last, ttiSame := same, accTti := acc } := by
  simp only [otucTake, ttiByte]; (repeat' split) <;> exact ⟨_, _, _, _, rfl⟩

theorem otucFrame_unseen (h : ¬ ((d.getPort p).obj.st = .running ∧ (d.getPort p).otucn = true)) : otucFrame p o d = d :=
  if_pos (by simpa [imp_iff_not_or] using h)

theorem otucFrame_seen (hs : (d.getPort p).obj.st = .running) (ho : (d.getPort p).otucn = true) : otucFrame p o d =
    ((d.setPort p (otucTake (otucSeen d p o) d.now (d.getPort p))).otucSend p o.bip8).tryLinkUp p := by
  have bip8 : (otucSeen d p o).bip8 = o.bip8 := by unfold otucSeen; split <;> rfl
  rw [← bip8]
  simp only [otucFrame, hs, ho]
  simp [otucTake, otucNote, otucSeen]

/-- A port sends one frame for each it receives once data flows: its MFAS moves on. -/
theorem otucSend_port (bip8 : List Nat) : (d.otucSend p bip8).getPort p =
    if (d.getPort p).trained then { d.getPort p with txMfas := ((d.getPort p).txMfas + 1) % 256 } else d.getPort p := by
  cases h : (d.getPort p).trained <;> simp [otucSend, h]

theorem otucSend_out {bip8 : List Nat} (ht : d.pwr.trip = false) (hs : (d.getPort p).obj.st = .running) (hd : (d.getPort p).trained = true) :
    ∃ sm pm, Emission.otuc p (((d.getPort p).txMfas + 1) % 256) ((d.getPort p).txTti.getD (((d.getPort p).txMfas + 1) % 256 % 64) 0) sm pm
      (if (d.getPort p).oof then bip8.map fun _ => 0 else bip8) 0 ∈ (d.otucSend p bip8).out := by
  refine ⟨bit (sentFault (d.getPort p)) 0, bit (sentFault (d.getPort p)) 1, ?_⟩
  simp only [otucSend, hd]
  rw [if_neg (by simp), emit_out (by simpa using ht) (txOff_of_running (p := p) rfl (by simpa using hs))]
  exact List.mem_cons_self

theorem otucSeen_eq (d : Dev) (p : Nat) (o : OtucIn) : ∃ f, otucSeen d p o = { o with fas := f } ∧ f.length = o.fas.length := by
  unfold otucSeen; split
  · exact ⟨_, rfl, by simp⟩
  · exact ⟨_, rfl, rfl⟩

/-- What the port notes of the frame, and what it keeps for the one it sends. -/
theorem otucTake_port (d : Dev) (p : Nat) (o : OtucIn) (now : Nat) (q : Port) : let r := otucTake (otucSeen d p o) now q
    r.secBlocks = q.secBlocks + o.fas.length ∧ r.aisRun = (if o.stat = 7 then q.aisRun + 1 else 0) ∧
    r.bdiRun = (if o.bdi then q.bdiRun + 1 else 0) ∧ r.lastMfas = o.mfas ∧ r.trained = q.trained ∧ r.txMfas = q.txMfas ∧
    r.txTti = q.txTti ∧ r.obj = q.obj := by
  obtain ⟨f, seen, len⟩ := otucSeen_eq d p o
  obtain ⟨_, _, _, _, take⟩ := otucTake_eq (otucSeen d p o) now q
  simp only [take]
  simp [seen, len, otucNote, alignStep]

/-- The port after an OTUC frame: what it took, with the MFAS of the frame it sent. -/
theorem otucFrame_port (hs : (d.getPort p).obj.st = .running) (ho : (d.getPort p).otucn = true) :
    let r := otucTake (otucSeen d p o) d.now (d.getPort p)
    Released (if r.trained then { r with txMfas := (r.txMfas + 1) % 256 } else r) ((otucFrame p o d).getPort p) := by
  have := tryLinkUp_released ((d.setPort p (otucTake (otucSeen d p o) d.now (d.getPort p))).otucSend p o.bip8) p
  rwa [← otucFrame_seen hs ho, otucSend_port, getPort_setPort_same] at this

end

end Dev
end Sys2Proof.Machine

namespace Sys2Proof
open Sys2Proof.Machine Sys2Proof.Machine.Dev

/-- Settles O11: each clause is a case of its row, given above. -/
theorem lineReceiveRowsComplete : Obligations.LineReceiveRowsComplete := by
  refine ⟨fun s l b => onDev_devStep rfl ?_, fun s l e f => onDev_devStep rfl ?_, fun s p o => onDev_devStep rfl ?_,
    fun s p rem col => onDev_devStep rfl ?_, fun s l inPlace blk cal => onDev_devStep rfl ?_⟩
  case refine_1 =>
    split
    next hp => simp [laneSignal, hp]
    next p hp =>
      split
      next h => exact laneSignal_unseen hp h
      next h => exact laneSignal_changes hp h
  case refine_2 =>
    split
    next hp => simp [codeword, hp]
    next p hp =>
      dsimp only; split
      next h => exact ⟨codeword_corrects hp h, codeword_fails hp h⟩
      next h => exact codeword_unseen hp h
  case refine_3 =>
    dsimp only; split
    next h =>
      obtain ⟨hs, ho⟩ := h
      obtain ⟨blocks, ais, bdi, mfas, trained, tx, tti, obj⟩ := otucTake_port s.dev p o s.dev.now (s.dev.getPort p)
      obtain ⟨_, _, _, _, _, port⟩ := otucFrame_port (o := o) hs ho
      rw [port]
      refine ⟨?_, ?_, ?_, ?_, fun hd ht => ⟨?_, ?_⟩⟩
      · split <;> exact blocks
      · split <;> exact ais
      · split <;> exact bdi
      · split <;> exact mfas
      · rw [trained, if_pos hd, tx]
      · rw [trained, if_pos hd]
        obtain ⟨sm, pm, sent⟩ := otucSend_out (d := s.dev.setPort p (otucTake (otucSeen s.dev p o) s.dev.now (s.dev.getPort p))) (p := p)
          (bip8 := o.bip8) ht (by simpa [obj] using hs) (by simpa [trained] using hd)
        rw [getPort_setPort_same, tx, tti] at sent
        exact ⟨sm, pm, _, otucFrame_seen hs ho ▸ (tryLinkUp_out ..).subset sent, rfl⟩
    next h => exact otucFrame_unseen h
  case refine_4 =>
    dsimp only; split
    next h => simp [faultSet, h]
    next h => exact if_pos (by simpa [imp_iff_not_or] using h)
  case refine_5 =>
    split
    next hp => simp [alignmentMarker, hp]
    next p hp =>
      dsimp only; split
      next h =>
        obtain ⟨block, lock⟩ := alignmentMarker_locks hp h inPlace blk cal
        refine ⟨block, fun hi found => ?_, fun hi hx => ?_, fun hi hx => ?_⟩
        · rw [lock, hi]
          by_cases hx : (s.dev.getLane l).amLock = true
          · simp [hx, markerLoss_pos]
          · have hits : 1 ≤ (s.dev.getLane l).amHits := found.resolve_left hx
            simp [hx, hits]
        · rw [lock, hi]; simp [hx]
        · rw [lock, hi]; simp [hx]
      next h => exact alignmentMarker_unseen hp h

end Sys2Proof
end

section
/-! PROOFS. O7: the commands that configure a port. -/

namespace Sys2Proof.Machine
open Sys2Proof

/-- A command row under `State.runs` gives the reply of its handler. -/
theorem replies_of_handler {s : State} {i : Instr} {op : Nat} {src : Src} {c : Cmd} {f : Cmd → Dev → Reply} {r : Reply}
    (he : exec i s = s.onDev (Dev.runCmd op src f)) (h : s.runs op src c) (hr : f c s.dev = r) : s.replies i c r := by
  rw [State.replies, he, runCmd_replies h, hr]

namespace Dev

/-! ### PORT_SET_MODE (R65, Table 2.8) -/

/-- A width, with a mode and a framing, that Table 2.8 and R65 allow for the port of `c`. -/
def modeFits (c : Cmd) (d : Dev) : Prop :=
  c.f 0 1 ∈ [1, 2, 4, 8] ∧ c.hIdx % c.f 0 1 = 0 ∧ d.lanesTaken c.hIdx (c.f 0 1) = false ∧
    (c.f 2 1 = 1 → c.f 0 1 * (100 * 2 ^ c.f 1 1) ∈ [400, 800, 1600])

section
variable {c : Cmd} {d : Dev} (hb : c.bad 1 = false) (hm : c.f 1 1 ≤ 2) (hf : c.f 2 1 ≤ 1) (hr : c.f 3 1 ≤ 1) (hz : c.dirty 4 28 = false)
include hb hm hf hr hz

/-- Width 0 gives up the definition of a STOPPED port. -/
theorem portSetMode_undefines (hw : c.f 0 1 = 0) : portSetMode c d =
    if (d.getPort c.hIdx).obj.st ≠ .stopped then .done d { status := .refusedBusy }
    else .done (if (d.getPort c.hIdx).width = 0 then d
      else d.setPort c.hIdx { d.getPort c.hIdx with width := 0, otucn := false, resolved := none }) {} := by
  simp [portSetMode, hb, hw, hz, Nat.not_lt.2 hm, Nat.not_lt.2 hf, Nat.not_lt.2 hr]

/-- A mode that fits defines a STOPPED port; a new mode or framing puts the abilities back (R54). -/
theorem portSetMode_defines (hw : modeFits c d) : portSetMode c d =
    let q := d.getPort c.hIdx
    let new := q.width = 0 ∨ q.laneMode ≠ c.f 1 1 ∨ q.otucn ≠ (c.f 2 1 == 1)
    if q.obj.st ≠ .stopped then .done d { status := .refusedBusy }
    else .done (d.setPort c.hIdx { q with
      width := c.f 0 1, laneMode := c.f 1 1, otucn := c.f 2 1 == 1, cr := c.f 3 1 == 1, resolved := none
      allowed := if new then 2 ^ c.f 1 1 else q.allowed, negotiate := if new then false else q.negotiate }) {} := by
  obtain ⟨width, align, free, rate⟩ := hw
  have w0 : c.f 0 1 ≠ 0 := by rintro h; simp [h] at width
  have listed : [0, 1, 2, 4, 8].contains (c.f 0 1) = true := by simpa using Or.inr (by simpa using width)
  have rateOk : (c.f 2 1 == 1 && !([400, 800, 1600].contains (c.f 0 1 * (100 * 2 ^ c.f 1 1)))) = false := by
    by_cases h : c.f 2 1 = 1
    · simpa [h, or_iff_not_imp_left] using rate h
    · simp [h]
  simp only [portSetMode, check_cons, check_nil, hb, listed, rateOk, free, align, hz]
  simp [w0, Nat.not_lt.2 hm, Nat.not_lt.2 hf, Nat.not_lt.2 hr, or_assoc]

end

/-! ### PORT_SET_ABILITIES, PORT_SET_LIMITS (R54-R56, R66, R657) -/

section
variable (c : Cmd) (d : Dev)

theorem portSetAbilities_eq : portSetAbilities c d =
    let q := d.getPort c.hIdx
    let d1 := d.setPort c.hIdx { q with allowed := c.f 0 1, negotiate := c.f 1 1 == 1 }
    if c.bad 1 then .done d { status := .badHandle }
    else if c.f 0 1 = 0 ∨ 8 ≤ c.f 0 1 ∨ 1 < c.f 1 1 ∨ c.dirty 2 30 = true ∨ (q.otucn = true ∧ c.f 1 1 = 1) then .done d { status := .badArg }
    else if q.obj.st ≠ .running then .done d1 {}
    else if q.link = .up ∧ bit (c.f 0 1) (portMode q) = true ∧ (c.f 1 1 = 1 ∨ portMode q = q.laneMode) then .done d1 {}
    else if q.link = .up then .done ((d1.linkDown c.hIdx 2).startCycle c.hIdx) {}
    else .done (d1.startCycle c.hIdx) {} := by
  simp only [portSetAbilities, check_cons, check_nil]
  split
  · rfl
  · refine if_congr (by simp [or_assoc]) rfl ?_
    by_cases hs : (d.getPort c.hIdx).obj.st = .running
    · by_cases hl : (d.getPort c.hIdx).link = .up
      · simp only [hs, hl]; simp; split <;> rfl
      · simp [hs, hl]
    · simp [hs]

/-- A limit in range: 0 leaves it, otherwise 64 to 16,383 (R657). -/
def limitOk (n : Nat) : Prop := n = 0 ∨ (64 ≤ n ∧ n ≤ 16383)

theorem limitOk_iff (n : Nat) : limitOk n ↔ (n != 0 && (decide (n < 64) || decide (16383 < n))) = false := by
  simp [limitOk, or_iff_not_imp_left]

variable {c} (hb : c.bad 1 = false)
include hb

theorem portSetLimits_stores (hrx : limitOk (c.f 0 2)) (htx : limitOk (c.f 2 2)) (hz : c.dirty 4 28 = false) : portSetLimits c d =
    .done (d.modPort c.hIdx fun q => { q with
      rxLimit := if c.f 0 2 = 0 then q.rxLimit else c.f 0 2, txLimit := if c.f 2 2 = 0 then q.txLimit else c.f 2 2 }) {} := by
  simp only [portSetLimits, check_cons, check_nil, hb, (limitOk_iff _).1 hrx, (limitOk_iff _).1 htx, hz]
  simp

theorem portSetLimits_refuses (h : ¬ (limitOk (c.f 0 2) ∧ limitOk (c.f 2 2) ∧ c.dirty 4 28 = false)) :
    portSetLimits c d = .done d { status := .badArg } := by
  simp only [portSetLimits, check_cons, check_nil, hb]
  rw [if_neg (by simp), if_pos]
  rw [limitOk_iff, limitOk_iff] at h
  by_contra hn
  exact h (by simpa only [Bool.not_eq_true, Bool.or_eq_false_iff, and_assoc] using hn)

end

/-! ### FRM_SET_TTI, FRM_SET_ACTIONS (R73, R75, R83, R95, R96) -/

/-- What the protection switch may change of a port when a switching defect begins or ends. -/
def Switched (a b : Port) : Prop :=
  ∃ k n t w u h, b = { a with link := k, protDown := n, protSince := t, wtrDue := w, firstUp := u, holdoffDue := h }

theorem Switched.refl (a : Port) : Switched a a := ⟨a.link, a.protDown, a.protSince, a.wtrDue, a.firstUp, a.holdoffDue, rfl⟩

theorem switchOn_switched (p b : Nat) (d : Dev) : Switched (d.getPort p) ((switchOn p b d).getPort p) := by
  simp only [switchOn]; (repeat' split)
  · exact .refl _
  · exact ⟨_, _, _, _, _, _, getPort_setPort_same ..⟩
  · obtain ⟨t, h⟩ := getPort_protect (d.setPort p { d.getPort p with wtrDue := none }) p b
    exact ⟨_, _, t, _, _, _, by rw [h, getPort_setPort_same]⟩
  · exact ⟨_, _, _, _, _, _, by rw [getPort_modPort_same, getPort_setPort_same]⟩

theorem switchOff_release_switched (p : Nat) (was : Bool) (d : Dev) :
    Switched (d.getPort p) (((switchOff p was d).firstRelease p).getPort p) := by
  obtain ⟨k, n, t, w, u, h⟩ := firstRelease_released (switchOff p was d) p
  rw [h]
  simp only [switchOff]; split
  · exact ⟨k, n, t, w, u, _, by rw [getPort_modPort_same, getPort_setPort_same]⟩
  · exact ⟨k, n, t, w, u, _, by rw [getPort_setPort_same]⟩

/-- A switching defect that begins without a hold-off takes the port protection-down (R83). -/
theorem switchOn_protDown {p b : Nat} {d : Dev} (hb : (switchMask (d.getPort p)).getLsbD b = true) (hh : (d.getPort p).holdoffMs = 0) :
    ((switchOn p b d).getPort p).protDown = true := by
  simp only [switchOn, hb, hh]
  simp only [Bool.not_true, Bool.false_eq_true, if_false, if_true]; split
  · simp_all
  · exact protect_protDown ..

/-- The settings of FRM_SET_TTI stored in a port, with the defects its second has seen. -/
def ttiStored (tx ex : Bytes) (mode : Nat) (act : Bool) (seen : BitVec 9) (q : Port) : Port :=
  { q with txTti := tx, expTti := ex, ttiMode := mode, timAction := act, secRaw := seen }

section
variable {d : Dev} {p : Nat} {tx ex : Bytes} {mode : Nat} {act : Bool}

/-- Without TIM the settings are stored, and that is all. -/
theorem ttiApply_without_tim (h : (d.getPort p).raw.getLsbD 5 = false) :
    ttiApply p tx ex mode act d = d.setPort p (ttiStored tx ex mode act (d.getPort p).secRaw (d.getPort p)) := by
  have noTim : (d.getPort p).raw &&& 0x020 = 0 := by
    apply BitVec.eq_of_getLsbD_eq
    intro i hi
    interval_cases i <;> simp_all
  simp only [ttiApply, h, noTim]
  simp [ttiStored]

/-- Whatever TIM does, the settings are stored. -/
theorem ttiApply_stores : ∃ seen, Switched (ttiStored tx ex mode act seen (d.getPort p)) ((ttiApply p tx ex mode act d).getPort p) := by
  let q1 := ttiStored tx ex mode act
    (if ttiMatch mode (d.getPort p).accTti ex then (d.getPort p).secRaw else (d.getPort p).secRaw ||| ((d.getPort p).raw &&& 0x020)) (d.getPort p)
  let e := (d.setPort p q1).emit (.lineSignal p (sentFault q1))
  have stored : e.getPort p = q1 := by simp [e]
  refine ⟨_, show Switched q1 _ from ?_⟩
  have applied : ttiApply p tx ex mode act d = if (d.getPort p).timAction = act || !(d.getPort p).raw.getLsbD 5 then d.setPort p q1
    else if act then switchOn p 5 e else (switchOff p (switching (d.getPort p)) e).firstRelease p := rfl
  rw [applied]; split
  · rw [getPort_setPort_same]; exact .refl _
  · split
    · exact stored ▸ switchOn_switched p 5 e
    · exact stored ▸ switchOff_release_switched p (switching (d.getPort p)) e

/-- TIM that begins to act switches the port, unless a hold-off waits (R83, R85). -/
theorem ttiApply_protDown (h : (d.getPort p).raw.getLsbD 5 = true) (hoff : (d.getPort p).timAction = false) (hh : (d.getPort p).holdoffMs = 0) :
    ((ttiApply p tx ex mode true d).getPort p).protDown = true := by
  simp only [ttiApply, h, hoff]
  simp only [Bool.not_true, Bool.false_eq_true, Bool.or_false, decide_false, if_false, if_true]
  apply switchOn_protDown
  · simp [switchMask]
  · simpa using hh

end

theorem frmSetTti_applies {c : Cmd} {d : Dev} {b : Bytes} (hb : c.bad 1 = false) (ho : (d.getPort c.hIdx).otucn = true)
    (hm : field b 128 1 ≤ 3) (ha : field b 129 1 ≤ 1) (hz : isZero b 130 6 = true) : frmSetTti (some b) c d =
    .done (d.ttiApply c.hIdx (slice b 0 64) (slice b 64 64) (field b 128 1) (field b 129 1 == 1)) {} := by
  simp [frmSetTti, hb, ho, hz, Nat.not_lt.2 hm, Nat.not_lt.2 ha]

end Dev
end Sys2Proof.Machine

namespace Sys2Proof
open Sys2Proof.Machine Sys2Proof.Machine.Dev

/-- Settles O7: what each handler answers, given above. -/
theorem portSettingRowsComplete : Obligations.PortSettingRowsComplete := by
  refine ⟨?_, ?_, ?_, ?_, ?_⟩
  · intro s src c h hb hm hf hr hz hw
    refine replies_of_handler (f := portSetMode) rfl h ?_
    rcases hw with hw | hw
    · rw [portSetMode_undefines hb hm hf hr hz hw]; simp [hw, State.refusal]
    · have w0 : c.f 0 1 ≠ 0 := by rintro w0; simp [w0] at hw
      rw [portSetMode_defines hb hm hf hr hz hw]; simp only [if_neg w0]; rfl
  · intro s src c h
    exact replies_of_handler (f := portSetAbilities) rfl h (portSetAbilities_eq c s.dev)
  · intro s src c h
    refine ⟨fun hb => ?_, fun hb hrx htx hz => ?_, fun hb hn => ?_⟩
    · exact replies_of_handler (f := portSetLimits) rfl h (by simp [portSetLimits, hb, State.refusal])
    · exact replies_of_handler (f := portSetLimits) rfl h (portSetLimits_stores s.dev hb hrx htx hz)
    · exact replies_of_handler (f := portSetLimits) rfl h (portSetLimits_refuses s.dev hb hn)
  · intro s src b c h hb ho hm ha hz
    have reply := frmSetTti_applies hb ho hm ha hz
    refine ⟨fun hr => ?_, s.dev.ttiApply c.hIdx (slice b 0 64) (slice b 64 64) (field b 128 1) (field b 129 1 == 1),
      replies_of_handler (f := frmSetTti (some b)) rfl h reply, ?_⟩
    · exact replies_of_handler (f := frmSetTti (some b)) rfl h (by rw [reply, ttiApply_without_tim hr]; rfl)
    · obtain ⟨seen, _, _, _, _, _, _, stored⟩ := ttiApply_stores (d := s.dev) (p := c.hIdx) (tx := slice b 0 64) (ex := slice b 64 64)
        (mode := field b 128 1) (act := field b 129 1 == 1)
      refine ⟨?_, ?_, ?_, ?_, fun hr hoff hon hh => ?_⟩
      · rw [stored]; rfl
      · rw [stored]; rfl
      · rw [stored]; rfl
      · rw [stored]; rfl
      · rw [show (field b 129 1 == 1) = true from hon]
        exact ttiApply_protDown hr hoff hh
  · intro s src c h
    refine replies_of_handler (f := frmSetActions) rfl h ?_
    simp [frmSetActions, State.refusal, or_assoc]

end Sys2Proof
end

section
/-! PROOFS. O9: the measurements of a port and the commands that read its status, its defects and its bins. -/

namespace Sys2Proof.Machine
open Sys2Proof

/-! ### Integers in bytes (R10) -/

@[simp] theorem le_length (w n : Nat) : (le w n).length = w := by
  induction w generalizing n with
  | zero => rfl
  | succ w ih => simp [le, ih]

@[simp] theorem leInt_length (w : Nat) (i : Int) : (leInt w i).length = w := le_length ..

/-- Reading bytes back gives the number modulo what they can hold. -/
theorem unLe_le (w n : Nat) : unLe (le w n) = n % 256 ^ w := by
  induction w generalizing n with
  | zero => simp [le, unLe, Nat.mod_one]
  | succ w ih =>
    simp only [le, unLe, ih, BitVec.toNat_ofNat]
    rw [show 256 ^ (w + 1) = 256 * 256 ^ w from Nat.pow_succ', Nat.mod_mul]

/-- The field at the place where a number was written. -/
theorem field_append {a r : Bytes} {off w : Nat} (n : Nat) (h : a.length = off) : field (a ++ (le w n ++ r)) off w = n % 256 ^ w := by
  subst h
  simp [field, slice, unLe_le]

namespace Dev

/-! ### LANE_MEASURE (R59, Table 2.11) -/

/-- The place of a reflection in a record. -/
def reflField (mode v : Nat) (r : Option (Nat × Int)) : Bytes :=
  match r with
  | some r => le 2 (reflDist mode v r.1) ++ leInt 2 r.2
  | none => le 2 0xFFFF ++ le 2 0

theorem reflField_length (mode v : Nat) (r : Option (Nat × Int)) : (reflField mode v r).length = 4 := by
  cases r <;> simp [reflField]

theorem measureRecord_length (lane mode v : Nat) (m : LaneMeas) : (measureRecord lane mode v m).length = 64 := by
  have fields : measureRecord lane mode v m = le 2 lane ++ le 2 (min m.il 500) ++
      ((List.range 4).map fun k => reflField mode v (strongest m.refl)[k]?).flatten ++ le 2 m.snr ++ List.replicate 42 0 := rfl
  simp [fields, Function.comp_def, reflField_length]

/-- The record of the lane of index `k` of a port, from the values measured. -/
def laneRecord (ms : List LaneMeas) (p mode v k : Nat) : Bytes :=
  match ms[k]? with
  | some m => measureRecord (p + k) mode v m
  | none => []

theorem laneRecord_length {ms : List LaneMeas} {k : Nat} (p mode v : Nat) (h : k < ms.length) : (laneRecord ms p mode v k).length = 64 := by
  rw [laneRecord, List.getElem?_eq_getElem h]
  exact measureRecord_length ..

/-- With a value for each lane the measurement completes, with a record of 64 bytes for each. -/
theorem laneMeasureDone_completes {d : Dev} {p : Nat} {ms : List LaneMeas} {c : Cmd}
    (hc : d.startedCmd 0x0105 (·.handle == portHandle p) = some c) (hm : ms.length = (d.getPort p).width) :
    ∃ b : Bytes, laneMeasureDone p ms d = d.complete c { record := some b } ∧ b.length = 64 * ms.length := by
  refine ⟨(List.range (d.getPort p).width).flatMap (laneRecord ms p (portMode (d.getPort p)) (c.f 0 1)), ?_, ?_⟩
  · simp only [laneMeasureDone, hc, if_pos hm]; rfl
  · have sizes : ∀ k ∈ List.range (d.getPort p).width, (laneRecord ms p (portMode (d.getPort p)) (c.f 0 1) k).length = 64 :=
      fun k hk => laneRecord_length _ _ _ (by rw [hm]; exact List.mem_range.1 hk)
    rw [List.length_flatMap, List.map_congr_left sizes]
    simp [hm, Nat.mul_comm]

/-! ### PORT_MEASURE_RTT (R60) -/

/-- The requests of the exchanges of a RUNNING port go out, unless the device has tripped. -/
theorem emit_ptp_count {d : Dev} {p : Nat} (ht : d.pwr.trip = false) (hs : (d.getPort p).obj.st = .running) (ks : List Nat) :
    (ks.foldl (fun (x : Dev) (k : Nat) => x.emit (.ptp p 2 [0, k, 0])) d).out.length = d.out.length + ks.length := by
  induction ks generalizing d with
  | nil => rfl
  | cons k ks ih =>
    rw [List.foldl_cons, ih (by simpa using ht) (by simpa using hs), emit_out ht (txOff_of_running (p := p) rfl hs)]
    simp only [List.length_cons]; omega

/-- The measurement of a port under way, its requests sent. -/
def rttSent (c : Cmd) (d : Dev) : Dev :=
  (List.range (rttCount c)).foldl (fun (x : Dev) (k : Nat) => x.emit (.ptp c.hIdx 2 [0, k, 0]))
    (d.modPort c.hIdx fun q => { q with rttAt := some d.now })

theorem rttSent_port (c : Cmd) (d : Dev) : (rttSent c d).getPort c.hIdx = { d.getPort c.hIdx with rttAt := some d.now } := by
  unfold rttSent
  rw [foldl_keeps_part (·.getPort c.hIdx) _ fun x k => getPort_emit .., getPort_modPort_same]

theorem rttSent_out (c : Cmd) (d : Dev) (hs : (d.getPort c.hIdx).obj.st = .running) (ht : d.pwr.trip = false) :
    (rttSent c d).out.length = d.out.length + rttCount c := by
  unfold rttSent
  rw [emit_ptp_count (by simpa using ht) (by simpa using hs), List.length_range, modPort_out]

theorem portMeasureRtt_eq (c : Cmd) (d : Dev) : portMeasureRtt c d =
    if c.bad 1 then .done d { status := .badHandle }
    else if (c.f 0 2 ≠ 0 ∧ (c.f 0 2 < 16 ∨ 256 < c.f 0 2)) ∨ c.dirty 2 30 = true then .done d { status := .badArg }
    else if (d.getPort c.hIdx).obj.st ≠ .running then .done d { status := .notReady }
    else if d.measuring c.hIdx then .done d { status := .refusedBusy }
    else .pend (rttSent c d) := by
  simp [portMeasureRtt, rttSent]

/-! ### PM_GET_BINS (R98, Table 3.12) -/

theorem binRecord_length (p : Nat) (day : Bool) (q : Port) (b : Bin) : (binRecord p day q b).length = 64 := by simp [binRecord]

/-- The bins that PM_GET_BINS selects, the newest first. -/
def binsAsked (c : Cmd) (q : Port) : List Bin :=
  let bins := if c.f 0 1 == 1 then q.binsDay else q.bins15
  (if c.f 4 4 = 0 then bins else bins.filter fun b => decide (b.seq ≤ c.f 4 4)).take (c.f 1 1)

theorem binsAsked_length (c : Cmd) (q : Port) : (binsAsked c q).length ≤ c.f 1 1 := List.length_take_le ..

theorem pmGetBins_eq (c : Cmd) (d : Dev) : pmGetBins c d =
    if c.bad 1 then .done d { status := .badHandle }
    else if 1 < c.f 0 1 ∨ c.f 1 1 = 0 ∨ (if c.f 0 1 = 1 then 3 else 33) < c.f 1 1 ∨ c.dirty 2 2 = true ∨ c.dirty 8 24 = true then
      .done d { status := .badArg }
    else .done d { result := (binsAsked c (d.getPort c.hIdx)).length
                   record := some ((binsAsked c (d.getPort c.hIdx)).flatMap (binRecord c.hIdx (c.f 0 1 == 1) (d.getPort c.hIdx))) } := by
  simp [pmGetBins, binsAsked, or_assoc]

/-! ### FRM_GET_DEFECTS (R97, Table 3.10) -/

/-- The record of FRM_GET_DEFECTS. -/
def defectRecord (p : Nat) (d : Dev) : Bytes :=
  le 2 p ++ le 1 (b2n (d.getPort p).otucn) ++ le 1 0 ++ le 4 (d.defectWords p).1 ++ le 4 (d.defectWords p).2 ++ le 4 0 ++
    (if (d.getPort p).otucn then slice (d.getPort p).accTti 0 64 else List.replicate 64 0)

theorem defectRecord_fields (p : Nat) (d : Dev) : field (defectRecord p d) 0 2 = p % 65536 ∧
    field (defectRecord p d) 4 4 = (d.defectWords p).1 % 2 ^ 32 ∧ field (defectRecord p d) 8 4 = (d.defectWords p).2 % 2 ^ 32 := by
  rw [show 2 ^ 32 = 256 ^ 4 from rfl]
  refine ⟨?_, ?_, ?_⟩
  · simp only [defectRecord, List.append_assoc]
    exact field_append (a := []) (w := 2) p rfl
  · have := field_append (a := le 2 p ++ le 1 (b2n (d.getPort p).otucn) ++ le 1 0) (off := 4) (w := 4) (d.defectWords p).1 (by simp)
      (r := le 4 (d.defectWords p).2 ++ (le 4 0 ++ (if (d.getPort p).otucn then slice (d.getPort p).accTti 0 64 else List.replicate 64 0)))
    simpa only [defectRecord, List.append_assoc] using this
  · have := field_append (a := le 2 p ++ le 1 (b2n (d.getPort p).otucn) ++ le 1 0 ++ le 4 (d.defectWords p).1) (off := 8) (w := 4)
      (d.defectWords p).2 (by simp)
      (r := le 4 0 ++ (if (d.getPort p).otucn then slice (d.getPort p).accTti 0 64 else List.replicate 64 0))
    simpa only [defectRecord, List.append_assoc] using this

end Dev
end Sys2Proof.Machine

namespace Sys2Proof
open Sys2Proof.Machine Sys2Proof.Machine.Dev

/-- Settles O9: what each handler answers and when each measurement completes, given above. -/
theorem portReadingRowsComplete : Obligations.PortReadingRowsComplete := by
  refine ⟨?_, ?_, ?_, ?_, ?_, ?_, ?_, ?_⟩
  · intro s src c h
    exact ⟨_, replies_of_handler (f := portGetStatus) rfl h (check_cons ..), rfl⟩
  · intro s src c h
    refine replies_of_handler (f := laneMeasure) rfl h ?_
    simp [laneMeasure, State.refusal]
  · intro s src c h
    refine ⟨rttSent c s.dev, replies_of_handler (f := portMeasureRtt) rfl h (portMeasureRtt_eq c s.dev), ?_, rttSent_out c s.dev⟩
    rw [rttSent_port]
  · intro s p ms
    refine onDev_devStep rfl ?_
    split
    next hc => simp [laneMeasureDone, hc]
    next c hc =>
      split
      next hm => exact laneMeasureDone_completes hc hm
      next hm => simp [laneMeasureDone, hc, hm]
  · intro s p rtts
    refine onDev_devStep rfl ?_
    split
    next hc => simp [rttMeasureDone, hc]
    next c hc => simp [rttMeasureDone, hc]
    next c r rs hc =>
      simp only [rttMeasureDone, hc]
      rw [ite_not]
  · intro s src c h
    refine ⟨defectRecord c.hIdx s.dev, replies_of_handler (f := frmGetDefects) rfl h ?_, defectRecord_fields c.hIdx s.dev⟩
    exact check_cons ..
  · intro s src c h
    refine ⟨(binsAsked c (s.dev.getPort c.hIdx)).length, _, binsAsked_length .., ?_,
      replies_of_handler (f := pmGetBins) rfl h (pmGetBins_eq c s.dev)⟩
    simp [List.length_flatMap, binRecord_length, Nat.mul_comm]
  · intro s src c h
    refine replies_of_handler (f := pmSetTca) rfl h ?_
    simp [pmSetTca, State.refusal, or_assoc]

end Sys2Proof
end

section
/-! PROOFS. O12: a port's defects, its protection switch and its bins. Each row's operation on the device has a lemma for what it does to the
port, from lemmas about the operations that it goes through. -/

namespace Sys2Proof.Machine
open Sys2Proof

namespace Dev

/-! ### Defects (R79, R82, R83) -/

theorem Released.raw_obj {a b : Port} (h : Released a b) : b.raw = a.raw ∧ b.obj = a.obj := by
  obtain ⟨_, _, _, _, _, rfl⟩ := h; exact ⟨rfl, rfl⟩

theorem Switched.raw_obj {a b : Port} (h : Switched a b) : b.raw = a.raw ∧ b.obj = a.obj := by
  obtain ⟨_, _, _, _, _, _, rfl⟩ := h; exact ⟨rfl, rfl⟩

/-- Declaring what is reported changes of the port the declared defects alone. -/
theorem declareReported_port (p : Nat) (d : Dev) : ∃ w, (d.declareReported p).getPort p = { d.getPort p with declared := w } := by
  have rest : { (d.declareReported p).getPort p with declared := 0 } = { d.getPort p with declared := 0 } :=
    foldl_keeps_part (fun e => { e.getPort p with declared := 0 }) _ (fun e b => by dsimp only; split <;> simp) _ _
  exact ⟨_, congrArg (fun q : Port => { q with declared := ((d.declareReported p).getPort p).declared }) rest⟩

theorem switchOn_link (p b : Nat) (d : Dev) : ((d.switchOn p b).getPort p).link = (d.getPort p).link := by
  simp only [switchOn]; (repeat' split)
  · rfl
  · simp
  · obtain ⟨t, h⟩ := getPort_protect (d.setPort p { d.getPort p with wtrDue := none }) p b
    rw [h]; simp
  · simp

theorem switchOff_switched (p : Nat) (was : Bool) (d : Dev) : Switched (d.getPort p) ((d.switchOff p was).getPort p) := by
  simp only [switchOff]; split
  · exact ⟨_, _, _, _, _, _, by rw [getPort_modPort_same, getPort_setPort_same]⟩
  · exact ⟨_, _, _, _, _, _, by rw [getPort_setPort_same]⟩

/-- LOS, LOF and loss of alignment take the link down (R82). -/
def takesLinkDown (x : Defect) : Bool := defectBit x = 0 || defectBit x = 1 || defectBit x = 6

theorem takesLinkDown_iff (x : Defect) : takesLinkDown x = true ↔ x = .los ∨ x = .lof ∨ x = .loa := by
  cases x <;> simp [takesLinkDown, defectBit]

/-- The raw defects of a port with one more. -/
def rawWith (q : Port) (x : Defect) : BitVec 9 := q.raw ||| BitVec.ofNat 9 (2 ^ defectBit x)

/-- A port in which a new defect is noted at time `now`. -/
def portWith (now : Nat) (q : Port) (x : Defect) : Port :=
  { q with
    raw := rawWith q x, secRaw := q.secRaw ||| counted { q with raw := rawWith q x }
    persistDue := if cutting (rawWith q x) && !cutting q.raw then some (now + msT 1) else q.persistDue }

/-- The device once a new defect is noted in the port and the link, before the protection switch acts. -/
def defectNoted (p : Nat) (x : Defect) (d : Dev) : Dev :=
  let noted := (d.setPort p (portWith d.now (d.getPort p) x)).declareReported p
  if takesLinkDown x then noted.linkDown p 0 else noted

theorem defectDeclare_eq (p : Nat) (x : Defect) (d : Dev) : defectDeclare p x d =
    if (d.getPort p).obj.st = .running ∧ (d.getPort p).raw.getLsbD (defectBit x) = false ∧ d.defectEntry p x = true then
      ((defectNoted p x d).switchOn p (defectBit x)).emit (.lineSignal p (sentFault { d.getPort p with raw := rawWith (d.getPort p) x }))
    else d := by
  rw [← ite_not]
  exact if_congr (by simp [imp_iff_not_or, or_assoc]) rfl rfl

/-- What the protection switch finds in a port with a new defect. -/
theorem defectNoted_port (p : Nat) (x : Defect) (d : Dev) :
    ((defectNoted p x d).getPort p).raw = rawWith (d.getPort p) x ∧
    ((defectNoted p x d).getPort p).timAction = (d.getPort p).timAction ∧
    ((defectNoted p x d).getPort p).holdoffMs = (d.getPort p).holdoffMs ∧
    (takesLinkDown x = true → ((defectNoted p x d).getPort p).link = .down) := by
  obtain ⟨w, h⟩ := declareReported_port p (d.setPort p (portWith d.now (d.getPort p) x))
  rw [getPort_setPort_same] at h
  simp only [defectNoted]; split
  next => rw [getPort_linkDown, h]; exact ⟨rfl, rfl, rfl, fun _ => rfl⟩
  next hx => rw [h]; exact ⟨rfl, rfl, rfl, fun hy => absurd hy hx⟩

/-- The raw defects of a port with one less. -/
def rawWithout (q : Port) (x : Defect) : BitVec 9 := q.raw &&& ~~~(BitVec.ofNat 9 (2 ^ defectBit x))

/-- A port from which a defect has gone. -/
def portWithout (q : Port) (x : Defect) : Port :=
  { q with
    raw := rawWithout q x, declared := q.declared &&& ~~~(BitVec.ofNat 9 (2 ^ defectBit x))
    persistDue := if cutting (rawWithout q x) then q.persistDue else none
    lfCols := if defectBit x = 7 then [] else q.lfCols, rfCols := if defectBit x = 8 then [] else q.rfCols }

/-- The device once a defect has gone from the port and its end is reported, before the protection switch and the link act. -/
def defectGone (p : Nat) (x : Defect) (d : Dev) : Dev :=
  let q := d.getPort p
  let b := defectBit x
  let gone := d.setPort p (portWithout q x)
  ((if q.declared.getLsbD b then
      gone.raisePort p 0x0107 (defectSev q b) [fByte b, fByte 1, .u 4 (reported (portWithout q x)).toNat]
    else gone).declareReported p).emit (.lineSignal p (sentFault (portWithout q x)))

theorem defectClear_eq (p : Nat) (x : Defect) (d : Dev) : defectClear p x d =
    if (d.getPort p).obj.st = .running ∧ (d.getPort p).raw.getLsbD (defectBit x) = true ∧ d.defectExit p x = true then
      (((defectGone p x d).switchOff p (switching (d.getPort p))).tryLinkUp p).firstRelease p
    else d := by
  rw [← ite_not]
  exact if_congr (by simp [imp_iff_not_or, or_assoc]) rfl rfl

theorem defectGone_raw_obj (p : Nat) (x : Defect) (d : Dev) :
    ((defectGone p x d).getPort p).raw = rawWithout (d.getPort p) x ∧ ((defectGone p x d).getPort p).obj = (d.getPort p).obj := by
  rw [defectGone, getPort_emit]
  obtain ⟨w, h⟩ := declareReported_port p _
  rw [h]
  split <;> simp [portWithout]

/-- What the protection switch and the link do once a defect has gone leaves the raw defects and the object state. -/
theorem settled_raw_obj (p : Nat) (was : Bool) (d : Dev) :
    ((((d.switchOff p was).tryLinkUp p).firstRelease p).getPort p).raw = (d.getPort p).raw ∧
    ((((d.switchOff p was).tryLinkUp p).firstRelease p).getPort p).obj = (d.getPort p).obj := by
  obtain ⟨rawOff, objOff⟩ := (switchOff_switched p was d).raw_obj
  obtain ⟨rawUp, objUp⟩ := (tryLinkUp_released (d.switchOff p was) p).raw_obj
  obtain ⟨rawFirst, objFirst⟩ := (firstRelease_released ((d.switchOff p was).tryLinkUp p) p).raw_obj
  exact ⟨rawFirst.trans (rawUp.trans rawOff), objFirst.trans (objUp.trans objOff)⟩

/-! ### The hold-off that has ended (R83, R84) -/

theorem holdoffExpiry_none {p : Nat} {d : Dev} (h : (d.getPort p).holdoffDue.find? (fun x => decide (x.2 ≤ d.now)) = none) :
    holdoffExpiry p d = d := by
  simp only [holdoffExpiry, h]

theorem holdoffExpiry_some {p : Nat} {d : Dev} {x : Nat × Nat}
    (h : (d.getPort p).holdoffDue.find? (fun x => decide (x.2 ≤ d.now)) = some x) : holdoffExpiry p d =
      (d.setPort p { d.getPort p with
        holdoffDue := if (d.getPort p).protDown then (d.getPort p).holdoffDue.filter (· != x) else [] }).protect p x.1 := by
  simp only [holdoffExpiry, h]

/-! ### The second that has ended (R87, R88) -/

/-- How many seconds each 15-minute bin of a port has counted. -/
def durations15 (q : Port) : List Nat := q.bins15.map (·.duration)

theorem durations15_onSec (q : Port) (s : PmSec) {f : Bin → Bin} (h : ∀ b, (f b).duration = b.duration) :
    durations15 (onSec q s f) = durations15 q := by
  simp [durations15, onSec, Function.comp_def, apply_ite Bin.duration, h]

theorem durations15_foldl_onSec {f : PmSec → Bin → Bin} (h : ∀ t b, (f t b).duration = b.duration) (ts : List PmSec) (q : Port) :
    durations15 (ts.foldl (fun r t => onSec r t (f t)) q) = durations15 q := by
  induction ts generalizing q with
  | nil => rfl
  | cons t ts ih => rw [List.foldl_cons, ih, durations15_onSec _ _ (h t)]

@[simp] theorem binCount_duration (far n s b) : (binCount far n s b).duration = b.duration := by cases far <;> rfl
@[simp] theorem binUas_duration (far n b) : (binUas far n b).duration = b.duration := by cases far <;> rfl

/-- What an end counts of a second is not the second itself. -/
theorem durations15_endSecond (far : Bool) (e : PmEnd) (s : PmSec) (q : Port) : durations15 (endSecond far e s q).2 = durations15 q := by
  have uas : durations15 (onSec q s (binUas far 1)) = durations15 q := durations15_onSec q s (by simp)
  have count : durations15 (onSec q s (binCount far 1 s)) = durations15 q := durations15_onSec q s (by simp)
  simp only [endSecond]; (repeat' split)
  · exact uas
  · exact (durations15_foldl_onSec (by simp) _ _).trans uas
  · exact uas
  · exact (durations15_foldl_onSec (by simp) _ _).trans count
  · exact count
  · exact count

/-- The threshold check only reads the bins (R93). -/
@[simp] theorem tcaCheck_bins15 (p : Nat) (day : Bool) (d : Dev) : ((d.tcaCheck p day).getPort p).bins15 = (d.getPort p).bins15 := by
  simp only [tcaCheck]; split
  · rfl
  · rw [foldl_keeps_part (fun e => (e.getPort p).bins15) _ fun e k => by simp]
    rw [getPort_setPort_same]; split <;> rfl

/-- A whole second in which the port was RUNNING counts in the bin it belongs to (R87, R91). -/
theorem closeSecond_duration {p : Nat} {d : Dev} {b : Bin} {r : List Bin} (hrun : (d.getPort p).secRun = true)
    (hpart : (d.getPort p).secPart = false) (hb : (d.getPort p).bins15 = b :: r) (hseq : b.seq = (d.getPort p).secSeq15) :
    ((d.closeSecond p).getPort p).bins15.head?.map (·.duration) = some (b.duration + 1) := by
  have counted : durations15 ((d.closeSecond p).getPort p) =
      durations15 (onSec (d.getPort p) (classify (d.getPort p)).1 fun b => { b with duration := b.duration + 1 }) := by
    simp only [closeSecond, hrun, hpart]
    simp only [Bool.not_true, Bool.or_false, Bool.false_eq_true, if_false]
    rw [durations15, tcaCheck_bins15, tcaCheck_bins15, getPort_setPort_same]
    exact (durations15_endSecond ..).trans (durations15_endSecond ..)
  rw [← List.head?_map, show List.map _ _ = _ from counted]
  simp [durations15, onSec, hb, hseq, classify]

/-! ### The bins at a boundary (R89, R90) -/

@[simp] theorem pmSeq_setPmSeq_same (d day n) : (setPmSeq d day n).pmSeq day = n % 2 ^ 32 := by cases day <;> rfl
@[simp] theorem pmSeq_setPmSeq_other (d day n) : (setPmSeq d day n).pmSeq (!day) = d.pmSeq (!day) := by cases day <;> rfl
@[simp] theorem setPmSeq_out (d day n) : (setPmSeq d day n).out = d.out := by cases day <;> rfl

/-- The bins of a type, the current one first. -/
def binsOf (day : Bool) (q : Port) : List Bin := if day then q.binsDay else q.bins15

/-- The start of the current bin of a type, from which a boundary is told. -/
def binStart (day : Bool) (d : Dev) : Int :=
  match binsOf day (d.getPort 0) with | b :: _ => b.start | [] => 0

theorem pmBinClose_keeps {day : Bool} {d : Dev} (h : ¬ binStart day d / binLen day < d.utcNow / binLen day) : pmBinClose day d = d := if_neg h

/-- At a boundary the bins of the type close; no event and no frame goes out, and the other type's bins go on. -/
theorem pmBinClose_closes {day : Bool} {d : Dev} (h : binStart day d / binLen day < d.utcNow / binLen day) :
    (pmBinClose day d).pmSeq day = (d.pmSeq day + 1) % 2 ^ 32 ∧ (pmBinClose day d).pmSeq (!day) = d.pmSeq (!day) ∧
    (pmBinClose day d).out = d.out := by
  let e := d.setPmSeq day ((d.pmSeq day + 1) % 2 ^ 32)
  obtain ⟨f, hf⟩ : ∃ f : Port → Port, pmBinClose day d = (List.range 256).foldl (fun x p => x.modPort p f) e := ⟨_, if_pos h⟩
  have keeps {β : Type} (g : Dev → β) (hg : ∀ x p, g (modPort x p f) = g x) : g (pmBinClose day d) = g e :=
    hf ▸ foldl_keeps_part g _ hg _ e
  refine ⟨?_, ?_, ?_⟩
  · rw [keeps (·.pmSeq day) fun _ _ => rfl, pmSeq_setPmSeq_same, Nat.mod_mod]
  · rw [keeps (·.pmSeq (!day)) fun _ _ => rfl, pmSeq_setPmSeq_other]
  · rw [keeps Dev.out fun _ _ => rfl, setPmSeq_out]

/-- The bins once it is second `t`: 10 s after the current one opened the closed ones are final. -/
def finalBins (t : Int) : List Bin → List Bin
  | b :: r => if b.start + 10 ≤ t then b :: r.map fun x => { x with flags := putBit x.flags 5 false } else b :: r
  | [] => []

/-- A port whose bins of a type are brought up to second `t`. -/
def finalPort (t : Int) (day : Bool) (q : Port) : Port :=
  if day then { q with binsDay := finalBins t q.binsDay } else { q with bins15 := finalBins t q.bins15 }

theorem pmBinFinal_eq (p : Nat) (day : Bool) (d : Dev) : pmBinFinal p day d = d.modPort p (finalPort d.utcNow day) := rfl

theorem binsOf_finalPort (t : Int) (day : Bool) (q : Port) : binsOf day (finalPort t day q) = finalBins t (binsOf day q) := by
  cases day <;> rfl

end Dev
end Sys2Proof.Machine

namespace Sys2Proof
open Sys2Proof.Machine Sys2Proof.Machine.Dev

/-- Settles O12: what each row's operation does to the port and its bins, given above. -/
theorem defectRowsComplete : Obligations.DefectRowsComplete := by
  refine ⟨?_, ?_, ?_, ?_, ?_, ?_, ?_, ?_⟩
  · intro s p x
    refine onDev_devStep rfl ?_
    obtain ⟨raw, tim, hold, link⟩ := defectNoted_port p x s.dev
    rw [defectDeclare_eq]; dsimp only; split
    next =>
      rw [getPort_emit]
      refine ⟨(switchOn_switched ..).raw_obj.1.trans raw, fun hm hh => ?_, fun hx => ?_⟩
      · exact switchOn_protDown (by rwa [switchMask, tim]) (hold.trans hh)
      · rw [switchOn_link, link ((takesLinkDown_iff x).2 hx)]
    next => rfl
  · intro s p x
    refine onDev_devStep rfl ?_
    rw [defectClear_eq]; dsimp only; split
    next =>
      obtain ⟨raw, obj⟩ := settled_raw_obj p (switching (s.dev.getPort p)) (defectGone p x s.dev)
      obtain ⟨rawGone, objGone⟩ := defectGone_raw_obj p x s.dev
      exact ⟨raw.trans rawGone, obj.trans objGone⟩
    next => rfl
  · intro s p
    exact onDev_devStep rfl (if_congr (by simp [and_assoc]) rfl rfl)
  · intro s p
    refine onDev_devStep rfl ?_
    dsimp only; split
    next hnone => exact holdoffExpiry_none hnone
    next x hsome =>
      rw [holdoffExpiry_some hsome]
      exact ⟨protect_protDown .., fun hq => by simp [hq]⟩
  · intro s p
    exact onDev_devStep rfl (if_congr (by simp [and_assoc]) rfl rfl)
  · intro s p
    refine onDev_devStep rfl ?_
    simp only [pmSecond]; split
    next =>
      refine ⟨⟨newSecond s.dev, fun r => ⟨rfl, rfl, rfl, rfl, rfl, rfl⟩, rfl⟩, fun b r hs hrun hpart hb hseq => ?_⟩
      rw [if_pos hs, getPort_modPort_same]
      exact closeSecond_duration hrun hpart hb hseq
    next => rfl
  · intro s day
    refine onDev_devStep rfl ?_
    show if binStart day s.dev / binLen day < s.dev.utcNow / binLen day then _ else _
    split
    next h => exact pmBinClose_closes h
    next h => exact pmBinClose_keeps h
  · intro s p day
    refine onDev_devStep rfl ⟨_, pmBinFinal_eq .., fun q b r hb => ?_⟩
    exact (binsOf_finalPort s.dev.utcNow day q).trans (congrArg (finalBins s.dev.utcNow) hb)

end Sys2Proof
end

section
/-! PROOFS. O58: a row of the lookup tables, the next hops or the counter readings leaves everything beside them as it was. What it may write is
blanked out by `Dev.besideLookup`; no operation of the tables and groups changes the rest, so each has one lemma `f_besideLookup`, in the order
of the model's files. -/

namespace Sys2Proof.Machine
open Sys2Proof

namespace Dev

/-- The device with all blanked out that a row of the lookup tables, the next hops or the counter readings may change: the trace, the interface,
the events, the ports, the tables and groups, the pipelines, the counter store, the queues, HBM, power, the policer words, the FC messages
that wait and the undo journal. -/
def besideLookup (d : Dev) : Dev :=
  { d with
    fresh := 0, out := [], hif := {}, evt := {}, port := [], fwd := {}, pipe := [], cnt := [], qs := {}, hbm := {}, pwr := {}
    sch := { d.sch with pol := [] }, fab := { d.fab with fcq := [] }, tri := { d.tri with journal := [] } }

@[simp] theorem foldl_besideLookup {α : Type} (f : Dev → α → Dev) (h : ∀ d x, (f d x).besideLookup = d.besideLookup) (l : List α) (d : Dev) :
    (l.foldl f d).besideLookup = d.besideLookup := foldl_keeps_part besideLookup f h l d

@[simp] theorem ite_besideLookup (p : Prop) [Decidable p] (a b : Dev) :
    (if p then a else b).besideLookup = if p then a.besideLookup else b.besideLookup := apply_ite _ _ _ _

/-- A handler that starts with tests keeps what its work keeps. -/
theorem check_besideLookup {d : Dev} {l : List (Bool × Status)} {go : Reply} (h : go.dev.besideLookup = d.besideLookup) :
    (d.check l go).dev.besideLookup = d.besideLookup := by
  unfold check; split
  · rfl
  · exact h

/-! ### The parts such a row may write -/

@[simp] theorem besideLookup_hif (d : Dev) (h : Hif) : { d with hif := h }.besideLookup = d.besideLookup := rfl
@[simp] theorem besideLookup_fwd (d : Dev) (f : Fwd) : { d with fwd := f }.besideLookup = d.besideLookup := rfl
@[simp] theorem besideLookup_cnt (d : Dev) (t : Tab Pair) : { d with cnt := t }.besideLookup = d.besideLookup := rfl
@[simp] theorem setFwd_besideLookup (d f) : (setFwd d f).besideLookup = d.besideLookup := rfl
@[simp] theorem setPort_besideLookup (d p q) : (setPort d p q).besideLookup = d.besideLookup := rfl
@[simp] theorem openVal_besideLookup (d) : (openVal d).2.besideLookup = d.besideLookup := rfl
@[simp] theorem noteWrite_besideLookup (k w d) : (noteWrite k w d).besideLookup = d.besideLookup := rfl

/-! ### Operations every part shares -/

@[simp] theorem emit_besideLookup (d e) : (emit d e).besideLookup = d.besideLookup := by
  obtain ⟨_, h⟩ := emit_frame d e
  rw [h]; rfl

@[simp] theorem raise_besideLookup (d type sev subject detail) : (raise d type sev subject detail).besideLookup = d.besideLookup := by
  obtain ⟨_, _, _, h⟩ := raise_frame d type sev subject detail
  rw [h]; rfl

@[simp] theorem raiseCounted_besideLookup (d type sev key subject countAt detail) :
    (raiseCounted d type sev key subject countAt detail).besideLookup = d.besideLookup := by
  obtain ⟨_, _, _, h⟩ := raiseCounted_frame d type sev key subject countAt detail
  rw [h]; rfl

@[simp] theorem setCause_besideLookup (d i) : (setCause d i).besideLookup = d.besideLookup := by
  obtain ⟨_, _, h⟩ := setCause_frame d i
  rw [h]; rfl

@[simp] theorem sendFc_besideLookup (d dev kind body link) : (sendFc d dev kind body link).besideLookup = d.besideLookup := by
  unfold sendFc; split <;> rfl

@[simp] theorem dropCmd_besideLookup (d k) : (dropCmd d k).besideLookup = d.besideLookup := rfl

@[simp] theorem completeNow_besideLookup (d c r) : (completeNow d c r).besideLookup = d.besideLookup := by
  fun_cases completeNow <;> grind [dropCmd_besideLookup, emit_besideLookup, setCause_besideLookup, besideLookup_hif]

@[simp] theorem complete_besideLookup (d c r) : (complete d c r).besideLookup = d.besideLookup := by simp [complete]
@[simp] theorem startCmd_besideLookup (d k) : (startCmd d k).besideLookup = d.besideLookup := rfl
@[simp] theorem settle_besideLookup (c : Cmd) (r : Reply) : (settle c r).besideLookup = r.dev.besideLookup := by cases r <;> simp [settle]

theorem runCmd_besideLookup (op : Nat) (src : Src) (h : Cmd → Dev → Reply) (k : ∀ c d, (h c d).dev.besideLookup = d.besideLookup) (d : Dev) :
    (runCmd op src h d).besideLookup = d.besideLookup := by
  unfold runCmd; split
  · rfl
  · split <;> simp [k]

@[simp] theorem announcePort_besideLookup (d p down) : (announcePort d p down).besideLookup = d.besideLookup := by
  simp [announcePort, sendFcAll]

@[simp] theorem liveCheck_besideLookup (d) : (liveCheck d).besideLookup = d.besideLookup := by simp [liveCheck]
@[simp] theorem raisePort_besideLookup (d p type sev detail) : (raisePort d p type sev detail).besideLookup = d.besideLookup := by
  simp [raisePort]
@[simp] theorem protect_besideLookup (d p cause) : (protect d p cause).besideLookup = d.besideLookup := by simp [protect]
@[simp] theorem unprotect_besideLookup (d p) : (unprotect d p).besideLookup = d.besideLookup := by simp [unprotect]

@[simp] theorem setPoison_besideLookup (g on d) : (setPoison g on d).besideLookup = d.besideLookup := rfl

@[simp] theorem clearPoison_besideLookup (a n d) : (clearPoison a n d).besideLookup = d.besideLookup := by
  unfold clearPoison; split
  · exact foldl_besideLookup _ (fun x k => setPoison_besideLookup ..) _ _
  · rfl

@[simp] theorem writeCopies_besideLookup (c n d) : (writeCopies c n d).besideLookup = d.besideLookup := by simp [writeCopies]

/-! ### Entries of the tables -/

@[simp] theorem setTbl_besideLookup (d f) : (setTbl d f).besideLookup = d.besideLookup := rfl
@[simp] theorem setEm_besideLookup (d isExt i t) : (setEm d isExt i t).besideLookup = d.besideLookup := rfl
@[simp] theorem modAcl_besideLookup (d i f) : (modAcl d i f).besideLookup = d.besideLookup := rfl

@[simp] theorem nearFullCheck_besideLookup (h was usedN cap d) : (nearFullCheck h was usedN cap d).2.besideLookup = d.besideLookup := by
  fun_cases nearFullCheck <;> simp

@[simp] theorem emNear_besideLookup (isExt i d) : (emNear isExt i d).besideLookup = d.besideLookup := by unfold emNear; split <;> simp
@[simp] theorem lpmNear_besideLookup (d) : (lpmNear d).besideLookup = d.besideLookup := by simp [lpmNear]
@[simp] theorem tcamNear_besideLookup (i d) : (tcamNear i d).besideLookup = d.besideLookup := by unfold tcamNear; split <;> simp
@[simp] theorem allNear_besideLookup (d) : (allNear d).besideLookup = d.besideLookup := by simp [allNear]

@[simp] theorem emInsert_besideLookup (isExt i e d) : (emInsert isExt i e d).2.besideLookup = d.besideLookup := by
  simp only [emInsert]; (repeat' split) <;> simp

@[simp] theorem extStored_besideLookup (isExt t j d) : (extStored isExt t j d).besideLookup = d.besideLookup := by simp [extStored]
@[simp] theorem extWrote_besideLookup (isExt i k d) : (extWrote isExt i k d).besideLookup = d.besideLookup := by fun_cases extWrote <;> simp
@[simp] theorem touchLines_besideLookup (d ls) : (touchLines d ls).besideLookup = d.besideLookup := setFwd_besideLookup d _

@[simp] theorem encapStored_besideLookup (add i big pin d) : (encapStored add i big pin d).besideLookup = d.besideLookup := by
  simp [encapStored]

@[simp] theorem modBatch_besideLookup (d f) : (modBatch d f).besideLookup = d.besideLookup := rfl

/-! ### Records of a batch -/

@[simp] theorem recLpm_besideLookup (add x d) : (recLpm add x d).d.besideLookup = d.besideLookup := by fun_cases recLpm <;> simp

@[simp] theorem recEm_besideLookup (isExt add i r d) : (recEm isExt add i r d).d.besideLookup = d.besideLookup := by
  fun_cases recEm <;>
    grind [!emInsert_besideLookup, extWrote_besideLookup, extStored_besideLookup, emNear_besideLookup, setEm_besideLookup]

@[simp] theorem recAcl_besideLookup (add i r d) : (recAcl add i r d).d.besideLookup = d.besideLookup := by fun_cases recAcl <;> simp
@[simp] theorem recEncap_besideLookup (add r d) : (recEncap add r d).d.besideLookup = d.besideLookup := by unfold recEncap; split <;> simp
@[simp] theorem recApply_besideLookup (d r) : (recApply d r).d.besideLookup = d.besideLookup := by fun_cases recApply <;> simp

@[simp] theorem recReserve_besideLookup (d r) : (recReserve d r).d.besideLookup = d.besideLookup := by
  fun_cases recReserve <;>
    grind [modBatch_besideLookup, lpmNear_besideLookup, !emInsert_besideLookup, tcamNear_besideLookup, setTbl_besideLookup]

@[simp] theorem recCommit_besideLookup (d r) : (recCommit d r).d.besideLookup = d.besideLookup := by fun_cases recCommit <;> simp

/-- Records keep what each of them keeps. -/
theorem runRecords_besideLookup (f : Dev → Bytes → RecRes) (h : ∀ d r, (f d r).d.besideLookup = d.besideLookup) (b : BatchRes) (l : List Bytes) :
    (runRecords f b l).d.besideLookup = b.d.besideLookup := by
  induction l generalizing b with
  | nil => rfl
  | cons r l ih =>
    simp only [runRecords]; split
    · rfl
    · rw [ih, h]

@[simp] theorem freeReserved_besideLookup (b d) : (freeReserved b d).besideLookup = d.besideLookup := by
  simp only [freeReserved, setTbl_besideLookup]
  exact foldl_besideLookup _ (fun x m => by grind [setEm_besideLookup]) _ _

@[simp] theorem releaseOld_besideLookup (d) : (releaseOld d).besideLookup = d.besideLookup := by simp [releaseOld]

/-! ### Rows of the tables -/

theorem tblBatchApply_besideLookup (pl c d) : (tblBatchApply pl c d).dev.besideLookup = d.besideLookup := by
  fun_cases tblBatchApply <;>
    grind [runRecords_besideLookup, !recApply_besideLookup, setFwd_besideLookup, !recReserve_besideLookup, noteWrite_besideLookup, Reply.dev]

@[simp] theorem batchCommit_besideLookup (d) : (batchCommit d).besideLookup = d.besideLookup := by
  fun_cases batchCommit <;>
    grind [runRecords_besideLookup, !recCommit_besideLookup, setFwd_besideLookup, freeReserved_besideLookup, allNear_besideLookup,
      complete_besideLookup]

theorem viewRelease_besideLookup (d) : (viewRelease d).besideLookup = d.besideLookup := by simp [viewRelease]
theorem tblCreate_besideLookup (c d) : (tblCreate c d).dev.besideLookup = d.besideLookup := check_besideLookup (by simp)
theorem tblDestroy_besideLookup (c d) : (tblDestroy c d).dev.besideLookup = d.besideLookup := check_besideLookup rfl
theorem tblRead_besideLookup (c d) : (tblRead c d).dev.besideLookup = d.besideLookup := check_besideLookup rfl
theorem vrfSet_besideLookup (c d) : (vrfSet c d).dev.besideLookup = d.besideLookup := check_besideLookup rfl
theorem tblSetProfile_besideLookup (c d) : (tblSetProfile c d).dev.besideLookup = d.besideLookup := check_besideLookup rfl
theorem tblSetExtRate_besideLookup (c d) : (tblSetExtRate c d).dev.besideLookup = d.besideLookup := check_besideLookup rfl

theorem tblSetAgeing_besideLookup (c d) : (tblSetAgeing c d).dev.besideLookup = d.besideLookup := by
  unfold tblSetAgeing; split
  · rfl
  · exact check_besideLookup rfl

theorem tblGetStatus_besideLookup (c d) : (tblGetStatus c d).dev.besideLookup = d.besideLookup := by
  simp only [tblGetStatus]; (repeat' split) <;> rfl

theorem learnApply_besideLookup (i d) : (learnApply i d).besideLookup = d.besideLookup := by
  simp only [learnApply]; (repeat' split) <;> simp

theorem ageingSweep_besideLookup (i d) : (ageingSweep i d).besideLookup = d.besideLookup := by unfold ageingSweep; split <;> simp
theorem tcamScrub_besideLookup (idx d) : (tcamScrub idx d).besideLookup = d.besideLookup := by unfold tcamScrub; split <;> simp

theorem shadowRebuild_besideLookup (x d) : (shadowRebuild x d).besideLookup = d.besideLookup := by
  unfold shadowRebuild; split
  · rfl
  · cases x with
    | encap i => dsimp only; split <;> simp
    | ext i j => dsimp only [ite_true]; split <;> simp
    | queueCfg q => exact writeCopies_besideLookup ..
    | _ => rfl

/-! ### Rows of the next hops, the groups and the counters -/

theorem nhSet_besideLookup (c d) : (nhSet c d).dev.besideLookup = d.besideLookup := check_besideLookup rfl

theorem ecmpSetGroup_besideLookup (pl c d) : (ecmpSetGroup pl c d).dev.besideLookup = d.besideLookup := by
  simp only [ecmpSetGroup]; split <;> exact check_besideLookup rfl

theorem ecmpSwitch_besideLookup (g d) : (ecmpSwitch g d).besideLookup = d.besideLookup := by
  simp only [ecmpSwitch]; (repeat' split) <;> simp

theorem ecmpRebalance_besideLookup (g d) : (ecmpRebalance g d).besideLookup = d.besideLookup := by unfold ecmpRebalance; split <;> simp
theorem frrForce_besideLookup (c d) : (frrForce c d).dev.besideLookup = d.besideLookup := check_besideLookup (by simp)

theorem dropGetCounters_besideLookup (c d) : (dropGetCounters c d).dev.besideLookup = d.besideLookup := by
  simp only [dropGetCounters]; split <;> exact check_besideLookup rfl

theorem cntRead_besideLookup (c d) : (cntRead c d).dev.besideLookup = d.besideLookup := check_besideLookup (by simp)

end Dev

namespace State

/-- `o` answers a next state that differs from `s` only in what a row of the lookup tables may change. -/
def OnLookup (s : State) (o : Out) : Prop := ∃ d, o = .next { s with dev := d } ∧ d.besideLookup = s.dev.besideLookup

theorem onLookup_onDev {s : State} {f : Dev → Dev} (h : (f s.dev).besideLookup = s.dev.besideLookup) : s.OnLookup (s.onDev f) := ⟨_, rfl, h⟩

theorem onLookup_runCmd {s : State} {op : Nat} {src : Src} {f : Cmd → Dev → Reply} (h : ∀ c d, (f c d).dev.besideLookup = d.besideLookup) :
    s.OnLookup (s.onDev (Dev.runCmd op src f)) := onLookup_onDev (Dev.runCmd_besideLookup op src f h s.dev)

/-- TBL_BATCH_APPLY does nothing while its batch waits. -/
theorem onLookup_tblBatchApply (s : State) (src : Src) (pl : HostRead) : s.OnLookup (execTblBatchApply src pl s) := by
  refine onLookup_onDev ?_
  split
  · rfl
  · exact Dev.runCmd_besideLookup _ _ _ (Dev.tblBatchApply_besideLookup pl) _

end State

open State Dev in
/-- Row by row: a command changes what its handler changes, every other row what its operation on the device does. -/
theorem exec_onLookup (s : State) (i : Instr) (h : i.lookupRow = true) : s.OnLookup (exec i s) := by
  cases i with
  | tblCreate => exact onLookup_runCmd tblCreate_besideLookup
  | tblDestroy => exact onLookup_runCmd tblDestroy_besideLookup
  | tblGetStatus => exact onLookup_runCmd tblGetStatus_besideLookup
  | tblRead => exact onLookup_runCmd tblRead_besideLookup
  | tblSetAgeing => exact onLookup_runCmd tblSetAgeing_besideLookup
  | vrfSet => exact onLookup_runCmd vrfSet_besideLookup
  | tblSetExtRate => exact onLookup_runCmd tblSetExtRate_besideLookup
  | tblSetProfile => exact onLookup_runCmd tblSetProfile_besideLookup
  | tblBatchApply => exact onLookup_tblBatchApply ..
  | batchCommit => exact onLookup_onDev (batchCommit_besideLookup _)
  | viewRelease => exact onLookup_onDev (viewRelease_besideLookup _)
  | learnRequestApply => exact onLookup_onDev (learnApply_besideLookup ..)
  | ageingSweep => exact onLookup_onDev (ageingSweep_besideLookup ..)
  | tcamScrub => exact onLookup_onDev (tcamScrub_besideLookup ..)
  | shadowRebuild => exact onLookup_onDev (shadowRebuild_besideLookup ..)
  | nhSet => exact onLookup_runCmd nhSet_besideLookup
  | ecmpSetGroup => exact onLookup_runCmd (ecmpSetGroup_besideLookup _)
  | ecmpGroupSwitch => exact onLookup_onDev (ecmpSwitch_besideLookup ..)
  | ecmpRebalance => exact onLookup_onDev (ecmpRebalance_besideLookup ..)
  | frrForce => exact onLookup_runCmd frrForce_besideLookup
  | dropGetCounters => exact onLookup_runCmd dropGetCounters_besideLookup
  | cntRead => exact onLookup_runCmd cntRead_besideLookup
  | _ => cases h

/-- What equal parts beside the lookups come to, part by part. -/
theorem Dev.parts_of_besideLookup {d e : Dev} (h : e.besideLookup = d.besideLookup) :
    e.lane = d.lane ∧ e.pmSeq15 = d.pmSeq15 ∧ e.pmSeqDay = d.pmSeqDay ∧ e.fids = d.fids ∧ e.tx = d.tx ∧ e.laneDrops = d.laneDrops ∧
    e.aclCnt = d.aclCnt ∧ e.now = d.now ∧ e.portDrops = d.portDrops ∧ e.buf = d.buf ∧ e.time = d.time ∧ e.nhCnt = d.nhCnt ∧ e.pe = d.pe ∧
    e.sch = { d.sch with pol := e.sch.pol } ∧ e.csw = d.csw ∧ e.fab = { d.fab with fcq := e.fab.fcq } ∧ e.dma = d.dma ∧
    e.tri = { d.tri with journal := e.tri.journal } ∧ e.bridge = d.bridge ∧ e.fw = d.fw ∧ e.sec = d.sec ∧ e.jtag = d.jtag := by
  have part {β : Type} (r : Dev → β) : r e.besideLookup = r d.besideLookup := congrArg r h
  have sch : { e.sch with pol := [] } = { d.sch with pol := [] } := part Dev.sch
  have fab : { e.fab with fcq := [] } = { d.fab with fcq := [] } := part Dev.fab
  have tri : { e.tri with journal := [] } = { d.tri with journal := [] } := part Dev.tri
  exact ⟨part Dev.lane, part Dev.pmSeq15, part Dev.pmSeqDay, part Dev.fids, part Dev.tx, part Dev.laneDrops, part Dev.aclCnt, part Dev.now,
    part Dev.portDrops, part Dev.buf, part Dev.time, part Dev.nhCnt, part Dev.pe, congrArg (fun x : Sch => { x with pol := e.sch.pol }) sch,
    part Dev.csw, congrArg (fun x : Fab => { x with fcq := e.fab.fcq }) fab, part Dev.dma,
    congrArg (fun x : Triad => { x with journal := e.tri.journal }) tri, part Dev.bridge, part Dev.fw, part Dev.sec, part Dev.jtag⟩

end Sys2Proof.Machine

namespace Sys2Proof
open Sys2Proof.Machine

/-- Settles O58: `exec_onLookup`, read part by part. -/
theorem lookupRowsFrame : Obligations.LookupRowsFrame := by
  intro s t i hi ht
  obtain ⟨d, he, hd⟩ := exec_onLookup s i hi
  cases he.symm.trans ht
  exact ⟨rfl, rfl, Dev.parts_of_besideLookup hd⟩

end Sys2Proof
end

section
/-! PROOFS. O16 fails at one corner: SHADOW_REBUILD of a TCAM index that lists no entry. -/

namespace Sys2Proof.Machine
open Sys2Proof

namespace Dev

/-- A rebuild of a TCAM index takes it off the list of damaged items, whether an entry stands there or not. -/
theorem shadowRebuild_tcam_ue {idx : Nat} {d : Dev} (hfw : d.hif.headless = false ∧ d.hif.frozen = false) :
    (shadowRebuild (.tcam idx) d).fwd.ue = d.fwd.ue.filter (· != .tcam idx) := by
  simp [shadowRebuild, hfw, modAcl]

end Dev
end Sys2Proof.Machine

namespace Sys2Proof
open Sys2Proof.Machine Sys2Proof.Machine.Dev

/-- Refutes O16: with TCAM index 0 on the list of damaged items and no entry there, SHADOW_REBUILD takes the index off that list, where the
statement has the device unchanged. -/
theorem not_tableUpdateRowsComplete : ¬ Obligations.TableUpdateRowsComplete := by
  rintro ⟨-, -, -, -, -, -, rebuild⟩
  obtain ⟨d, hd, unchanged⟩ := rebuild { dev := { fwd := { ue := [.tcam 0] } } } (.tcam 0)
  cases hd
  have kept : (shadowRebuild (.tcam 0) { fwd := { ue := [.tcam 0] } }).fwd.ue = [.tcam 0] := congrArg (·.fwd.ue) unchanged
  rw [shadowRebuild_tcam_ue ⟨rfl, rfl⟩] at kept
  exact absurd kept (by decide)

end Sys2Proof
end

section
/-! PROOFS. O17: the states of a pipeline. What a failure, a self-test and a stop leave of a pipeline besides its discards, and that no event
clears an alarm. -/

namespace Sys2Proof.Machine
open Sys2Proof

namespace Dev

/-! ### Pipelines (R136, R139) -/

@[simp] theorem getPipe_setPipe_same (d i x) : (setPipe d i x).getPipe i = x := by simp [getPipe, setPipe]

theorem getPipe_setPipe_other (d : Dev) {i k : Nat} (x : Pipe) (h : k ≠ i) : (d.setPipe i x).getPipe k = d.getPipe k :=
  tgetD_tset_other _ _ _ h

/-- What no operation writes stays: a pipeline of a device with the same pipelines. -/
theorem getPipe_of_pipe {d e : Dev} (h : e.pipe = d.pipe) (i : Nat) : e.getPipe i = d.getPipe i := by rw [getPipe, h, getPipe]

@[simp] theorem getPipe_raise (d type sev subject detail i) : (raise d type sev subject detail).getPipe i = d.getPipe i := by simp [getPipe]
@[simp] theorem getPipe_raiseObj (d k x st b n i) : (raiseObj d k x st b n).getPipe i = d.getPipe i := by simp [getPipe]

@[simp] theorem getPipe_setAlarm (d i k) : (setAlarm d i).getPipe k = d.getPipe k := by
  obtain ⟨_, _, h⟩ := setAlarm_frame d i
  rw [h]; rfl

/-- The protection switch is none of the pipelines' parts. -/
theorem protect_pipe (d p cause) : (protect d p cause).pipe = d.pipe := by
  have kept := congrArg Dev.pipe (protect_beyondLine d p cause)
  exact kept

@[simp] theorem getPipe_protectPorts (pl d i) : (protectPorts pl d).getPipe i = d.getPipe i :=
  getPipe_of_pipe (foldl_keeps_part Dev.pipe _ (fun x k => protect_pipe x (8 * pl + k) 15) _ d) i

/-- A pipeline without its counters of discards. -/
def undropped (d : Dev) (i : Nat) : Pipe := { d.getPipe i with drops := [] }

theorem dropPipe_undropped (d : Dev) (pl code len i : Nat) : (d.dropPipe pl code len).undropped i = d.undropped i := by
  by_cases h : i = pl
  · subst h; simp [undropped, dropPipe, modPipe]
  · simp [undropped, dropPipe, modPipe, getPipe_setPipe_other _ _ h]

theorem dropPort_undropped (d : Dev) (p code len i : Nat) : (d.dropPort p code len).undropped i = d.undropped i := dropPipe_undropped ..

/-- The discard of one frame of a flushed pipeline: by port where the code is kept so, otherwise by pipeline. -/
def flushOne (pl code : Nat) (p : Option Nat) (len : Nat) (d : Dev) : Dev :=
  match p with
  | some k => if code = 37 then d.dropPort k code len else d.dropPipe pl code len
  | none => d.dropPipe pl code len

theorem flushOne_undropped (pl code p len d i) : (flushOne pl code p len d).undropped i = d.undropped i := by
  unfold flushOne; (repeat' split) <;> simp [dropPort_undropped, dropPipe_undropped]

theorem flushOne_hif (pl code p len d) : (flushOne pl code p len d).hif = d.hif := by unfold flushOne; (repeat' split) <;> rfl

/-- A reading that no discard changes is that of the pipeline with its frames gone. -/
theorem flushPipe_keeps {β : Type} (r : Dev → β) (pl code : Nat) (h : ∀ p len d, r (flushOne pl code p len d) = r d) (d : Dev) :
    r (flushPipe pl code d) = r (d.setPipe pl { d.getPipe pl with ingress := [], egress := [], emits := [] }) := by
  have inner := foldl_keeps_part r (fun y (f : Flight) => flushOne pl code (match f.src with | .port p | .inject _ p => some p | _ => none) f.rxLen y)
    (fun y f => h _ _ y) ((d.getPipe pl).ingress ++ (d.getPipe pl).emits)
    (d.setPipe pl { d.getPipe pl with ingress := [], egress := [], emits := [] })
  exact (foldl_keeps_part r (fun y (f : Flight) => flushOne pl code (some f.outPort) f.len y) (fun y f => h _ _ y) (d.getPipe pl).egress _).trans inner

@[simp] theorem flushPipe_hif (pl code d) : (flushPipe pl code d).hif = d.hif := flushPipe_keeps Dev.hif pl code (flushOne_hif pl code) d

/-- A flushed pipeline holds no frame; its state and its cause stay. -/
theorem flushPipe_pipe (pl code : Nat) (d : Dev) : ∃ n, (flushPipe pl code d).getPipe pl =
    { d.getPipe pl with ingress := [], egress := [], emits := [], drops := n } := by
  refine ⟨((flushPipe pl code d).getPipe pl).drops, ?_⟩
  have h := flushPipe_keeps (undropped · pl) pl code (fun p len e => flushOne_undropped pl code p len e pl) d
  simp only [undropped, getPipe_setPipe_same] at h
  exact congrArg (fun x : Pipe => { x with drops := ((flushPipe pl code d).getPipe pl).drops }) h

/-! ### Alarms stay until software clears them (Table 15.7) -/

/-- `e` has every alarm that `d` has. -/
def AlarmsKept (d e : Dev) : Prop := ∀ i, d.hif.alarm.getLsbD i = true → e.hif.alarm.getLsbD i = true

theorem AlarmsKept.refl (d : Dev) : AlarmsKept d d := fun _ h => h

theorem AlarmsKept.trans {a b c : Dev} (h : AlarmsKept a b) (k : AlarmsKept b c) : AlarmsKept a c := fun i ha => k i (h i ha)

theorem AlarmsKept.foldl {α : Type} {f : Dev → α → Dev} (h : ∀ d x, AlarmsKept d (f d x)) (l : List α) (d : Dev) : AlarmsKept d (l.foldl f d) :=
  List.foldlRecOn l f (.refl d) fun _ hb _ _ => hb.trans (h _ _)

theorem alarmsKept_of_hif {d e : Dev} (h : e.hif = d.hif) : AlarmsKept d e := fun i hd => by rwa [h]

@[simp] theorem vecUpdate_alarm (d v) : (vecUpdate d v).hif.alarm = d.hif.alarm := by
  simp only [vecUpdate, vecSend]; (repeat' split) <;> rfl

@[simp] theorem setCause_alarm (d i) : (setCause d i).hif.alarm = d.hif.alarm := vecUpdate_alarm ..

/-- The alarm that is raised stands, with those that stood. -/
theorem setAlarm_alarm (d : Dev) (i k : Nat) :
    (d.setAlarm i).hif.alarm.getLsbD k = (d.hif.alarm.getLsbD k || (decide (k < 9) && decide (k = i))) := by
  unfold setAlarm; split
  next h =>
    by_cases e : k = i
    · subst e; simp [h]
    · simp [e]
  next h => rw [setCause_alarm, BitVec.getLsbD_or, BitVec.getLsbD_ofNat, Nat.testBit_two_pow]; simp only [eq_comm]

theorem setAlarm_kept (d : Dev) (i : Nat) : AlarmsKept d (d.setAlarm i) := fun k h => by rw [setAlarm_alarm, h]; rfl

theorem evCoalesce_kept (d : Dev) (e : Event) : AlarmsKept d (d.evCoalesce e) := by
  by_cases h : d.evt.coal.isEmpty = true
  · simp only [evCoalesce, h, if_true]
    exact fun k hk => setAlarm_kept _ 6 k hk
  · simp only [evCoalesce, h]
    exact alarmsKept_of_hif rfl

theorem evPut_kept (d : Dev) (e : Event) : AlarmsKept d (d.evPut e) := by
  simp only [evPut]; (repeat' split)
  · exact alarmsKept_of_hif rfl
  · exact fun k hk => evCoalesce_kept _ e k hk
  · exact alarmsKept_of_hif rfl

theorem raise_kept (d : Dev) (type sev subject : Nat) (detail : List Fld) : AlarmsKept d (d.raise type sev subject detail) := evPut_kept d _

theorem raiseObj_kept (d : Dev) (k : Nat) (x : Obj) (st : ObjSt) (b : Bool) (n : Nat) : AlarmsKept d (d.raiseObj k x st b n) := raise_kept d _ _ _ _

theorem announcePort_hif (d : Dev) (p : Nat) (down : Bool) : (d.announcePort p down).hif = d.hif := by
  obtain ⟨_, h⟩ := sendFcAll_frame d 0x20 (be 1 p ++ be 1 (b2n down) ++ be 2 0)
  rw [announcePort, h]

theorem liveCheck_kept (d : Dev) : AlarmsKept d d.liveCheck := by
  have raised := AlarmsKept.foldl (f := fun (x : Dev) (p : Nat × Ecmp) => x.raise 0x0202 sevMajor (handle 0x05 p.1) [])
    fun x p => raise_kept x _ _ _ _
  exact fun i hd => raised _ _ i hd

theorem protect_kept (d : Dev) (p cause : Nat) : AlarmsKept d (d.protect p cause) := by
  simp only [protect]; split
  · exact .refl d
  · have raised := raise_kept (d.setPort p { d.getPort p with protDown := true, protSince := d.now }) 0x0108 sevMajor (portHandle p) [fByte cause]
    exact fun i hd => liveCheck_kept _ i (alarmsKept_of_hif (announcePort_hif ..) i (raised i hd))

theorem protectPorts_kept (pl : Nat) (d : Dev) : AlarmsKept d (protectPorts pl d) :=
  .foldl (fun x k => protect_kept x (8 * pl + k) 15) _ d

/-! ### Failure and self-test (R139, R521, Table 4.6) -/

/-- A RUNNING pipeline that fails, before its frames are discarded. -/
def pipeFailed (pl cause : Nat) (d : Dev) : Dev :=
  protectPorts pl (((d.setPipe pl { d.getPipe pl with
    obj := (d.getPipe pl).obj.beginStop d.nowNs (d.now + msT 5) true, cause := some cause }).raise 0x0200 sevCritical
      (pipeHandle pl) [fByte cause]).setAlarm 7)

theorem pipeFailed_pipe (pl cause : Nat) (d : Dev) : (pipeFailed pl cause d).getPipe pl =
    { d.getPipe pl with obj := (d.getPipe pl).obj.beginStop d.nowNs (d.now + msT 5) true, cause := some cause } := by
  rw [pipeFailed, getPipe_protectPorts, getPipe_setAlarm, getPipe_raise, getPipe_setPipe_same]

theorem pipeFailed_alarm (pl cause : Nat) (d : Dev) : (pipeFailed pl cause d).hif.alarm.getLsbD 7 = true := by
  unfold pipeFailed
  exact protectPorts_kept pl _ 7 (by rw [setAlarm_alarm]; simp)

theorem failPipe_eq (pl cause : Nat) (d : Dev) : failPipe pl cause d =
    if (d.getPipe pl).obj.st = .running then flushPipe pl 24 (pipeFailed pl cause d) else d := by
  simp only [failPipe, bne_iff_ne, ite_not]; rfl

/-- A RUNNING pipeline that fails is stopped with its cause, its frames discarded, and the alarm set. -/
theorem failPipe_running {pl : Nat} {d : Dev} (cause : Nat) (h : (d.getPipe pl).obj.st = .running) :
    ((failPipe pl cause d).getPipe pl).obj.st = .stopping ∧ ((failPipe pl cause d).getPipe pl).cause = some cause ∧
    ((failPipe pl cause d).getPipe pl).ingress = [] ∧ ((failPipe pl cause d).getPipe pl).egress = [] ∧
    (failPipe pl cause d).hif.alarm.getLsbD 7 = true := by
  rw [failPipe_eq, if_pos h, flushPipe_hif]
  obtain ⟨n, flushed⟩ := flushPipe_pipe pl 24 (pipeFailed pl cause d)
  rw [flushed, pipeFailed_pipe]
  exact ⟨rfl, rfl, rfl, rfl, pipeFailed_alarm ..⟩

/-- What a stall needs (R139): a frame that has waited for 20 µs without a handoff. -/
def stalled (d : Dev) (pl : Nat) : Prop :=
  (∃ f ∈ (d.getPipe pl).ingress, f.place ≠ .away ∧ f.entered + usT 20 ≤ d.now) ∧ (d.getPipe pl).lastHandoff + usT 20 ≤ d.now

theorem pipeFailure_fails {pl : Nat} {k : PipeCause} {d : Dev} (h : k = .stall → d.stalled pl) :
    pipeFailure pl k d = failPipe pl (pipeCause k) d := by
  cases k with
  | stall =>
    obtain ⟨⟨f, hf, waits⟩, idle⟩ := h rfl
    simp only [pipeFailure, pipeCause]
    exact if_pos (by simpa [idle] using ⟨f, hf, waits⟩)
  | uncorrectable => rfl
  | selfTest => rfl

/-- A pipeline that is not RUNNING does not fail, and one that is does not stall while frames move. -/
theorem pipeFailure_keeps {pl : Nat} {k : PipeCause} {d : Dev} (h : ¬ ((d.getPipe pl).obj.st = .running ∧ (k = .stall → d.stalled pl))) :
    pipeFailure pl k d = d := by
  by_cases hr : (d.getPipe pl).obj.st = .running
  · obtain ⟨rfl, moves⟩ : k = .stall ∧ ¬ d.stalled pl := by simpa [hr] using h
    simp only [pipeFailure]
    exact if_neg (by simpa [stalled] using moves)
  · have still (cause : Nat) : failPipe pl cause d = d := by rw [failPipe_eq, if_neg hr]
    cases k with
    | stall => simp only [pipeFailure, still, ite_self]
    | uncorrectable => exact still 0
    | selfTest => exact still 2

@[simp] theorem firstRelease_pipe (d p) : (firstRelease d p).pipe = d.pipe := by
  have kept := congrArg Dev.pipe (firstRelease_beyondLine d p)
  exact kept

/-- A self-test that passes makes the pipeline RUNNING, its handoffs counted from now. -/
theorem pipeSelfTest_passes {pl : Nat} {ok : Bool} {d : Dev} (h : (d.getPipe pl).obj.st = .starting) (hg : ok = true ∧ d.groupGood pl = true) :
    (pipeSelfTest pl ok d).getPipe pl = { d.getPipe pl with obj := (d.getPipe pl).obj.started d.nowNs, lastHandoff := d.now } := by
  simp only [pipeSelfTest, h, hg]
  refine (getPipe_of_pipe (foldl_keeps_part Dev.pipe _ (fun x k => ?_) _ _) pl).trans (getPipe_setPipe_same ..)
  rw [firstRelease_pipe]; split <;> rfl

/-- One that does not leaves it stopped, with the cause and the alarm. -/
theorem pipeSelfTest_fails {pl : Nat} {ok : Bool} {d : Dev} (h : (d.getPipe pl).obj.st = .starting)
    (hg : ¬ (ok = true ∧ d.groupGood pl = true)) :
    (pipeSelfTest pl ok d).getPipe pl = { d.getPipe pl with obj := (d.getPipe pl).obj.startFailed d.nowNs, cause := some 2 } ∧
    (pipeSelfTest pl ok d).hif.alarm.getLsbD 7 = true := by
  have failed : (ok && d.groupGood pl) = false := by simpa using hg
  simp only [pipeSelfTest, h, failed]
  refine ⟨?_, raiseObj_kept _ _ _ _ _ _ 7 (by rw [setAlarm_alarm]; simp)⟩
  simp

/-! ### The end of a stop (R139, R520, Table 4.6) -/

theorem dropPort_obj (d : Dev) (p code len k : Nat) : ((d.dropPort p code len).getPipe k).obj = (d.getPipe k).obj := by
  have kept := congrArg Pipe.obj (dropPort_undropped d p code len k)
  exact kept

theorem setPipe_obj {d : Dev} {i : Nat} {x : Pipe} (h : x.obj = (d.getPipe i).obj) (k : Nat) :
    ((d.setPipe i x).getPipe k).obj = (d.getPipe k).obj := by
  by_cases e : k = i
  · rw [e, getPipe_setPipe_same, h]
  · rw [getPipe_setPipe_other _ _ e]

@[simp] theorem doubleFree_pipe (d s p req) : (doubleFree d s p req).pipe = d.pipe := raiseCounted_pipe ..
@[simp] theorem ownerFault_pipe (d s p owner req) : (ownerFault d s p owner req).pipe = d.pipe := raiseCounted_pipe ..
@[simp] theorem ptrFault_pipe (d s p op) : (ptrFault d s p op).pipe = d.pipe := raiseCounted_pipe ..
@[simp] theorem delRec_pipe (d p) : (delRec d p).pipe = d.pipe := by unfold delRec; split <;> rfl
@[simp] theorem putRec_pipe (d p r) : (putRec d p r).pipe = d.pipe := by unfold putRec; split <;> rfl
@[simp] theorem uncharge_pipe (d k cells) : (uncharge d k cells).pipe = d.pipe := rfl

@[simp] theorem freeCell_pipe (s req d p) : (freeCell s req d p).pipe = d.pipe := by fun_cases freeCell <;> simp

@[simp] theorem freeCells_pipe (s req l d) : (List.foldl (freeCell s req) d l).pipe = d.pipe :=
  foldl_keeps_part Dev.pipe _ (freeCell_pipe s req) l d

@[simp] theorem releaseFrame_pipe (s req p d) : (releaseFrame s req p d).pipe = d.pipe := by
  fun_cases releaseFrame <;> simp

/-- The flush of a port leaves the state of every pipeline. -/
theorem flushPort_obj (p : Nat) (d : Dev) (k : Nat) : ((flushPort p d).1.getPipe k).obj = (d.getPipe k).obj := by
  have drop (q : Nat) (y : Dev) (e : QEntry) : ((match tget y.buf.frame e.ptr with
      | some f => (releaseFrame (p / 8) q e.ptr y).dropPort p 37 f.fl.len
      | none => y).getPipe k).obj = (y.getPipe k).obj := by
    split
    · rw [dropPort_obj, getPipe_of_pipe (releaseFrame_pipe ..)]
    · rfl
  simp only [flushPort]
  rw [foldl_keeps_part (fun e : Dev => (e.getPipe k).obj) _ fun e f => dropPort_obj ..]
  refine (setPipe_obj ?_ k).trans (foldl_keeps_part (fun e : Dev => (e.getPipe k).obj) _ (fun y q => ?_) _ d)
  · rfl
  · exact foldl_keeps_part (fun e : Dev => (e.getPipe k).obj) _ (drop q) _ _

/-- Nothing is left of a pipeline and of its ports. -/
def drained (d : Dev) (pl : Nat) : Prop :=
  (d.getPipe pl).ingress = [] ∧ (d.getPipe pl).egress = [] ∧ (d.getPipe pl).emits = [] ∧
    ((List.range 8).any fun k => d.portQueued (8 * pl + k)) = false

/-- The test of a stop's end, as the model writes it. -/
theorem stopEnds_iff (pl : Nat) (d : Dev) : (decide ((d.getPipe pl).obj.st = .stopping) &&
      (!(!(d.getPipe pl).ingress.isEmpty || !(d.getPipe pl).egress.isEmpty || !(d.getPipe pl).emits.isEmpty ||
        (List.range 8).any fun k => d.portQueued (8 * pl + k)) || due d.now (d.getPipe pl).obj.due)) = true ↔
    (d.getPipe pl).obj.st = .stopping ∧ (d.drained pl ∨ due d.now (d.getPipe pl).obj.due = true) := by
  simp [drained, and_assoc]

section
variable {flush : Nat → Dev → Dev × Nat} {pl : Nat} {d : Dev}

theorem pipeStopDone_keeps (h : ¬ ((d.getPipe pl).obj.st = .stopping ∧ (d.drained pl ∨ due d.now (d.getPipe pl).obj.due = true))) :
    pipeStopDone flush pl d = d := by
  rw [← stopEnds_iff] at h
  exact if_neg h

/-- A stop that ends leaves the pipeline as Table 16.5 says, without a frame. -/
theorem pipeStopDone_stops (hflush : ∀ p e k, ((flush p e).1.getPipe k).obj = (e.getPipe k).obj)
    (h : (d.getPipe pl).obj.st = .stopping ∧ (d.drained pl ∨ due d.now (d.getPipe pl).obj.due = true)) :
    ∃ x : Pipe, (pipeStopDone flush pl d).getPipe pl =
      { x with obj := (d.getPipe pl).obj.stopped d.nowNs, ingress := [], egress := [], emits := [] } := by
  rw [← stopEnds_iff] at h
  simp only [pipeStopDone]
  rw [if_pos h, modPipe, getPipe_setPipe_same, getPipe_raiseObj]
  generalize hf : List.foldl _ (d, 0) _ = f
  have obj : (f.1.getPipe pl).obj = (d.getPipe pl).obj := by
    rw [← hf]
    exact List.foldlRecOn (motive := fun y : Dev × Nat => (y.1.getPipe pl).obj = (d.getPipe pl).obj) _ _ rfl
      fun y hy k _ => (hflush ..).trans hy
  obtain ⟨n, flushed⟩ := flushPipe_pipe pl 37 f.1
  rw [flushed]
  exact ⟨{ f.1.getPipe pl with drops := n }, by rw [← obj]⟩

end

end Dev
end Sys2Proof.Machine

namespace Sys2Proof
open Sys2Proof.Machine Sys2Proof.Machine.Dev

/-- Settles O17: what each handler answers and what a failure, a self-test and a stop leave, given above. -/
theorem pipelineObjectRowsComplete : Obligations.PipelineObjectRowsComplete := by
  refine ⟨?_, ?_, ?_, ?_, ?_, ?_, ?_⟩
  · intro s src c h
    exact replies_of_handler (f := pipeEnable) rfl h (check_cons ..)
  · intro s src c h
    exact replies_of_handler (f := pipeDisable) rfl h (check_cons ..)
  · intro s src c h
    exact replies_of_handler (f := pipeGetStatus) rfl h (check_cons ..)
  · intro s src c h
    refine replies_of_handler (f := pipeSetHash) rfl h ?_
    simp [pipeSetHash, State.refusal, or_assoc, setFwd]
  · intro s pl k
    refine onDev_devStep rfl ?_
    dsimp only; split
    next hf =>
      rw [pipeFailure_fails hf.2]
      cases k <;> exact failPipe_running _ hf.1
    next hf => exact pipeFailure_keeps hf
  · intro s pl ok
    refine onDev_devStep rfl ?_
    split
    next hst =>
      split
      next hg => rw [pipeSelfTest_passes hst hg]; exact ⟨rfl, rfl⟩
      next hg =>
        obtain ⟨left, alarm⟩ := pipeSelfTest_fails hst hg
        rw [left]
        exact ⟨rfl, rfl, alarm⟩
    next hst => simp [pipeSelfTest, hst]
  · intro s pl
    refine onDev_devStep rfl ?_
    dsimp only; split
    next hs =>
      obtain ⟨x, left⟩ := pipeStopDone_stops flushPort_obj hs
      rw [left]
      exact ⟨rfl, rfl, rfl, rfl⟩
    next hs => exact pipeStopDone_keeps hs

end Sys2Proof
end

section
/-! PROOFS. O18: next hops, groups, forced protection and the counter readings. -/

namespace Sys2Proof.Machine
open Sys2Proof

namespace Dev

/-! ### Completions leave the tables (R489, R518) -/

@[simp] theorem completeNow_fwd (d c r) : (completeNow d c r).fwd = d.fwd := by
  fun_cases completeNow <;> grind [dropCmd_fwd, emit_fwd, setCause_fwd]

@[simp] theorem complete_fwd (d c r) : (complete d c r).fwd = d.fwd := by unfold complete; (repeat' split) <;> simp

/-! ### NH_SET (R113, R142, Table 4.8) -/

/-- The next hop that an NH_SET spells. -/
def nhSpelled (c : Cmd) : NextHop :=
  { type := c.f 0 1, trap := c.f 2 1, target := c.f 4 4, encap := c.f 8 4, prot := if c.f 1 1 = 1 then some (c.f 12 4) else none }

/-- An NH_SET that keeps Table 4.8: type and flags in range, and each field 0 where its type has no use for it. -/
structure NhFits (c : Cmd) : Prop where
  handle : c.bad 4 = false
  reserved : c.dirty 3 1 = false ∧ c.dirty 16 16 = false
  type : c.f 0 1 ≤ 3
  flags : c.f 1 1 ≤ 1
  port : c.f 0 1 = 0 → c.f 4 4 < 2 ^ 19 ∧ c.f 8 4 < 2 ^ 20 ∧ c.f 12 4 < 2 ^ 21 ∧ (c.f 1 1 = 0 → c.f 12 4 = 0)
  other : c.f 0 1 ≠ 0 → c.f 1 1 = 0 ∧ c.f 8 4 = 0 ∧ c.f 12 4 = 0
  trap : c.f 0 1 ≠ 2 → c.f 2 1 = 0
  vrf : c.f 0 1 = 3 → c.f 4 4 < 65536
  target : c.f 0 1 = 1 ∨ c.f 0 1 = 2 → c.f 4 4 = 0

/-- A next hop that keeps Table 4.8 is stored, unless it names itself as its protection. -/
theorem nhSet_eq {c : Cmd} (d : Dev) (h : NhFits c) : nhSet c d =
    if c.f 0 1 = 0 ∧ c.f 1 1 = 1 ∧ c.f 12 4 = c.hIdx then .done d { status := .badArg }
    else .done (refreshLive (d.setFwd fun x => { x with
      nh := tset x.nh {} c.hIdx (nhSpelled c), ue := x.ue.filter (· != .nh c.hIdx) })) {} := by
  have inRange (n k : Nat) (h : n ≤ k) : decide (k < n) = false := by simpa using h
  simp only [nhSet, check_cons, check_nil, h.handle, h.reserved, inRange _ _ h.type, inRange _ _ h.flags, Bool.false_eq_true, if_false]
  refine if_congr ?_ rfl rfl
  by_cases hz : c.f 0 1 = 0
  · obtain ⟨htarget, hencap, hprot, hflag⟩ := h.port hz
    suffices fits : ((524288 ≤ c.f 4 4 ∨ 1048576 ≤ c.f 8 4) ∨ 2097152 ≤ c.f 12 4) ∨ c.f 1 1 = 0 ∧ ¬c.f 12 4 = 0 → False by
      simpa [hz, h.trap] using fun broken => (fits broken).elim
    omega
  · obtain ⟨hflag, hencap, hprot⟩ := h.other hz
    simpa [hz, hflag, hencap, hprot] using ⟨⟨h.trap, h.vrf⟩, h.target⟩

/-! ### ECMP_SET_GROUP (R115, R143, Table 4.9) -/

/-- The members an ECMP_SET_GROUP names, with their weights. -/
def membersSpelled (b : Bytes) : List (Nat × Nat) := (List.range (field b 0 2)).map fun i => (field b (16 + 8 * i) 4, field b (20 + 8 * i) 2)

/-- A change of the group that `c` names, noted for the undo journal, that waits for its switch instant. -/
def groupPending (c : Cmd) (new : Option Ecmp) (d : Dev) : Dev :=
  (d.noteWrite c.intake (.group c.hIdx (tget d.fwd.ecmp c.hIdx))).setFwd fun x =>
    { x with switches := x.switches ++ [{ group := c.hIdx, intake := c.intake, new := new }] }

/-- With the delete flag alone the group is to go, where there is one. -/
theorem ecmpSetGroup_deletes {b : Bytes} (c : Cmd) (d : Dev) (hz : isZero b 4 12 = true) (hfl : field b 3 1 = 2) (hn : field b 0 2 = 0)
    (hl : field b 2 1 = 0) : ecmpSetGroup (some b) c d =
    if c.bad 0x05 = true ∨ d.groupAfter c.hIdx = false then .done d { status := .badHandle } else .pend (groupPending c none d) := by
  have delete : bit 2 1 = true := rfl
  simp [ecmpSetGroup, hfl, hn, hl, hz, delete, groupPending]

/-- The payload of an ECMP_SET_GROUP that keeps Table 4.9: 1 to 1,024 different members with weights, no more than its buckets. -/
structure GroupFits (b : Bytes) : Prop where
  reserved : isZero b 4 12 = true
  flags : field b 3 1 ≤ 1
  some : 1 ≤ field b 0 2
  most : field b 0 2 ≤ 1024
  log2B : field b 2 1 ≤ 14
  buckets : field b 0 2 ≤ 2 ^ field b 2 1
  pads : ∀ i < field b 0 2, isZero b (22 + 8 * i) 2 = true
  members : ∀ m ∈ membersSpelled b, m.1 < 2 ^ 21 ∧ m.2 ≠ 0
  different : ((membersSpelled b).map (·.1)).eraseDups.length = field b 0 2

/-- A group that keeps Table 4.9 waits for its switch instant, unless the pool of buckets would not hold it. -/
theorem ecmpSetGroup_sets {b : Bytes} {c : Cmd} (d : Dev) (hb : c.bad 0x05 = false) (h : GroupFits b) : ecmpSetGroup (some b) c d =
    if 1835008 < d.bucketsUsed c.hIdx + max (d.mostBuckets c.hIdx) (2 ^ field b 2 1) then .done d { status := .noSpace }
    else .pend (groupPending c (some {
      members := membersSpelled b, log2B := field b 2 1, auto := bit (field b 3 1) 0, buckets := [], live := [] }) d) := by
  have keep : bit (field b 3 1) 1 = false := by have := h.flags; simp [bit]; omega
  have pads : (List.range (field b 0 2)).any (fun i => !isZero b (22 + 8 * i) 2) = false := by simpa using h.pads
  have members : (membersSpelled b).any (fun m => decide (2 ^ 21 ≤ m.1) || m.2 == 0) = false := by
    simpa only [List.any_eq_false, Bool.not_eq_true, Bool.or_eq_false_iff, decide_eq_false_iff_not, Nat.not_le, beq_eq_false_iff_ne] using
      h.members
  have different := h.different
  simp only [membersSpelled] at members different
  simp only [ecmpSetGroup, Option.getD_some, keep, hb, h.reserved, pads, members, different, check_cons, check_nil]
  simp [Nat.not_lt.2 h.most, Nat.not_lt.2 h.log2B, Nat.not_lt.2 h.buckets, Nat.not_lt.2 h.flags, Nat.ne_of_gt h.some, groupPending,
    membersSpelled]

/-! ### The switch instant and the rebalance (R119, R137, R143) -/

theorem ecmpSwitch_none {g : Nat} {d : Dev} (h : d.fwd.switches.find? (·.group == g) = none) : ecmpSwitch g d = d := by
  simp only [ecmpSwitch, h]

section
variable {g : Nat} {d : Dev} {w : EcmpSwitch} (h : d.fwd.switches.find? (·.group == g) = some w)
include h

/-- The switch puts a deletion that waits in force; the completion of its command leaves it. -/
theorem ecmpSwitch_deletes (hnew : w.new = none) : (ecmpSwitch g d).fwd =
    { d.fwd with switches := d.fwd.switches.filter (·.intake != w.intake), ecmp := tdel d.fwd.ecmp g } := by
  simp only [ecmpSwitch, h, hnew]; split <;> simp

/-- A group that waits takes the place of the one in force, its buckets assigned anew. -/
theorem ecmpSwitch_sets {n : Ecmp} (hnew : w.new = some n) : (ecmpSwitch g d).fwd =
    { d.fwd with
      switches := d.fwd.switches.filter (·.intake != w.intake)
      ecmp := tput d.fwd.ecmp g (d.regroup (tget d.fwd.ecmp g) n.members n.log2B n.auto) } := by
  simp only [ecmpSwitch, h, hnew]; split <;> simp

end

/-- A rebalance assigns the buckets of the group to the members that are live now. -/
theorem ecmpRebalance_ecmp {g : Nat} {d : Dev} {e : Ecmp} (h : tget d.fwd.ecmp g = some e)
    (hm : ¬ (e.auto = false ∨ d.hif.headless = true ∨ d.liveMembers e = e.live)) : tget (ecmpRebalance g d).fwd.ecmp g =
    some { e with
      buckets := reassign (e.buckets.map some) (targets (2 ^ e.log2B) (e.members.map (·.2)) (d.liveMembers e)), live := d.liveMembers e } := by
  simp only [ecmpRebalance, h]
  rw [if_neg (by simpa [or_assoc] using hm)]
  simp

theorem ecmpRebalance_keeps {g : Nat} {d : Dev} {e : Ecmp} (h : tget d.fwd.ecmp g = some e)
    (hm : e.auto = false ∨ d.hif.headless = true ∨ d.liveMembers e = e.live) : ecmpRebalance g d = d := by
  simp only [ecmpRebalance, h]
  rw [if_pos (by simpa [or_assoc] using hm)]

/-! ### The counter readings (R146, R511) -/

/-- A pair in a record: packets, then bytes. -/
def pairBytes (p : Pair) : Bytes := le 8 p.pkts ++ le 8 p.bytes

theorem pairs_length (f : Nat → Pair) (n : Nat) : ((List.range n).flatMap fun i => pairBytes (f i)).length = 16 * n := by
  simp [List.length_flatMap, pairBytes, Nat.mul_comm]

/-- Pair `k` of a record of pairs stands at 16 × `k`. -/
theorem field_pairs (f : Nat → Pair) {n k : Nat} (h : k < n) :
    field ((List.range n).flatMap fun i => pairBytes (f i)) (16 * k) 8 = (f k).pkts % 2 ^ 64 ∧
    field ((List.range n).flatMap fun i => pairBytes (f i)) (16 * k + 8) 8 = (f k).bytes % 2 ^ 64 := by
  obtain ⟨m, rfl⟩ : ∃ m, n = k + (1 + m) := ⟨n - k - 1, by omega⟩
  have cut : ((List.range (k + (1 + m))).flatMap fun i => pairBytes (f i)) =
      ((List.range k).flatMap fun i => pairBytes (f i)) ++ (le 8 (f k).pkts ++ (le 8 (f k).bytes ++
        (List.range m).flatMap fun i => pairBytes (f (k + (1 + i))))) := by
    simp [List.range_add, List.flatMap_map, pairBytes, Nat.add_assoc]
  rw [show 2 ^ 64 = 256 ^ 8 from rfl, cut]
  refine ⟨field_append _ (pairs_length f k), ?_⟩
  rw [← List.append_assoc]
  exact field_append _ (by rw [List.length_append, pairs_length, le_length])

/-- The discards of a port under a code that is kept by lane: those of its lanes. -/
def laneDropSum (d : Dev) (p code : Nat) : Pair :=
  (d.lanesOf p).foldl (fun (a : Pair) l =>
    let x := tgetD d.laneDrops {} (l * 64 + code); { pkts := a.pkts + x.pkts, bytes := a.bytes + x.bytes }) {}

theorem laneDropSum_one {d : Dev} {p : Nat} (code : Nat) (h : (d.getPort p).width = 1) :
    laneDropSum d p code = tgetD d.laneDrops {} (p * 64 + code) := by
  simp [laneDropSum, lanesOf, h]

/-- The pair of code `k` that DROP_GET_COUNTERS reads: of a port, or of a pipeline. -/
def dropPair (c : Cmd) (d : Dev) (k : Nat) : Pair :=
  if c.hType = 0x01 then if k = 4 || k = 36 then laneDropSum d c.hIdx k else tgetD d.portDrops {} (c.hIdx * 64 + k)
  else tgetD (d.getPipe c.hIdx).drops {} k

theorem dropGetCounters_eq (c : Cmd) (d : Dev) : dropGetCounters c d =
    if c.bad (if c.hType = 0x01 then 0x01 else 0x03) then .done d { status := .badHandle }
    else .done d { record := some ((List.range 64).flatMap fun k => pairBytes (dropPair c d k)) } := by
  simp only [dropGetCounters, dropPair]; split <;> simp only [check_cons, check_nil] <;> rfl

end Dev
end Sys2Proof.Machine

namespace Sys2Proof
open Sys2Proof.Machine Sys2Proof.Machine.Dev

/-- Settles O18: what each handler answers and what a switch and a rebalance put in force, given above. -/
theorem groupRowsComplete : Obligations.GroupRowsComplete := by
  refine ⟨?_, ?_, ?_, ?_, ?_, ?_, ?_⟩
  · intro s src c h hb h3 h16 ht hf hport hother htrap hvrf hnone
    exact replies_of_handler (f := nhSet) rfl h (nhSet_eq s.dev ⟨hb, ⟨h3, h16⟩, ht, hf, hport, hother, htrap, hvrf, hnone⟩)
  · intro s src b c h hz
    refine ⟨fun hfl hn hl => ?_, fun hb hfl hn1 hn hl hnl hpad hms hdup => ?_⟩
    · exact replies_of_handler (f := ecmpSetGroup (some b)) rfl h (ecmpSetGroup_deletes c s.dev hz hfl hn hl)
    · exact replies_of_handler (f := ecmpSetGroup (some b)) rfl h
        (ecmpSetGroup_sets s.dev hb ⟨hz, hfl, hn1, hn, hl, hnl, hpad, hms, hdup⟩)
  · intro s g
    refine onDev_devStep rfl ?_
    split
    next hnone => exact ecmpSwitch_none hnone
    next w hw =>
      split
      next hdel => rw [ecmpSwitch_deletes hw hdel]; exact ⟨rfl, rfl⟩
      next n hset => rw [ecmpSwitch_sets hw hset]; exact ⟨rfl, tget_tput_same ..⟩
  · intro s g
    refine onDev_devStep rfl ?_
    split
    next hnone => simp only [ecmpRebalance, hnone]
    next e he =>
      dsimp only; split
      next hm => exact ecmpRebalance_keeps he hm
      next hm => exact ⟨_, ecmpRebalance_ecmp he hm, rfl, rfl, by simpa using (not_or.1 hm).1, rfl, rfl⟩
  · intro s src c h
    refine replies_of_handler (f := frrForce) rfl h ?_
    simp [frrForce, State.refusal, and_assoc]
  · intro s src c h
    have reply := replies_of_handler (i := .dropGetCounters src) (f := dropGetCounters) rfl h (dropGetCounters_eq c s.dev)
    by_cases hb : c.bad (if c.hType = 0x01 then 0x01 else 0x03) = true
    · rw [if_pos hb] at reply ⊢; exact reply
    · rw [if_neg hb] at reply ⊢
      refine ⟨_, reply, pairs_length .., fun k hk => ?_⟩
      have pair := field_pairs (dropPair c s.dev) hk
      refine ⟨fun ht => ?_, fun ht h4 h36 => ?_, fun ht hcode hw => ?_⟩
      · simpa [dropPair, ht] using pair
      · simpa [dropPair, ht, h4, h36] using pair
      · simpa [dropPair, ht, hcode, laneDropSum_one k hw] using pair
  · intro s src c h
    refine replies_of_handler (f := cntRead) rfl h ?_
    simp [cntRead, State.refusal, or_assoc]

end Sys2Proof
end

section
/-! PROOFS. O31: fabric links. What leaves every link as it was, what leaves at least their states, and what a link that goes down does to the
states. -/

namespace Sys2Proof.Machine
open Sys2Proof

namespace Dev

/-! ### Links and the light they see -/

/-- The links with all they hold, and the links that see light. -/
def links (d : Dev) : Tab FLink × List Nat := (d.fab.link, d.fab.light)

theorem getLink_of_links {d e : Dev} (h : e.links = d.links) (l : Nat) : e.getLink l = d.getLink l := by
  have table : e.fab.link = d.fab.link := congrArg Prod.fst h
  rw [getLink, table, getLink]

/-- The state and the phase of each link, and the links that see light. -/
def linkStates (d : Dev) : (Nat → ObjSt × LinkPhase) × List Nat := (fun l => ((d.getLink l).obj.st, (d.getLink l).phase), d.fab.light)

theorem linkStates_of_links {d e : Dev} (h : e.links = d.links) : e.linkStates = d.linkStates := by
  have light : e.fab.light = d.fab.light := congrArg Prod.snd h
  simp only [linkStates, getLink_of_links h, light]

theorem getLink_putLink_same (d : Dev) (l : Nat) (x : FLink) : (d.putLink l x).getLink l = x := by simp [getLink, putLink]

theorem getLink_putLink_other (d : Dev) {k l : Nat} (x : FLink) (h : k ≠ l) : (d.putLink l x).getLink k = d.getLink k :=
  tgetD_tset_other _ _ _ h

/-- One link made `x`: its state and phase are those of `x`. -/
theorem putLink_states (d : Dev) (l : Nat) (x : FLink) :
    (d.putLink l x).linkStates = (fun k => if k = l then (x.obj.st, x.phase) else d.linkStates.1 k, d.fab.light) := by
  refine Prod.ext (funext fun k => ?_) rfl
  by_cases h : k = l
  · subst h; simp [linkStates, getLink_putLink_same]
  · simp [linkStates, getLink_putLink_other d x h, h]

/-- A link written with the state and the phase it has. -/
theorem putLink_keeps_states {d : Dev} {l : Nat} {x : FLink} (hst : x.obj.st = (d.getLink l).obj.st) (hph : x.phase = (d.getLink l).phase) :
    (d.putLink l x).linkStates = d.linkStates := by
  rw [putLink_states, hst, hph]
  exact Prod.ext (funext fun k => by dsimp only; split <;> simp [linkStates, *]) rfl

theorem modLink_states {d : Dev} {l : Nat} {f : FLink → FLink} (h : ∀ x, (f x).obj.st = x.obj.st ∧ (f x).phase = x.phase) :
    (d.modLink l f).linkStates = d.linkStates := putLink_keeps_states (h _).1 (h _).2

/-! ### What leaves every link as it was -/

theorem links_of_fab {d e : Dev} (h : e.fab = d.fab) : e.links = d.links := by rw [links, h, links]

/-- A part of the fabric set that is not the links. -/
theorem setFab_links {f : Fab → Fab} (hlink : ∀ x, (f x).link = x.link) (hlight : ∀ x, (f x).light = x.light) (d : Dev) :
    (d.setFab f).links = d.links := Prod.ext (hlink _) (hlight _)

@[simp] theorem emit_links (d e) : (emit d e).links = d.links := links_of_fab (emit_fab d e)
@[simp] theorem raise_links (d type sev subject detail) : (raise d type sev subject detail).links = d.links := links_of_fab (raise_fab ..)
@[simp] theorem raiseCounted_links (d a b c e f l) : (raiseCounted d a b c e f l).links = d.links := links_of_fab (raiseCounted_fab ..)
@[simp] theorem sendFc_links (d dev kind body link) : (sendFc d dev kind body link).links = d.links := by unfold sendFc; split <;> rfl
@[simp] theorem setQ_links (d q x) : (setQ d q x).links = d.links := rfl
@[simp] theorem setQs_links (d f) : (setQs d f).links = d.links := rfl
@[simp] theorem modCredit_links (d p f) : (modCredit d p f).links = d.links := rfl
@[simp] theorem ite_links (p : Prop) [Decidable p] (a b : Dev) : (if p then a else b).links = if p then a.links else b.links := apply_ite _ _ _ _

theorem foldl_links {α : Type} {f : Dev → α → Dev} (h : ∀ d x, (f d x).links = d.links) (l : List α) (d : Dev) :
    (l.foldl f d).links = d.links := foldl_keeps_part links f h l d

@[simp] theorem liveCheck_links (d) : (liveCheck d).links = d.links := foldl_links (fun _ _ => raise_links ..) _ _

@[simp] theorem seqRestart_links (k d) : (seqRestart k d).links = d.links := by simp [seqRestart, modQ]
@[simp] theorem putFlow_links (d k f) : (putFlow d k f).links = d.links := by simp [putFlow]
@[simp] theorem flowTouch_links (d k) : (flowTouch d k).links = d.links := rfl
@[simp] theorem unreserve_links (d p n) : (unreserve d p n).links = d.links := rfl

@[simp] theorem creditReqAt_links (src voq value seq d) : (creditReqAt src voq value seq d).links = d.links := by
  fun_cases creditReqAt <;> simp

@[simp] theorem creditReturnAt_links (src voq value d) : (creditReturnAt src voq value d).links = d.links := by
  fun_cases creditReturnAt <;> simp

@[simp] theorem sendReq_links (d v value seq) : (sendReq d v value seq).links = d.links := by simp [sendReq]
@[simp] theorem sendReturn_links (d v value seq) : (sendReturn d v value seq).links = d.links := by simp [sendReturn]
@[simp] theorem voqDemand_links (v d) : (voqDemand v d).links = d.links := by simp [voqDemand]
@[simp] theorem demandAll_links (d) : (demandAll d).links = d.links := foldl_links (fun _ _ => voqDemand_links ..) _ _
@[simp] theorem creditReach_links (dev d) : (creditReach dev d).links = d.links := demandAll_links _
@[simp] theorem creditUnreach_links (dev d) : (creditUnreach dev d).links = d.links := rfl

@[simp] theorem obsTake_links (m d) : (obsTake m d).links = d.links := by
  simp only [obsTake]; (repeat' split) <;> simp [setFab_links]

@[simp] theorem observe_links (subjKind kind subj d) : (observe subjKind kind subj d).links = d.links := by
  simp only [observe]; (repeat' split)
  · rfl
  · exact obsTake_links ..
  · exact sendFc_links ..

/-- The reachability vector is worked out from the links and changes none. -/
@[simp] theorem reachRefresh_links (d) : (reachRefresh d).links = d.links := by
  unfold reachRefresh
  exact (foldl_links (fun x n => by simp) _ _).trans ((foldl_links (fun x n => by simp) _ _).trans ((liveCheck_links _).trans (links_of_fab rfl)))

theorem spray_links {d e : Dev} {s dst l : Nat} {ok : Nat → Bool} (h : d.spray s dst ok = some (l, e)) : e.links = d.links := by
  unfold spray at h
  dsimp only at h; split at h
  · cases h
  · cases h; rfl

@[simp] theorem stampCell_links (c d) : (stampCell c d).2.links = d.links := by fun_cases stampCell <;> rfl

/-! ### What leaves the states of the links -/

theorem linkSend_states (d : Dev) (l : Nat) (c : FabCell) : (d.linkSend l c).linkStates = d.linkStates := by
  simp only [linkSend]
  refine (linkStates_of_links (emit_links ..)).trans ((putLink_keeps_states ?_ ?_).trans (linkStates_of_links (stampCell_links c d)))
  · rfl
  · rfl

/-- Cells sent again take other links, whose states they do not change. -/
theorem resendCells_states (l : Nat) (cs : List RetryCell) (d : Dev) : (resendCells l cs d).linkStates = d.linkStates := by
  refine foldl_keeps_part linkStates _ (fun x r => ?_) cs d
  dsimp only; split
  next k y h =>
    refine (modLink_states fun _ => ?_).trans ((linkSend_states ..).trans (linkStates_of_links (spray_links h)))
    exact ⟨rfl, rfl⟩
  next => exact modLink_states fun _ => ⟨rfl, rfl⟩

/-! ### Links that go down (R396, R646) -/

/-- What lost light makes of a link's state. -/
def darkened (x : ObjSt × LinkPhase) : ObjSt × LinkPhase := if x.1 = .running ∨ x.1 = .starting then (.starting, .discover) else x

/-- A RUNNING link that goes down waits for its peer's DISCOVER; no other link changes its state. -/
theorem linkDrop_states (l : Nat) (c : LinkCause) (d : Dev) : (linkDrop l c d).linkStates =
    (fun k => if k = l ∧ (d.getLink l).obj.st = .running then (.starting, .discover) else d.linkStates.1 k, d.fab.light) := by
  by_cases h : (d.getLink l).obj.st = .running
  · simp only [linkDrop, h, bne_self_eq_false, Bool.false_eq_true, if_false]
    rw [linkStates_of_links (observe_links ..), linkStates_of_links (raise_links ..), sendDiscover, linkStates_of_links (emit_links ..),
      resendCells_states, linkStates_of_links (reachRefresh_links _), putLink_states]
    simp
  · simp [linkDrop, h, linkStates]

/-- One link of a laser input that loses its light. -/
def lightLost (d : Dev) (l : Nat) : Dev :=
  if ((linkDrop l .signal d).getLink l).obj.st == .starting then
    (linkDrop l .signal d).modLink l fun z => { z with phase := .discover, phaseDue := none }
  else linkDrop l .signal d

theorem lightLost_states (d : Dev) (l : Nat) : (lightLost d l).linkStates =
    (fun k => if k = l then darkened (d.linkStates.1 k) else d.linkStates.1 k, d.fab.light) := by
  have dropped := linkDrop_states l .signal d
  have light : (linkDrop l .signal d).fab.light = d.fab.light := congrArg Prod.snd dropped
  have state : ((linkDrop l .signal d).getLink l).obj.st = if (d.getLink l).obj.st = .running then .starting else (d.getLink l).obj.st := by
    have here : ((linkDrop l .signal d).getLink l).obj.st = _ := congrArg (fun p => (p.1 l).1) dropped
    simpa [linkStates, apply_ite Prod.fst] using here
  by_cases hs : ((linkDrop l .signal d).getLink l).obj.st = .starting
  · have lit : (d.getLink l).obj.st = .running ∨ (d.getLink l).obj.st = .starting := by
      rw [hs] at state; split at state
      · exact .inl ‹_›
      · exact .inr state.symm
    rw [lightLost, if_pos (by simpa using hs), modLink, putLink_states, light, dropped]
    refine Prod.ext (funext fun k => ?_) rfl
    by_cases hk : k = l
    · simp [hk, hs, darkened, linkStates, lit]
    · simp [hk]
  · have dark : (d.getLink l).obj.st ≠ .running ∧ (d.getLink l).obj.st ≠ .starting := by
      by_cases hr : (d.getLink l).obj.st = .running
      · rw [if_pos hr] at state; exact absurd state hs
      · rw [if_neg hr] at state; exact ⟨hr, fun h => hs (state.trans h)⟩
    rw [lightLost, if_neg (by simpa using hs), dropped]
    refine Prod.ext (funext fun k => ?_) rfl
    by_cases hk : k = l
    · simp [hk, darkened, linkStates, dark]
    · simp [hk]

theorem darkened_darkened (x : ObjSt × LinkPhase) : darkened (darkened x) = darkened x := by
  by_cases h : x.1 = .running ∨ x.1 = .starting <;> simp [darkened, h]

theorem foldl_lightLost_states (ls : List Nat) (d : Dev) : (ls.foldl lightLost d).linkStates =
    (fun k => if k ∈ ls then darkened (d.linkStates.1 k) else d.linkStates.1 k, d.fab.light) := by
  induction ls generalizing d with
  | nil => simp [linkStates]
  | cons l ls ih =>
    have step := lightLost_states d l
    have light : (lightLost d l).fab.light = d.fab.light := congrArg Prod.snd step
    rw [List.foldl_cons, ih, light, step]
    refine Prod.ext (funext fun k => ?_) rfl
    by_cases hk : k = l
    · simp [hk, darkened_darkened]
    · simp [hk]

/-- The eight links of a laser input. -/
def inputLinks (oe m : Nat) : List Nat := (List.range 8).map fun k => 32 * oe + 8 * m + k

/-- The links that see light once input `m` of `oe` has lost or regained it. -/
def lightAfter (oe m : Nat) (lost : Bool) (light : List Nat) : List Nat :=
  if lost then light.filter fun l => !(inputLinks oe m).contains l
  else (light.filter fun l => !(inputLinks oe m).contains l) ++ inputLinks oe m

/-- A link that waits for its peer's DISCOVER has sent its own. -/
def rediscover (d : Dev) (l : Nat) : Dev :=
  if (d.getLink l).obj.st == .starting && (d.getLink l).phase == .discover then d.sendDiscover l else d

theorem laserInput_eq (oe m : Nat) (lost : Bool) (d : Dev) : laserInput oe m lost d =
    if lost then (inputLinks oe m).foldl lightLost (d.setFab fun f => { f with light := lightAfter oe m lost d.fab.light })
    else (inputLinks oe m).foldl rediscover (d.setFab fun f => { f with light := lightAfter oe m lost d.fab.light }) := rfl

theorem rediscover_links (d : Dev) (l : Nat) : (rediscover d l).links = d.links := by
  unfold rediscover; split
  · exact emit_links ..
  · rfl

/-- A laser input that loses its light takes its eight links down; the others keep their states. -/
theorem laserInput_states (oe m : Nat) (lost : Bool) (d : Dev) : (laserInput oe m lost d).linkStates =
    (fun k => if lost = true ∧ k ∈ inputLinks oe m then darkened (d.linkStates.1 k) else d.linkStates.1 k, lightAfter oe m lost d.fab.light) := by
  rw [laserInput_eq]
  cases lost with
  | true =>
    rw [if_pos rfl, foldl_lightLost_states]
    simp only [true_and]; rfl
  | false =>
    rw [if_neg Bool.false_ne_true, linkStates_of_links (foldl_links rediscover_links _ _)]
    simp only [Bool.false_eq_true, false_and, if_false]; rfl

theorem darkened_spec (x : ObjSt × LinkPhase) : (darkened x).1 ≠ .running ∧
    (x.1 = .running ∨ x.1 = .starting → (darkened x).1 = .starting ∧ (darkened x).2 = .discover) := by
  by_cases h : x.1 = .running ∨ x.1 = .starting
  · simp [darkened, h]
  · simp only [darkened, if_neg h]
    exact ⟨fun hr => h (.inl hr), fun hr => absurd hr h⟩

/-! ### Discovery, qualification and reach (R402-R404) -/

theorem discoverMsg_eq (l : Nat) (m : DiscoverMsg) (d : Dev) : discoverMsg l m d =
    let x := d.getLink l
    if x.obj.st ≠ .starting ∨ x.phase ≠ .discover ∨ d.fab.light.contains l = false then d
    else if m.isDevice = true ∧ m.id = d.devId then
      (d.putLink l { x with phase := .retry, phaseDue := some (d.now + secT 1), peer := none }).raise 0x0602 sevMinor (linkHandle l) [fByte 3]
    else (d.putLink l { x with
      peer := some (m.isDevice, m.id, m.plane, m.port), phase := .qualify, phaseDue := some (d.now + secT 1)
      measAt := d.now }).emit (.linkMsg l 2 [0, d.devId, 0, l]) :=
  if_congr (by simp [or_assoc]) rfl (if_congr (by simp) rfl rfl)

/-- What a qualification must show: a peer, and no error within 1,500 ns of delay. -/
def qualifies (x : FLink) (fec hcs : Nat) : Prop := x.peer ≠ none ∧ x.delay ≠ none ∧ fec = 0 ∧ hcs = 0 ∧ x.delay.getD 0 ≤ nsT 1500

section
variable {d : Dev} {l fec hcs : Nat}

theorem qualifyEnd_early (h : (d.getLink l).obj.st ≠ .starting ∨ (d.getLink l).phase ≠ .qualify ∨ due d.now (d.getLink l).phaseDue = false) :
    qualifyEnd l fec hcs d = d := if_pos (by simpa [or_assoc] using h)

variable (h : ¬ ((d.getLink l).obj.st ≠ .starting ∨ (d.getLink l).phase ≠ .qualify ∨ due d.now (d.getLink l).phaseDue = false))
include h

/-- A link that qualifies is RUNNING, its sequence numbers at 0; a device at its other end is what it reaches. -/
theorem qualifyEnd_passes (hq : qualifies (d.getLink l) fec hcs) : ∃ p, (d.getLink l).peer = some p ∧ (qualifyEnd l fec hcs d).getLink l =
    { d.getLink l with
      obj := (d.getLink l).obj.started d.nowNs, phase := .idle, phaseDue := none, reach := if p.1 then [p.2.1] else [], txSeq := 0, rxSeq := 0
      retry := [], gap := false, goodAt := d.now, ackAt := d.now } := by
  obtain ⟨hp, ht, rfl, rfl, hmax⟩ := hq
  obtain ⟨p, hp⟩ := Option.ne_none_iff_exists'.1 hp
  obtain ⟨t, ht⟩ := Option.ne_none_iff_exists'.1 ht
  refine ⟨p, hp, ?_⟩
  have inTime : t ≤ nsT 1500 := by simpa [ht] using hmax
  simp only [qualifyEnd]
  rw [if_neg (by simpa [or_assoc] using h), hp, ht]
  dsimp only
  rw [if_pos (by simpa using inTime), getLink_of_links (observe_links ..), getLink_of_links (reachRefresh_links _), getLink_putLink_same]

/-- One that does not waits 1 s for the next attempt. -/
theorem qualifyEnd_fails (hq : ¬ qualifies (d.getLink l) fec hcs) : qualifyEnd l fec hcs d =
    (d.putLink l { d.getLink l with
      phase := .retry, phaseDue := some (d.now + secT 1), hcsBad := (d.getLink l).hcsBad + hcs, fecBad := (d.getLink l).fecBad + fec }).raise
        0x0602 sevMinor (linkHandle l) [fByte 4] := by
  simp only [qualifyEnd]
  rw [if_neg (by simpa [or_assoc] using h)]
  split
  next p t hp ht => exact if_neg (by simpa [qualifies, hp, ht, and_assoc] using hq)
  next => rfl

end

theorem qualifyRetry_eq (l : Nat) (d : Dev) : qualifyRetry l d =
    let x := d.getLink l
    if x.obj.st = .starting ∧ x.phase = .retry ∧ due d.now x.phaseDue = true then
      if x.peer = none then sendDiscover l (d.putLink l { x with phase := .discover, phaseDue := none })
      else d.putLink l { x with phase := .qualify, phaseDue := some (d.now + secT 1), measAt := d.now }
    else d := by
  refine if_congr (by simp [and_assoc]) ?_ rfl
  cases (d.getLink l).peer <;> rfl

/-- The map of a RUNNING link to an element is kept; any other link has none. -/
theorem reachMap_eq (l : Nat) (m : List Nat) (d : Dev) : reachMap l m d =
    if (d.getLink l).obj.st = .running ∧ ∃ p ∈ (d.getLink l).peer, p.1 = false then
      reachRefresh (d.putLink l { d.getLink l with reach := m.filter (· < 2048) }) else d := by
  simp only [reachMap]; split
  next r hp => exact if_congr (by simp [hp]) rfl rfl
  next hp =>
    refine (if_neg ?_).symm
    rintro ⟨-, ⟨dev, r⟩, hpeer, rfl⟩
    exact hp r hpeer

theorem delayMeasure_eq (l : Nat) (d : Dev) : delayMeasure l d =
    let x := d.getLink l
    if (x.obj.st = .running ∨ x.phase = .qualify) ∧ x.measAt ≤ d.now then
      (d.putLink l { x with dreq := some (x.dseq, d.sysTicks), dseq := (x.dseq + 1) % 65536, measAt := d.now + secT 1 }).emit
        (.linkMsg l 3 [x.dseq])
    else d := if_congr (by simp) rfl rfl

end Dev
end Sys2Proof.Machine

namespace Sys2Proof
open Sys2Proof.Machine Sys2Proof.Machine.Dev

/-- Settles O31: what each row's operation does to its link, given above. -/
theorem fabricLinkRowsComplete : Obligations.FabricLinkRowsComplete := by
  refine ⟨?_, ?_, ?_, ?_, ?_, ?_, ?_, ?_, ?_, ?_, ?_, ?_, ?_, ?_, ?_, ?_⟩
  · intro s l m
    exact onDev_devStep rfl (discoverMsg_eq l m s.dev)
  · intro s l fec hcs
    refine onDev_devStep rfl ?_
    dsimp only; split
    next h => exact qualifyEnd_early h
    next h =>
      split
      next hq =>
        obtain ⟨p, hp, link⟩ := qualifyEnd_passes h hq
        rw [link]
        refine ⟨rfl, rfl, rfl, rfl, fun i r hr => ?_⟩
        cases hp.symm.trans hr
        rfl
      next hq => exact qualifyEnd_fails h hq
  · intro s l
    exact onDev_devStep rfl (qualifyRetry_eq l s.dev)
  · intro s l m
    exact onDev_devStep rfl (reachMap_eq l m s.dev)
  · intro s l n on
    exact onDev_devStep rfl (reachMap_eq l _ s.dev)
  · intro s l
    exact onDev_devStep rfl (delayMeasure_eq l s.dev)
  · intro s l n held
    exact onDev_devStep rfl rfl
  · intro s l n prx ptx held
    refine onDev_devStep rfl ?_
    dsimp only; split
    next hnone => simp only [delayRespMsg, hnone]
    next k t hsome => simp only [delayRespMsg, hsome]
  · intro s l
    exact onDev_devStep rfl (if_congr (by simp) rfl rfl)
  · intro s oe m lost
    refine onDev_devStep rfl ?_
    have states := laserInput_states oe m lost s.dev
    refine ⟨?_, fun hlost l hl => ?_⟩
    · have light : (laserInput oe m lost s.dev).fab.light = _ := congrArg Prod.snd states
      rw [light]
      cases lost
      · rfl
      · exact (List.append_nil _).symm
    · have state : (((laserInput oe m lost s.dev).getLink l).obj.st, ((laserInput oe m lost s.dev).getLink l).phase) =
          darkened (s.dev.linkStates.1 l) := (congrArg (fun p => p.1 l) states).trans (if_pos ⟨hlost, hl⟩)
      have dark := darkened_spec (s.dev.linkStates.1 l)
      rw [← state] at dark
      exact dark
  · intro s dev p down
    exact onDev_devStep rfl rfl
  · intro s dev v
    exact onDev_devStep rfl rfl
  · intro s
    exact onDev_devStep rfl rfl
  · intro s src c h
    exact replies_of_handler (f := fabLinkEnable) rfl h (check_cons ..)
  · intro s src c h
    exact replies_of_handler (f := fabLinkDisable) rfl h (check_cons ..)
  · intro s src c h
    exact replies_of_handler (f := fabGetLink) rfl h (check_cons ..)

end Sys2Proof
end

section
/-! PROOFS. O15: the commands that create, set, read and destroy tables. Each handler has an equation under the arguments that its table of the
manual allows; those arguments are a structure of their own where there are many. -/

namespace Sys2Proof.Machine
open Sys2Proof

namespace Dev

/-! ### TBL_CREATE (R154, R155, R167, R193, R194) -/

section
variable {c : Cmd}

/-- Key and result bits of the table that a TBL_CREATE spells: a flow table names them, another kind has those of Table 5.1. -/
def bitsSpelled (c : Cmd) : Nat × Nat := if c.f 0 1 = 6 then (c.f 2 2, c.f 4 1) else (kindBits (c.f 0 1)).getD (0, 0)

/-- No fixed kind is wider than the tunnel keys of kind 5 (Table 5.1). -/
theorem kindBits_sum_le (k : Nat) : ((kindBits k).getD (0, 0)).1 + ((kindBits k).getD (0, 0)).2 ≤ 304 := by
  unfold kindBits; split <;> decide

/-- The hash seed of the table that a TBL_CREATE spells: 0 asks for one of the device's own. -/
def seedSpelled (c : Cmd) (d : Dev) : Nat := if c.f 16 4 = 0 then (d.devId * 256 + c.hIdx) * 0x9E3779B9 % 2 ^ 32 else c.f 16 4

/-- A TBL_CREATE of an on-die table that keeps Table 5.10. -/
structure OnDieFits (c : Cmd) : Prop where
  type : c.hType = 0x06
  index : c.hIdx < 32
  kind : c.f 0 1 ≤ 6
  evict : c.f 1 1 ≤ 2
  fixed : c.f 0 1 ≠ 6 → c.f 2 2 = 0 ∧ c.f 4 1 = 0
  flow : c.f 0 1 = 6 → 8 ≤ c.f 2 2 ∧ c.f 2 2 ≤ 320 ∧ 8 ≤ c.f 4 1 ∧ c.f 4 1 ≤ 64 ∧ c.f 2 2 + c.f 4 1 ≤ 376
  width : c.f 5 1 = 0
  flags : c.f 6 1 = 0 ∨ (c.f 6 1 = 1 ∧ c.f 0 1 = 0)
  backs : c.f 7 1 = 0
  some : c.f 8 4 ≠ 0
  step : c.f 8 4 % 4096 = 0
  most : c.f 8 4 ≤ 1048576
  age : c.f 12 4 ≤ 86400
  reserved : c.dirty 20 12 = false

/-- The on-die table that a TBL_CREATE makes. -/
def onDieMade (c : Cmd) (d : Dev) : EmTable where
  kind := c.f 0 1
  evict := c.f 1 1
  keyBits := (bitsSpelled c).1
  resBits := (bitsSpelled c).2
  w := slotsOf ((bitsSpelled c).1 + (bitsSpelled c).2)
  learn := bit (c.f 6 1) 0
  n := c.f 8 4
  ageS := c.f 12 4
  swept := d.now
  seed := seedSpelled c d

theorem bitsSpelled_onDie_le (h : OnDieFits c) : (bitsSpelled c).1 + (bitsSpelled c).2 ≤ 376 := by
  unfold bitsSpelled; split
  next hk => obtain ⟨-, -, -, -, sum⟩ := h.flow hk; exact sum
  next => exact (kindBits_sum_le _).trans (by decide)

theorem tblCreate_onDie (d : Dev) (h : OnDieFits c) : tblCreate c d =
    if (tget d.fwd.tbl.em c.hIdx).isSome then .done d { status := .refusedBusy }
    else if 4194304 < tableSlots (onDieMade c d) + (d.fwd.tbl.em.map fun p => tableSlots p.2).sum then .done d { status := .noSpace }
    else .done (d.setEm false c.hIdx (onDieMade c d)) {} := by
  have bits := (bitsSpelled_onDie_le h).not_gt
  have flags : bit (c.f 6 1) 1 = false ∧ bit (c.f 6 1) 2 = false ∧ ¬ 8 ≤ c.f 6 1 ∧ ¬ (bit (c.f 6 1) 0 = true ∧ c.f 0 1 ≠ 0) := by
    rcases h.flags with hz | ⟨ho, hk⟩ <;> simp [bit, *]
  have widths : ¬ if c.f 0 1 = 6 then ((c.f 2 2 < 8 ∨ 320 < c.f 2 2) ∨ c.f 4 1 < 8) ∨ 64 < c.f 4 1 else c.f 2 2 ≠ 0 ∨ c.f 4 1 ≠ 0 := by
    split
    next hk => have := h.flow hk; omega
    next hk => have := h.fixed hk; omega
  have vacant : d.tblExists 0x06 c.hIdx = (tget d.fwd.tbl.em c.hIdx).isSome := rfl
  simp only [bitsSpelled] at bits
  simp [tblCreate, handleRange, h.type, h.index, h.kind.not_gt, h.evict.not_gt, h.width, h.backs, h.some, h.step, h.most.not_gt,
    h.age.not_gt, h.reserved, flags, widths, bits, vacant, onDieMade, tableSlots, bitsSpelled, seedSpelled]

/-- A TBL_CREATE of an extended table without backing that keeps Table 5.10. -/
structure ExtFits (c : Cmd) : Prop where
  type : c.hType = 0x07
  index : c.hIdx < 8
  kind : c.f 0 1 ≤ 5
  evict : c.f 1 1 ≤ 2
  keyBits : c.f 2 2 = 0
  resBits : c.f 4 1 = 0
  width : c.f 5 1 = 0
  flags : c.f 6 1 = 0 ∨ c.f 6 1 = 4
  backs : c.f 7 1 = 0xFF
  some : c.f 8 4 ≠ 0
  step : c.f 8 4 % 4096 = 0
  age : c.f 12 4 = 0
  reserved : c.dirty 20 12 = false
  bits : ((kindBits (c.f 0 1)).getD (0, 0)).1 + ((kindBits (c.f 0 1)).getD (0, 0)).2 ≤ 248

/-- The extended table that a TBL_CREATE makes. -/
def extMade (c : Cmd) (d : Dev) : EmTable where
  kind := c.f 0 1
  evict := c.f 1 1
  keyBits := (bitsSpelled c).1
  resBits := (bitsSpelled c).2
  w := slotsOf ((bitsSpelled c).1 + (bitsSpelled c).2)
  n := c.f 8 4
  ageS := 0
  swept := d.now
  seed := seedSpelled c d
  discard := bit (c.f 6 1) 2
  base := extBase d.fwd.tbl (c.f 8 4) 9 0

theorem tblCreate_ext (d : Dev) (h : ExtFits c) : tblCreate c d =
    if (tget d.fwd.tbl.ext c.hIdx).isSome then .done d { status := .refusedBusy }
    else if 33554432 < 4 * c.f 8 4 + (d.fwd.tbl.ext.map fun p => 4 * p.2.n).sum then .done d { status := .noSpace }
    else .done (d.setEm true c.hIdx (extMade c d)) {} := by
  have flags : bit (c.f 6 1) 1 = false ∧ bit (c.f 6 1) 0 = false ∧ ¬ 8 ≤ c.f 6 1 := by
    rcases h.flags with hz | hf <;> simp [bit, *]
  have fixed : c.f 0 1 ≠ 6 ∧ ¬ 6 < c.f 0 1 := by have := h.kind; omega
  have vacant : d.tblExists 0x07 c.hIdx = (tget d.fwd.tbl.ext c.hIdx).isSome := rfl
  simp [tblCreate, handleRange, h.type, h.index, fixed, h.evict.not_gt, h.keyBits, h.resBits, h.width, h.backs, h.some, h.step, h.age,
    h.reserved, h.bits.not_gt, flags, vacant, extMade, bitsSpelled, seedSpelled]

/-- A TBL_CREATE of a TCAM table that keeps Table 5.10. -/
structure TcamFits (c : Cmd) : Prop where
  type : c.hType = 0x08
  index : c.hIdx < 32
  kind : c.f 0 1 = 16 ∨ c.f 0 1 = 17
  evict : c.f 1 1 = 0
  keyBits : c.f 2 2 = 0
  resBits : c.f 4 1 = 0
  width : c.f 5 1 ≤ 2
  flags : c.f 6 1 = 0 ∨ c.f 6 1 = 2
  backs : c.f 7 1 = 0
  some : 1 ≤ c.f 8 4
  most : c.f 8 4 ≤ 32
  age : c.f 12 4 = 0
  seed : c.f 16 4 = 0
  reserved : c.dirty 20 12 = false

/-- The TCAM table that a TBL_CREATE makes. -/
def tcamMade (c : Cmd) (d : Dev) : TcamTable where
  egress := c.f 0 1 == 17
  width := c.f 5 1
  deny := bit (c.f 6 1) 1
  blocks := freeBlocks d.fwd.tbl (c.f 8 4)

theorem tblCreate_tcam (d : Dev) (h : TcamFits c) : tblCreate c d =
    if (tget d.fwd.tbl.tcam c.hIdx).isSome then .done d { status := .refusedBusy }
    else if (freeBlocks d.fwd.tbl (c.f 8 4)).length < c.f 8 4 then .done d { status := .noSpace }
    else .done (d.setTbl fun x => { x with tcam := tput x.tcam c.hIdx (tcamMade c d) }) {} := by
  have kind : ¬ (c.f 0 1 ≠ 16 ∧ c.f 0 1 ≠ 17) := by have := h.kind; omega
  have flags : ¬ (c.f 6 1 ≠ 0 ∧ c.f 6 1 ≠ 2) := by have := h.flags; omega
  have some : c.f 8 4 ≠ 0 := Nat.ne_of_gt h.some
  have vacant : d.tblExists 0x08 c.hIdx = (tget d.fwd.tbl.tcam c.hIdx).isSome := rfl
  simp [tblCreate, handleRange, h.type, h.index, kind, h.evict, h.keyBits, h.resBits, h.width.not_gt, flags, h.backs, some, h.most.not_gt,
    h.age, h.seed, h.reserved, vacant, tcamMade]

end

/-! ### TBL_DESTROY, TBL_SET_AGEING (R162, R193) -/

/-- The device without a table: the entries in a TCAM table's blocks go with it, and an extended table's lines in the cache. -/
def tblDestroyed (c : Cmd) (d : Dev) : Dev :=
  (d.setFwd fun f => { f with cache := f.cache.filter fun l => !(c.hType == 0x07 && l / 2 ^ 32 == 2 ^ 8 + c.hIdx) }).setTbl fun x =>
    match c.hType with
    | 0x06 => { x with em := tdel x.em c.hIdx }
    | 0x07 => { x with ext := tdel x.ext c.hIdx }
    | _ => { x with tcam := tdel x.tcam c.hIdx
                    acl := x.acl.filter fun p => !(match tget d.fwd.tbl.tcam c.hIdx with
                      | some k => k.blocks.contains (p.1 / 3072) | none => false) }

theorem tblDestroy_eq (c : Cmd) (d : Dev) : tblDestroy c d =
    if d.tblExists c.hType c.hIdx = false then .done d { status := .badHandle }
    else if tblNamed d.fwd.tbl c.hType c.hIdx then .done d { status := .refusedBusy }
    else .done (tblDestroyed c d) {} := by
  simp only [tblDestroy, check_cons, check_nil, Bool.not_eq_true']
  rfl

theorem tblSetAgeing_of_none {c : Cmd} {d : Dev} (h : tget d.fwd.tbl.em c.hIdx = none) :
    tblSetAgeing c d = .done d { status := .badHandle } := by
  simp only [tblSetAgeing, h]

theorem tblSetAgeing_of_some {c : Cmd} {d : Dev} {t : EmTable} (h : tget d.fwd.tbl.em c.hIdx = some t) : tblSetAgeing c d =
    if c.hType ≠ 0x06 then .done d { status := .badHandle }
    else if 86400 < c.f 0 4 ∨ c.dirty 4 28 = true then .done d { status := .badArg }
    else .done (d.setEm false c.hIdx { t with ageS := c.f 0 4 }) {} := by
  simp [tblSetAgeing, h]

/-! ### TBL_GET_STATUS, TBL_READ (R195, Table 5.12) -/

/-- A field beyond the first of a record is a field of the rest. -/
theorem field_le_skip (v n : Nat) (r : Bytes) {off w : Nat} (h : v ≤ off) : field (le v n ++ r) off w = field r (off - v) w := by
  have beyond : (le v n).drop off = [] := List.drop_eq_nil_of_le (by simpa using h)
  simp [field, slice, List.drop_append, beyond]

theorem tblRecord_length (idx ty cap occ ovf c0 c1 c2 c3 c4 c5 c6 : Nat) :
    (tblRecord idx ty cap occ ovf c0 c1 c2 c3 c4 c5 c6).length = 64 := by simp [tblRecord]

/-- The capacity, the occupancy, the first and the last counter of a status record. -/
theorem tblRecord_fields (idx ty cap occ ovf c0 c1 c2 c3 c4 c5 c6 : Nat) :
    field (tblRecord idx ty cap occ ovf c0 c1 c2 c3 c4 c5 c6) 4 4 = cap % 2 ^ 32 ∧
    field (tblRecord idx ty cap occ ovf c0 c1 c2 c3 c4 c5 c6) 8 4 = occ % 2 ^ 32 ∧
    field (tblRecord idx ty cap occ ovf c0 c1 c2 c3 c4 c5 c6) 16 8 = c0 % 2 ^ 64 ∧
    field (tblRecord idx ty cap occ ovf c0 c1 c2 c3 c4 c5 c6) 60 4 = sat32 c6 := by
  have first (w n : Nat) (r : Bytes) : field (le w n ++ r) 0 w = n % 256 ^ w := field_append (a := []) n rfl
  have last : field (le 4 (sat32 c6)) 0 4 = sat32 c6 := by
    rw [← List.append_nil (le 4 (sat32 c6)), first]
    exact Nat.mod_eq_of_lt (Nat.lt_of_le_of_lt (Nat.min_le_right ..) (by decide))
  simp [tblRecord, field_le_skip, first, last]

theorem tblGetStatus_lpm {c : Cmd} (d : Dev) (ht : c.hType = 0x00) (hi : c.hIdx = 0) : tblGetStatus c d =
    .done d { record := some (tblRecord 0 0 16777216 (allUnits d.fwd.tbl + d.unitsTwice) 0 0 0 0 0 0 0 d.fwd.lpmUe) } := by
  have good : c.bad c.hType = false := by simp [Cmd.bad, ht, hi, handleRange]
  rw [ht] at good
  simp [tblGetStatus, ht, good]

theorem tblGetStatus_onDie {c : Cmd} {d : Dev} {t : EmTable} (ht : c.hType = 0x06) (hi : c.hIdx < 32)
    (h : tget d.fwd.tbl.em c.hIdx = some t) : tblGetStatus c d =
    .done d { record := some (tblRecord c.hIdx 6 (t.capacity false) t.used t.ovf.length t.evictions t.learns t.moves t.moveRefused t.aged
      (t.learnOverflow + t.learnNoSpace) t.ecc) } := by
  have good : c.bad 0x06 = false := by simp [Cmd.bad, ht, hi, handleRange]
  simp [tblGetStatus, ht, good, h]

theorem tblRead_lpm {c : Cmd} (d : Dev) (ht : c.hType = 0x09) (hi : c.hIdx < 65536) : tblRead c d =
    .done d { record := some ((d.fwd.tbl.lpm.filter (·.vrf == c.hIdx)).flatMap routeRecord) } := by
  simp [tblRead, ht, hi]

/-! ### VRF_SET, TBL_SET_EXT_RATE, TBL_SET_PROFILE (R153, R171, R185) -/

/-- The VRF that a VRF_SET spells. -/
def vrfSpelled (c : Cmd) : Vrf where
  quota := c.f 0 4
  dflt := if bit (c.f 4 4) 31 then some (c.f 4 4 % 2 ^ 24) else none
  host4 := optIdx (c.f 8 1)
  host6 := optIdx (c.f 9 1)

/-- A VRF_SET whose fields are in range and whose host tables are of the kinds 1 and 2. -/
structure VrfFits (c : Cmd) (d : Dev) : Prop where
  handle : c.bad 0x09 = false
  quota : c.f 0 4 ≤ 16777216
  pad : c.f 4 4 / 2 ^ 24 % 128 = 0
  dflt : routeOk (c.f 4 4 % 2 ^ 24) = true
  host4 : kindIs d.fwd.tbl.em (optIdx (c.f 8 1)) [1] = true
  host6 : kindIs d.fwd.tbl.em (optIdx (c.f 9 1)) [2] = true
  reserved : c.dirty 10 22 = false

/-- A VRF that fits is stored, unless its host lookup is the fifth of a profile. -/
theorem vrfSet_eq {c : Cmd} {d : Dev} (h : VrfFits c d) : vrfSet c d =
    let nv := tset d.fwd.tbl.vrf {} c.hIdx (vrfSpelled c)
    if anyHost { d.fwd.tbl with vrf := nv } = true ∧ d.fwd.tbl.profile.any (fun p => decide (4 < profileCount true p.2)) = true then
      .done d { status := .badArg }
    else .done (d.setTbl fun x => { x with vrf := nv }) {} := by
  simp only [vrfSet, check_cons, check_nil, h.handle, h.pad, h.dflt, h.host4, h.host6, h.reserved, Bool.false_eq_true, if_false]
  exact if_congr (by simp [h.quota.not_gt, vrfSpelled]) rfl rfl

theorem tblSetExtRate_eq (c : Cmd) (d : Dev) : tblSetExtRate c d =
    let x := d.getPipe c.hIdx
    if c.bad 0x03 then .done d { status := .badHandle }
    else if 96 < c.f 0 2 ∨ c.dirty 2 30 = true then .done d { status := .badArg }
    else if 800 < (((List.range 32).filter (· != c.hIdx)).map fun k => (d.getPipe k).extRate).sum + c.f 0 2 then
      .done d { status := .budgetExceeded }
    else .done (d.setPipe c.hIdx { x with extTok := d.extTokens x, extStamp := d.now, extRate := c.f 0 2 }) {} := by
  simp [tblSetExtRate]

/-- The profile that a TBL_SET_PROFILE spells. -/
def profileSpelled (c : Cmd) : Profile where
  mac := optIdx (c.f 2 1)
  mpls := optIdx (c.f 3 1)
  depth := c.f 4 1
  tunnel := optIdx (c.f 5 1)
  flow := optIdx (c.f 6 1)
  ext := optIdx (c.f 7 1)
  aclIn := optIdx (c.f 8 1)
  aclOut := optIdx (c.f 9 1)

/-- A TBL_SET_PROFILE whose fields are in range and whose tables exist and are of the kinds that Table 5.5 names. -/
structure ProfileFits (c : Cmd) (d : Dev) : Prop where
  handle : c.bad 0x00 = false
  index : c.f 0 2 ≤ 1023
  reserved : c.dirty 10 22 = false
  depth : (profileSpelled c).depth ≤ 3
  labels : (profileSpelled c).depth = 0 ∨ (profileSpelled c).mpls ≠ none
  mac : kindIs d.fwd.tbl.em (profileSpelled c).mac [0] = true
  mpls : kindIs d.fwd.tbl.em (profileSpelled c).mpls [3] = true
  tunnel : kindIs d.fwd.tbl.em (profileSpelled c).tunnel [4, 5] = true
  flow : kindIs d.fwd.tbl.em (profileSpelled c).flow [6] = true
  ext : kindIs d.fwd.tbl.ext (profileSpelled c).ext [0, 1, 2, 3, 4, 5, 6] = true
  aclIn : ∀ i, (profileSpelled c).aclIn = some i → ∃ x, tget d.fwd.tbl.tcam i = some x ∧ x.egress = false
  aclOut : ∀ i, (profileSpelled c).aclOut = some i → ∃ x, tget d.fwd.tbl.tcam i = some x ∧ x.egress = true

/-- A field names no table, or a TCAM table of one direction. -/
def tcamIs (t : Tab TcamTable) (o : Option Nat) (eg : Bool) : Bool :=
  match o with
  | none => true
  | some i => match tget t i with | some x => x.egress == eg | none => false

theorem tcamIs_of_egress {t : Tab TcamTable} {o : Option Nat} {eg : Bool} (h : ∀ i, o = some i → ∃ x, tget t i = some x ∧ x.egress = eg) :
    tcamIs t o eg = true := by
  cases o with
  | none => rfl
  | some i => obtain ⟨x, hx, rfl⟩ := h i rfl; simp [tcamIs, hx]

/-- The tests of TBL_SET_PROFILE, over the profile spelled. -/
theorem tblSetProfile_checks (c : Cmd) (d : Dev) : tblSetProfile c d =
    let t := d.fwd.tbl
    let p := profileSpelled c
    d.check [(c.bad 0x00, .badHandle), (decide (1023 < c.f 0 2) || decide (3 < p.depth) || (decide (0 < p.depth) && p.mpls.isNone) ||
        !kindIs t.em p.mac [0] || !kindIs t.em p.mpls [3] || !kindIs t.em p.tunnel [4, 5] || !kindIs t.em p.flow [6] ||
        !kindIs t.ext p.ext [0, 1, 2, 3, 4, 5, 6] || !tcamIs t.tcam p.aclIn false || !tcamIs t.tcam p.aclOut true ||
        decide (4 < profileCount (anyHost t) p) || c.dirty 10 22, .badArg)]
      (.done (d.setTbl fun x => { x with profile := tset x.profile {} (c.f 0 2) p }) {}) := rfl

/-- A profile that fits is stored, unless it counts more than four lookups. -/
theorem tblSetProfile_eq {c : Cmd} {d : Dev} (h : ProfileFits c d) : tblSetProfile c d =
    if 4 < profileCount (anyHost d.fwd.tbl) (profileSpelled c) then .done d { status := .badArg }
    else .done (d.setTbl fun x => { x with profile := tset x.profile {} (c.f 0 2) (profileSpelled c) }) {} := by
  have labels : ¬ (0 < (profileSpelled c).depth ∧ (profileSpelled c).mpls = none) := by
    rintro ⟨deep, bare⟩
    exact h.labels.elim (Nat.ne_of_gt deep) (· bare)
  simp [tblSetProfile_checks, h.handle, h.index.not_gt, h.depth.not_gt, labels, h.mac, h.mpls, h.tunnel, h.flow, h.ext,
    tcamIs_of_egress h.aclIn, tcamIs_of_egress h.aclOut, h.reserved]

end Dev
end Sys2Proof.Machine

namespace Sys2Proof
open Sys2Proof.Machine Sys2Proof.Machine.Dev

/-- Settles O15: what each handler answers, given above. -/
theorem tableCommandRowsComplete : Obligations.TableCommandRowsComplete := by
  refine ⟨?_, ?_, ?_, ?_, ?_, ?_, ?_, ?_, ?_, ?_, ?_⟩
  · intro s src c h ht hi hk he hfixed hflow hw hfl hb hz hstep hmost hage hr
    exact replies_of_handler (f := tblCreate) rfl h
      (tblCreate_onDie s.dev ⟨ht, hi, hk, he, hfixed, hflow, hw, hfl, hb, hz, hstep, hmost, hage, hr⟩)
  · intro s src c h ht hi hk he hkey hres hw hfl hb hz hstep hage hr hbits hfree
    have reply := tblCreate_ext s.dev ⟨ht, hi, hk, he, hkey, hres, hw, hfl, hb, hz, hstep, hage, hr, hbits⟩
    rw [hfree, if_neg Bool.false_ne_true] at reply
    split
    next hfull => exact replies_of_handler (f := tblCreate) rfl h (reply.trans (if_pos hfull))
    next hroom =>
      exact ⟨_, replies_of_handler (f := tblCreate) rfl h (reply.trans (if_neg hroom)), extMade c s.dev, tget_tput_same .., rfl, rfl, rfl, rfl,
        rfl, rfl⟩
  · intro s src c h ht hi hk he hkey hres hw hfl hb hsome hmost hage hseed hr
    exact replies_of_handler (f := tblCreate) rfl h
      (tblCreate_tcam s.dev ⟨ht, hi, hk, he, hkey, hres, hw, hfl, hb, hsome, hmost, hage, hseed, hr⟩)
  · intro s src c h
    exact replies_of_handler (f := tblDestroy) rfl h (tblDestroy_eq c s.dev)
  · intro s src c h ht hi
    obtain ⟨-, occupancy, -, errors⟩ := tblRecord_fields 0 0 16777216 (allUnits s.dev.fwd.tbl + s.dev.unitsTwice) 0 0 0 0 0 0 0 s.dev.fwd.lpmUe
    exact ⟨_, replies_of_handler (f := tblGetStatus) rfl h (tblGetStatus_lpm s.dev ht hi), tblRecord_length .., occupancy, errors⟩
  · intro s src c t h ht hi hg
    obtain ⟨capacity, occupancy, evictions, -⟩ := tblRecord_fields c.hIdx 6 (t.capacity false) t.used t.ovf.length t.evictions t.learns t.moves
      t.moveRefused t.aged (t.learnOverflow + t.learnNoSpace) t.ecc
    exact ⟨_, replies_of_handler (f := tblGetStatus) rfl h (tblGetStatus_onDie ht hi hg), tblRecord_length .., capacity, occupancy, evictions⟩
  · intro s src c h ht hi
    exact replies_of_handler (f := tblRead) rfl h (tblRead_lpm s.dev ht hi)
  · intro s src c h
    refine replies_of_handler (f := tblSetAgeing) rfl h ?_
    split
    next hnone => exact tblSetAgeing_of_none hnone
    next t ht => exact tblSetAgeing_of_some ht
  · intro s src c h hb hq hp hd h4 h6 hr
    exact replies_of_handler (f := vrfSet) rfl h (vrfSet_eq ⟨hb, hq, hp, hd, h4, h6, hr⟩)
  · intro s src c h
    exact replies_of_handler (f := tblSetExtRate) rfl h (tblSetExtRate_eq c s.dev)
  · intro s src c h hb hi hr t p hdepth hlabels hmac hmpls htunnel hflow hext hin hout
    exact replies_of_handler (f := tblSetProfile) rfl h
      (tblSetProfile_eq ⟨hb, hi, hr, hdepth, hlabels, hmac, hmpls, htunnel, hflow, hext, hin, hout⟩)

end Sys2Proof
end

section
/-! PROOFS. O20: the commands of the packet engines. Each handler has a lemma for what it answers. -/

namespace Sys2Proof.Machine
open Sys2Proof

namespace Dev

/-! ### PE_ENABLE, PE_GET_STATUS (R226, Table 6.8a) -/

/-- An enable takes the step of Table 16.5; the one that begins a start loads the engine's images. -/
theorem peEnable_eq (c : Cmd) (d : Dev) : peEnable c d =
    let x := d.getEng c.hIdx
    let r := x.obj.enable d.nowNs
    if c.bad 0x0A then .done d { status := .badHandle }
    else .done (d.setEng c.hIdx (if x.obj.st = .stopped then { x with obj := r.obj, image := d.loadImages c.hIdx, data := [], dataUe := [] }
      else { x with obj := r.obj })) { status := r.status } := by
  have begins (o : Obj) (ns : Nat) : (o.enable ns).begins = true ↔ o.st = .stopped := by
    cases h : o.st <;> simp [Obj.enable, h]
  simp [peEnable, loaded, begins]

/-- The function that a command names. -/
def fnNamed (c : Cmd) (d : Dev) : Option Func := if c.bad 0x0B then none else tget d.pe.fn c.hIdx

theorem peGetStatus_fn {c : Cmd} (d : Dev) (ht : c.hType = 0x0B) : peGetStatus c d =
    match fnNamed c d with
    | none => .done d { status := .badHandle }
    | some f => statusReply c d [fCnt f.invocations, fCnt f.bypasses, fCnt f.busy, fCnt f.fault, fCnt f.dropped, fCnt f.emitRefused] :=
  if_pos ht

/-- The record of an engine begins with its state. -/
theorem peGetStatus_engine {c : Cmd} (d : Dev) (ht : c.hType ≠ 0x0B) : ∃ rest, peGetStatus c d =
    if c.bad 0x0A then .done d { status := .badHandle } else statusReply c d (fByte (d.getEng c.hIdx).obj.st.code :: rest) := by
  simp only [peGetStatus, if_neg ht, check_cons, check_nil]
  exact ⟨_, rfl⟩

/-! ### PE_MODULE_LOAD (R203, R225) -/

theorem peModuleLoad_unloads {c : Cmd} (nv : Nv) (pl : HostRead) (d : Dev) (hb : c.bad 0x0C = false) (hd : c.dirty 4 28 = false)
    (hn : c.f 0 4 = 0) : peModuleLoad nv pl c d =
    if d.moduleUsed c.hIdx = true ∨ d.pe.roll.isSome = true then .done d { status := .refusedBusy }
    else .done { d with pe := { d.pe with module := tdel d.pe.module c.hIdx } } {} := by
  simp [peModuleLoad, hb, hd, hn]

/-- The component of type `t` that an image holds alone, where the image verifies (R203). -/
def soleComp (nv : Nv) (b : Bytes) (t : Nat) := if (verifyImg nv b).isNone then oneComp b t else none

/-- The device with module `m` loaded, and its area where a function names it. -/
def moduleLoaded (d : Dev) (m : Nat) (x : Module) : Dev :=
  let d1 : Dev := { d with pe := { d.pe with module := tput d.pe.module m x } }
  if d.moduleUsed m then (takeArea m d1).getD d1 else d1

/-- A load of an image that was read, unless a rollout is on, stores the module of one that verifies. -/
theorem peModuleLoad_loads {c : Cmd} {pl : HostRead} (nv : Nv) (d : Dev) (hb : c.bad 0x0C = false) (hd : c.dirty 4 28 = false)
    (hn : c.f 0 4 ≠ 0) (hp : pl.isSome = true) : peModuleLoad nv pl c d =
    if d.pe.roll.isSome then .done d { status := .refusedBusy }
    else match soleComp nv ((pl.getD []).take (c.f 0 4)) 7 with
      | none => .done d { status := .verifyFailed }
      | some (_, p) => .done (d.moduleLoaded c.hIdx (moduleOf ((pl.getD []).take (c.f 0 4)) p)) {} := by
  have tests (go : Reply) : d.check [(c.bad 0x0C, .badHandle), (pl.isNone || c.dirty 4 28, .badArg), (d.pe.roll.isSome, .refusedBusy)] go =
      if d.pe.roll.isSome then .done d { status := .refusedBusy } else go := by
    simp [hb, hd, Option.isSome_iff_ne_none.1 hp]
  refine (if_neg hn).trans ?_
  rw [← soleComp]
  cases soleComp nv ((pl.getD []).take (c.f 0 4)) 7 with
  | none => exact tests _
  | some x => exact tests _

/-! ### FN_SET (R204, R205, Table 6.3) -/

/-- A new function that an FN_SET spells. -/
def funcSpelled (c : Cmd) : Func where
  module := c.f 0 1
  drop := bit (c.f 1 1) 0
  userTrace := bit (c.f 1 1) 1
  entry := c.f 2 2
  timeNs := if c.f 4 4 = 0 then 10000 else c.f 4 4
  issues := if c.f 8 2 = 0 then 256 else c.f 8 2
  placement := BitVec.ofNat 64 (c.f 16 8)

theorem fnSet_deletes {c : Cmd} (d : Dev) (hb : c.bad 0x0B = false) (hr : c.dirty 10 6 = false ∧ c.dirty 24 8 = false)
    (hf : c.f 1 1 < 8) (hdel : bit (c.f 1 1) 2 = true) :
    fnSet c d = .done (freeAreas { d with pe := { d.pe with fn := tdel d.pe.fn c.hIdx } }) {} := by
  simp [fnSet, hb, hr, hf, hdel]

/-- An FN_SET of a new function that keeps Table 6.3. -/
structure FnFits (c : Cmd) (d : Dev) (m : Module) : Prop where
  handle : c.bad 0x0B = false
  reserved : c.dirty 10 6 = false ∧ c.dirty 24 8 = false
  index : c.f 0 1 ≤ 63
  flags : c.f 1 1 < 4
  time : c.f 4 4 = 0 ∨ (100 ≤ c.f 4 4 ∧ c.f 4 4 ≤ 100000)
  issues : c.f 8 2 = 0 ∨ 16 ≤ c.f 8 2
  placement : c.f 16 8 ≠ 0
  loaded : tget d.pe.module (c.f 0 1) = some m
  entry : c.f 2 2 < m.entries
  new : tget d.pe.fn c.hIdx = none
  room : d.pe.fn.length < 4096

/-- Module `m` on engine `e`, where a function placed by `f` runs there and its code does not stand there yet. -/
def placeOn (m : Nat) (f : Func) (d : Dev) (e : Nat) : Dev :=
  match tget d.pe.module m with
  | some y => if f.placement.getLsbD e && (d.getEng e).obj.st == .running && (tget (d.getEng e).image m).isNone then
      d.setEng e { d.getEng e with image := tput (d.getEng e).image m (placed y) } else d
  | none => d

/-- The device with function `i` made `f`, before its module has its area. -/
def fnPut (d : Dev) (i : Nat) (f : Func) : Dev := freeAreas { d with pe := { d.pe with fn := tput d.pe.fn i f } }

theorem fnSet_eq {c : Cmd} {d : Dev} {m : Module} (h : FnFits c d m) : fnSet c d =
    let a := takeArea (c.f 0 1) (d.fnPut c.hIdx (funcSpelled c))
    if d.fnFits c.hIdx (funcSpelled c) = false ∨ a = none then .done d { status := .noSpace }
    else .done ((List.range 64).foldl (placeOn (c.f 0 1) (funcSpelled c)) (a.getD d)) {} := by
  have keep : bit (c.f 1 1) 2 = false := by have := h.flags; simp [bit]; omega
  have module : decide (63 < c.f 0 1) = false := by simpa using h.index
  have flags : decide (8 ≤ c.f 1 1) = false := by have := h.flags; simp; omega
  have time : (c.f 4 4 != 0 && (decide (c.f 4 4 < 100) || decide (100000 < c.f 4 4))) = false := by have := h.time; simp; omega
  have issues : (c.f 8 2 != 0 && decide (c.f 8 2 < 16)) = false := by have := h.issues; simp; omega
  have placement : (c.f 16 8 == 0) = false := by simpa using h.placement
  have entry : decide (m.entries ≤ c.f 2 2) = false := by simpa using h.entry
  simp only [fnSet, keep, Bool.and_false, Bool.false_eq_true, if_false, check_cons, check_nil, h.handle, h.reserved, h.loaded, h.new, module,
    flags, time, issues, placement, entry, Bool.or_false]
  refine if_congr ?_ rfl rfl
  simp [h.room.not_ge, fnPut, funcSpelled]

theorem fnSet_full {c : Cmd} {d : Dev} {m : Module} (h : FnFits c d m) (full : d.fnFits c.hIdx (funcSpelled c) = false ∨
    takeArea (c.f 0 1) (d.fnPut c.hIdx (funcSpelled c)) = none) : fnSet c d = .done d { status := .noSpace } :=
  (fnSet_eq h).trans (if_pos full)

/-- Taking an area changes the modules alone. -/
theorem takeArea_module {m : Nat} {d a : Dev} (h : takeArea m d = some a) : ∃ l, a = { d with pe := { d.pe with module := l } } := by
  unfold takeArea at h
  split at h
  · cases h
  · split at h
    · cases h; exact ⟨d.pe.module, rfl⟩
    · obtain ⟨b, -, rfl⟩ := Option.map_eq_some_iff.1 h
      exact ⟨_, rfl⟩

/-- Placing a module changes the engines alone. -/
theorem placeOn_eng (m : Nat) (f : Func) (d : Dev) (e : Nat) : ∃ l, placeOn m f d e = { d with pe := { d.pe with eng := l } } := by
  unfold placeOn; (repeat' split)
  · exact ⟨_, rfl⟩
  · exact ⟨d.pe.eng, rfl⟩
  · exact ⟨d.pe.eng, rfl⟩

theorem foldl_placeOn_eng (m : Nat) (f : Func) (es : List Nat) (d : Dev) :
    ∃ l, es.foldl (placeOn m f) d = { d with pe := { d.pe with eng := l } } := by
  refine List.foldlRecOn (motive := fun y : Dev => ∃ l, y = { d with pe := { d.pe with eng := l } }) es _ ⟨d.pe.eng, rfl⟩ ?_
  rintro _ ⟨l, rfl⟩ e -
  exact placeOn_eng m f { d with pe := { d.pe with eng := l } } e

/-- A function that fits is stored, and its module has the area it took. -/
theorem fnSet_stores {c : Cmd} {d a : Dev} {m : Module} (h : FnFits c d m) (fits : d.fnFits c.hIdx (funcSpelled c) = true)
    (area : takeArea (c.f 0 1) (d.fnPut c.hIdx (funcSpelled c)) = some a) : ∃ y : Dev, fnSet c d = .done y {} ∧
      y.pe.fn = tput d.pe.fn c.hIdx (funcSpelled c) ∧ y.pe.module = a.pe.module ∧ y.pe.trig = d.pe.trig := by
  obtain ⟨l, placed⟩ := foldl_placeOn_eng (c.f 0 1) (funcSpelled c) (List.range 64) a
  have stores := (fnSet_eq h).trans (if_neg (by simp [fits, area]))
  rw [area, Option.getD_some, placed] at stores
  refine ⟨_, stores, ?_⟩
  obtain ⟨k, rfl⟩ := takeArea_module area
  exact ⟨rfl, rfl, rfl⟩

/-! ### PE_PATCH (R224, R225) -/

/-- The rollout that a PE_PATCH begins: of the module `old`, by the delta that component `p` of image `b` holds. -/
def rolloutOf (c : Cmd) (d : Dev) (old : Module) (b : Bytes) (p : Comp) : Rollout :=
  let new := Config.applyDelta old.image (compBytes b p)
  let n := Config.moduleDecl new
  { intake := c.intake, module := c.hIdx, old := old, todo := d.patchEngines c.hIdx, done := [], back := false
    new := { version := p.version, image := new, prog := n.1, data := n.2.1, hbm := n.2.2.1, entries := min 256 n.2.2.2, area := old.area } }

/-- A patch, read and of a module that is loaded, begins a rollout unless one is on, when its image verifies and is made for the module's
version. -/
theorem pePatch_eq {c : Cmd} (nv : Nv) (b : Bytes) (d : Dev) (hb : c.bad 0x0C = false) (hd : c.dirty 4 28 = false) :
    pePatch nv (some b) c d =
    match tget d.pe.module c.hIdx with
    | none => .done d { status := .badHandle }
    | some old =>
      if d.pe.roll.isSome then .done d { status := .refusedBusy }
      else match soleComp nv (b.take (c.f 0 4)) 8 with
      | none => .done d { status := .verifyFailed }
      | some (i, p) =>
        if i.base ≠ old.version then .done d { status := .badArg }
        else .pend ((d.startCmd c.intake).patchNext (rolloutOf c d old (b.take (c.f 0 4)) p)) := by
  have tests (go : Reply) : d.check [(c.bad 0x0C, .badHandle), ((some b).isNone || c.dirty 4 28, .badArg),
      ((tget d.pe.module c.hIdx).isNone, .badHandle), (d.pe.roll.isSome, .refusedBusy)] go =
      if (tget d.pe.module c.hIdx).isNone then .done d { status := .badHandle }
      else if d.pe.roll.isSome then .done d { status := .refusedBusy } else go := by
    simp [hb, hd]
  unfold pePatch
  simp only [tests, Option.getD_some]
  rw [← soleComp]
  cases tget d.pe.module c.hIdx with
  | none => rfl
  | some old =>
    cases soleComp nv (b.take (c.f 0 4)) 8 with
    | none => rfl
    | some x =>
      by_cases base : x.1.base = old.version
      · simp [base, rolloutOf]
      · simp [base]

/-! ### FN_SET_TRIGGER (R212, Table 6.4) -/

theorem fnSetTrigger_deletes {c : Cmd} (d : Dev) (hb : c.bad 0x0D = false) (hr : c.dirty 2 2 = false ∧ c.dirty 24 8 = false)
    (hk : c.f 4 4 = 0) : fnSetTrigger c d = .done { d with pe := { d.pe with trig := tdel d.pe.trig c.hIdx } } {} := by
  simp [fnSetTrigger, hb, hr, hk]

/-- An FN_SET_TRIGGER with a first instant that keeps Table 6.4. -/
structure TrigFits (c : Cmd) (d : Dev) : Prop where
  handle : c.bad 0x0D = false
  reserved : c.dirty 2 2 = false ∧ c.dirty 24 8 = false
  some : 1 ≤ c.f 4 4
  most : c.f 4 4 ≤ 1048576
  short : 1000 ≤ c.f 8 8
  long : c.f 8 8 ≤ 60000000000
  fn : (d.getFn (c.f 0 2)).isSome = true
  start : c.f 16 8 ≠ 0

theorem fnSetTrigger_sets {c : Cmd} {d : Dev} (h : TrigFits c d) : fnSetTrigger c d =
    if d.triggerRateOk c.hIdx (c.f 4 4) (c.f 8 8) = false then .done d { status := .budgetExceeded }
    else .done { d with pe := { d.pe with trig := tput d.pe.trig c.hIdx {
      fn := c.f 0 2, k := c.f 4 4, periodNs := c.f 8 8, start := (c.f 16 8 : Int) * 65536 } } } {} := by
  have known : (d.getFn (c.f 0 2)).isNone = false := by simpa using h.fn
  simp [fnSetTrigger, h.handle, h.reserved, Nat.ne_of_gt h.some, h.most.not_gt, h.short.not_gt, h.long.not_gt, known, h.start]

end Dev
end Sys2Proof.Machine

namespace Sys2Proof
open Sys2Proof.Machine Sys2Proof.Machine.Dev

/-- Settles O20: what each handler answers, given above. -/
theorem engineCommandRowsComplete : Obligations.EngineCommandRowsComplete := by
  refine ⟨?_, ?_, ?_, ?_, ?_, ?_, ?_, ?_, ?_, ?_, ?_, ?_⟩
  · intro s src c h
    exact replies_of_handler (f := peEnable) rfl h (peEnable_eq c s.dev)
  · intro s src c h
    exact replies_of_handler (f := peDisable) rfl h (check_cons ..)
  · intro s src c h ht
    refine replies_of_handler (f := peGetStatus) rfl h ((peGetStatus_fn s.dev ht).trans ?_)
    rw [← fnNamed]
    cases fnNamed c s.dev <;> rfl
  · intro s src c h ht
    obtain ⟨rest, reply⟩ := peGetStatus_engine s.dev ht
    exact ⟨_, replies_of_handler (f := peGetStatus) rfl h reply, rfl⟩
  · intro s src pl c h hb hd
    refine ⟨fun hn => ?_, fun hn hp => ?_⟩
    · exact replies_of_handler (f := peModuleLoad s.nv pl) rfl h (peModuleLoad_unloads s.nv pl s.dev hb hd hn)
    · exact replies_of_handler (f := peModuleLoad s.nv pl) rfl h (peModuleLoad_loads s.nv s.dev hb hd hn hp)
  · intro s src c h hb hr hr'
    refine ⟨fun hf hdel => replies_of_handler (f := fnSet) rfl h (fnSet_deletes s.dev hb ⟨hr, hr'⟩ hf hdel), ?_⟩
    intro m f hi hfl ht hiss hpl hm hentry hnew hroom hf
    obtain rfl : f = funcSpelled c := hf
    have keeps : FnFits c s.dev m := ⟨hb, ⟨hr, hr'⟩, hi, hfl, ht, hiss, hpl, hm, hentry, hnew, hroom⟩
    split
    next full => exact replies_of_handler (f := fnSet) rfl h (fnSet_full keeps (.inr full))
    next a area =>
      split
      next fits =>
        obtain ⟨d, stores, stored⟩ := fnSet_stores keeps fits area
        exact ⟨d, replies_of_handler (f := fnSet) rfl h stores, stored⟩
      next tight => exact replies_of_handler (f := fnSet) rfl h (fnSet_full keeps (.inl (eq_false_of_ne_true tight)))
  · intro s src c h
    refine replies_of_handler (f := peSetSlots) rfl h ?_
    simp [peSetSlots, State.refusal, or_assoc]
  · intro s src b c h hb hd
    exact replies_of_handler (f := pePatch s.nv (some b)) rfl h (pePatch_eq s.nv b s.dev hb hd)
  · intro s src c h
    refine replies_of_handler (f := peThreadRestore) rfl h ?_
    simp [peThreadRestore, State.refusal, or_assoc]
  · intro s src c h
    exact replies_of_handler (f := peTraceRead) rfl h (check_cons ..)
  · intro s src c h
    refine replies_of_handler (f := peTraceConfig) rfl h ?_
    simp [peTraceConfig, State.refusal, or_assoc]
  · intro s src c h hb hr hr'
    refine ⟨fun hk => ?_, fun hsome hmost hshort hlong hfn hstart => ?_⟩
    · exact replies_of_handler (f := fnSetTrigger) rfl h (fnSetTrigger_deletes s.dev hb ⟨hr, hr'⟩ hk)
    · exact replies_of_handler (f := fnSetTrigger) rfl h
        (fnSetTrigger_sets ⟨hb, ⟨hr, hr'⟩, hsome, hmost, hshort, hlong, hfn, hstart⟩)

end Sys2Proof
end

section
/-! PROOFS. Packet engines: what an engine reads as after another operation, up to what its issues, its trace and its idle time write, and what
each shared operation of the engines can do to it at most. -/

namespace Sys2Proof.Machine
open Sys2Proof

namespace Engine

/-- An engine with all blanked out that a record, an issue, a sample and the idle time write. -/
def core (x : Engine) : Engine :=
  { x with slot := 0, borrower := 0, trace := [], traceAt := 0, traceN := 0, traceFull := false, sampled := 0, idleSince := 0 }

/-- What two engines with the same core share. -/
theorem reads_of_core {β : Type} (r : Engine → β) {x y : Engine} (h : y.core = x.core) (hr : ∀ z : Engine, r z.core = r z := by intros; rfl) :
    r y = r x := by rw [← hr, h, hr]

@[simp] theorem record_core (x : Engine) (time type thread fn data) : (x.record time type thread fn data).1.core = x.core := by
  unfold record; split <;> rfl

@[simp] theorem handshake_core (x : Engine) : x.handshake.2.core = x.core := by
  simp only [handshake]; (repeat' split) <;> rfl

@[simp] theorem issueOf_core (t n : Nat) (x : Engine) : (issueOf t n x).core = x.core := by
  induction n generalizing x with
  | zero => rfl
  | succ n ih => unfold issueOf; split <;> simp [ih]

/-! ### Threads -/

theorem setThread_core (x : Engine) (t : Nat) (y : Thread) : (x.setThread t y).core = x.core.setThread t y := rfl

theorem setThread_thread_same {x : Engine} {t : Nat} (y : Thread) (h : t < x.threads.length) : (x.setThread t y).thread t = y := by
  simp [setThread, thread, h]

theorem setThread_thread_other (x : Engine) {t k : Nat} (y : Thread) (h : k ≠ t) : (x.setThread t y).thread k = x.thread k := by
  simp [setThread, thread, Ne.symm h]

/-- A thread that is not idle is listed: beyond the list every thread reads as idle. -/
theorem lt_of_not_idle {x : Engine} {t : Nat} (h : (x.thread t).st ≠ .idle) : t < x.threads.length := by
  by_contra beyond
  exact h (by simp [thread, Nat.not_lt.1 beyond])

theorem mem_idleThreads {x : Engine} {t : Nat} (h : t ∈ x.idleThreads) : (x.thread t).st = .idle := by
  simpa using (List.mem_filter.1 h).2

end Engine

namespace Dev

/-! ### One engine -/

theorem getEng_of_pe {d e : Dev} (h : e.pe = d.pe) (k : Nat) : e.getEng k = d.getEng k := by rw [getEng, h, getEng]

@[simp] theorem raise_getEng (d type sev subject detail k) : (raise d type sev subject detail).getEng k = d.getEng k := getEng_of_pe (raise_pe ..) k
@[simp] theorem raiseObj_getEng (d h o st b n k) : (raiseObj d h o st b n).getEng k = d.getEng k := getEng_of_pe (raiseObj_pe ..) k

theorem getEng_setEng_same (d : Dev) (e : Nat) (x : Engine) :
    (d.setEng e x).getEng e = if (d.getEng e).busy && !x.busy then { x with idleSince := d.now } else x := tgetD_tset_same ..

@[simp] theorem setEng_core (d e x) : ((setEng d e x).getEng e).core = x.core := by
  rw [getEng_setEng_same]; split <;> rfl

@[simp] theorem traceRec_core (d e type thread fn data) : ((traceRec d e type thread fn data).getEng e).core = (d.getEng e).core := by
  simp only [traceRec]; split <;> simp

@[simp] theorem modeRec_core (was e d) : ((modeRec was e d).getEng e).core = (d.getEng e).core := by
  simp only [modeRec]; split <;> simp

@[simp] theorem modEng_core (d e f) : ((modEng d e f).getEng e).core = (f (d.getEng e)).core := by simp [modEng]

@[simp] theorem issue_core (e t d) : ((issue e t d).getEng e).core = (d.getEng e).core := by simp [issue, Engine.issue]

@[simp] theorem sampleRec_core (d e t fn) : ((sampleRec d e t fn).getEng e).core = (d.getEng e).core := by
  simp only [sampleRec]; (repeat' split)
  · rfl
  · rw [traceRec_core, setEng_core]; rfl
  · rw [setEng_core]; rfl

/-! ### Frames, functions and completions leave the engines -/

@[simp] theorem modFn_getEng (d i f k) : (modFn d i f).getEng k = d.getEng k := by unfold modFn; split <;> rfl

@[simp] theorem egressFlush_pe (pl d) : (egressFlush pl d).pe = d.pe := rfl

@[simp] theorem dropPipe_pe (d pl code len) : (dropPipe d pl code len).pe = d.pe := rfl

@[simp] theorem dropFlight_pe (d pl fid code egress) : (dropFlight d pl fid code egress).pe = d.pe := by
  simp only [dropFlight]; split
  · rfl
  · rw [egressFlush_pe, dropPipe_pe, setPipe_pe]

@[simp] theorem dropWork_getEng (d fn w k) : (dropWork d fn w).getEng k = d.getEng k := by
  unfold dropWork; split
  · rw [modFn_getEng, getEng_of_pe (dropFlight_pe ..)]
  · rfl

@[simp] theorem completeNow_pe (d c r) : (completeNow d c r).pe = d.pe := by
  fun_cases completeNow <;> grind [dropCmd_pe, emit_pe, setCause_pe]

@[simp] theorem complete_pe (d c r) : (complete d c r).pe = d.pe := by unfold complete; (repeat' split) <;> simp

/-! ### Handing descriptors to threads (R214) -/

theorem startThread_core (d : Dev) (e t : Nat) (i : Invocation) (st : ThreadSt) :
    ∃ y, ((d.startThread e t i st).getEng e).core = ((d.getEng e).setThread t y).core := ⟨_, by rw [startThread, sampleRec_core, modEng_core]⟩

theorem hiveHand_of_inbox_nil {e : Nat} {d : Dev} (h : (d.getEng e).inbox = []) (n : Nat) : hiveHand e n d = d := by
  cases n with
  | zero => rfl
  | succ n => simp only [hiveHand, h]; split <;> simp_all

/-- The device once thread `t` has taken the first descriptor, `i`, of an inbox that goes on with `r`. -/
def handed (d : Dev) (e t : Nat) (i : Invocation) (r : List Invocation) : Dev :=
  (d.setEng e { d.getEng e with inbox := r }).startThread e t i .running

/-- One hand-out: nothing, or a descriptor to an idle thread. -/
theorem hiveHand_succ (e n : Nat) (d : Dev) : hiveHand e (n + 1) d = d ∨
    ∃ i r t, ((d.getEng e).thread t).st = .idle ∧ hiveHand e (n + 1) d = hiveHand e n (d.handed e t i r) := by
  simp only [hiveHand]; split
  next i r t l _ _ hidle =>
    exact .inr ⟨i, r, t, Engine.mem_idleThreads (hidle ▸ List.mem_cons_self), rfl⟩
  next => exact .inl rfl

theorem handed_core (d : Dev) (e t : Nat) (i : Invocation) (r : List Invocation) :
    ∃ y, ((d.handed e t i r).getEng e).core = (({ d.getEng e with inbox := r } : Engine).setThread t y).core := by
  obtain ⟨y, started⟩ := startThread_core (d.setEng e { d.getEng e with inbox := r }) e t i .running
  exact ⟨y, by rw [handed, started, Engine.setThread_core, setEng_core, Engine.setThread_core]⟩

/-- What the hive hands out changes of the engine's core the inbox and the threads alone. -/
theorem hiveHand_reads {β : Type} (r : Engine → β) (e n : Nat) (d : Dev) (hcore : ∀ x : Engine, r x.core = r x := by intros; rfl)
    (hthread : ∀ (x : Engine) t y, r (x.setThread t y) = r x := by intros; rfl)
    (hinbox : ∀ (x : Engine) b, r { x with inbox := b } = r x := by intros; rfl) :
    r ((hiveHand e n d).getEng e) = r (d.getEng e) := by
  induction n generalizing d with
  | zero => rfl
  | succ n ih =>
    rcases hiveHand_succ e n d with same | ⟨i, b, t, -, goes⟩
    · rw [same]
    · obtain ⟨y, given⟩ := handed_core d e t i b
      rw [goes, ih, Engine.reads_of_core r given hcore, hthread, hinbox]

/-- A thread that is not idle is given nothing. -/
theorem hiveHand_thread {e k : Nat} (n : Nat) {d : Dev} (h : ((d.getEng e).thread k).st ≠ .idle) :
    ((hiveHand e n d).getEng e).thread k = (d.getEng e).thread k := by
  induction n generalizing d with
  | zero => rfl
  | succ n ih =>
    rcases hiveHand_succ e n d with same | ⟨i, r, t, idle, goes⟩
    · rw [same]
    · have other : k ≠ t := by rintro rfl; exact h idle
      obtain ⟨y, given⟩ := handed_core d e t i r
      have kept : ((d.handed e t i r).getEng e).thread k = (d.getEng e).thread k := by
        rw [Engine.reads_of_core (·.thread k) given, Engine.setThread_thread_other _ _ other]; rfl
      rw [goes, ih (by rwa [kept]), kept]

end Dev
end Sys2Proof.Machine
end

section
/-! PROOFS. O21: triggers, threads, forks, verdicts and faults. -/

namespace Sys2Proof.Machine
open Sys2Proof

namespace Dev

/-! ### Triggers (R212) -/

/-- Dispatching what waits changes of a trigger only what waits. -/
theorem drainTrigger_trig (k n : Nat) {d : Dev} {t : Trigger} (h : tget d.pe.trig k = some t) :
    ∃ w, tget (drainTrigger k n d).pe.trig k = some { t with waiting := w } := by
  induction n generalizing d t with
  | zero => exact ⟨t.waiting, h⟩
  | succ n ih =>
    simp only [drainTrigger, h]
    split
    next => exact ⟨t.waiting, h⟩
    next i r _ =>
      split
      next => exact ⟨t.waiting, h⟩
      next y _ =>
        obtain ⟨w, left⟩ := ih (d := { y with pe := { y.pe with trig := tput y.pe.trig k { t with waiting := r } } }) (tget_tput_same ..)
        exact ⟨w, left⟩

theorem triggerInvocation_waits {k : Nat} {d : Dev} {t : Trigger} (h : tget d.pe.trig k = some t) (early : d.sysTicks < Trigger.at t)
    (hw : t.waiting = []) : triggerInvocation k d = d := by
  simp only [triggerInvocation, h, if_pos early, hw]
  rfl

theorem next_idx (t : Trigger) : (Trigger.next t).idx = (if t.k ≤ t.idx + 1 then 0 else t.idx + 1) ∧ (Trigger.next t).fn = t.fn ∧
    (Trigger.next t).begun = true := by
  unfold Trigger.next; split <;> exact ⟨rfl, rfl, rfl⟩

/-- At its instant a trigger goes to its next index. -/
theorem triggerInvocation_goes {k : Nat} {d : Dev} {t : Trigger} (h : tget d.pe.trig k = some t) (due : ¬ d.sysTicks < Trigger.at t) :
    ∃ w v, tget (triggerInvocation k d).pe.trig k = some { Trigger.next { t with waiting := w } with waiting := v } := by
  simp only [triggerInvocation, h, if_neg due]
  refine ⟨if decide (4096 ≤ t.waiting.length) then t.waiting else t.waiting ++ [t.idx], drainTrigger_trig k _ ?_⟩
  split
  · rw [raiseCounted_pe]; exact tget_tput_same ..
  · exact tget_tput_same ..

/-! ### The master (R213, R216) -/

theorem startRegister_eq {e t : Nat} (d : Dev) (ht : t < 16) : startRegister e t d =
    let d1 := issue e 1 d
    let x := d1.getEng e
    if d.masterActs e = false ∨ t < 2 then d
    else if (x.thread t).st ≠ .idle then d1.answerThread e 1 (.writeRefused t)
    else match x.inbox with
      | [] => d1
      | i :: r => ((d1.setEng e { x with inbox := r }).startThread e t i .claimed).answerThread e 1 (.claimed t) := by
  have listed : ¬ 15 < t := by omega
  exact if_congr (by simp [listed]) rfl (if_congr bne_iff_ne rfl rfl)

/-- Thread `k + 1` of the mask, if claimed, made to run. -/
def releaseOne (mask : BitVec 16) (x : Engine) (k : Nat) : Engine :=
  if mask.getLsbD (k + 1) && (x.thread (k + 1)).st == .claimed then x.setThread (k + 1) { x.thread (k + 1) with st := .running } else x

theorem releaseOne_thread (mask : BitVec 16) (x : Engine) (n k : Nat) : (releaseOne mask x n).thread k =
    if k = n + 1 ∧ mask.getLsbD k = true ∧ (x.thread k).st = .claimed then { x.thread k with st := .running } else x.thread k := by
  by_cases hk : k = n + 1
  · subst hk
    simp only [releaseOne, Bool.and_eq_true, beq_iff_eq, true_and]
    split
    next claimed => exact Engine.setThread_thread_same _ (Engine.lt_of_not_idle (by simp [claimed]))
    next => rfl
  · simp only [hk, false_and, if_false, releaseOne]
    split
    · exact Engine.setThread_thread_other _ _ hk
    · rfl

theorem foldl_releaseOne_thread (mask : BitVec 16) (x : Engine) (n k : Nat) : ((List.range n).foldl (releaseOne mask) x).thread k =
    if 1 ≤ k ∧ k ≤ n ∧ mask.getLsbD k = true ∧ (x.thread k).st = .claimed then { x.thread k with st := .running } else x.thread k := by
  induction n with
  | zero =>
    exact (if_neg fun ⟨low, high, _⟩ => by omega).symm
  | succ n ih =>
    rw [List.range_succ, List.foldl_append, List.foldl_cons, List.foldl_nil, releaseOne_thread, ih]
    by_cases hk : k = n + 1
    · simp [hk]
    · have upTo : k ≤ n + 1 ↔ k ≤ n := by omega
      simp [hk, upTo]

theorem foldl_releaseOne_reads (mask : BitVec 16) (l : List Nat) (x : Engine) :
    (l.foldl (releaseOne mask) x).inbox = x.inbox ∧ (l.foldl (releaseOne mask) x).obj = x.obj :=
  List.foldlRecOn (motive := fun y : Engine => y.inbox = x.inbox ∧ y.obj = x.obj) l _ ⟨rfl, rfl⟩ fun y hy k _ => by
    unfold releaseOne; split <;> exact hy

theorem releaseMask_core {e : Nat} {mask : BitVec 16} {d : Dev} (h : d.masterActs e = true) :
    ((releaseMask e mask d).getEng e).core = ((List.range 15).foldl (releaseOne mask) ((issue e 1 d).getEng e)).core := by
  rw [releaseMask, if_neg (by simp [h]), modEng_core]
  rfl

/-! ### Emits (R210) -/

/-- The frame that engine `e` emits with next hop `nh`. -/
def emission (d : Dev) (e nh : Nat) (f : RxFrame) : Flight :=
  { d.newFlight (.engine e) f with cls := Config.emitClass e % 8, dec := .nextHop nh, stage := 9 }

theorem emitFrame_eq {e t : Nat} {d : Dev} {i : Invocation} (pl : Nat) (f : RxFrame) (nh : Nat) (a : IssueAt) (h : d.acts e t = some i) :
    emitFrame e t pl f nh a d =
    let d1 := issue e t d
    let p := d1.getPipe pl
    if 640 < f.len ∨ f.len < 64 then d1.faultThread e t 1 a
    else if 1024 ≤ emitted p then
      ((d1.setPipe pl { p with emitRefused := p.emitRefused + 1 }).modFn i.fn fun g => { g with emitRefused := g.emitRefused + 1 }).answerThread
        e t .emitRefused
    else answerThread e t .emitted { d1.setPipe pl { p with emits := p.emits ++ [d1.emission e nh f] } with fids := d1.fids + 1 } := by
  simp [emitFrame, h, emission]

/-! ### Verdicts (R129, R209, R213) -/

/-- The length of the frame that a work is about, 0 where there is none. -/
def workLen (d : Dev) (w : Work) : Nat := match d.workFrame w with | some f => f.len | none => 0

section
variable {e t : Nat} {l : List Access} {v : Verdict} {a : IssueAt} {d : Dev} {i : Invocation} (h : d.acts e t = some i)
include h

theorem threadVerdict_faults {c : Nat} (hc : (accesses e t i 8 l (d.issue e t)).2 = some c) :
    threadVerdict e t l v a d = (accesses e t i 8 l (d.issue e t)).1.faultThread e t c a := by
  simp only [threadVerdict, h, hc]

theorem threadVerdict_overspends (hc : (accesses e t i 8 l (d.issue e t)).2 = none) (ho : i.issues < a.issues) :
    threadVerdict e t l v a d = (accesses e t i 8 l (d.issue e t)).1.faultThread e t 4 a := by
  simp only [threadVerdict, h, hc, if_pos ho]

section
variable (hc : (accesses e t i 8 l (d.issue e t)).2 = none) (ho : a.issues ≤ i.issues)
include hc ho

theorem threadVerdict_trigger {k n : Nat} (hw : i.work = .trigger k n) :
    threadVerdict e t l v a d = (accesses e t i 8 l (d.issue e t)).1.endThread e t := by
  simp only [threadVerdict, h, hc, if_neg (Nat.not_lt.2 ho), hw]

theorem threadVerdict_frame {pl fid : Nat} {eg : Bool} (hw : i.work = .frame pl fid eg) (hv : v = .discard ∨ ∃ p, v = .punt p) :
    threadVerdict e t l v a d = (putVerdict pl fid eg v (accesses e t i 8 l (d.issue e t)).1).endThread e t := by
  rcases hv with rfl | ⟨p, rfl⟩ <;> simp only [threadVerdict, h, hc, if_neg (Nat.not_lt.2 ho), hw]

/-- A verdict of a frame that continues is given where its edit fits the frame, and otherwise faults the thread. -/
theorem threadVerdict_cont {pl fid : Nat} {eg : Bool} {g c n en m x} (hw : i.work = .frame pl fid eg) (hv : v = .cont g c n en m x) :
    let y := (accesses e t i 8 l (d.issue e t)).1
    threadVerdict e t l v a d = if editOk (y.workLen i.work) x then
      (putVerdict pl fid eg v y).endThread e t else y.faultThread e t 1 a := by
  subst hv
  simp only [threadVerdict, h, hc, if_neg (Nat.not_lt.2 ho), hw]
  rfl

end
end

/-! ### Faults (R217, R218) -/

theorem threadFault_eq (e t cause : Nat) (a : IssueAt) (d : Dev) : threadFault e t cause a d =
    if cause ≠ 1 ∧ cause ≠ 3 ∧ cause ≠ 4 then d
    else if t = 0 then engineFailure e .supervisor d
    else if cause = 4 ∧ (∀ j, ((d.getEng e).thread t).inv = some j → a.issues ≤ j.issues) then d
    else d.faultThread e t cause a := by
  cases h : ((d.getEng e).thread t).inv with
  | none => simp [threadFault, h, and_assoc]
  | some i => simp [threadFault, h, and_assoc]

/-! ### The supervisor (R217, R218) -/

/-- The faults of a thread within the last second, with one now. -/
def recentFaults (th : Thread) (now : Nat) : List Nat := now :: th.faults.filter fun k => decide (now < k + secT 1)

/-- An engine whose supervisor has taken record `r` from a queue that goes on with `rest`: a record that waits for room follows. -/
def supervised (now : Nat) (r : ExcRec) (rest : List ExcRec) (x : Engine) : Engine :=
  let fs := recentFaults (x.thread r.thread) now
  let q := match x.excWait with | [] => (rest, []) | w :: ws => (rest ++ [w], ws)
  { x.setThread r.thread { st := if decide (8 ≤ fs.length) then .retired else .idle, faults := fs } with excq := q.1, excWait := q.2 }

theorem supervised_core (now : Nat) (r : ExcRec) (rest : List ExcRec) (x : Engine) :
    (supervised now r rest x).core = supervised now r rest x.core := rfl

theorem supervised_queue (now : Nat) (r : ExcRec) (rest : List ExcRec) (x : Engine) :
    (supervised now r rest x).excq = rest ++ x.excWait.take 1 ∧ (supervised now r rest x).excWait = x.excWait.drop 1 := by
  cases h : x.excWait <;> simp [supervised, h]

theorem supervised_thread {now : Nat} {r : ExcRec} {rest : List ExcRec} {x : Engine} (h : r.thread < x.threads.length) :
    (supervised now r rest x).thread r.thread =
      { st := if 8 ≤ (recentFaults (x.thread r.thread) now).length then .retired else .idle, faults := recentFaults (x.thread r.thread) now } := by
  simp only [supervised, decide_eq_true_eq]
  exact Engine.setThread_thread_same _ h

/-- The work of a thread that faulted is dropped, where it had any. -/
def workDropped (fn : Nat) (o : Option Invocation) (d : Dev) : Dev :=
  match o with
  | some i => d.dropWork fn i.work
  | none => d

@[simp] theorem workDropped_getEng (fn o d k) : (workDropped fn o d).getEng k = d.getEng k := by
  unfold workDropped; split
  · exact dropWork_getEng ..
  · rfl

/-- The record reported as an event, with the thread's retirement or its restoring. -/
def recordReported (e : Nat) (r : ExcRec) (retire : Bool) (d : Dev) : Dev :=
  let y := d.raise 0x0300 sevMinor (engHandle e) [.raw 1 (excBytes r (b2n retire))]
  if retire then (y.raise 0x0301 sevMajor (engHandle e) [fIdx r.thread, fByte r.cause]).traceRec e 0x05 r.thread r.fn []
  else y.traceRec e 0x04 r.thread r.fn []

@[simp] theorem recordReported_core (e r retire d) : ((recordReported e r retire d).getEng e).core = (d.getEng e).core := by
  unfold recordReported; split <;> simp

theorem supervisor_nil {e : Nat} {d : Dev} (h : (d.getEng e).excq = []) : supervisor e d = d := by
  simp [supervisor, h]

/-- The supervisor takes the record at the head of its queue, and what is idle then is handed out. -/
theorem supervisor_cons {e : Nat} {d : Dev} {r : ExcRec} {rest : List ExcRec} (h : (d.getEng e).excq = r :: rest) :
    supervisor e d =
    let y := d.issue e 0
    let th := (y.getEng e).thread r.thread
    hiveHand e 15 (recordReported e r (decide (8 ≤ (recentFaults th y.now).length))
      (workDropped r.fn th.inv (y.modEng e (supervised y.now r rest)))) := by
  have taken : ((d.issue e 0).getEng e).excq = r :: rest := (Engine.reads_of_core (·.excq) (issue_core ..)).trans h
  have issues : (if (d.getEng e).excq.isEmpty then d else d.issue e 0) = d.issue e 0 := by rw [h]; rfl
  unfold supervisor
  rw [issues]
  generalize d.issue e 0 = y at taken
  dsimp only
  rw [taken]
  rfl

theorem supervisor_core {e : Nat} {d : Dev} {r : ExcRec} {rest : List ExcRec} (h : (d.getEng e).excq = r :: rest) :
    ∃ y, supervisor e d = hiveHand e 15 y ∧ (y.getEng e).core = (supervised d.now r rest (d.getEng e)).core := by
  refine ⟨_, supervisor_cons h, ?_⟩
  rw [recordReported_core, workDropped_getEng, modEng_core, supervised_core, issue_core, issue_now, supervised_core]

end Dev
end Sys2Proof.Machine

namespace Sys2Proof
open Sys2Proof.Machine Sys2Proof.Machine.Dev

/-- Settles O21: what each row's operation does to its engine, given above. -/
theorem threadRowsComplete : Obligations.ThreadRowsComplete := by
  refine ⟨?_, ?_, ?_, ?_, ?_, ?_, ?_, ?_, ?_, ?_⟩
  · intro s k
    refine onDev_devStep rfl ?_
    split
    next hnone => simp only [triggerInvocation, hnone]
    next t ht =>
      split
      next early => exact triggerInvocation_waits ht early
      next due =>
        obtain ⟨w, v, left⟩ := triggerInvocation_goes ht due
        exact ⟨_, left, next_idx _⟩
  · intro s e t
    have goes := startRegister_eq (e := e) s.dev t.isLt
    refine onDev_devStep rfl ?_
    dsimp only at goes ⊢
    split
    next rests => exact goes.trans (if_pos rests)
    next acts =>
      rw [if_neg acts] at goes
      split
      next busy => exact goes.trans (if_pos busy)
      next idle =>
        rw [if_neg idle] at goes
        split
        next empty => simp only [goes, empty]
        next i r filled => simp only [goes, filled]
  · intro s e mask
    refine onDev_devStep rfl ?_
    dsimp only; split
    next rests => exact if_pos (by simp [rests])
    next acts =>
      have released := releaseMask_core (mask := mask) (eq_true_of_ne_false acts)
      have issued : ((issue e 1 s.dev).getEng e).core = (s.dev.getEng e).core := issue_core ..
      obtain ⟨inbox, obj⟩ := foldl_releaseOne_reads mask (List.range 15) ((issue e 1 s.dev).getEng e)
      refine ⟨?_, ?_, fun k hk => ?_⟩
      · exact (Engine.reads_of_core (·.inbox) released).trans (inbox.trans (Engine.reads_of_core (·.inbox) issued))
      · exact (Engine.reads_of_core (·.obj) released).trans (obj.trans (Engine.reads_of_core (·.obj) issued))
      · have thread : ((issue e 1 s.dev).getEng e).thread k = (s.dev.getEng e).thread k := Engine.reads_of_core (·.thread k) issued
        have run := foldl_releaseOne_thread mask ((issue e 1 s.dev).getEng e) 15 k
        have listed : k ≤ 15 := by omega
        simp only [thread, listed, true_and] at run
        exact (Engine.reads_of_core (·.thread k) released).trans run
  · intro s e t en
    refine onDev_devStep rfl ?_
    dsimp only; split <;> simp [fork, *]
  · intro s e t k
    refine onDev_devStep rfl ?_
    dsimp only; split <;> simp [join, *]
  · intro s e t pl f nh a
    refine onDev_devStep rfl ?_
    dsimp only; split
    next hnone => simp only [emitFrame, hnone]
    next i hi =>
      have emits := emitFrame_eq pl f nh a hi
      dsimp only at emits
      split
      next outside => exact emits.trans (if_pos outside)
      next inside =>
        rw [if_neg inside] at emits
        split
        next full => exact emits.trans (if_pos full)
        next room => exact ⟨_, emits.trans (if_neg room), rfl, rfl, rfl, rfl, rfl⟩
  · intro s e t l v a
    refine onDev_devStep rfl ?_
    split
    next hnone => simp only [threadVerdict, hnone]
    next i hi =>
      refine ⟨?_, fun c hc => threadVerdict_faults hi hc, fun hc ho => threadVerdict_overspends hi hc ho, fun hc ho => ⟨?_, ?_⟩⟩
      · rintro rfl; rfl
      · intro k n hw
        exact threadVerdict_trigger hi hc ho hw
      · intro pl fid eg hw
        exact ⟨threadVerdict_frame hi hc ho hw, fun g c n en m x hv => threadVerdict_cont hi hc ho hw hv⟩
  · intro s e t cause a
    exact onDev_devStep rfl (threadFault_eq e t cause a s.dev)
  · intro s e t offset issues
    refine onDev_devStep rfl ?_
    split <;> simp [watchdog, *]
  · intro s e
    refine onDev_devStep rfl ?_
    dsimp only; split
    next hnil => exact supervisor_nil hnil
    next r rest hcons =>
      obtain ⟨y, handed, left⟩ := supervisor_core hcons
      obtain ⟨queue, wait⟩ := supervised_queue s.dev.now r rest (s.dev.getEng e)
      rw [handed]
      refine ⟨?_, ?_, fun hr hn => ?_, fun hr hn hi => ?_⟩
      · exact (hiveHand_reads (·.excq) e 15 y).trans ((Engine.reads_of_core (·.excq) left).trans queue)
      · exact (hiveHand_reads (·.excWait) e 15 y).trans ((Engine.reads_of_core (·.excWait) left).trans wait)
      · have retired := (Engine.reads_of_core (·.thread r.thread) left).trans (supervised_thread hr)
        rw [if_pos (by exact hn)] at retired
        rw [hiveHand_thread 15 (by rw [retired]; nofun), retired]
      · have restored := (Engine.reads_of_core (·.thread r.thread) left).trans (supervised_thread hr)
        rw [if_neg (by exact Nat.not_le.2 hn)] at restored
        rw [hiveHand_of_inbox_nil ((Engine.reads_of_core (·.inbox) left).trans hi), restored]
        exact ⟨rfl, rfl, rfl⟩

end Sys2Proof
end

section
/-! PROOFS. O22: engines fail, are tested, stop, are gated and are patched. -/

namespace Sys2Proof.Machine
open Sys2Proof

namespace Dev

/-! ### Failure (R220) -/

/-- What a failure and the end of a stop leave of an engine: no descriptor, no record, and no thread at work. -/
def emptied (x : Engine) : Engine :=
  { x with inbox := [], excq := [], excWait := [], threads := x.threads.map fun t => if t.st = .retired then t else { faults := t.faults } }

theorem emptied_core (x : Engine) : (emptied x).core = emptied x.core := rfl

theorem discardHeld_core (e : Nat) (d : Dev) : ((discardHeld e d).getEng e).core = (emptied (d.getEng e)).core := by
  simp only [discardHeld]
  rw [foldl_keeps_part (·.getEng e) _ fun y i => dropWork_getEng ..]
  exact modEng_core ..

@[simp] theorem raiseEngFailed_getEng (d e c again k) : (raiseEngFailed d e c again).getEng k = d.getEng k := raise_getEng ..

theorem engineFailure_keeps {e : Nat} {c : EngCause} {d : Dev} (h : (d.getEng e).obj.st ≠ .running) : engineFailure e c d = d :=
  if_pos (bne_iff_ne.2 h)

/-- A RUNNING engine that fails stops, with nothing left in its inbox and its exception queue. -/
theorem engineFailure_stops {e : Nat} {c : EngCause} {d : Dev} (h : (d.getEng e).obj.st = .running) :
    ((engineFailure e c d).getEng e).obj.st = .stopping ∧ ((engineFailure e c d).getEng e).inbox = [] ∧
    ((engineFailure e c d).getEng e).excq = [] := by
  have running : ¬ (((d.getEng e).obj.st != .running) = true) := by simp [h]
  rw [engineFailure, if_neg running]
  dsimp only
  generalize failNote ((d.wake e).getEng e) (d.wake e).now = note
  have left (x : Engine) (again : Bool) : ((discardHeld e (((d.wake e).setEng e x).raiseEngFailed e c again)).getEng e).core = (emptied x).core := by
    rw [discardHeld_core, emptied_core, raiseEngFailed_getEng, setEng_core, emptied_core]
  exact ⟨Engine.reads_of_core (·.obj.st) (left ..), Engine.reads_of_core (·.inbox) (left ..), Engine.reads_of_core (·.excq) (left ..)⟩

/-! ### Self-test (Table 6.8a) -/

theorem engineSelfTest_keeps {e : Nat} {ok : Bool} {d : Dev} (h : (d.getEng e).obj.st ≠ .starting) : engineSelfTest e ok d = d :=
  if_pos (bne_iff_ne.2 h)

theorem engineSelfTest_ends {e : Nat} (ok : Bool) {d : Dev} (h : (d.getEng e).obj.st = .starting) :
    ((engineSelfTest e ok d).getEng e).obj.st = if ok then .running else .stopped := by
  simp only [engineSelfTest, h]
  cases ok with
  | true => exact Engine.reads_of_core (·.obj.st) (setEng_core ..)
  | false =>
    refine (congrArg (·.obj.st) ((raiseObj_getEng ..).trans (raiseEngFailed_getEng ..))).trans ?_
    exact Engine.reads_of_core (·.obj.st) (setEng_core ..)

/-! ### The end of a stop (R520, Table 6.8a) -/

/-- No thread of an engine works. -/
def allFree (x : Engine) : Prop := ∀ t ∈ x.threads, t.st = .idle ∨ t.st = .retired

theorem stopEnds_iff_free (x : Engine) (now : Nat) :
    (decide (x.obj.st = .stopping) && ((x.threads.all fun t => t.st == .idle || t.st == .retired) || due now x.obj.due)) = true ↔
    x.obj.st = .stopping ∧ (allFree x ∨ due now x.obj.due = true) := by
  simp [allFree]

theorem engineStopDone_keeps {e : Nat} {d : Dev}
    (h : ¬ ((d.getEng e).obj.st = .stopping ∧ (allFree (d.getEng e) ∨ due d.now (d.getEng e).obj.due = true))) : engineStopDone e d = d := by
  rw [← stopEnds_iff_free] at h
  exact if_neg h

/-- The device at the end of a stop of engine `e`, announced with the bound flag `b` and `n` invocations discarded. -/
def stopMade (e : Nat) (b : Bool) (n : Nat) (d : Dev) : Dev :=
  ((discardHeld e d).raiseObj (engHandle e) (d.getEng e).obj .stopped b n).modEng e fun y =>
    { y with obj := y.obj.stopped d.nowNs, gated := false }

theorem stopMade_reads (e : Nat) (b : Bool) (n : Nat) (d : Dev) :
    ((stopMade e b n d).getEng e).obj = (d.getEng e).obj.stopped d.nowNs ∧ ((stopMade e b n d).getEng e).gated = false ∧
    ((stopMade e b n d).getEng e).inbox = [] ∧ ((stopMade e b n d).getEng e).excq = [] := by
  have left : ((stopMade e b n d).getEng e).core =
      ({ emptied (d.getEng e) with obj := (d.getEng e).obj.stopped d.nowNs, gated := false } : Engine).core := by
    rw [stopMade, modEng_core, raiseObj_getEng]
    exact congrArg (fun x : Engine => { x with obj := x.obj.stopped d.nowNs, gated := false }) (discardHeld_core e d)
  exact ⟨Engine.reads_of_core (·.obj) left, Engine.reads_of_core (·.gated) left, Engine.reads_of_core (·.inbox) left,
    Engine.reads_of_core (·.excq) left⟩

/-- Loading an engine writes its images and its data alone. -/
theorem loaded_reads (d : Dev) (e : Nat) :
    let x := (d.modEng e (d.loaded e)).getEng e
    x.obj = (d.getEng e).obj ∧ x.gated = (d.getEng e).gated ∧ x.inbox = (d.getEng e).inbox ∧ x.excq = (d.getEng e).excq ∧
      x.data = [] ∧ x.dataUe = [] := by
  have loads := modEng_core d e (d.loaded e)
  generalize d.getEng e = y at loads ⊢
  exact ⟨(Engine.reads_of_core (·.obj) loads :), (Engine.reads_of_core (·.gated) loads :), (Engine.reads_of_core (·.inbox) loads :),
    (Engine.reads_of_core (·.excq) loads :), (Engine.reads_of_core (·.data) loads :), (Engine.reads_of_core (·.dataUe) loads :)⟩

/-- A stop that ends leaves nothing of the engine's work; one with a held enable loads the engine afresh. -/
theorem engineStopDone_stops {e : Nat} {d : Dev}
    (h : (d.getEng e).obj.st = .stopping ∧ (allFree (d.getEng e) ∨ due d.now (d.getEng e).obj.due = true)) :
    ∃ b n, let m := stopMade e b n d
      engineStopDone e d = if (d.getEng e).obj.held then m.modEng e (m.loaded e) else m := by
  rw [← stopEnds_iff_free] at h
  exact ⟨_, _, if_pos h⟩

/-! ### Gating (R221) -/

/-- An engine that may be gated: RUNNING, open, without work for 100 µs, and not waiting for its trace to be re-armed. -/
def gates (d : Dev) (e : Nat) : Prop :=
  let x := d.getEng e
  x.obj.st = .running ∧ x.gated = false ∧ x.busy = false ∧ x.traceFull = false ∧ x.idleSince + usT 100 ≤ d.now

theorem idleGate_gates {e : Nat} {d : Dev} (h : d.gates e) :
    ((idleGate e d).getEng e).gated = true ∧ ((idleGate e d).getEng e).gatedAt = d.now := by
  obtain ⟨running, opened, idle, armed, since⟩ := h
  have gated := setEng_core (d.traceRec e 0x01 0 0xFFFF []) e
    { (d.traceRec e 0x01 0 0xFFFF []).getEng e with gated := true, gatedAt := d.now }
  simp only [idleGate]
  rw [if_pos (by simp [running, opened, idle, armed, since])]
  exact ⟨Engine.reads_of_core (·.gated) gated, Engine.reads_of_core (·.gatedAt) gated⟩

theorem idleGate_keeps {e : Nat} {d : Dev} (h : ¬ d.gates e) : idleGate e d = d := by
  refine if_neg fun test => h ?_
  simpa [gates, and_assoc] using test

/-! ### Patches (R224, R225, Table 6.10) -/

/-- Engine `e` is not the one that rollout `r` waits for, or still has work of its module. -/
def patchWaits (d : Dev) (e : Nat) (r : Rollout) : Bool :=
  r.todo.head? != some e || ((d.getEng e).threads.any (fun t => match t.inv with | some i => i.module == r.module | none => false) ||
    (d.getEng e).inbox.any (·.module == r.module))

theorem patchWaits_iff (d : Dev) (e : Nat) (r : Rollout) : d.patchWaits e r = true ↔
    r.todo.head? ≠ some e ∨ (d.getEng e).inbox.any (·.module == r.module) = true ∨
      (d.getEng e).threads.any (fun t => match t.inv with | some i => i.module == r.module | none => false) = true := by
  rw [patchWaits, Bool.or_eq_true, Bool.or_eq_true, bne_iff_ne, or_comm (b := (d.getEng e).inbox.any _ = true)]

/-- What PATCH_ENGINE_DRAINED does, over the device that the engine's patch leaves. -/
theorem patchDrained_eq {d : Dev} {r : Rollout} (e : Nat) (ok : Bool) (hr : d.pe.roll = some r) : ∃ y : Dev, patchDrained e ok d =
    if d.patchWaits e r then d
    else if d.hif.headless then { y with pe := { y.pe with roll := some { r with todo := r.todo.tail, done := e :: r.done } } }
    else if ok || r.back then y.patchNext { r with todo := r.todo.tail, done := if r.back then r.done else e :: r.done }
    else y.patchNext { r with todo := r.done, back := true } := by
  rw [patchDrained, hr]
  exact ⟨_, rfl⟩

/-- A rollout without an engine left ends with its module in force, the old one where it goes back. -/
theorem patchNext_last {d : Dev} {r : Rollout} (h : r.todo = []) :
    (patchNext d r).pe.roll = none ∧ tget (patchNext d r).pe.module r.module = some (if r.back then r.old else r.new) := by
  have left : (patchNext d r).pe =
      { d.pe with roll := none, module := tput d.pe.module r.module (if r.back then r.old else r.new) } := by
    simp only [patchNext, h]
    split
    · rw [complete_pe, raise_pe]
    · rw [raise_pe]
  rw [left]
  exact ⟨rfl, tget_tput_same ..⟩

end Dev
end Sys2Proof.Machine

namespace Sys2Proof
open Sys2Proof.Machine Sys2Proof.Machine.Dev

/-- Settles O22: what each row's operation leaves of the engine and of the rollout, given above. -/
theorem engineLifeRowsComplete : Obligations.EngineLifeRowsComplete := by
  refine ⟨?_, ?_, ?_, ?_, ?_, ?_⟩
  · intro s e k
    refine onDev_devStep rfl ?_
    split
    next running => exact engineFailure_stops running
    next rests => exact engineFailure_keeps rests
  · intro s e
    refine onDev_devStep rfl ?_
    simp [engineReenable, loaded, and_assoc]
  · intro s e ok
    refine onDev_devStep rfl ?_
    split
    next starting => exact engineSelfTest_ends ok starting
    next rests => exact engineSelfTest_keeps rests
  · intro s e
    refine onDev_devStep rfl ?_
    dsimp only; split
    next ends =>
      obtain ⟨b, n, left⟩ := engineStopDone_stops ends
      obtain ⟨obj, gated, inbox, excq⟩ := stopMade_reads e b n s.dev
      dsimp only at left
      split at left
      next held =>
        obtain ⟨objKept, gatedKept, inboxKept, excqKept, fresh⟩ := loaded_reads (stopMade e b n s.dev) e
        rw [left]
        exact ⟨objKept.trans obj, gatedKept.trans gated, inboxKept.trans inbox, excqKept.trans excq, fun _ => fresh⟩
      next rests =>
        rw [left]
        exact ⟨obj, gated, inbox, excq, fun held => absurd held rests⟩
    next goes => exact engineStopDone_keeps goes
  · intro s e
    refine onDev_devStep rfl ?_
    dsimp only; split
    next idle => exact idleGate_gates idle
    next busy => exact idleGate_keeps busy
  · intro s e ok
    refine onDev_devStep rfl ?_
    split
    next ended => simp only [patchDrained, ended]
    next r hr =>
      obtain ⟨y, drains⟩ := patchDrained_eq e ok hr
      dsimp only
      split
      next waits => exact drains.trans (if_pos ((patchWaits_iff ..).2 waits))
      next drained =>
        rw [if_neg (mt (patchWaits_iff ..).1 drained)] at drains
        split
        next headless => rw [drains, if_pos headless]
        next heads =>
          intro good last
          rw [drains, if_neg heads, if_pos (by simpa using good)]
          exact patchNext_last (r := { r with todo := r.todo.tail, done := if r.back then r.done else e :: r.done }) last

end Sys2Proof
end

section
/-! PROOFS. O23: the buffer pools and their commands. -/

namespace Sys2Proof.Machine
open Sys2Proof

namespace Dev

/-! ### VOQ_ADMIT (R243, R381, R383) -/

@[simp] theorem triTrace_buf (type a b k : Nat) (d : Dev) : (triTrace type a b k d).buf = d.buf := rfl

@[simp] theorem quietEvent_buf (d : Dev) (b : Bool) : (quietEvent d b).buf = d.buf := by
  simp only [quietEvent]; split
  · exact evPut_buf ..
  · rfl

/-- The end of the quiet state leaves the buffer pools as they are. -/
@[simp] theorem quietExit_buf (d : Dev) : d.quietExit.buf = d.buf := by
  simp only [quietExit]; split
  · exact (quietEvent_buf ..).trans (foldl_keeps_part Dev.buf (fun (x : Dev) k => triTrace 0x02 0 0 k x) (fun _ _ => rfl) ..)
  · rfl

theorem quietExit_getSlice (d : Dev) (s : Nat) : d.quietExit.getSlice s = d.getSlice s := by
  rw [getSlice, quietExit_buf, getSlice]

theorem voqAdmit_of_inbox {s : Nat} {d : Dev} {f : Flight} {r : List Flight} (h : (d.getSlice s).inbox = f :: r) :
    voqAdmit s d = (admitFrame s f (d.modSlice s fun x => { x with inbox := r })).strandedCheck := by
  simp only [voqAdmit, h]

theorem voqArrive_of_inbox_nil {s : Nat} {d : Dev} (h : (d.getSlice s).inbox = []) : voqArrive s d = d := by
  simp only [voqArrive, h]

/-- The slice with a frame that streams admitted as it declares itself; one of another length is counted first (R381, R383). -/
def streamed (s : Nat) (f : Flight) (r : List Flight) (y : Dev) : Dev :=
  let n := (y.declaredLen f).getD f.len
  voqAdmit s (if n = f.len then y else (y.modSlice s fun x => { x with inbox := { f with len := n } :: r }).dropPipe s 8 f.len)

section
variable {s : Nat} {d : Dev} {f : Flight} {r : List Flight} (hi : (d.getSlice s).inbox = f :: r)
include hi

theorem voqArrive_stores (hc : d.quietExit.cutThrough f = none) : voqArrive s d =
    (admitFrame s f (d.quietExit.modSlice s fun x => { x with inbox := r })).strandedCheck.demandAll := by
  have hy : (d.quietExit.getSlice s).inbox = f :: r := by rw [quietExit_getSlice, hi]
  simp only [voqArrive, hi, hc]
  rw [voqAdmitAll, voqAdmit_of_inbox hy]

variable {v : Nat} (hc : d.quietExit.cutThrough f = some v)
include hc

theorem voqArrive_streams : voqArrive s d = match ((streamed s f r d.quietExit).getQ v).chain with
    | [e] => if ptrHbm e.ptr then (streamed s f r d.quietExit).demandAll
      else voqSend v true ((streamed s f r d.quietExit).setCsw fun w => { w with ctIn := w.ctIn + 1 })
        ((d.quietExit.declaredLen f).getD f.len != f.len)
    | _ => (streamed s f r d.quietExit).demandAll := by
  have asSent : streamed s f r d.quietExit = voqAdmit s (if (d.quietExit.declaredLen f).getD f.len != f.len then
      (d.quietExit.modSlice s fun x => { x with inbox := { f with len := (d.quietExit.declaredLen f).getD f.len } :: r }).dropPipe s 8 f.len
      else d.quietExit) := by
    simp only [streamed, bne_iff_ne, ite_not]
  rw [asSent]
  simp only [voqArrive, hi, hc] <;> rfl

/-- A frame that would stream and is not alone in its VOQ waits there. -/
theorem voqArrive_waits (hq : ((streamed s f r d.quietExit).getQ v).chain.length ≠ 1) :
    voqArrive s d = (streamed s f r d.quietExit).demandAll := by
  rw [voqArrive_streams hi hc]; split
  next e alone => rw [alone] at hq; exact absurd rfl hq
  next => rfl

/-- Alone in its VOQ and on the die it goes on at once, aborted where its length is not the declared one. -/
theorem voqArrive_goes {e : QEntry} (hq : ((streamed s f r d.quietExit).getQ v).chain = [e]) : voqArrive s d =
    if ptrHbm e.ptr then (streamed s f r d.quietExit).demandAll
    else voqSend v true ((streamed s f r d.quietExit).setCsw fun w => { w with ctIn := w.ctIn + 1 })
      ((d.quietExit.declaredLen f).getD f.len != f.len) := by
  rw [voqArrive_streams hi hc, hq]

end

/-! ### STRIPE_CLOSE_TIMEOUT (R232) -/

/-- The pools with stripe `o` closed: free when it holds no cell, otherwise with its parity where that channel serves. -/
def stripeClosed (o : OpenStripe) (up : Bool) (b : Buf) : Buf :=
  match tget b.stripe o.stripe with
  | some st => { b with stripe := if st.recs.isEmpty then tdel b.stripe o.stripe
                                  else tput b.stripe o.stripe { st with closed := true, parity := up } }
  | none => b

theorem stripeClose_of_none {s : Nat} {d : Dev} (h : (d.getSlice s).stripe = none) : stripeClose s d = d := by
  simp only [stripeClose, h]

theorem stripeClose_of_some {s : Nat} {d : Dev} {o : OpenStripe} (h : (d.getSlice s).stripe = some o) : stripeClose s d =
    if o.last + usT 1 ≤ d.now then
      (putParity o (d.modSlice s fun y => { y with stripe := none })).setBuf (stripeClosed o (d.parityUp o.stripe))
    else d := by
  simp only [stripeClose, h]; rfl

theorem stripeClosed_keeps (o : OpenStripe) (up : Bool) (b : Buf) : (stripeClosed o up b).slice = b.slice ∧
    (stripeClosed o up b).frame = b.frame ∧ (stripeClosed o up b).cell = b.cell := by
  unfold stripeClosed; split <;> exact ⟨rfl, rfl, rfl⟩

theorem stripeClosed_stripe {o : OpenStripe} {b : Buf} {st : Stripe} (up : Bool) (h : tget b.stripe o.stripe = some st) :
    (st.recs = [] → (stripeClosed o up b).stripe = tdel b.stripe o.stripe) ∧
    (st.recs ≠ [] → tget (stripeClosed o up b).stripe o.stripe = some { st with closed := true, parity := up }) := by
  simp only [stripeClosed, h]
  exact ⟨fun free => by rw [free]; rfl, fun used => by simp [used]⟩

/-! ### VOQ_DEQUEUE (R277, R369) -/

/-- A VOQ lets no frame go: it is no VOQ, not hot, neither RUNNING nor STOPPING, or its destination cannot be reached. -/
def voqShut (d : Dev) (v : Nat) : Prop :=
  isVoq v = false ∨ Queue.isHot (d.getQ v) = false ∨ ((d.getQ v).obj.st ≠ .running ∧ (d.getQ v).obj.st ≠ .stopping) ∨
    d.voqReachable v = false

theorem voqShut_iff (d : Dev) (v : Nat) : d.voqShut v ↔
    (!isVoq v || !Queue.isHot (d.getQ v) || ((d.getQ v).obj.st != .running && (d.getQ v).obj.st != .stopping) || !d.voqReachable v) = true := by
  simp [voqShut, or_assoc]

/-- The head read against its cells of credit. -/
def voqHeadRead (v : Nat) (e : QEntry) (r : List QEntry) (st : Stored) (y : Dev) : Bool × Dev :=
  readHead (y.sliceFor v st.fl) v e (y.setQ v { (y.getQ v).withChain r y.now with balance := (y.getQ v).balance - cellsOf e.len })

section
variable {v : Nat} {d y : Dev} (mark abort : Bool) (hy : d.ageQueue v = y)
include hy

theorem voqSend_of_shut (h : y.voqShut v) : voqSend v mark d abort = voqDemand v y := by
  simp only [voqSend, hy, if_pos ((voqShut_iff ..).1 h)]

variable (ho : ¬ y.voqShut v)
include ho

theorem voqSend_of_chain_nil (hq : (y.getQ v).chain = []) : voqSend v mark d abort = voqDemand v y := by
  simp only [voqSend, hy, if_neg (mt (voqShut_iff ..).2 ho), hq]

variable {e : QEntry} {r : List QEntry} (hq : (y.getQ v).chain = e :: r)
include hq

/-- An entry without a stored frame is a pointer fault, and goes (R235). -/
theorem voqSend_of_frame_none (hf : tget y.buf.frame e.ptr = none) :
    voqSend v mark d abort = voqDemand v ((y.setQ v ((y.getQ v).withChain r y.now)).ptrFault 0 e.ptr 2) := by
  simp only [voqSend, hy, if_neg (mt (voqShut_iff ..).2 ho), hq, hf]

variable {st : Stored} (hf : tget y.buf.frame e.ptr = some st)
include hf

theorem voqSend_of_frame : voqSend v mark d abort =
    if (y.getQ v).balance < cellsOf e.len ∨ 1024 < y.stagedAt (y.sliceFor v st.fl) + cellsOf e.len + 2 then voqDemand v y
    else if (voqHeadRead v e r st y).1 = true then
      (voqDemand v (releaseFrame (y.sliceFor v st.fl) v e.ptr (
        if voqDev v = (voqHeadRead v e r st y).2.devId then
          stageLocal (y.sliceFor v st.fl) st.fl v (cellsOf e.len) mark abort (voqHeadRead v e r st y).2
        else streamFrame (y.sliceFor v st.fl) (voqDev v) (voqPort v / 8) (voqCls v)
          ((voqHeadRead v e r st y).2.framedBytes v st.fl) (voqHeadRead v e r st y).2))).strandedCheck
    else voqDemand v ((voqHeadRead v e r st y).2.modQ v fun x => { x with balance := x.balance + cellsOf e.len }) := by
  simp only [voqSend, hy, if_neg (mt (voqShut_iff ..).2 ho), hq, hf]
  refine if_congr (by simp) rfl ?_
  rw [← voqHeadRead]
  split
  next d2 unread => rw [unread, if_neg Bool.false_ne_true]
  next d2 read => rw [read, if_pos rfl]

end

/-! ### SCARAB_PASS (R254-R256) -/

/-- The audit passes completed: of the on-die pool, of the HBM pool. -/
def passes (d : Dev) : Nat × Nat := (d.buf.passesOnd, d.buf.passesHbm)

theorem setBuf_passes {d : Dev} {f : Buf → Buf} (h : ∀ b, ((f b).passesOnd, (f b).passesHbm) = (b.passesOnd, b.passesHbm)) :
    (d.setBuf f).passes = d.passes := h d.buf

theorem putRec_passes (d : Dev) (p : Nat) (r : CellRec) : (d.putRec p r).passes = d.passes := by
  simp only [putRec]; split
  · exact setBuf_passes fun b => by split <;> rfl
  · rfl

theorem delRec_passes (d : Dev) (p : Nat) : (d.delRec p).passes = d.passes := by
  simp only [delRec]; split
  · exact setBuf_passes fun b => by split <;> rfl
  · rfl

theorem uncharge_passes (d : Dev) (k : Nat) (l : List Nat) : (d.uncharge k l).passes = d.passes := rfl

theorem modSlice_passes (d : Dev) (s : Nat) (f : Slice → Slice) : (d.modSlice s f).passes = d.passes := rfl

theorem reclaim_passes (d : Dev) (c : Nat × CellRec) : (reclaim d c).passes = d.passes := by
  simp only [reclaim]; split
  · rw [setBuf_passes, uncharge_passes, modSlice_passes, delRec_passes]
    exact fun _ => rfl
  · rw [modSlice_passes, delRec_passes]

theorem foldl_passes {α : Type} {f : Dev → α → Dev} (h : ∀ d x, (f d x).passes = d.passes) (l : List α) (d : Dev) :
    (l.foldl f d).passes = d.passes := foldl_keeps_part passes f h l d

/-- A pass before the audit age of the on-die pool has elapsed does nothing. -/
theorem scarab_of_early {hbm : Bool} {d : Dev} (h : hbm = false ∧ d.now < d.buf.passAt + msT d.buf.auditMs) : scarab hbm d = d := by
  simp only [scarab]
  exact if_pos (by simpa using h)

/-- A pass that is due counts itself behind its marks and what it reclaims, which leave the counts as they are. -/
theorem scarab_of_due {hbm : Bool} {d : Dev} (h : ¬ (hbm = false ∧ d.now < d.buf.passAt + msT d.buf.auditMs)) :
    ∃ y : Dev, y.passes = d.passes ∧ (scarab hbm d).buf =
      if hbm then { y.buf with passesHbm := y.buf.passesHbm + 1 }
      else { y.buf with passesOnd := y.buf.passesOnd + 1, passAt := d.now } := by
  simp only [scarab]
  rw [if_neg (by simpa using h), apply_ite Dev.buf, raise_buf, ite_self]
  refine ⟨_, ?_, rfl⟩
  rw [foldl_passes, foldl_passes reclaim_passes, foldl_passes]
  · rfl
  · exact fun _ _ => rfl
  · exact fun _ _ => putRec_passes ..

/-- QUEUE_AGEING_SWEEP (R258): every queue's aged heads go once a millisecond. -/
theorem queueAgeing_eq (d : Dev) : queueAgeing d =
    if d.now < d.sch.ageAt + msT 1 then d
    else ((d.qs.q.map (·.1)).foldl (fun (x : Dev) q => x.ageQueue q) { d with sch := { d.sch with ageAt := d.now } }).demandAll := rfl

/-! ### The pool commands (Tables 7.6 to 7.12) -/

section
variable (c : Cmd) (d : Dev)

theorem bufSetPool_eq : bufSetPool c d =
    let g := c.f 0 1
    let d1 := d.setBuf fun b => { b with
      spillTok := d.spillTokens, spillStamp := d.now, spillRate := c.f 2 2, hbmGib := g, auditMs := c.f 4 4 }
    if c.bad 0x00 then .done d { status := .badHandle }
    else if 96 < g ∨ g % 8 ≠ 0 ∨ c.dirty 1 1 = true ∨ 400 < c.f 2 2 ∨ c.f 4 4 < 10 ∨ 10000 < c.f 4 4 ∨ c.dirty 8 24 = true then
      .done d { status := .badArg }
    else if g ≠ d.buf.hbmGib ∧ d.buf.stripe.all (fun x => x.2.recs.isEmpty) = false then .done d { status := .refusedBusy }
    else if 3 * d1.hbmData < 4 * d1.hbmFloors ∨ d1.hbmBudgetOk = false then .done d { status := .budgetExceeded }
    else .done (if g = d.buf.hbmGib then d1
      else (List.range 32).foldl (fun x k => x.modSlice k fun y => { y with stripe := none }) (d1.setBuf fun b => { b with stripe := [] }))
      {} := by
  simp only [bufSetPool, check_cons, check_nil, Bool.or_eq_true, Bool.and_eq_true, decide_eq_true_eq, bne_iff_ne, Bool.not_eq_true',
    or_assoc]

theorem bufSetQuota_eq : bufSetQuota c d =
    let d1 := d.modQuota c.hIdx fun q => { q with ondFloor := c.f 0 4, ondCeil := c.f 4 4, hbmFloor := c.f 8 4, hbmCeil := c.f 12 4 }
    if quotaBad c then .done d { status := .badHandle }
    else if c.f 4 4 < c.f 0 4 ∨ c.f 12 4 < c.f 8 4 ∨ 1040384 < c.f 4 4 ∨ d.hbmData < c.f 12 4 ∨
        (4096 ≤ c.hIdx ∧ (c.f 8 4 ≠ 0 ∨ c.f 12 4 ≠ 0)) ∨ c.dirty 16 16 = true then .done d { status := .badArg }
    else if 1040384 < d1.ondFloors ∨ 3 * d.hbmData < 4 * d1.hbmFloors then .done d { status := .budgetExceeded }
    else if 1040384 < d1.ondFloors + (d1.buf.quota.map fun p => p.2.ondUsed - p.2.ondFloor).sum ∨
        d1.hbmData < d1.hbmFloors + (d1.buf.quota.map fun p => p.2.hbmUsed - p.2.hbmFloor).sum then .done d { status := .noSpace }
    else .done d1 {} := by
  simp only [bufSetQuota, check_cons, check_nil, Bool.or_eq_true, Bool.and_eq_true, decide_eq_true_eq, bne_iff_ne, or_assoc,
    List.sum_singleton]

theorem bufSetClass_eq : bufSetClass c d =
    if c.bad 0x00 then .done d { status := .badHandle }
    else if c.dirty 3 29 then .done d { status := .badArg }
    else .done { d with buf := { d.buf with
      spill := BitVec.ofNat 8 (c.f 0 1), mayPush := BitVec.ofNat 8 (c.f 1 1), pushable := BitVec.ofNat 8 (c.f 2 1) } } {} := by
  simp only [bufSetClass, check_cons, check_nil, setBuf]

theorem rangeBad_iff (q n : Nat) : rangeBad q n = true ↔ n = 0 ∨ 5242880 < n ∨ 0x500000 < q + n := by
  simp only [rangeBad, Bool.or_eq_true, beq_iff_eq, decide_eq_true_eq, or_assoc]

theorem bufSetSojourn_eq : bufSetSojourn c d =
    if queueBad c then .done d { status := .badHandle }
    else if c.f 0 4 = 0 ∨ 5242880 < c.f 0 4 ∨ 0x500000 < c.hIdx + c.f 0 4 ∨ 6000000 < c.f 4 4 ∨ c.dirty 8 24 = true then
      .done d { status := .badArg }
    else .done ((List.range (c.f 0 4)).foldl (fun x k => cfgWrite (c.hIdx + k) (fun q => { q with sojourn := c.f 4 4 }) x) d) {} := by
  simp only [bufSetSojourn, check_cons, check_nil, Bool.or_eq_true, decide_eq_true_eq, rangeBad_iff, or_assoc]

theorem bufGetQuota_eq : bufGetQuota c d =
    let q := d.getQuota c.hIdx
    if quotaBad c then .done d { status := .badHandle }
    else .done (d.modQuota c.hIdx fun x => { x with ondPeak := x.ondUsed, hbmPeak := x.hbmUsed }) { record := some (
      le 4 q.ondFloor ++ le 4 q.ondCeil ++ le 4 q.hbmFloor ++ le 4 q.hbmCeil ++ le 4 q.ondUsed ++ le 4 q.hbmUsed ++ le 4 q.ondPeak ++
      le 4 q.hbmPeak ++ le 8 q.refused ++ le 8 q.pushed ++ List.replicate 16 0) } := by
  simp only [bufGetQuota, check_cons, check_nil]

end

/-- The status record of the pools (Table 7.11), given what the slices it is asked for count: push-outs, leaks and faults. -/
def poolRecord (d : Dev) (pushed leaked doubled owner ptr free : Nat) : Bytes :=
  le 4 (1040384 - d.buf.cell.length - (d.qs.credit.map fun p => p.2.reserved).sum) ++ le 4 d.ondShared ++
  le 4 (d.hbmStripes - d.buf.stripe.length) ++ le 4 (d.buf.stripe.map fun s => s.2.recs.length).sum ++ le 4 d.stranded ++
  le 4 d.hbmShared ++ le 8 pushed ++ le 8 leaked ++ le 4 (sat32 doubled) ++ le 4 (sat32 owner) ++ le 4 (sat32 ptr) ++ le 4 (sat32 free) ++
  le 4 (sat32 d.buf.passesOnd) ++ le 4 (sat32 d.buf.passesHbm)

/-- What one slice counts, or all of them together. -/
def sliceCount (c : Cmd) (d : Dev) (f : Slice → Nat) : Nat :=
  if c.hType = 0x03 then f (d.getSlice c.hIdx) else (d.buf.slice.map fun s => f s.2).sum

theorem bufGetStatus_eq (c : Cmd) (d : Dev) : bufGetStatus c d =
    if c.bad (if c.hType = 0x03 then 0x03 else 0x00) then .done d { status := .badHandle }
    else .done d { record := some (poolRecord d (sliceCount c d (·.pushouts)) (sliceCount c d (·.leaked)) (sliceCount c d (·.doubleFrees))
      (sliceCount c d (·.ownerFaults)) (sliceCount c d (·.ptrFaults)) (sliceCount c d (·.freelistFaults))) } := by
  simp only [bufGetStatus, check_cons, check_nil, sliceCount, poolRecord, beq_iff_eq]
  split <;> rfl

section
variable (d : Dev) (pushed leaked doubled owner ptr free : Nat)

theorem poolRecord_length : (poolRecord d pushed leaked doubled owner ptr free).length = 64 := by simp [poolRecord]

theorem poolRecord_fields :
    field (poolRecord d pushed leaked doubled owner ptr free) 4 4 = d.ondShared % 2 ^ 32 ∧
    field (poolRecord d pushed leaked doubled owner ptr free) 20 4 = d.hbmShared % 2 ^ 32 ∧
    field (poolRecord d pushed leaked doubled owner ptr free) 24 8 = pushed % 2 ^ 64 ∧
    field (poolRecord d pushed leaked doubled owner ptr free) 32 8 = leaked % 2 ^ 64 := by
  have first (w n : Nat) (r : Bytes) : field (le w n ++ r) 0 w = n % 256 ^ w := field_append (a := []) n rfl
  simp [poolRecord, field_le_skip, first]

end

/-- The discards of the queueing die under a code (R259): over all slices, of one slice, or of one port. -/
def poolDrops (c : Cmd) (d : Dev) (k : Nat) : Pair :=
  if c.hType = 0x00 then
    d.buf.slice.foldl (fun (a : Pair) x => { pkts := a.pkts + (tgetD x.2.drops {} k).pkts, bytes := a.bytes + (tgetD x.2.drops {} k).bytes }) {}
  else if c.hType = 0x03 then tgetD (d.getSlice c.hIdx).drops {} k
  else tgetD d.buf.portDrops {} (c.hIdx * 128 + k)

theorem bufGetDrops_eq (c : Cmd) (d : Dev) : bufGetDrops c d =
    if c.bad (if c.hType = 0x00 then 0x00 else if c.hType = 0x03 then 0x03 else 0x01) then .done d { status := .badHandle }
    else .done d { record := some ((List.range 64).flatMap fun k => pairBytes (poolDrops c d (64 + k))) } := by
  simp only [bufGetDrops, poolDrops, check_cons, check_nil]
  split
  next all => simp only [all]; rfl
  next one => simp only [one]; rfl
  next notAll notSlice => simp only [if_neg notAll, if_neg notSlice]; rfl

end Dev

/-- A handle that is not bad has the type asked for, and a number in its range (R507). -/
theorem Cmd.bad_eq_false {c : Cmd} {t : Nat} : c.bad t = false ↔ c.hType = t ∧ c.hIdx < handleRange t := by
  simp [Cmd.bad]

end Sys2Proof.Machine

namespace Sys2Proof
open Sys2Proof.Machine Sys2Proof.Machine.Dev

/-- Settles O23: what each row's operation does to the pools and what each handler answers, given above. -/
theorem bufferRowsComplete : Obligations.BufferRowsComplete := by
  refine ⟨?_, ?_, ?_, ?_, ?_, ?_, ?_, ?_, ?_, ?_, ?_, ?_, ?_, ?_⟩
  · intro s sl
    refine onDev_devStep rfl ?_
    split
    next empty => exact voqArrive_of_inbox_nil empty
    next f r handed =>
      exact ⟨voqArrive_stores handed, fun v hc => voqArrive_waits handed hc, fun v e hc => voqArrive_goes handed hc⟩
  · intro s sl
    refine onDev_devStep rfl ?_
    split
    next closed => exact stripeClose_of_none closed
    next o opened =>
      rw [stripeClose_of_some opened]
      split
      · obtain ⟨slice, frame, cell⟩ := stripeClosed_keeps o (s.dev.parityUp o.stripe)
          (putParity o (s.dev.modSlice sl fun y => { y with stripe := none })).buf
        exact ⟨_, rfl, slice, frame, cell, fun st => stripeClosed_stripe _⟩
      · rfl
  · intro s v
    refine onDev_devStep (f := voqSend v false) rfl ?_
    dsimp only; split
    next shut => exact voqSend_of_shut false false rfl shut
    next opened =>
      refine ⟨voqSend_of_chain_nil false false rfl opened, fun e r hq => voqSend_of_frame_none false false rfl opened hq,
        fun e r st hq hf => ?_⟩
      rw [voqSend_of_frame false false rfl opened hq hf]
      split
      · rfl
      · exact ⟨fun unread => if_neg (by rw [voqHeadRead, unread]; decide), fun read => if_pos read⟩
  · intro s hbm
    refine onDev_devStep rfl ?_
    split
    next early => exact scarab_of_early early
    next due =>
      obtain ⟨y, same, counted⟩ := scarab_of_due due
      obtain ⟨onDie, inHbm⟩ := Prod.mk.inj same
      rw [counted]
      cases hbm with
      | true => exact congrArg (· + 1) inHbm
      | false => exact ⟨congrArg (· + 1) onDie, rfl⟩
  · intro s
    exact onDev_devStep rfl (queueAgeing_eq s.dev)
  · intro s src c h
    exact replies_of_handler (f := bufSetPool) rfl h (bufSetPool_eq c s.dev)
  · intro s src c h
    exact replies_of_handler (f := bufSetQuota) rfl h (bufSetQuota_eq c s.dev)
  · intro s src c h
    exact replies_of_handler (f := bufSetClass) rfl h (bufSetClass_eq c s.dev)
  · intro s src c h
    exact replies_of_handler (f := bufSetSojourn) rfl h (bufSetSojourn_eq c s.dev)
  · intro s src c h hb
    have pool : c.hType ≠ 0x03 := by rw [(Cmd.bad_eq_false.1 hb).1]; decide
    have reply := bufGetStatus_eq c s.dev
    rw [if_neg pool, hb, if_neg Bool.false_ne_true] at reply
    obtain ⟨ond, onHbm, pushed, _⟩ := poolRecord_fields s.dev (sliceCount c s.dev (·.pushouts)) _ _ _ _ _
    exact ⟨_, replies_of_handler (f := bufGetStatus) rfl h reply, poolRecord_length .., ond, onHbm,
      by rw [pushed, sliceCount, if_neg pool]⟩
  · intro s src c h ht hb
    have reply := bufGetStatus_eq c s.dev
    rw [if_pos ht, hb, if_neg Bool.false_ne_true] at reply
    obtain ⟨_, _, pushed, leaked⟩ := poolRecord_fields s.dev (sliceCount c s.dev (·.pushouts)) (sliceCount c s.dev (·.leaked)) _ _ _ _
    exact ⟨_, replies_of_handler (f := bufGetStatus) rfl h reply, poolRecord_length ..,
      by rw [pushed, sliceCount, if_pos ht], by rw [leaked, sliceCount, if_pos ht]⟩
  · intro s src c h
    exact replies_of_handler (f := bufGetQuota) rfl h (bufGetQuota_eq c s.dev)
  · intro s src c h ht hi
    have named : c.bad 0x00 = false := Cmd.bad_eq_false.2 ⟨ht, by rw [hi]; decide⟩
    refine replies_of_handler (f := bufGetDrops) rfl h ((bufGetDrops_eq c s.dev).trans ?_)
    simp only [poolDrops, if_pos ht, named]; rfl
  · intro s src c h ht
    refine replies_of_handler (f := bufGetDrops) rfl h ((bufGetDrops_eq c s.dev).trans ?_)
    simp only [poolDrops, if_neg ht]; rfl

end Sys2Proof
end

section
/-! PROOFS. O26: the egress selection, the shapers, and the commands of the scheduler and the policers. -/

namespace Sys2Proof.Machine
open Sys2Proof

namespace Dev

/-! ### EGRESS_SELECTION (R298-R301, R258) -/

/-- A port sends nothing: its pipeline is neither RUNNING nor STOPPING, its bridge group or its transmit path is closed, or its shaper is in debt. -/
def portShut (d : Dev) (p : Nat) : Prop :=
  ((d.getPipe (p / 8)).obj.st ≠ .running ∧ (d.getPipe (p / 8)).obj.st ≠ .stopping) ∨ d.bridgeStalled (p / 8) = true ∨
    d.pathOpen p = false ∨ d.inDebt (d.schPort p).shaper = true

theorem portShut_iff (d : Dev) (p : Nat) : d.portShut p ↔
    (((d.getPipe (p / 8)).obj.st != .running && (d.getPipe (p / 8)).obj.st != .stopping) || d.bridgeStalled (p / 8) || !d.pathOpen p ||
      d.inDebt (d.schPort p).shaper) = true := by
  simp [portShut, or_assoc]

theorem egressSelection_of_shut {p : Nat} {d : Dev} (h : d.portShut p) : egressSelection p d = d := by
  simp only [egressSelection, if_pos ((portShut_iff ..).1 h)]

section
variable {p : Nat} {d x : Dev} (ho : ¬ d.portShut p)
include ho

theorem egressSelection_of_select_none (hs : select 1 p 4 (d.encapDamage p) = (none, x)) : egressSelection p d = d.encapDamage p := by
  simp only [egressSelection, if_neg (mt (portShut_iff ..).2 ho), hs]

variable {q : Nat} {path : List (Nat × Nat)} (hs : select 1 p 4 (d.encapDamage p) = (some (q, path), x))
include hs

/-- A queue that ageing has emptied sends nothing. -/
theorem egressSelection_of_chain_nil (hq : ((x.ageQueue q).getQ q).chain = []) : egressSelection p d = x.ageQueue q := by
  simp only [egressSelection, if_neg (mt (portShut_iff ..).2 ho), hs, hq]

variable {y : Dev} {e : QEntry} {r : List QEntry} (hq : ((x.ageQueue q).getQ q).chain = e :: r)
  (hy : (x.ageQueue q).setQ q (((x.ageQueue q).getQ q).withChain r (x.ageQueue q).now) = y)
include hq hy

theorem egressSelection_of_unread {z : Dev} (hr : readHead (p / 8) q e y = (false, z)) : egressSelection p d = z := by
  simp only [egressSelection, if_neg (mt (portShut_iff ..).2 ho), hs, hq, hy, hr]

/-- A head that is read leaves: its cells go, the elements on its path pay, and the frame goes on to the egress pipeline. -/
theorem egressSelection_of_read {z : Dev} {f : Stored} (hr : readHead (p / 8) q e y = (true, z)) (hf : tget y.buf.frame e.ptr = some f) :
    egressSelection p d =
      let w := releaseFrame (p / 8) q e.ptr z
      (sendFlits (p / 8) false f.fl.len (encapFetch f.fl (((0, p) :: path).foldl (pay (e.len + (w.schPort p).adjust)) w))).modPipe (p / 8)
        fun u => { u with egress := u.egress ++ [{ f.fl with outPort := p, place := .stages, verdict := none }] } := by
  simp only [egressSelection, if_neg (mt (portShut_iff ..).2 ho), hs, hq, hy, hr, hf]

end

/-! ### SHAPER_DEBT_END (R305, R306) -/

theorem debtEnd_of_elem_none {k i : Nat} {d : Dev} (h : d.elem k i = none) : debtEnd k i d = d := by simp only [debtEnd, h]

theorem debtEnd_of_elem {k i : Nat} {d : Dev} {e : SchElem} (h : d.elem k i = some e) : debtEnd k i d =
    if e.shaper.on = true ∧ d.inDebt e.shaper = false then d.putElem k i { e with shaper := e.shaper.fresh d.now } else d := by
  simp only [debtEnd, h, Bool.and_eq_true, Bool.not_eq_true']

/-! ### SCH_SET (R307, R308) -/

/-- The flags that SCH_SET refuses for a port are the reserved ones and deletion: all but the shaper's. -/
theorem refusedFlags_iff {n : Nat} {p q : Prop} : 4 ≤ n ∨ p ∨ bit n 1 = true ∨ q ↔ 2 ≤ n ∨ p ∨ q := by
  have flags : 2 ≤ n ↔ 4 ≤ n ∨ bit n 1 = true := by simp only [bit, beq_iff_eq]; omega
  rw [flags, or_left_comm (a := p), or_assoc]

theorem schSet_port {c : Cmd} (d : Dev) (ht : c.hType = 0x01) : schSet c d =
    let on := bit (c.f 0 1) 0
    let adj := signed 1 (c.f 5 1)
    let sh := d.newShaper (d.schPort c.hIdx).shaper on (c.f 16 8) (c.f 12 4)
    if c.bad 0x01 then .done d { status := .badHandle }
    else if 2 ≤ c.f 0 1 ∨ c.dirty 24 8 = true ∨ (on = true ∧ (c.f 16 8 = 0 ∨ 3200000000 < c.f 16 8)) ∨
        (c.f 12 4 ≠ 0 ∧ (c.f 12 4 < 256 ∨ 4194304 < c.f 12 4)) ∨ 4 < c.f 1 1 ∨ c.f 2 2 ≠ 0 ∨ c.f 4 1 ≠ 0 ∨ c.f 6 2 ≠ 0 ∨ c.f 8 4 ≠ 0 ∨
        adj < -64 ∨ 63 < adj then .done d { status := .badArg }
    else .done (d.putSchPort c.hIdx { d.schPort c.hIdx with strict := c.f 1 1, adjust := adj, shaper := sh }) { result := sh.rate } := by
  simp only [schSet, ht, beq_self_eq_true, if_true, check_cons, check_nil, Bool.or_eq_true, Bool.and_eq_true, decide_eq_true_eq, bne_iff_ne,
    beq_iff_eq, or_assoc, refusedFlags_iff]

theorem schSet_deletes {c : Cmd} (d : Dev) (ht : c.hType = 0x10) (hdel : bit (c.f 0 1) 1 = true) (hfl : c.f 0 1 < 4)
    (hz : c.dirty 24 8 = false) (hb : c.bad 0x10 = false) : schSet c d = match d.schNode c.hIdx with
      | none => .done d { status := .badHandle }
      | some _ => if d.childrenOf 2 c.hIdx = [] then .done { d with sch := { d.sch with node := tdel d.sch.node c.hIdx } } {}
        else .done d { status := .refusedBusy } := by
  have reserved : decide (4 ≤ c.f 0 1) = false := decide_eq_false (Nat.not_le.2 hfl)
  simp only [schSet, ht, hdel, reserved, hz, hb, check_cons, check_nil]
  cases d.schNode c.hIdx with
  | none => rfl
  | some e => simp [setSch]

/-- The fields SCH_SET accepts for a shaper and a weight: no flag but the shaper's, a weight from 1, no adjustment, a burst and a rate in range. -/
def ElemFits (c : Cmd) : Prop :=
  c.f 0 1 ≤ 1 ∧ 1 ≤ c.f 2 2 ∧ c.f 2 2 ≤ 4096 ∧ c.f 5 1 = 0 ∧ (c.f 12 4 = 0 ∨ (256 ≤ c.f 12 4 ∧ c.f 12 4 ≤ 4194304)) ∧
    (c.f 0 1 = 1 → 1 ≤ c.f 16 8 ∧ c.f 16 8 ≤ 3200000000) ∧ c.dirty 24 8 = false

theorem ElemFits.not_deletes {c : Cmd} (h : ElemFits c) : bit (c.f 0 1) 1 = false := by
  obtain ⟨hfl, _⟩ := h
  simp only [bit, beq_eq_false_iff_ne]; omega

theorem ElemFits.accepted {c : Cmd} (h : ElemFits c) :
    (decide (4 ≤ c.f 0 1) || c.dirty 24 8 || (bit (c.f 0 1) 0 && (c.f 16 8 == 0 || decide (3200000000 < c.f 16 8)) ||
      c.f 12 4 != 0 && (decide (c.f 12 4 < 256) || decide (4194304 < c.f 12 4))) || signed 1 (c.f 5 1) != 0 || c.f 2 2 == 0 ||
      decide (4096 < c.f 2 2)) = false := by
  obtain ⟨hfl, hw, hw', hadj, hburst, hrate, hz⟩ := h
  rw [hadj, hz]
  simp [bit, signed]
  omega

theorem schSet_detaches {c : Cmd} (d : Dev) (ht : c.hType = 0x0F) (h : ElemFits c) (hst : c.f 1 1 = 0) (hpk : c.f 4 1 = 3) :
    let sh := d.newShaper (d.schQ c.hIdx).shaper (bit (c.f 0 1) 0) (c.f 16 8) (c.f 12 4)
    schSet c d =
      if queueBad c then .done d { status := .badHandle }
      else if isVoq c.hIdx then .done d { status := .badArg }
      else .done (d.putSchQ c.hIdx { d.detached { d.schQ c.hIdx with strict := 0, weight := c.f 2 2, shaper := sh } with
        unattached := false }) { result := sh.rate } := by
  simp only [schSet, ht, hst, hpk, h.accepted, h.not_deletes, check_cons, check_nil]
  simp [putElem]

theorem schSet_makes {c : Cmd} {d : Dev} (ht : c.hType = 0x10) (h : ElemFits c) (hb : c.bad 0x10 = false) (hn : d.schNode c.hIdx = none)
    (hk : d.childrenOf 2 c.hIdx = []) (hst : c.f 1 1 ≤ 4) (hpk : c.f 4 1 = 1) (hp : c.f 8 4 < 256)
    (hpos : d.posTaken 1 (c.f 8 4) (c.f 6 2) (true, c.hIdx) = false) :
    let sh := d.newShaper ({} : SchElem).shaper (bit (c.f 0 1) 0) (c.f 16 8) (c.f 12 4)
    schSet c d =
      if 1048576 ≤ d.sch.node.length then .done d { status := .noSpace }
      else .done (d.putSchNode c.hIdx { ({} : SchElem) with
        strict := c.f 1 1, weight := c.f 2 2, shaper := sh, parent := some (1, c.f 8 4), pos := c.f 6 2 }) { result := sh.rate } := by
  simp only [schSet, ht, hn, hk, hpk, h.accepted, h.not_deletes, check_cons, check_nil]
  simp [putElem, hb, hp, hpos, Nat.not_lt.2 hst]

/-! ### SCH_GET and the policer commands (R309-R313, R327, R328) -/

theorem schGet_port {c : Cmd} (d : Dev) (ht : c.hType = 0x01) :
    let e := d.schPort c.hIdx
    schGet c d =
      if c.bad 0x01 then .done d { status := .badHandle }
      else statusReply c d [fByte (match e.parent with | some x => x.1 | none => 0), fIdx (match e.parent with | some x => x.2 | none => 0),
        fIdx e.pos, fByte 0, fCnt e.strict, f8 e.weight, f8i e.deficit, f8 e.shaper.rate, f8 e.shaper.burst,
        f8i ((e.shaper.fresh d.now).bucket.tokens / byteTok), fCnt (d.childrenOf 1 c.hIdx).length] := by
  simp only [schGet, ht, check_cons, check_nil] <;> rfl

theorem polSetProfile_eq (c : Cmd) (d : Dev) :
    let i := c.hIdx
    polSetProfile c d =
      if c.bad 0x12 then .done d { status := .badHandle }
      else if i = 0 ∨ c.f 0 8 = 0 ∨ 3200000000 < c.f 0 8 ∨ c.f 8 4 < 64 ∨ 4194304 < c.f 8 4 ∨ 1 < c.f 12 1 ∨ c.dirty 13 19 = true then
        .done d { status := .badArg }
      else .done { d with sch := { d.sch with
        prof := tput d.sch.prof i { cir := applied (c.f 0 8), cbs := c.f 8 4, add20 := c.f 12 1 == 1 }
        pol := d.sch.pol.map fun p =>
          if p.2.profile = i then
            match tget d.sch.prof i with
            | some o => (p.1, { p.2 with bucket := { p.2.bucket.refill o.cir o.cbs d.now with
                tokens := min (p.2.bucket.refill o.cir o.cbs d.now).tokens (c.f 8 4 * byteTok) } })
            | none => p
          else p } } { result := applied (c.f 0 8) } := by
  simp only [polSetProfile, check_cons, check_nil, Bool.or_eq_true, beq_iff_eq, decide_eq_true_eq, or_assoc]
  rfl

theorem polSet_eq (c : Cmd) (d : Dev) : polSet c d =
    if c.bad 0x11 then .done d { status := .badHandle }
    else if 65535 < c.f 0 4 ∨ (c.f 0 4 ≠ 0 ∧ tget d.sch.prof (c.f 0 4) = none) ∨ (c.f 4 4 ≠ 0xFFFFFFFF ∧ 67108862 < c.f 4 4) ∨
        c.dirty 8 24 = true then .done d { status := .badArg }
    else .done { d with sch := { d.sch with pol := tset d.sch.pol {} c.hIdx {
      profile := c.f 0 4, base := c.f 4 4
      bucket := Bucket.full (match tget d.sch.prof (c.f 0 4) with | some f => f.cbs | none => 0) d.now } } } {} := by
  simp only [polSet, check_cons, check_nil, Bool.or_eq_true, Bool.and_eq_true, bne_iff_ne, decide_eq_true_eq, Option.isNone_iff_eq_none, or_assoc]
  rfl

theorem polGet_eq (c : Cmd) (d : Dev) :
    let p := tgetD d.sch.pol {} c.hIdx
    polGet c d =
      if c.bad 0x11 then .done d { status := .badHandle }
      else statusReply c d [fIdx p.profile, f8i (match tget d.sch.prof p.profile with
        | some f => (p.bucket.refill f.cir f.cbs d.now).tokens / byteTok
        | none => 0), fIdx p.base] := by
  simp only [polGet, check_cons, check_nil] <;> rfl

end Dev
end Sys2Proof.Machine

namespace Sys2Proof
open Sys2Proof.Machine Sys2Proof.Machine.Dev

/-- Settles O26: what a selection and a shaper's end of debt do and what each handler answers, given above. -/
theorem schedulerRowsComplete : Obligations.SchedulerRowsComplete := by
  refine ⟨?_, ?_, ?_, ?_, ?_, ?_, ?_, ?_, ?_, ?_⟩
  · intro s p
    refine onDev_devStep rfl ?_
    dsimp only; split
    next shut => exact egressSelection_of_shut shut
    next opened =>
      exact ⟨fun x hs => egressSelection_of_select_none opened hs, fun q path x hs hq => egressSelection_of_chain_nil opened hs hq,
        fun q path x e r f z hs hq => ⟨fun unread => egressSelection_of_unread opened hs hq rfl unread,
          fun read hf => egressSelection_of_read opened hs hq rfl read hf⟩⟩
  · intro s k i
    refine onDev_devStep rfl ?_
    split
    next absent => exact debtEnd_of_elem_none absent
    next e named => exact debtEnd_of_elem named
  · intro s src c h ht
    exact replies_of_handler (f := schSet) rfl h (schSet_port s.dev ht)
  · intro s src c h ht hdel hfl hz hb
    exact replies_of_handler (f := schSet) rfl h (schSet_deletes s.dev ht hdel hfl hz hb)
  · intro s src c h ht hfl hst hw hw' hpk hadj hburst hrate hz
    exact replies_of_handler (f := schSet) rfl h (schSet_detaches s.dev ht ⟨hfl, hw, hw', hadj, hburst, hrate, hz⟩ hst hpk)
  · intro s src c h ht hb hn hk hfl hst hw hw' hpk hadj hp hpos hburst hrate hz
    exact replies_of_handler (f := schSet) rfl h (schSet_makes ht ⟨hfl, hw, hw', hadj, hburst, hrate, hz⟩ hb hn hk hst hpk hp hpos)
  · intro s src c h ht
    exact replies_of_handler (f := schGet) rfl h (schGet_port s.dev ht)
  · intro s src c h
    exact replies_of_handler (f := polSetProfile) rfl h (polSetProfile_eq c s.dev)
  · intro s src c h
    exact replies_of_handler (f := polSet) rfl h (polSet_eq c s.dev)
  · intro s src c h
    exact replies_of_handler (f := polGet) rfl h (polGet_eq c s.dev)

end Sys2Proof
end

section
/-! PROOFS. O59: a row of the queues, the credits, the schedulers, the policers or the accounting leaves everything beside them as it was. What it
may write is blanked out by `Dev.besideQueues`, HBM only for the rows that touch it; no operation of the queues changes the rest, so each has one
lemma `f_besideQueues`, in the order of the model's files. -/

namespace Sys2Proof.Machine
open Sys2Proof

namespace Dev

/-- The device with all blanked out that a row of the queues may change: the trace, the interface, the events, the list of damaged items, the
counter store, the pools, the queues, the schedulers, the fabric, the request lines, power, the undo journal, and HBM for a row that touches it. -/
def besideQueues (touchesHbm : Bool) (d : Dev) : Dev :=
  { d with
    out := [], hif := {}, evt := {}, cnt := [], buf := {}, qs := {}, sch := {}, fab := {}, dma := {}, pwr := {}
    hbm := if touchesHbm then {} else d.hbm
    fwd := { d.fwd with ue := [] }, tri := { d.tri with journal := [] } }

variable {b : Bool}

@[simp] theorem foldl_besideQueues {α : Type} (f : Dev → α → Dev) (h : ∀ d x, (f d x).besideQueues b = d.besideQueues b) (l : List α)
    (d : Dev) : (l.foldl f d).besideQueues b = d.besideQueues b := foldl_keeps_part (besideQueues b) f h l d

@[simp] theorem foldl_fst_besideQueues {α β : Type} (f : Dev × β → α → Dev × β) (h : ∀ p x, (f p x).1.besideQueues b = p.1.besideQueues b)
    (l : List α) (p : Dev × β) : (l.foldl f p).1.besideQueues b = p.1.besideQueues b := by
  induction l generalizing p with
  | nil => rfl
  | cons x l ih => rw [List.foldl_cons, ih, h]

@[simp] theorem ite_besideQueues (p : Prop) [Decidable p] (x y : Dev) :
    (if p then x else y).besideQueues b = if p then x.besideQueues b else y.besideQueues b := apply_ite _ _ _ _

/-- A handler that starts with tests keeps what its work keeps. -/
theorem check_besideQueues {d : Dev} {l : List (Bool × Status)} {go : Reply} (h : go.dev.besideQueues b = d.besideQueues b) :
    (d.check l go).dev.besideQueues b = d.besideQueues b := by
  unfold check; split
  · rfl
  · exact h

/-! ### The parts such a row may write -/

@[simp] theorem besideQueues_hif (d : Dev) (h : Hif) : { d with hif := h }.besideQueues b = d.besideQueues b := rfl
@[simp] theorem besideQueues_cnt (d : Dev) (t : Tab Pair) : { d with cnt := t }.besideQueues b = d.besideQueues b := rfl
@[simp] theorem besideQueues_sch (d : Dev) (x : Sch) : { d with sch := x }.besideQueues b = d.besideQueues b := rfl
@[simp] theorem besideQueues_dma (d : Dev) (x : DmaSt) : { d with dma := x }.besideQueues b = d.besideQueues b := rfl
@[simp] theorem setBuf_besideQueues (d f) : (setBuf d f).besideQueues b = d.besideQueues b := rfl
@[simp] theorem setQs_besideQueues (d f) : (setQs d f).besideQueues b = d.besideQueues b := rfl
@[simp] theorem setSch_besideQueues (d f) : (setSch d f).besideQueues b = d.besideQueues b := rfl
@[simp] theorem shadowNeed_besideQueues (i d) : (shadowNeed i d).besideQueues b = d.besideQueues b := rfl
@[simp] theorem noteWrite_besideQueues (k w d) : (noteWrite k w d).besideQueues b = d.besideQueues b := rfl
@[simp] theorem flowTouch_besideQueues (d k) : (flowTouch d k).besideQueues b = d.besideQueues b := rfl

/-! ### Operations every part shares -/

@[simp] theorem emit_besideQueues (d e) : (emit d e).besideQueues b = d.besideQueues b := by
  obtain ⟨_, h⟩ := emit_frame d e
  rw [h]; rfl

@[simp] theorem raise_besideQueues (d type sev subject detail) : (raise d type sev subject detail).besideQueues b = d.besideQueues b := by
  obtain ⟨_, _, _, h⟩ := raise_frame d type sev subject detail
  rw [h]; rfl

@[simp] theorem raiseObj_besideQueues (d h o st bound n) : (raiseObj d h o st bound n).besideQueues b = d.besideQueues b :=
  raise_besideQueues ..

@[simp] theorem raiseCounted_besideQueues (d type sev key subject countAt detail) :
    (raiseCounted d type sev key subject countAt detail).besideQueues b = d.besideQueues b := by
  obtain ⟨_, _, _, h⟩ := raiseCounted_frame d type sev key subject countAt detail
  rw [h]; rfl

@[simp] theorem setCause_besideQueues (d i) : (setCause d i).besideQueues b = d.besideQueues b := by
  obtain ⟨_, _, h⟩ := setCause_frame d i
  rw [h]; rfl

@[simp] theorem setAlarm_besideQueues (d i) : (setAlarm d i).besideQueues b = d.besideQueues b := by
  obtain ⟨_, _, h⟩ := setAlarm_frame d i
  rw [h]; rfl

@[simp] theorem sendFc_besideQueues (d dev kind body link) : (sendFc d dev kind body link).besideQueues b = d.besideQueues b := by
  obtain ⟨_, h⟩ := sendFc_frame d dev kind body link
  rw [h]; rfl

@[simp] theorem dropCmd_besideQueues (d k) : (dropCmd d k).besideQueues b = d.besideQueues b := rfl

@[simp] theorem completeNow_besideQueues (d c r) : (completeNow d c r).besideQueues b = d.besideQueues b := by
  fun_cases completeNow <;> grind [dropCmd_besideQueues, emit_besideQueues, setCause_besideQueues, besideQueues_hif]

@[simp] theorem complete_besideQueues (d c r) : (complete d c r).besideQueues b = d.besideQueues b := by simp [complete]
@[simp] theorem startCmd_besideQueues (d k) : (startCmd d k).besideQueues b = d.besideQueues b := rfl
@[simp] theorem settle_besideQueues (c : Cmd) (r : Reply) : (settle c r).besideQueues b = r.dev.besideQueues b := by cases r <;> simp [settle]

theorem runCmd_besideQueues (op : Nat) (src : Src) (h : Cmd → Dev → Reply) (k : ∀ c d, (h c d).dev.besideQueues b = d.besideQueues b) (d : Dev) :
    (runCmd op src h d).besideQueues b = d.besideQueues b := by
  unfold runCmd; split
  · rfl
  · split <;> simp [k]

@[simp] theorem finish_besideQueues (d op h r) : (finish d op h r).besideQueues b = d.besideQueues b := by unfold finish; split <;> simp

@[simp] theorem statusReply_besideQueues (c : Cmd) (d : Dev) (l : List Fld) : (statusReply c d l).dev.besideQueues b = d.besideQueues b := by
  simp only [statusReply]; split <;> rfl

@[simp] theorem dmaRequest_besideQueues (d line) : (dmaRequest d line).besideQueues b = d.besideQueues b := by simp [dmaRequest]

/-! ### HBM as its requester ports see it -/

@[simp] theorem setHbm_besideQueues (d f) : (setHbm d f).besideQueues true = d.besideQueues true := rfl
@[simp] theorem modCh_besideQueues (d k f) : (modCh d k f).besideQueues true = d.besideQueues true := rfl
@[simp] theorem modStack_besideQueues (d k f) : (modStack d k f).besideQueues true = d.besideQueues true := rfl
@[simp] theorem setPoison_besideQueues (g on d) : (setPoison g on d).besideQueues true = d.besideQueues true := rfl
@[simp] theorem markUnit_besideQueues (u d) : (markUnit u d).besideQueues true = d.besideQueues true := rfl
@[simp] theorem hbmPutByte_besideQueues (d a v) : (hbmPutByte d a v).besideQueues true = d.besideQueues true := by
  unfold hbmPutByte; dsimp only; split
  · exact besideQueues_cnt ..
  · split
    · exact besideQueues_sch ..
    · exact setHbm_besideQueues ..

@[simp] theorem hbmAnswer_besideQueues (w data ok d) : (hbmAnswer w data ok d).besideQueues true = d.besideQueues true := by simp [hbmAnswer]
@[simp] theorem raiseDouble_besideQueues (d c) : (raiseDouble d c).besideQueues b = d.besideQueues b := by simp [raiseDouble]
@[simp] theorem applyWrite_besideQueues (r shift d) : (applyWrite r shift d).besideQueues true = d.besideQueues true := by simp [applyWrite]
@[simp] theorem elsewhere_besideQueues (d u) : (elsewhere d u).2.besideQueues b = d.besideQueues b := by fun_cases elsewhere <;> simp
@[simp] theorem writeLost_besideQueues (k n d) : (writeLost k n d).besideQueues true = d.besideQueues true := by simp [writeLost]
@[simp] theorem lostUpdate_besideQueues (k port d) : (lostUpdate k port d).besideQueues true = d.besideQueues true := by simp [lostUpdate]
@[simp] theorem holdWrite_besideQueues (k h d) : (holdWrite k h d).2.besideQueues true = d.besideQueues true := by
  unfold holdWrite; split <;> simp

@[simp] theorem serveElsewhere_besideQueues (w d) : (serveElsewhere w d).besideQueues true = d.besideQueues true := by
  fun_cases serveElsewhere <;>
    grind [!elsewhere_besideQueues, hbmAnswer_besideQueues, lostUpdate_besideQueues, markUnit_besideQueues, applyWrite_besideQueues,
      !holdWrite_besideQueues]

@[simp] theorem enterCh_besideQueues (w d) : (enterCh w d).besideQueues true = d.besideQueues true := by simp [enterCh]
@[simp] theorem portsDrain_besideQueues (s l d) : (portsDrain s l d).besideQueues true = d.besideQueues true := by
  fun_induction portsDrain <;> grind [enterCh_besideQueues, modStack_besideQueues]
@[simp] theorem drainStack_besideQueues (s d) : (drainStack s d).besideQueues true = d.besideQueues true := by simp [drainStack]
@[simp] theorem hbmRequest_besideQueues (r d) : (hbmRequest r d).besideQueues true = d.besideQueues true := by
  simp only [hbmRequest]; (repeat' split) <;> simp
@[simp] theorem queueCfgRead_besideQueues (q d) : (queueCfgRead q d).besideQueues true = d.besideQueues true := by
  simp [queueCfgRead, readPort]

@[simp] theorem p4Skips_besideQueues (a : Nat) (put : Dev → Dev) (d : Dev) (h : (put d).besideQueues true = d.besideQueues true) :
    (p4Skips a put d).besideQueues true = d.besideQueues true := by
  unfold p4Skips; split <;> simp [h]

@[simp] theorem addBins_besideQueues (q g l d) : (addBins q g l d).besideQueues true = d.besideQueues true :=
  p4Skips_besideQueues _ _ _ (besideQueues_sch ..)
@[simp] theorem countBins_besideQueues (q l d) : (countBins q l d).besideQueues true = d.besideQueues true := by simp [countBins]

@[simp] theorem clearPoison_besideQueues (a n d) : (clearPoison a n d).besideQueues true = d.besideQueues true := by
  unfold clearPoison; split
  · exact foldl_besideQueues _ (fun x k => setPoison_besideQueues ..) _ _
  · rfl

@[simp] theorem writeCopies_besideQueues (c n d) : (writeCopies c n d).besideQueues true = d.besideQueues true := by simp [writeCopies]

/-! ### Buffer pools and the active set -/

@[simp] theorem modSlice_besideQueues (d s f) : (modSlice d s f).besideQueues b = d.besideQueues b := rfl
@[simp] theorem setQ_besideQueues (d q x) : (setQ d q x).besideQueues b = d.besideQueues b := rfl
@[simp] theorem modQ_besideQueues (d q f) : (modQ d q f).besideQueues b = d.besideQueues b := rfl
@[simp] theorem dropSlice_besideQueues (d s code len) : (dropSlice d s code len).besideQueues b = d.besideQueues b := rfl
@[simp] theorem dropSlicePort_besideQueues (d s p code len) : (dropSlicePort d s p code len).besideQueues b = d.besideQueues b := rfl
@[simp] theorem chargeOnd_besideQueues (d k n) : (chargeOnd d k n).besideQueues b = d.besideQueues b := rfl
@[simp] theorem uncharge_besideQueues (d k cells) : (uncharge d k cells).besideQueues b = d.besideQueues b := rfl
@[simp] theorem putRec_besideQueues (d p r) : (putRec d p r).besideQueues b = d.besideQueues b := by simp [putRec]
@[simp] theorem delRec_besideQueues (d p) : (delRec d p).besideQueues b = d.besideQueues b := by simp [delRec]
@[simp] theorem doubleFree_besideQueues (d s p req) : (doubleFree d s p req).besideQueues b = d.besideQueues b := by simp [doubleFree]
@[simp] theorem ownerFault_besideQueues (d s p owner req) : (ownerFault d s p owner req).besideQueues b = d.besideQueues b := by simp [ownerFault]
@[simp] theorem ptrFault_besideQueues (d s p op) : (ptrFault d s p op).besideQueues b = d.besideQueues b := by simp [ptrFault]
@[simp] theorem freeCell_besideQueues (s req d p) : (freeCell s req d p).besideQueues b = d.besideQueues b := by fun_cases freeCell <;> simp

@[simp] theorem releaseFrame_besideQueues (s req p d) : (releaseFrame s req p d).besideQueues b = d.besideQueues b := by
  unfold releaseFrame; split <;> simp

@[simp] theorem discardEntry_besideQueues (q code port d e) : (discardEntry q code port d e).besideQueues b = d.besideQueues b := by
  unfold discardEntry; split <;> simp

@[simp] theorem cfgWrite_besideQueues (q f d) : (cfgWrite q f d).besideQueues true = d.besideQueues true := by simp [cfgWrite]
@[simp] theorem leaveActive_besideQueues (d q) : (leaveActive d q).besideQueues b = d.besideQueues b := rfl

theorem takeEntry_besideQueues {d : Dev} {q : Nat} {mayEvict : Bool} {p : Part} {e : Dev} (h : takeEntry d q mayEvict = some (p, e)) :
    e.besideQueues b = d.besideQueues b := by
  simp only [takeEntry] at h; split at h
  · cases h; rfl
  · split at h
    · cases h
    · obtain ⟨v, -, hv⟩ := Option.map_eq_some_iff.1 h
      simp [← (Prod.mk.inj hv).2]

/-! ### Queues and credits -/

@[simp] theorem modCredit_besideQueues (d p f) : (modCredit d p f).besideQueues b = d.besideQueues b := rfl
@[simp] theorem seqRestart_besideQueues (k d) : (seqRestart k d).besideQueues b = d.besideQueues b := by simp [seqRestart]
@[simp] theorem putFlow_besideQueues (d k f) : (putFlow d k f).besideQueues b = d.besideQueues b := by simp [putFlow]

@[simp] theorem creditReqAt_besideQueues (src voq value seq d) : (creditReqAt src voq value seq d).besideQueues b = d.besideQueues b := by
  fun_cases creditReqAt <;> simp

@[simp] theorem unreserve_besideQueues (d p n) : (unreserve d p n).besideQueues b = d.besideQueues b := rfl

@[simp] theorem creditReturnAt_besideQueues (src voq value d) : (creditReturnAt src voq value d).besideQueues b = d.besideQueues b := by
  fun_cases creditReturnAt <;> simp

@[simp] theorem sendReq_besideQueues (d v value seq) : (sendReq d v value seq).besideQueues b = d.besideQueues b := by simp [sendReq]
@[simp] theorem sendReturn_besideQueues (d v value seq) : (sendReturn d v value seq).besideQueues b = d.besideQueues b := by simp [sendReturn]
@[simp] theorem voqDemand_besideQueues (v d) : (voqDemand v d).besideQueues b = d.besideQueues b := by simp [voqDemand]

@[simp] theorem creditGrantAt_besideQueues (v value seq d) : (creditGrantAt v value seq d).besideQueues b = d.besideQueues b := by
  simp [creditGrantAt]

theorem grantIssue_besideQueues (p d) : (grantIssue p d).besideQueues b = d.besideQueues b := by
  simp only [grantIssue]; (repeat' split) <;> simp

theorem creditRefresh_besideQueues (v d) : (creditRefresh v d).besideQueues b = d.besideQueues b := by simp [creditRefresh]

theorem lostCredit_besideQueues (p dev cls d) : (lostCredit p dev cls d).besideQueues b = d.besideQueues b := by
  simp only [lostCredit]; split <;> simp

@[simp] theorem flushQueue_besideQueues (q code d) : (flushQueue q code d).1.besideQueues b = d.besideQueues b := by simp [flushQueue]

theorem destFlush_besideQueues (dev d) : (destFlush dev d).besideQueues b = d.besideQueues b := by
  unfold destFlush; split
  · rfl
  · simp

theorem resvRelease_besideQueues (dev d) : (resvRelease dev d).besideQueues b = d.besideQueues b := by unfold resvRelease; split <;> simp

theorem activationComplete_besideQueues (q d) : (activationComplete q d).besideQueues true = d.besideQueues true := by
  unfold activationComplete; split <;> simp

theorem activeIdle_besideQueues (q d) : (activeIdle q d).besideQueues b = d.besideQueues b := by simp [activeIdle]
theorem queueStartDone_besideQueues (q d) : (queueStartDone q d).besideQueues b = d.besideQueues b := by simp [queueStartDone]
theorem queueStopDone_besideQueues (q d) : (queueStopDone q d).besideQueues b = d.besideQueues b := by simp [queueStopDone]
theorem qEnable_besideQueues (c d) : (qEnable c d).dev.besideQueues b = d.besideQueues b := check_besideQueues rfl
theorem qDisable_besideQueues (c d) : (qDisable c d).dev.besideQueues b = d.besideQueues b := check_besideQueues rfl
theorem qGetStatus_besideQueues (c d) : (qGetStatus c d).dev.besideQueues b = d.besideQueues b := check_besideQueues rfl
theorem qSetActive_besideQueues (c d) : (qSetActive c d).dev.besideQueues b = d.besideQueues b := check_besideQueues rfl

theorem qPin_besideQueues (c d) : (qPin c d).dev.besideQueues true = d.besideQueues true :=
  check_besideQueues (by
    split
    · simp
    · split
      · simp
      · split
        · simp
        · split
          next p e taken => simp [takeEntry_besideQueues taken]
          next full => rfl)

@[simp] theorem putSchQ_besideQueues (d q e) : (putSchQ d q e).besideQueues b = d.besideQueues b := rfl
@[simp] theorem unmapQueue_besideQueues (q d) : (unmapQueue q d).besideQueues b = d.besideQueues b := by simp [unmapQueue]
theorem qSetEgressMap_besideQueues (c d) : (qSetEgressMap c d).dev.besideQueues b = d.besideQueues b := check_besideQueues (by simp)
theorem qSetCredit_besideQueues (c d) : (qSetCredit c d).dev.besideQueues b = d.besideQueues b := check_besideQueues rfl
theorem qGetCreditStatus_besideQueues (c d) : (qGetCreditStatus c d).dev.besideQueues b = d.besideQueues b := check_besideQueues (by simp)

/-! ### The scheduler and the policers -/

@[simp] theorem putElem_besideQueues (d kind i e) : (putElem d kind i e).besideQueues b = d.besideQueues b := by
  unfold putElem; split <;> rfl

theorem debtEnd_besideQueues (kind i d) : (debtEnd kind i d).besideQueues b = d.besideQueues b := by unfold debtEnd; split <;> simp

theorem schSet_besideQueues (c d) : (schSet c d).dev.besideQueues b = d.besideQueues b := by
  simp only [schSet]; split
  · exact check_besideQueues rfl
  · split
    · split
      · rfl
      · exact check_besideQueues rfl
    · exact check_besideQueues (by simp)

theorem schGet_besideQueues (c d) : (schGet c d).dev.besideQueues b = d.besideQueues b := check_besideQueues (by simp)
theorem polSetProfile_besideQueues (c d) : (polSetProfile c d).dev.besideQueues b = d.besideQueues b := check_besideQueues rfl
theorem polSet_besideQueues (c d) : (polSet c d).dev.besideQueues b = d.besideQueues b := check_besideQueues rfl
theorem polGet_besideQueues (c d) : (polGet c d).dev.besideQueues b = d.besideQueues b := check_besideQueues (by simp)

/-! ### Observation and accounting -/

@[simp] theorem thresholds_besideQueues (k d) : (thresholds k d).besideQueues b = d.besideQueues b := by simp [thresholds]
theorem watchedSample_besideQueues (d) : (watchedSample d).besideQueues b = d.besideQueues b := by simp [watchedSample]
theorem histogramAdd_besideQueues (d) : (histogramAdd d).besideQueues true = d.besideQueues true := by simp [histogramAdd]
theorem hotSweep_besideQueues (d) : (hotSweep d).besideQueues true = d.besideQueues true := by simp [hotSweep]
theorem obsSetQueue_besideQueues (c d) : (obsSetQueue c d).dev.besideQueues true = d.besideQueues true := check_besideQueues (by simp)
theorem obsSetHistProfile_besideQueues (pl c d) : (obsSetHistProfile pl c d).dev.besideQueues b = d.besideQueues b := check_besideQueues rfl
theorem obsGetHist_besideQueues (c d) : (obsGetHist c d).dev.besideQueues b = d.besideQueues b := check_besideQueues (by simp)
@[simp] theorem clearBank_besideQueues (d a k) : (clearBank d a k).besideQueues b = d.besideQueues b := rfl
@[simp] theorem putAcct_besideQueues (d s a) : (putAcct d s a).besideQueues b = d.besideQueues b := rfl

@[simp] theorem acctExport_besideQueues (s d) : (acctExport s d).besideQueues b = d.besideQueues b := by
  unfold acctExport; (repeat' split) <;> simp

@[simp] theorem acctExportAll_besideQueues (s n d) : (acctExportAll s n d).besideQueues b = d.besideQueues b := by
  induction n generalizing d with
  | zero => rfl
  | succ n ih => rw [acctExportAll, ih, acctExport_besideQueues]

@[simp] theorem acctClose_besideQueues (s more start flags d) : (acctClose s more start flags d).besideQueues b = d.besideQueues b := by
  simp only [acctClose]; split <;> simp

theorem acctBoundary_besideQueues (s d) : (acctBoundary s d).besideQueues b = d.besideQueues b := by unfold acctBoundary; split <;> simp

theorem acctSet_besideQueues (c d) : (acctSet c d).dev.besideQueues b = d.besideQueues b := by
  simp only [acctSet]; split
  · exact check_besideQueues (by simp)
  · exact check_besideQueues (by dsimp only [Reply.dev_done]; split <;> rfl)

theorem acctGet_besideQueues (c d) : (acctGet c d).dev.besideQueues b = d.besideQueues b := by
  simp only [acctGet]; split
  · rfl
  · exact check_besideQueues rfl

end Dev

namespace State

/-- `o` answers a next state that differs from `s` only in what a row of the queues may change. -/
def OnQueues (touchesHbm : Bool) (s : State) (o : Out) : Prop :=
  ∃ d, o = .next { s with dev := d } ∧ d.besideQueues touchesHbm = s.dev.besideQueues touchesHbm

variable {b : Bool}

theorem onQueues_onDev {s : State} {f : Dev → Dev} (h : (f s.dev).besideQueues b = s.dev.besideQueues b) : s.OnQueues b (s.onDev f) := ⟨_, rfl, h⟩

theorem onQueues_runCmd {s : State} {op : Nat} {src : Src} {f : Cmd → Dev → Reply} (h : ∀ c d, (f c d).dev.besideQueues b = d.besideQueues b) :
    s.OnQueues b (s.onDev (Dev.runCmd op src f)) := onQueues_onDev (Dev.runCmd_besideQueues op src f h s.dev)

end State

open State Dev in
/-- Row by row: a command changes what its handler changes, every other row what its operation on the device does. -/
theorem exec_onQueues (s : State) (i : Instr) (h : i.queueRow = true) : s.OnQueues i.queueHbmRow (exec i s) := by
  cases i with
  | activationComplete => exact onQueues_onDev (activationComplete_besideQueues ..)
  | activeIdleTimeout => exact onQueues_onDev (activeIdle_besideQueues ..)
  | destFlushTimeout => exact onQueues_onDev (destFlush_besideQueues ..)
  | reservationRelease => exact onQueues_onDev (resvRelease_besideQueues ..)
  | queueStartDone => exact onQueues_onDev (queueStartDone_besideQueues ..)
  | queueStopDone => exact onQueues_onDev (queueStopDone_besideQueues ..)
  | qEnable => exact onQueues_runCmd qEnable_besideQueues
  | qDisable => exact onQueues_runCmd qDisable_besideQueues
  | qGetStatus => exact onQueues_runCmd qGetStatus_besideQueues
  | qSetActive => exact onQueues_runCmd qSetActive_besideQueues
  | qPin => exact onQueues_runCmd qPin_besideQueues
  | qSetEgressMap => exact onQueues_runCmd qSetEgressMap_besideQueues
  | qSetCredit => exact onQueues_runCmd qSetCredit_besideQueues
  | qGetCreditStatus => exact onQueues_runCmd qGetCreditStatus_besideQueues
  | creditReq => exact onQueues_onDev (creditReqAt_besideQueues ..)
  | creditReturn => exact onQueues_onDev (creditReturnAt_besideQueues ..)
  | creditGrant => exact onQueues_onDev (creditGrantAt_besideQueues ..)
  | creditReqRefresh => exact onQueues_onDev (creditRefresh_besideQueues ..)
  | grantIssue => exact onQueues_onDev (grantIssue_besideQueues ..)
  | lostCreditRelease => exact onQueues_onDev (lostCredit_besideQueues ..)
  | shaperDebtEnd => exact onQueues_onDev (debtEnd_besideQueues ..)
  | schSet => exact onQueues_runCmd schSet_besideQueues
  | schGet => exact onQueues_runCmd schGet_besideQueues
  | polSetProfile => exact onQueues_runCmd polSetProfile_besideQueues
  | polSet => exact onQueues_runCmd polSet_besideQueues
  | polGet => exact onQueues_runCmd polGet_besideQueues
  | watchedSample => exact onQueues_onDev (watchedSample_besideQueues _)
  | hotQueueSweep => exact onQueues_onDev (hotSweep_besideQueues _)
  | histogramAdd => exact onQueues_onDev (histogramAdd_besideQueues _)
  | acctBoundary => exact onQueues_onDev (acctBoundary_besideQueues ..)
  | acctExport => exact onQueues_onDev (acctExport_besideQueues ..)
  | obsSetQueue => exact onQueues_runCmd obsSetQueue_besideQueues
  | obsSetHistProfile => exact onQueues_runCmd (obsSetHistProfile_besideQueues _)
  | obsGetHist => exact onQueues_runCmd obsGetHist_besideQueues
  | acctSet => exact onQueues_runCmd acctSet_besideQueues
  | acctGet => exact onQueues_runCmd acctGet_besideQueues
  | _ => cases h

/-- What equal parts beside the queues come to, part by part. -/
theorem Dev.parts_of_besideQueues {b : Bool} {d e : Dev} (h : e.besideQueues b = d.besideQueues b) :
    e.lane = d.lane ∧ e.pmSeq15 = d.pmSeq15 ∧ e.pmSeqDay = d.pmSeqDay ∧ e.now = d.now ∧ e.fresh = d.fresh ∧ e.port = d.port ∧
    e.portDrops = d.portDrops ∧ e.time = d.time ∧ e.fwd = { d.fwd with ue := e.fwd.ue } ∧ e.pipe = d.pipe ∧ e.fids = d.fids ∧ e.tx = d.tx ∧
    e.laneDrops = d.laneDrops ∧ e.aclCnt = d.aclCnt ∧ e.nhCnt = d.nhCnt ∧ e.pe = d.pe ∧ (b = false → e.hbm = d.hbm) ∧ e.csw = d.csw ∧
    e.tri = { d.tri with journal := e.tri.journal } ∧ e.bridge = d.bridge ∧ e.fw = d.fw ∧ e.sec = d.sec ∧ e.jtag = d.jtag := by
  have part {β : Type} (r : Dev → β) : r (e.besideQueues b) = r (d.besideQueues b) := congrArg r h
  have fwd : { e.fwd with ue := [] } = { d.fwd with ue := [] } := part Dev.fwd
  have tri : { e.tri with journal := [] } = { d.tri with journal := [] } := part Dev.tri
  have hbm (notTouched : b = false) : e.hbm = d.hbm := by subst notTouched; exact part Dev.hbm
  exact ⟨part Dev.lane, part Dev.pmSeq15, part Dev.pmSeqDay, part Dev.now, part Dev.fresh, part Dev.port, part Dev.portDrops, part Dev.time,
    congrArg (fun x : Fwd => { x with ue := e.fwd.ue }) fwd, part Dev.pipe, part Dev.fids, part Dev.tx, part Dev.laneDrops, part Dev.aclCnt,
    part Dev.nhCnt, part Dev.pe, hbm, part Dev.csw, congrArg (fun x : Triad => { x with journal := e.tri.journal }) tri, part Dev.bridge,
    part Dev.fw, part Dev.sec, part Dev.jtag⟩

end Sys2Proof.Machine

namespace Sys2Proof
open Sys2Proof.Machine

/-- Settles O59: `exec_onQueues`, read part by part. -/
theorem queueRowsFrame : Obligations.QueueRowsFrame := by
  intro s t i hi ht
  obtain ⟨d, he, hd⟩ := exec_onQueues s i hi
  cases he.symm.trans ht
  exact ⟨rfl, rfl, Dev.parts_of_besideQueues hd⟩

end Sys2Proof
end

section
/-! PROOFS. Queues: what a queue reads as after another is written, what a credit message does to its flow, and what leaves the states and the
frames of the queues as they were. -/

namespace Sys2Proof.Machine
open Sys2Proof

namespace Dev

/-! ### Reading after writing -/

@[simp] theorem getQ_setQ_same (d : Dev) (q : Nat) (x : Queue) : (d.setQ q x).getQ q = x := tgetD_tset_same ..

theorem getQ_setQ_other (d : Dev) {q k : Nat} (x : Queue) (h : k ≠ q) : (d.setQ q x).getQ k = d.getQ k := tgetD_tset_other _ _ _ h

@[simp] theorem getCredit_modCredit_same (d : Dev) (p : Nat) (f : CreditPort → CreditPort) : (d.modCredit p f).getCredit p = f (d.getCredit p) :=
  tgetD_tset_same ..

theorem getCredit_modCredit_other (d : Dev) {p k : Nat} (f : CreditPort → CreditPort) (h : k ≠ p) :
    (d.modCredit p f).getCredit k = d.getCredit k := tgetD_tset_other _ _ _ h

@[simp] theorem getQuota_modQuota_same (d : Dev) (k : Nat) (f : Quota → Quota) : (d.modQuota k f).getQuota k = f (d.getQuota k) :=
  tgetD_tset_same ..

/-! ### What leaves every queue as it was -/

@[simp] theorem modQuota_qs (d k f) : (modQuota d k f).qs = d.qs := rfl
@[simp] theorem uncharge_qs (d k cells) : (uncharge d k cells).qs = d.qs := rfl
@[simp] theorem putRec_qs (d p r) : (putRec d p r).qs = d.qs := by unfold putRec; split <;> rfl
@[simp] theorem delRec_qs (d p) : (delRec d p).qs = d.qs := by unfold delRec; split <;> rfl
@[simp] theorem doubleFree_qs (d s p req) : (doubleFree d s p req).qs = d.qs := raiseCounted_qs ..
@[simp] theorem ownerFault_qs (d s p owner req) : (ownerFault d s p owner req).qs = d.qs := raiseCounted_qs ..
@[simp] theorem ptrFault_qs (d s p op) : (ptrFault d s p op).qs = d.qs := raiseCounted_qs ..
@[simp] theorem freeCell_qs (s req d p) : (freeCell s req d p).qs = d.qs := by fun_cases freeCell <;> simp

theorem freeCells_qs (s req : Nat) (l : List Nat) (d : Dev) : (l.foldl (freeCell s req) d).qs = d.qs :=
  foldl_keeps_part Dev.qs _ (freeCell_qs s req) l d

/-- A frame's cells go back to the pools; no queue changes. -/
@[simp] theorem releaseFrame_qs (s req p d) : (releaseFrame s req p d).qs = d.qs := by
  unfold releaseFrame; (repeat' split) <;> simp [freeCells_qs]

/-! ### CREDIT_REQ, CREDIT_RETURN (R280, R284) -/

section
variable {src voq value : Nat} {d : Dev}

theorem creditReqAt_elsewhere {seq : Nat} (h : voqDev voq ≠ d.devId) : creditReqAt src voq value seq d = d :=
  if_pos (bne_iff_ne.2 h)

theorem creditReqAt_of_some {seq : Nat} {f : CFlow} (h : voqDev voq = d.devId)
    (hf : tget d.qs.flow (flowKey (voqPort voq) (voqCls voq) src) = some f) : creditReqAt src voq value seq d =
      d.putFlow (flowKey (voqPort voq) (voqCls voq) src) { f with demand := value - (f.seq + 65536 - seq % 65536) % 65536 } := by
  simp only [creditReqAt, h, hf, bne_self_eq_false, Bool.false_eq_true, if_false]

/-- A request without a flow makes one while a flow is free, and is counted and reported otherwise. -/
theorem creditReqAt_of_none {seq : Nat} (h : voqDev voq = d.devId)
    (hf : tget d.qs.flow (flowKey (voqPort voq) (voqCls voq) src) = none) : creditReqAt src voq value seq d =
      if d.qs.flow.length < 262144 then
        d.putFlow (flowKey (voqPort voq) (voqCls voq) src) { demand := value, outstanding := 0, seq := seq % 65536 }
      else (d.modCredit (voqPort voq) fun c => { c with flowFull := c.flowFull + 1 }).raiseCounted 0x0407 sevMinor 0 0 0 [fCnt 0] := by
  simp only [creditReqAt, h, hf, bne_self_eq_false, Bool.false_eq_true, if_false, ← Nat.not_lt, ite_not]

theorem creditReturnAt_of_none (h : tget d.qs.flow (flowKey (voqPort voq) (voqCls voq) src) = none) : creditReturnAt src voq value d = d := by
  simp only [creditReturnAt, h, ite_self]

theorem creditReturnAt_of_some {f : CFlow} (h : tget d.qs.flow (flowKey (voqPort voq) (voqCls voq) src) = some f) :
    creditReturnAt src voq value d =
      let k := flowKey (voqPort voq) (voqCls voq) src
      let n := min value f.outstanding
      if voqDev voq ≠ d.devId then d
      else ((d.putFlow k { f with outstanding := f.outstanding - n }).flowTouch k).unreserve (voqPort voq) n := by
  simp only [creditReturnAt, h, bne_iff_ne]

end

/-! ### The states and the frames of the queues -/

/-- A queue's state, its frames and its frames in the activation park. -/
def queued (d : Dev) (q : Nat) : Obj × List QEntry × List QEntry := ((d.getQ q).obj, (d.getQ q).chain, (d.getQ q).parked)

theorem queued_of_qs {d e : Dev} (h : e.qs.q = d.qs.q) : e.queued = d.queued := by
  funext q; simp only [queued, getQ, h]

theorem ite_queued (p : Prop) [Decidable p] (a b : Dev) : (if p then a else b).queued = if p then a.queued else b.queued := apply_ite _ _ _ _

theorem setQ_queued (d : Dev) (q : Nat) (x : Queue) : (d.setQ q x).queued = Function.update d.queued q (x.obj, x.chain, x.parked) := by
  funext k
  by_cases same : k = q
  · subst same; simp [queued]
  · rw [Function.update_of_ne same, queued, getQ_setQ_other d x same, queued]

theorem setQ_queued_of_same {d : Dev} {q : Nat} {x : Queue} (h : (x.obj, x.chain, x.parked) = d.queued q) : (d.setQ q x).queued = d.queued := by
  rw [setQ_queued, h, Function.update_eq_self]

theorem modQ_queued_of_same {d : Dev} {q : Nat} {f : Queue → Queue}
    (h : ((f (d.getQ q)).obj, (f (d.getQ q)).chain, (f (d.getQ q)).parked) = d.queued q) : (d.modQ q f).queued = d.queued := setQ_queued_of_same h

theorem seqRestart_queued (k d) : (seqRestart k d).queued = d.queued := by
  unfold seqRestart; dsimp only; split
  · exact modQ_queued_of_same rfl
  · rfl

theorem putFlow_queued (d k f) : (putFlow d k f).queued = d.queued := by
  unfold putFlow; split
  · exact seqRestart_queued ..
  · rfl

theorem unreserve_queued (d p n) : (unreserve d p n).queued = d.queued := rfl
theorem flowTouch_queued (d k) : (flowTouch d k).queued = d.queued := rfl

theorem creditReqAt_queued (src voq value seq d) : (creditReqAt src voq value seq d).queued = d.queued := by
  by_cases here : voqDev voq = d.devId
  · cases h : tget d.qs.flow (flowKey (voqPort voq) (voqCls voq) src) with
    | some f => rw [creditReqAt_of_some here h, putFlow_queued]
    | none =>
      rw [creditReqAt_of_none here h]; split
      · exact putFlow_queued ..
      · exact queued_of_qs (by rw [raiseCounted_qs]; rfl)
  · rw [creditReqAt_elsewhere here]

theorem creditReturnAt_queued (src voq value d) : (creditReturnAt src voq value d).queued = d.queued := by
  cases h : tget d.qs.flow (flowKey (voqPort voq) (voqCls voq) src) with
  | none => rw [creditReturnAt_of_none h]
  | some f => simp only [creditReturnAt_of_some h, ite_queued, unreserve_queued, flowTouch_queued, putFlow_queued, ite_self]

theorem sendReq_queued (d v value seq) : (sendReq d v value seq).queued = d.queued := by
  unfold sendReq; split
  · exact creditReqAt_queued ..
  · exact queued_of_qs (by rw [sendFc_qs])

theorem sendReturn_queued (d v value seq) : (sendReturn d v value seq).queued = d.queued := by
  unfold sendReturn; split
  · exact creditReturnAt_queued ..
  · exact queued_of_qs (by rw [sendFc_qs])

/-- What a VOQ sends changes balances, demands and flows alone. -/
theorem voqDemand_queued (v d) : (voqDemand v d).queued = d.queued := by
  have noDemand : (d.setQ v { d.getQ v with balance := 0, demand := 0 }).queued = d.queued := setQ_queued_of_same rfl
  have asked (n t : Nat) : (d.setQ v { d.getQ v with demand := n, reqAt := t }).queued = d.queued := setQ_queued_of_same rfl
  simp only [voqDemand, ite_queued, seqRestart_queued, sendReturn_queued, sendReq_queued, noDemand, asked, ite_self]

theorem discardEntry_queued (q code port d e) : (discardEntry q code port d e).queued = d.queued := by
  unfold discardEntry; split
  · rfl
  · dsimp only
    rw [queued_of_qs (congrArg Qs.q (releaseFrame_qs ..))]
    split
    · refine (modQ_queued_of_same rfl).trans ?_
      split <;> rfl
    · split <;> rfl

/-- A flushed queue keeps its state and holds no frame; no other queue changes its own. -/
theorem flushQueue_queued (q code d) : (flushQueue q code d).1.queued = Function.update d.queued q ((d.getQ q).obj, [], []) := by
  unfold flushQueue
  rw [foldl_keeps_part queued (discardEntry q code true) (fun _ _ => discardEntry_queued ..), setQ_queued]
  rfl

end Dev
end Sys2Proof.Machine
end

section
/-! PROOFS. O24: the active set, the flushes, the states of queues and their commands. -/

namespace Sys2Proof.Machine
open Sys2Proof

namespace Dev

/-! ### The active set (R273-R275) -/

theorem activationComplete_eq (q : Nat) (d : Dev) :
    let x := d.getQ q
    let e := activationComplete q d
    if x.part = .cold ∨ x.actSince = none then e = d
    else match d.readCopies (queueCopies q) 32 with
      | none => e = d
      | some good =>
        let y : Queue := { x with
          actSince := none, chain := x.chain ++ x.parked, parked := [], emptyAt := if x.parked.isEmpty then d.now else x.emptyAt
          cfgBad := good.isNone }
        let d1 := if good.isNone then
            (shadowNeed (.queueCfg q) (d.setQ q y)).raise 0x0901 sevMajor 0 [f8 (queueCopies q).1, fByte (Config.eccCode 6)]
          else (d.setQ q y).writeCopies (queueCopies q) 32
        e = (voqDemand q d1).finish 0x040B (queueHandle q) {} := by
  have waits : ((d.getQ q).part == .cold || (d.getQ q).actSince.isNone) = true ↔ (d.getQ q).part = .cold ∨ (d.getQ q).actSince = none := by simp
  dsimp only; split
  next cold => exact if_pos (waits.2 cold)
  next activating =>
    rw [activationComplete, if_neg (mt waits.1 activating)]
    cases d.readCopies (queueCopies q) 32 <;> rfl

theorem activeIdle_eq (q : Nat) (d : Dev) : activeIdle q d =
    let x := d.getQ q
    if Queue.isHot x = true ∧ x.chain = [] ∧ x.parked = [] ∧ x.balance = 0 ∧ x.cfg.pinned = false ∧ d.autoPinned q = false ∧
        x.idleDue.getD (x.emptyAt + usT d.qs.idleUs) ≤ d.now then d.leaveActive q
    else d := by
  simp only [activeIdle, Bool.and_eq_true, List.isEmpty_iff, beq_iff_eq, Bool.not_eq_true', decide_eq_true_eq, and_assoc]

/-! ### Unreachable destinations (R285) -/

theorem destFlush_of_none {dev : Nat} {d : Dev} (h : tget d.qs.flushDue dev = none) : destFlush dev d = d := by simp only [destFlush, h]

/-- The VOQs toward a device that hold frames. -/
def voqsToward (dev : Nat) (d : Dev) : List Nat :=
  (d.qs.q.filter fun p => isVoq p.1 && voqDev p.1 == dev && !(p.2.chain.isEmpty && p.2.parked.isEmpty)).map (·.1)

/-- Those VOQs flushed, and how many frames they held. -/
def flushToward (dev : Nat) (d : Dev) : Dev × Nat :=
  (voqsToward dev d).foldl (fun (x : Dev × Nat) v => ((flushQueue v 83 x.1).1, x.2 + (flushQueue v 83 x.1).2)) (d, 0)

theorem destFlush_of_some {dev t : Nat} {d : Dev} (h : tget d.qs.flushDue dev = some t) : destFlush dev d =
    if d.now < t then d
    else if d.qs.flushed.contains dev then (flushToward dev d).1
    else ((flushToward dev d).1.setQs fun x => { x with flushed := dev :: x.flushed }).raise 0x0408 sevMinor 0
      [fIdx dev, fCnt (voqsToward dev d).length, fCnt (flushToward dev d).2] := by
  simp only [destFlush, h]; rfl

theorem resvRelease_of_none {dev : Nat} {d : Dev} (h : tget d.qs.unreach dev = none) : resvRelease dev d = d := by simp only [resvRelease, h]

theorem resvRelease_of_some {dev t : Nat} {d : Dev} (h : tget d.qs.unreach dev = some t) : resvRelease dev d =
    if d.qs.released.contains dev = true ∨ d.now < t + msT 10 then d
    else ((d.qs.flow.filter fun f => f.1 % 2048 == dev).foldl (fun (x : Dev) f =>
      (x.putFlow f.1 { f.2 with demand := 0, outstanding := 0 }).unreserve (f.1 / 16384) f.2.outstanding) d).setQs
        fun x => { x with released := dev :: x.released } := by
  simp only [resvRelease, h, Bool.or_eq_true, decide_eq_true_eq]

/-! ### The states of queues (R288, Table 8.4) -/

/-- A queue's stop may end: it is STOPPING, and empty or past its bound. -/
def queueStopEnds (q : Nat) (d : Dev) : Prop :=
  (d.getQ q).obj.st = .stopping ∧ (((d.getQ q).chain = [] ∧ (d.getQ q).parked = []) ∨ due d.now (d.getQ q).obj.due = true)

theorem queueStopEnds_iff (q : Nat) (d : Dev) : queueStopEnds q d ↔
    ((d.getQ q).obj.st = .stopping && (!!((d.getQ q).chain.isEmpty && (d.getQ q).parked.isEmpty) || due d.now (d.getQ q).obj.due)) = true := by
  simp [queueStopEnds]

theorem queueStopDone_of_goesOn {q : Nat} {d : Dev} (h : ¬ queueStopEnds q d) : queueStopDone q d = d :=
  if_neg (mt (queueStopEnds_iff q d).2 h)

/-- The queue's frames are flushed before its stop ends, and what its VOQ sends then leaves it empty. -/
theorem queueStopDone_of_ends {q : Nat} {d : Dev} (h : queueStopEnds q d) :
    (queueStopDone q d).queued q = ((d.getQ q).obj.stopped d.nowNs, [], []) := by
  have flushed : (voqDemand q (flushQueue q 80 d).1).queued q = ((d.getQ q).obj, [], []) := by
    rw [voqDemand_queued, flushQueue_queued, Function.update_self]
  simp only [queued, Prod.mk.injEq] at flushed
  obtain ⟨obj, chain, parked⟩ := flushed
  simp only [queueStopDone]
  rw [if_pos ((queueStopEnds_iff q d).1 h), setQ_queued, Function.update_self, obj, chain, parked]

/-! ### Q_ENABLE, Q_DISABLE, Q_GET_STATUS (Table 8.4, R292) -/

section
variable (c : Cmd) (d : Dev)

theorem qEnable_eq : qEnable c d =
    let r := (d.getQ c.hIdx).obj.enable d.nowNs
    if queueBad c then .done d { status := .badHandle }
    else .done (d.setQ c.hIdx { d.getQ c.hIdx with obj := r.obj }) { status := r.status } := by
  simp only [qEnable, check_cons, check_nil]

theorem qDisable_eq : qDisable c d =
    let r := (d.getQ c.hIdx).obj.disable d.nowNs (d.now + msT 5)
    if queueBad c then .done d { status := .badHandle }
    else .done (d.setQ c.hIdx { d.getQ c.hIdx with obj := r.obj }) { status := r.status } := by
  simp only [qDisable, check_cons, check_nil]

/-- What the status of a queue shows of one of its counts: 0 while the queue is cold (R271). -/
def shownCount (x : Queue) (n : Nat) : Nat := if x.part = .cold then 0 else n

/-- The record of a queue's status has 64 bytes: the queue and its state stand first, and its balance and its demand are 0 while it is cold
(Table 8.8). -/
theorem qGetStatus_record (h : queueBad c = false) :
    let x := d.getQ c.hIdx
    ∃ b, qGetStatus c d = .done d { record := some b } ∧ b.length = 64 ∧ field b 0 4 = c.hIdx % 2 ^ 32 ∧ field b 4 1 = x.obj.st.code % 256 ∧
      field b 28 2 = shownCount x x.balance % 65536 ∧ field b 30 2 = shownCount x x.demand % 65536 := by
  have first (w n : Nat) (r : Bytes) : field (le w n ++ r) 0 w = n % 256 ^ w := field_append (a := []) n rfl
  have shown (n : Nat) : (if ((d.getQ c.hIdx).part != .cold) = true then n else 0) = shownCount (d.getQ c.hIdx) n := by
    simp only [shownCount, bne_iff_ne, ne_eq, ite_not]
  dsimp only
  simp only [qGetStatus, check_cons, check_nil, h, Bool.false_eq_true, if_false, shown, List.append_assoc]
  refine ⟨_, rfl, ?_, ?_, ?_, ?_, ?_⟩
  · simp
  all_goals simp [field_le_skip, first]

/-! ### Q_SET_ACTIVE, Q_PIN (R276, R290) -/

theorem qSetActive_eq : qSetActive c d =
    if c.bad 0x00 then .done d { status := .badHandle }
    else if c.f 0 4 = 0 ∨ 1000000 < c.f 0 4 ∨ 131072 < c.f 4 4 ∨ 60000 < c.f 8 4 ∨ c.dirty 12 20 = true then .done d { status := .badArg }
    else .done { d with qs := { d.qs with
      idleUs := c.f 0 4, reserve := c.f 4 4, flushMs := c.f 8 4
      q := d.qs.q.map fun p => if Queue.isHot p.2 && p.2.chain.isEmpty && p.2.balance == 0 && p.2.idleDue.isNone then
        (p.1, { p.2 with idleDue := some (p.2.emptyAt + usT d.qs.idleUs) }) else p } } {} := by
  simp only [qSetActive, check_cons, check_nil, Bool.or_eq_true, beq_iff_eq, decide_eq_true_eq, or_assoc]
  rfl

theorem qPin_eq : qPin c d =
    let x := d.getQ c.hIdx
    if queueBad c then .done d { status := .badHandle }
    else if 1 < c.f 0 1 ∨ c.dirty 1 31 = true then .done d { status := .badArg }
    else if c.f 0 1 = 1 ∧ x.pinned = false ∧ d.autoPinned c.hIdx = false ∧ 16384 ≤ d.pinnedCount then .done d { status := .noSpace }
    else if c.f 0 1 = 0 then .done (cfgWrite c.hIdx (fun y => { y with pinned := false }) d) {}
    else if Queue.isHot x then .done (cfgWrite c.hIdx (fun y => { y with pinned := true }) d) {}
    else
      let d1 := d.noteWrite c.intake (.queue c.hIdx (tget d.qs.q c.hIdx))
      if x.part ≠ .cold then .pend (cfgWrite c.hIdx (fun y => { y with pinned := true }) d1)
      else match d1.takeEntry c.hIdx false with
        | some (p, e) => .pend (queueCfgRead c.hIdx
            (cfgWrite c.hIdx (fun y => { y with pinned := true, part := p, actSince := some d.now }) e))
        | none => .done d { status := .noSpace } := by
  simp only [qPin, check_cons, check_nil, Bool.or_eq_true, Bool.and_eq_true, Bool.not_eq_true', beq_iff_eq, bne_iff_ne, decide_eq_true_eq,
    and_assoc] <;> rfl

/-! ### Q_SET_EGRESS_MAP (R267, R268) -/

/-- The default queue of the port and class that the command names. -/
def dfltQueue (c : Cmd) : Nat := 0x400000 + 8 * c.hIdx + c.f 0 1

/-- The queues of the old map that the new one leaves out. -/
def leftOut : List Nat :=
  ((List.range (2 ^ (d.mapOf c.hIdx (c.f 0 1)).2)).map ((d.mapOf c.hIdx (c.f 0 1)).1 + ·)).filter fun q =>
    !(decide (c.f 4 4 ≤ q) && decide (q < c.f 4 4 + 2 ^ c.f 1 1))

/-- The device with the new map, and with the queues that it leaves out flushed and detached. -/
def remapped : Dev :=
  ((leftOut c d).foldl (fun x q => unmapQueue q x) d).setQs fun x => { x with
    map := tset x.map (dfltQueue c, 0) (c.hIdx * 8 + c.f 0 1) (c.f 4 4, c.f 1 1) }

/-- The device that Q_SET_EGRESS_MAP leaves: a default queue that comes back takes its default place, where that is free. -/
def newlyMapped : Dev :=
  let old := d.mapOf c.hIdx (c.f 0 1)
  let q := dfltQueue c
  let y := remapped c d
  if c.f 4 4 = q && c.f 1 1 = 0 && !(decide (old.1 ≤ q) && decide (q < old.1 + 2 ^ old.2)) then
    (if y.posTaken 1 c.hIdx (7 - c.f 0 1) (false, q) then y
     else y.putSchQ q { y.schQ q with parent := some (1, c.hIdx), pos := 7 - c.f 0 1 })
  else y

theorem qSetEgressMap_eq : qSetEgressMap c d =
    let p := c.hIdx; let cl := c.f 0 1; let k := c.f 1 1; let base := c.f 4 4
    if c.bad 0x01 then .done d { status := .badHandle }
    else if 7 < cl ∨ 12 < k ∨ c.dirty 2 2 = true ∨ c.dirty 8 24 = true ∨ base % 2 ^ k ≠ 0 ∨ base < 0x400000 ∨ 0x500000 < base + 2 ^ k ∨
        (List.range 2048).any (fun j => j != p * 8 + cl &&
          (decide (base < (d.mapOf (j / 8) (j % 8)).1 + 2 ^ (d.mapOf (j / 8) (j % 8)).2) &&
            decide ((d.mapOf (j / 8) (j % 8)).1 < base + 2 ^ k))) = true then .done d { status := .badArg }
    else if (d.getPort p).obj.st ≠ .stopped then .done d { status := .refusedBusy }
    else .done (newlyMapped c d) {} := by
  simp only [qSetEgressMap, check_cons, check_nil, Bool.or_eq_true, decide_eq_true_eq, bne_iff_ne, or_assoc]
  rfl

end

theorem unmapQueue_queued (q d) : (unmapQueue q d).queued = Function.update d.queued q ((d.getQ q).obj, [], []) := flushQueue_queued ..

/-- Queues taken out of their map hold no frame afterwards. -/
theorem foldl_unmapQueue_empty {l : List Nat} {d : Dev} {q : Nat} (h : q ∈ l ∨ (d.queued q).2 = ([], [])) :
    ((l.foldl (fun x q => unmapQueue q x) d).queued q).2 = ([], []) := by
  induction l generalizing d with
  | nil => exact h.resolve_left (List.not_mem_nil)
  | cons k l ih =>
    refine ih ?_
    rw [unmapQueue_queued]
    by_cases same : q = k
    · subst same; exact .inr (by rw [Function.update_self])
    · rw [Function.update_of_ne same]
      exact h.imp_left fun mem => (List.mem_cons.1 mem).resolve_left same

/-- Discards leave the maps as they are. -/
theorem discardEntry_map (q code port d e) : (discardEntry q code port d e).qs.map = d.qs.map := by
  unfold discardEntry; split
  · rfl
  · dsimp only
    rw [releaseFrame_qs]; (repeat' split) <;> rfl

theorem unmapQueue_map (q d) : (unmapQueue q d).qs.map = d.qs.map :=
  foldl_keeps_part (fun x : Dev => x.qs.map) (discardEntry q 80 true) (fun _ _ => discardEntry_map ..) _ _

theorem newlyMapped_qs (c : Cmd) (d : Dev) : (newlyMapped c d).qs = (remapped c d).qs := by
  simp only [newlyMapped]; (repeat' split) <;> rfl

theorem newlyMapped_map (c : Cmd) (d : Dev) :
    (newlyMapped c d).qs.map = tset d.qs.map (0x400000 + 8 * c.hIdx + c.f 0 1, 0) (c.hIdx * 8 + c.f 0 1) (c.f 4 4, c.f 1 1) := by
  rw [newlyMapped_qs, remapped, setQs_qs, foldl_keeps_part (fun x : Dev => x.qs.map) _ (fun x q => unmapQueue_map q x)]
  rfl

theorem newlyMapped_empty {c : Cmd} {d : Dev} {q : Nat} (ho : (d.mapOf c.hIdx (c.f 0 1)).1 ≤ q)
    (ho' : q < (d.mapOf c.hIdx (c.f 0 1)).1 + 2 ^ (d.mapOf c.hIdx (c.f 0 1)).2) (hn : ¬(c.f 4 4 ≤ q ∧ q < c.f 4 4 + 2 ^ c.f 1 1)) :
    ((newlyMapped c d).getQ q).chain = [] ∧ ((newlyMapped c d).getQ q).parked = [] := by
  have out : q ∈ leftOut c d := by
    simp only [leftOut, List.mem_filter, List.mem_map, List.mem_range]
    exact ⟨⟨q - (d.mapOf c.hIdx (c.f 0 1)).1, by omega, by omega⟩, by simp; omega⟩
  rw [getQ, newlyMapped_qs]
  exact Prod.mk.inj (foldl_unmapQueue_empty (d := d) (.inl out))

/-! ### Q_SET_CREDIT, Q_GET_CREDIT_STATUS (R282, R283, R291) -/

section
variable (c : Cmd) (d : Dev)

theorem qSetCredit_eq : qSetCredit c d =
    let ws := (List.range 8).map fun i => c.f (8 + 2 * i) 2
    if c.bad 0x01 then .done d { status := .badHandle }
    else if (c.f 0 4 ≠ 0 ∧ (c.f 0 4 < 64 ∨ (d.getQuota (egQuota c.hIdx)).ondCeil < c.f 0 4)) ∨ c.f 4 1 = 0 ∨ 8 < c.f 4 1 ∨ 4 < c.f 5 1 ∨
        c.dirty 6 2 = true ∨ ws.any (fun x => x == 0 || decide (4096 < x)) = true ∨ c.dirty 24 8 = true then .done d { status := .badArg }
    else .done (d.modCredit c.hIdx fun x => { x with
      window := c.f 0 4, cap := c.f 4 1, strict := c.f 5 1, weights := ws, cur := max x.cur (c.f 5 1) }) {} := by
  simp only [qSetCredit, check_cons, check_nil, Bool.or_eq_true, Bool.and_eq_true, decide_eq_true_eq, bne_iff_ne, beq_iff_eq, or_assoc]

theorem qGetCreditStatus_eq : qGetCreditStatus c d =
    let x := d.getCredit c.hIdx
    if c.bad 0x01 then .done d { status := .badHandle }
    else statusReply c d ([fCnt (d.creditWindow c.hIdx), fCnt ((d.getQuota (egQuota c.hIdx)).ondUsed - x.reserved), fCnt x.reserved] ++
      fArr ((List.range 8).map fun k => [fCnt (d.qs.flow.filter fun f => f.1 / 2048 == c.hIdx * 8 + k).length]) ++
      [fCnt x.grants, fCnt x.flowFull]) := by
  simp only [qGetCreditStatus, check_cons, check_nil]

end

end Dev
end Sys2Proof.Machine

namespace Sys2Proof
open Sys2Proof.Machine Sys2Proof.Machine.Dev

/-- Settles O24: what each row's operation does to the queues and what each handler answers, given above. -/
theorem queueRowsComplete : Obligations.QueueRowsComplete := by
  refine ⟨?_, ?_, ?_, ?_, ?_, ?_, ?_, ?_, ?_, ?_, ?_, ?_, ?_, ?_⟩
  · intro s q
    exact onDev_devStep rfl (activationComplete_eq q s.dev)
  · intro s q
    exact onDev_devStep rfl (activeIdle_eq q s.dev)
  · intro s dev
    refine onDev_devStep rfl ?_
    split
    next never => exact destFlush_of_none never
    next t set =>
      have e := destFlush_of_some set
      split
      next early => exact e.trans (if_pos early)
      next ended => exact e.trans (if_neg ended)
  · intro s dev
    refine onDev_devStep rfl ?_
    split
    next reached => exact resvRelease_of_none reached
    next t since =>
      have e := resvRelease_of_some since
      split
      next early => exact e.trans (if_pos early)
      next ended => exact e.trans (if_neg ended)
  · intro s q
    exact onDev_devStep (f := queueStartDone q) rfl rfl
  · intro s q
    refine onDev_devStep rfl ?_
    dsimp only; split
    next ends =>
      have e := queueStopDone_of_ends ends
      simp only [queued, Prod.mk.injEq] at e
      exact e
    next goesOn => exact queueStopDone_of_goesOn goesOn
  · intro s src c h
    exact replies_of_handler (f := qEnable) rfl h (qEnable_eq c s.dev)
  · intro s src c h
    exact replies_of_handler (f := qDisable) rfl h (qDisable_eq c s.dev)
  · intro s src c h hb
    obtain ⟨b, reply, length, idx, state, balance, demand⟩ := qGetStatus_record c s.dev hb
    exact ⟨b, replies_of_handler (f := qGetStatus) rfl h reply, length, idx, state,
      fun cold => ⟨by rw [balance, shownCount, if_pos cold], by rw [demand, shownCount, if_pos cold]⟩,
      fun hot => ⟨by rw [balance, shownCount, if_neg hot], by rw [demand, shownCount, if_neg hot]⟩⟩
  · intro s src c h
    exact replies_of_handler (f := qSetActive) rfl h (qSetActive_eq c s.dev)
  · intro s src c h
    exact replies_of_handler (f := qPin) rfl h (qPin_eq c s.dev)
  · intro s src c h
    exact ⟨newlyMapped c s.dev, newlyMapped_map c s.dev, fun q ho ho' hn => newlyMapped_empty ho ho' hn,
      replies_of_handler (f := qSetEgressMap) rfl h (qSetEgressMap_eq c s.dev)⟩
  · intro s src c h
    exact replies_of_handler (f := qSetCredit) rfl h (qSetCredit_eq c s.dev)
  · intro s src c h
    exact replies_of_handler (f := qGetCreditStatus) rfl h (qGetCreditStatus_eq c s.dev)

end Sys2Proof
end
section
/-! PROOFS. O25: credit flows, the grants of a port's credit scheduler, and what comes back. -/

namespace Sys2Proof.Machine
open Sys2Proof

namespace Dev

/-! ### CREDIT_GRANT, CREDIT_REQ_REFRESH (R277, R278) -/

theorem creditGrantAt_eq (v value seq : Nat) (d : Dev) : creditGrantAt v value seq d =
    if isVoq v = false then d
    else if (d.getQ v).part = .cold then (if d.voqReachable v then d.sendReturn v (16 * value) (seq % 65536) else d)
    else voqDemand v (d.modQ v fun q => { q with balance := q.balance + 16 * value, grantSeq := seq % 65536 }) := by
  simp only [creditGrantAt, Bool.not_eq_true', beq_iff_eq]

theorem creditRefresh_eq (v : Nat) (d : Dev) : creditRefresh v d =
    let q := d.getQ v
    if isVoq v = true ∧ Queue.isHot q = true ∧ d.voqReachable v = true ∧ demandOf q ≠ 0 ∧ q.reqAt + msT 1 ≤ d.now then
      (d.setQ v { q with demand := demandOf q, reqAt := d.now }).sendReq v (demandOf q) q.grantSeq
    else d := by
  simp only [creditRefresh, Bool.and_eq_true, bne_iff_ne, decide_eq_true_eq, and_assoc]

/-! ### What leaves the count of a port's grants as it was -/

/-- The grants that a port has issued. -/
def granted (d : Dev) (p : Nat) : Nat := (d.getCredit p).grants

theorem granted_of_qs {d e : Dev} (h : e.qs.credit = d.qs.credit) : e.granted = d.granted := by
  funext p; simp only [granted, getCredit, h]

theorem ite_granted (p : Prop) [Decidable p] (a b : Dev) : (if p then a else b).granted = if p then a.granted else b.granted := apply_ite _ _ _ _

theorem modCredit_granted_of_same {d : Dev} {p : Nat} {f : CreditPort → CreditPort} (h : (f (d.getCredit p)).grants = d.granted p) :
    (d.modCredit p f).granted = d.granted := by
  funext k
  by_cases same : k = p
  · subst same; rw [granted, getCredit_modCredit_same, h]
  · rw [granted, getCredit_modCredit_other d f same, granted]

theorem setQ_granted (d q x) : (setQ d q x).granted = d.granted := rfl
theorem modQ_granted (d q f) : (modQ d q f).granted = d.granted := rfl
theorem flowTouch_granted (d k) : (flowTouch d k).granted = d.granted := rfl
theorem sendFc_granted (d dev kind body link) : (sendFc d dev kind body link).granted = d.granted := granted_of_qs (by rw [sendFc_qs])
theorem seqRestart_granted (k d) : (seqRestart k d).granted = d.granted := by unfold seqRestart; dsimp only; split <;> rfl

theorem putFlow_granted (d k f) : (putFlow d k f).granted = d.granted := by
  unfold putFlow; split
  · exact seqRestart_granted ..
  · rfl

theorem unreserve_granted (d p n) : (unreserve d p n).granted = d.granted := by
  rw [unreserve, granted_of_qs (congrArg Qs.credit (modQuota_qs ..))]
  exact modCredit_granted_of_same rfl

theorem creditReqAt_granted (src voq value seq d) : (creditReqAt src voq value seq d).granted = d.granted := by
  by_cases here : voqDev voq = d.devId
  · cases h : tget d.qs.flow (flowKey (voqPort voq) (voqCls voq) src) with
    | some f => rw [creditReqAt_of_some here h, putFlow_granted]
    | none =>
      rw [creditReqAt_of_none here h]; split
      · exact putFlow_granted ..
      · exact (granted_of_qs (by rw [raiseCounted_qs])).trans (modCredit_granted_of_same rfl)
  · rw [creditReqAt_elsewhere here]

theorem creditReturnAt_granted (src voq value d) : (creditReturnAt src voq value d).granted = d.granted := by
  cases h : tget d.qs.flow (flowKey (voqPort voq) (voqCls voq) src) with
  | none => rw [creditReturnAt_of_none h]
  | some f =>
    simp only [creditReturnAt_of_some h, ite_granted, unreserve_granted, flowTouch_granted, putFlow_granted, ite_self]

theorem sendReq_granted (d v value seq) : (sendReq d v value seq).granted = d.granted := by
  unfold sendReq; split
  · exact creditReqAt_granted ..
  · exact sendFc_granted ..

theorem sendReturn_granted (d v value seq) : (sendReturn d v value seq).granted = d.granted := by
  unfold sendReturn; split
  · exact creditReturnAt_granted ..
  · exact sendFc_granted ..

theorem voqDemand_granted (v d) : (voqDemand v d).granted = d.granted := by
  simp only [voqDemand, ite_granted, seqRestart_granted, sendReturn_granted, sendReq_granted, setQ_granted, ite_self]

theorem creditGrantAt_granted (v value seq d) : (creditGrantAt v value seq d).granted = d.granted := by
  simp only [creditGrantAt_eq, ite_granted, sendReturn_granted, voqDemand_granted, modQ_granted, ite_self]

/-! ### GRANT_ISSUE (R281-R283) -/

/-- The device with a grant of sixteen cells charged to a port, its scheduler moved on, and flow `k` made `f`. -/
def withGrant (p : Nat) (turn : CreditPort → CreditPort) (k : Nat) (f : CFlow) (d : Dev) : Dev :=
  (((d.chargeOnd (egQuota p) 16).modCredit p turn).putFlow k f).flowTouch k

theorem chargeOnd_ondUsed (d : Dev) (k n : Nat) : ((d.chargeOnd k n).getQuota k).ondUsed = (d.getQuota k).ondUsed + n := by
  rw [chargeOnd, getQuota_modQuota_same]

/-- A flow with outstanding cells is kept. -/
theorem putFlow_of_outstanding (d : Dev) {k : Nat} {f : CFlow} (h : f.outstanding ≠ 0) :
    d.putFlow k f = d.setQs fun x => { x with flow := tput x.flow k f } := if_neg (by simp [h])

section
variable {p : Nat} {turn : CreditPort → CreditPort} {k : Nat} {f : CFlow} {d : Dev} (h : f.outstanding ≠ 0)
include h

theorem withGrant_flow : tget (withGrant p turn k f d).qs.flow k = some f := by
  rw [withGrant, putFlow_of_outstanding _ h]; exact tget_tput_same ..

theorem withGrant_getCredit : (withGrant p turn k f d).getCredit p = turn (d.getCredit p) := by
  rw [withGrant, putFlow_of_outstanding _ h]; exact getCredit_modCredit_same ..

theorem withGrant_ondUsed : ((withGrant p turn k f d).getQuota (egQuota p)).ondUsed = (d.getQuota (egQuota p)).ondUsed + 16 := by
  rw [withGrant, putFlow_of_outstanding _ h]; exact chargeOnd_ondUsed d (egQuota p) 16

end

/-- The class that a port's credit scheduler serves next, as R283 selects it: child `i` is class 7 − i. -/
def creditTurn (d : Dev) (p : Nat) : Option Nat :=
  let x := d.getCredit p
  (drrSelect 1 64 ((d.creditChildren p).take x.strict) ((d.creditChildren p).drop x.strict) (x.cur - x.strict)).1

section
variable {p : Nat} {d : Dev}

theorem grantIssue_of_no_room (h : d.grantRoom p = false) : grantIssue p d = d := if_pos (by rw [h]; rfl)

theorem grantIssue_of_no_turn (hr : d.grantRoom p = true) (h : d.creditTurn p = none) : grantIssue p d = d := by
  simp only [creditTurn] at h
  simp only [grantIssue, hr, h, Bool.not_true, Bool.false_eq_true, if_false]

/-- The flow of the source whose turn it is gives a grant's demand for sixteen cells of space, and the grant goes to the VOQ of this device or to
the other one. -/
theorem grantIssue_of_turn {i src : Nat} {f : CFlow} (hr : d.grantRoom p = true) (hi : d.creditTurn p = some i)
    (hs : d.nextSource p (7 - i) = some src) (hf : tget d.qs.flow (flowKey p (7 - i) src) = some f) :
    ∃ turn voq seq, (∀ x, (turn x).grants = x.grants + 1 ∧ (turn x).reserved = x.reserved + 16) ∧
      grantIssue p d =
        let y := withGrant p turn (flowKey p (7 - i) src)
          { demand := f.demand - 1, outstanding := f.outstanding + 16, seq := (f.seq + 1) % 65536 } d
        if src = d.devId then creditGrantAt voq 1 seq y else y.sendFc src 0x12 (creditBody voq 1 seq) := by
  simp only [creditTurn] at hi
  simp only [grantIssue, hr, hi, hs, hf, Bool.not_true, Bool.false_eq_true, if_false, withGrant]
  exact ⟨_, _, _, fun _ => ⟨rfl, rfl⟩, rfl⟩

end

/-! ### LOST_CREDIT_RELEASE (R400) -/

theorem lostCredit_of_none {p dev cls : Nat} {d : Dev} (h : tget d.qs.flow (flowKey p cls dev) = none) : lostCredit p dev cls d = d := by
  simp only [lostCredit, h]

theorem lostCredit_of_some {p dev cls : Nat} {d : Dev} {f : CFlow} (h : tget d.qs.flow (flowKey p cls dev) = some f) : lostCredit p dev cls d =
    let k := flowKey p cls dev
    if f.demand = 0 ∧ f.outstanding ≠ 0 ∧ tgetD d.fab.flowAt 0 k + msT 100 ≤ d.now then
      (d.putFlow k { f with outstanding := 0 }).unreserve p f.outstanding
    else d := by
  simp only [lostCredit, h, Bool.and_eq_true, decide_eq_true_eq, bne_iff_ne, and_assoc]

end Dev
end Sys2Proof.Machine

namespace Sys2Proof
open Sys2Proof.Machine Sys2Proof.Machine.Dev

/-- Settles O25: what each row's operation does to flows, balances, grants and reservations, given above. -/
theorem creditRowsComplete : Obligations.CreditRowsComplete := by
  refine ⟨?_, ?_, ?_, ?_, ?_, ?_⟩
  · intro s m
    refine onDev_devStep rfl ?_
    split
    next elsewhere => exact creditReqAt_elsewhere elsewhere
    next here =>
      dsimp only; split
      next f known => exact creditReqAt_of_some (not_not.1 here) known
      next unknown =>
        have e := creditReqAt_of_none (value := m.value) (seq := m.seq) (not_not.1 here) unknown
        split
        next room => exact e.trans (if_pos room)
        next full =>
          rw [e.trans (if_neg full), raiseCounted_qs, getCredit, raiseCounted_qs]
          exact ⟨rfl, congrArg CreditPort.flowFull (getCredit_modCredit_same ..)⟩
  · intro s m
    refine onDev_devStep rfl ?_
    dsimp only; split
    next unknown => exact creditReturnAt_of_none unknown
    next f known => exact creditReturnAt_of_some known
  · intro s m
    exact onDev_devStep rfl (creditGrantAt_eq m.voq m.value m.seq s.dev)
  · intro s v
    exact onDev_devStep rfl (creditRefresh_eq v s.dev)
  · intro s p
    refine onDev_devStep rfl ?_
    dsimp only; split
    next noRoom => exact grantIssue_of_no_room noRoom
    next room =>
      rw [Bool.not_eq_false] at room
      split
      next noTurn => exact grantIssue_of_no_turn room noTurn
      next i turn =>
        intro src f next known
        obtain ⟨turn, voq, seq, moved, e⟩ := grantIssue_of_turn room turn next known
        obtain ⟨grants, reserved⟩ := moved (s.dev.getCredit p)
        have kept : ({ demand := f.demand - 1, outstanding := f.outstanding + 16, seq := (f.seq + 1) % 65536 } : CFlow).outstanding ≠ 0 :=
          Nat.succ_ne_zero _
        have credit := withGrant_getCredit (p := p) (turn := turn) (k := flowKey p (7 - i) src) (d := s.dev) kept
        rw [e]; dsimp only; split
        next own =>
          refine ⟨(congrFun (creditGrantAt_granted ..) _).trans ?_, fun other => absurd own other⟩
          rw [granted, credit, grants]
        next other =>
          rw [getCredit, sendFc_qs, ← getCredit, credit, getQuota, sendFc_buf, ← getQuota]
          exact ⟨grants, fun _ => ⟨withGrant_flow kept, reserved, withGrant_ondUsed kept⟩⟩
  · intro s p dev cls
    refine onDev_devStep rfl ?_
    dsimp only; split
    next unknown => exact lostCredit_of_none unknown
    next f known => exact lostCredit_of_some known

end Sys2Proof
end
section
/-! PROOFS. O27: the samples and the sweeps of the queues, the accounting intervals, and the commands of both. -/

namespace Sys2Proof.Machine
open Sys2Proof

namespace Dev

/-! ### WATCHED_SAMPLE (R314, R318) -/

/-- Thresholds move a queue's flags and raise events; the scheduling state stays. -/
@[simp] theorem thresholds_sch (k d) : (thresholds k d).sch = d.sch := by
  simp only [thresholds, apply_ite sch, raise_sch, ite_self]; rfl

@[simp] theorem thresholds_dma (k d) : (thresholds k d).dma = d.dma := by
  simp only [thresholds, apply_ite dma, raise_dma, ite_self]; rfl

theorem watchedSample_of_early {d : Dev} (h : d.now < d.sch.watchAt + usT 10) : watchedSample d = d := if_pos h

theorem watchedSample_watchAt {d : Dev} (h : ¬ d.now < d.sch.watchAt + usT 10) : (watchedSample d).sch.watchAt = d.now := by
  rw [watchedSample, if_neg h, foldl_keeps_part (fun x : Dev => x.sch.watchAt) _ (fun x k => by rw [thresholds_sch]; rfl)]
  rfl

theorem watchedSample_of_none_watched {d : Dev} (h : ¬ d.now < d.sch.watchAt + usT 10)
    (hn : (d.hotQueues.filter fun k => (d.getQ k).cfg.watched) = []) :
    watchedSample d = { d with sch := { d.sch with watchAt := d.now } } := by
  rw [watchedSample, if_neg h, hn]; rfl

/-! ### HOT_QUEUE_SWEEP (R314, R317) -/

/-- When the last sweep was, and the request lines: what a sample leaves as it was. -/
def sweepMark (d : Dev) : Nat × DmaSt := (d.sch.sweepAt, d.dma)

theorem thresholds_sweepMark (k d) : (thresholds k d).sweepMark = d.sweepMark := by
  rw [sweepMark, thresholds_sch, thresholds_dma, sweepMark]

theorem writeLost_sweepMark (k n d) : (writeLost k n d).sweepMark = d.sweepMark := by
  unfold writeLost; dsimp only; split
  · rw [sweepMark, raise_sch, raise_dma]; rfl
  · rfl

theorem holdWrite_sweepMark (k h d) : (holdWrite k h d).2.sweepMark = d.sweepMark := by
  unfold holdWrite; split
  · rfl
  · exact writeLost_sweepMark ..

theorem addBins_sweepMark (q g l d) : (addBins q g l d).sweepMark = d.sweepMark := by unfold addBins p4Skips; split <;> rfl

theorem countBins_sweepMark (q l d) : (countBins q l d).sweepMark = d.sweepMark := by
  refine foldl_keeps_part sweepMark _ (fun x g => ?_) _ _
  dsimp only; split
  · rfl
  · split
    · exact addBins_sweepMark ..
    · exact holdWrite_sweepMark ..

@[simp] theorem dmaRequest_sch (d line) : (dmaRequest d line).sch = d.sch := by
  unfold dmaRequest; dsimp only; split
  · rfl
  · exact raiseCounted_sch ..

@[simp] theorem dmaRequest_cnt (d line) : (dmaRequest d line).cnt = d.cnt := by
  unfold dmaRequest; dsimp only; split
  · rfl
  · exact raiseCounted_cnt ..

/-- A request line that is not full counts the request (R546). -/
theorem dmaRequest_line {d : Dev} {line : Nat} (h : tgetD d.dma.lines 0 line < 65535) :
    tgetD (dmaRequest d line).dma.lines 0 line = tgetD d.dma.lines 0 line + 1 := by
  dsimp only [dmaRequest]; rw [if_pos h]; exact tgetD_tset_same d.dma.lines 0 line (tgetD d.dma.lines 0 line + 1)

theorem hotSweep_of_early {d : Dev} (h : d.now < d.sch.sweepAt + msT 10) : hotSweep d = d := if_pos h

/-- The device with every hot queue sampled. -/
def swept (d : Dev) : Dev :=
  d.hotQueues.foldl (fun x k => thresholds k (countBins k (x.sampleInto (x.getQ k) noBins) x)) (d.setSch fun y => { y with sweepAt := d.now })

theorem hotSweep_of_due {d : Dev} (h : ¬ d.now < d.sch.sweepAt + msT 10) : hotSweep d = d.swept.dmaRequest 17 := if_neg h

theorem swept_sweepMark (d : Dev) : d.swept.sweepMark = (d.now, d.dma) :=
  foldl_keeps_part sweepMark _ (fun _ _ => (thresholds_sweepMark ..).trans (countBins_sweepMark ..)) _ _

section
variable {d : Dev} (h : ¬ d.now < d.sch.sweepAt + msT 10)
include h

theorem hotSweep_sweepAt : (hotSweep d).sch.sweepAt = d.now := by
  rw [hotSweep_of_due h, dmaRequest_sch]; exact congrArg Prod.fst (swept_sweepMark d)

theorem hotSweep_line (hl : tgetD d.dma.lines 0 17 < 65535) :
    tgetD (hotSweep d).dma.lines 0 17 = tgetD d.dma.lines 0 17 + 1 := by
  have lines : d.swept.dma = d.dma := congrArg Prod.snd (swept_sweepMark d)
  rw [hotSweep_of_due h, dmaRequest_line (by rwa [lines]), lines]

end

/-! ### ACCT_EXPORT (R322) -/

@[simp] theorem tget_putAcct_same (d : Dev) (s : Nat) (a : Acct) : tget (d.putAcct s a).sch.acct s = some a := tget_tput_same ..

/-- The record of a closed interval as the ring takes it, with the pairs of its bank where it has one. -/
def exported (d : Dev) (a : Acct) (b : Option Bool) (r : AcctRec) : AcctRec :=
  match b with | some w => { r with pairs := d.bankPairs a w } | none => r

theorem acctExport_of_none {s : Nat} {d : Dev} (h : tget d.sch.acct s = none) : acctExport s d = d := by simp only [acctExport, h]

section
variable {s : Nat} {d : Dev} {a : Acct} (h : tget d.sch.acct s = some a)
include h

theorem acctExport_of_closed_nil (hc : a.closed = []) : acctExport s d = d := by simp only [acctExport, h, hc]

variable {b : Option Bool} {r : AcctRec} {rest : List (Option Bool × AcctRec)} (hc : a.closed = (b, r) :: rest)
include hc

/-- The oldest closed interval becomes the newest record of the ring. -/
theorem acctExport_acct : tget (acctExport s d).sch.acct s =
    some { a with closed := rest, ring := (d.exported a b r :: a.ring).take 4, wrote := a.wrote + 1 } := by
  simp only [acctExport, h, hc, raise_sch, dmaRequest_sch, tget_putAcct_same]; rfl

/-- An exported bank is cleared. -/
theorem acctExport_cnt {w : Bool} (hb : b = some w) : (acctExport s d).cnt = (d.clearBank a w).cnt := by
  subst hb
  simp only [acctExport, h, hc, raise_cnt, dmaRequest_cnt]; rfl

end

/-! ### ACCT_BOUNDARY (R321) -/

/-- What ACCT_EXPORT leaves as it was of a set: the number of the open interval, the bank it counts in, and the set's minutes. -/
def openInterval (d : Dev) (s : Nat) : Option (Nat × Bool × Nat) := (tget d.sch.acct s).map fun a => (a.seq, a.bank, a.mins)

theorem acctExport_openInterval (s d) : (acctExport s d).openInterval s = d.openInterval s := by
  cases h : tget d.sch.acct s with
  | none => rw [acctExport_of_none h]
  | some a =>
    cases hc : a.closed with
    | nil => rw [acctExport_of_closed_nil h hc]
    | cons x rest => rw [openInterval, acctExport_acct h hc, openInterval, h]; rfl

theorem acctExportAll_openInterval (s n d) : (acctExportAll s n d).openInterval s = d.openInterval s := by
  induction n generalizing d with
  | zero => rfl
  | succ n ih => rw [acctExportAll, ih, acctExport_openInterval]

/-- The next interval counts in the other bank from the boundary on. -/
theorem acctClose_acct {s : Nat} {d : Dev} {a : Acct} (h : tget d.sch.acct s = some a) (more : Nat) (start : Int) (flags : Nat) :
    ∃ b, tget (acctClose s more start flags d).sch.acct s = some b ∧ b.seq = (a.seq + 1) % 2 ^ 32 ∧ b.bank = !a.bank ∧ b.start = start ∧
      b.opened = d.now ∧ b.flags = flags ∧ b.ends = nextBoundary start a.mins := by
  have kept : (acctExportAll s 4 d).openInterval s = some (a.seq, a.bank, a.mins) := by rw [acctExportAll_openInterval, openInterval, h]; rfl
  obtain ⟨x, known, same⟩ := Option.map_eq_some_iff.1 kept
  simp only [Prod.mk.injEq] at same
  obtain ⟨seq, bank, mins⟩ := same
  simp only [acctClose, known]
  exact ⟨_, tget_putAcct_same .., by rw [seq], by rw [bank], rfl, acctExportAll_now .., rfl, by rw [mins]⟩

theorem acctBoundary_of_none {s : Nat} {d : Dev} (h : tget d.sch.acct s = none) : acctBoundary s d = d := by simp only [acctBoundary, h]

theorem acctBoundary_of_some {s : Nat} {d : Dev} {a : Acct} (h : tget d.sch.acct s = some a) :
    acctBoundary s d = if a.ends ≤ d.utcSec then acctClose s 0 a.ends 0 d else d := by simp only [acctBoundary, h]

/-! ### OBS_SET_QUEUE, OBS_SET_HIST_PROFILE, OBS_GET_HIST (R316, R329, Tables 9.3 and 9.5) -/

section
variable (c : Cmd) (d : Dev)

theorem obsSetQueue_eq : obsSetQueue c d =
    let q := c.hIdx; let n := c.f 0 4
    if queueBad c then .done d { status := .badHandle }
    else if n = 0 ∨ 5242880 < n ∨ 0x500000 < q + n ∨ 15 < c.f 4 1 ∨ 1 < c.f 5 1 ∨ c.dirty 6 2 = true ∨ c.dirty 24 8 = true ∨
        (c.f 16 8 ≠ 0 ∧ (c.f 16 8 < 64 ∨ 60000000000 < c.f 16 8 ∨ 0x400000 < q + n)) then .done d { status := .badArg }
    else if 65536 < (d.qs.q.filter fun x => x.2.watched && !(decide (q ≤ x.1) && decide (x.1 < q + n))).length +
        (if bit (c.f 5 1) 0 then n else 0) then .done d { status := .noSpace }
    else .done ((List.range n).foldl (fun x k => cfgWrite (q + k) (fun y => { y with
      hist := c.f 4 1, watched := bit (c.f 5 1) 0, depthThr := c.f 8 4, delayThr := c.f 12 4, admitNs := c.f 16 8 }) x) d) {} := by
  simp only [obsSetQueue, rangeBad, check_cons, check_nil, Bool.or_eq_true, Bool.and_eq_true, beq_iff_eq, bne_iff_ne, decide_eq_true_eq, or_assoc]

theorem obsSetHistProfile_eq (pl : HostRead) : obsSetHistProfile pl c d =
    let b := pl.getD []
    let dep := (List.range 15).map fun k => field b (4 * k) 4
    let del := (List.range 15).map fun k => field b (60 + 4 * k) 4
    if c.bad 0x14 then .done d { status := .badHandle }
    else if pl = none ∨ b.length < 120 ∨ rising dep = false ∨ rising del = false then .done d { status := .badArg }
    else .done { d with sch := { d.sch with histProf := tput d.sch.histProf c.hIdx (dep, del) } } {} := by
  simp only [obsSetHistProfile, check_cons, check_nil, Bool.or_eq_true, Bool.not_eq_true', decide_eq_true_eq, Option.isNone_iff_eq_none, or_assoc]
  rfl

/-- Past its tests the clear flag is 0 or 1, so it is its own bit 0. -/
theorem obsGetHist_eq : obsGetHist c d =
    let q := c.hIdx; let n := c.f 0 4
    if queueBad c then .done d { status := .badHandle }
    else if n = 0 ∨ 5242880 < n ∨ 0x500000 < q + n ∨ 1 < c.f 4 1 ∨ c.dirty 5 27 = true then .done d { status := .badArg }
    else .done (if c.f 4 1 = 1 then
        { d with sch := { d.sch with hist := d.sch.hist.filter fun h => decide (h.1 < q) || decide (q + n ≤ h.1) } } else d)
      { record := some ((List.range n).flatMap fun k => (tgetD d.sch.hist noBins (q + k)).flatMap (le 4)) } := by
  have clears (h : ¬ 1 < c.f 4 1) : bit (c.f 4 1) 0 = true ↔ c.f 4 1 = 1 := by simp only [bit, beq_iff_eq]; omega
  simp only [obsGetHist, rangeBad, check_cons, check_nil, Bool.or_eq_true, beq_iff_eq, decide_eq_true_eq, or_assoc]
  split
  · rfl
  · split
    · rfl
    next accepted =>
      simp only [not_or] at accepted
      obtain ⟨_, _, _, flag, _⟩ := accepted
      simp only [clears flag]; rfl

/-! ### ACCT_SET, ACCT_GET (R324, R325, R330) -/

/-- The device that ACCT_SET leaves of a deleted set: its open interval closed, its closed ones exported, and the set gone. -/
def acctDeleted (s : Nat) (d : Dev) : Dev :=
  (acctExportAll s 8 (acctClose s 8 d.utcSec 0 d)).setSch fun x => { x with acct := tdel x.acct s }

theorem tget_acctDeleted (s : Nat) (d : Dev) : tget (acctDeleted s d).sch.acct s = none := by
  simp only [acctDeleted, setSch_sch, tget_tdel_same]

section
variable (hb : c.bad 0x13 = false) (hz : c.dirty 2 2 = false) (hz' : c.dirty 12 20 = false)
include hb hz hz'

theorem acctSet_sets (hfl : c.f 1 1 = 0) : acctSet c d =
    if [1, 2, 3, 4, 5, 6, 10, 12, 15, 20, 30, 60].contains (c.f 0 1) = false ∨ c.f 8 4 = 0 ∨ 16777216 < c.f 8 4 ∨
        (∃ a ∈ tget d.sch.acct c.hIdx, a.base ≠ c.f 4 4 ∨ a.n ≠ c.f 8 4) then .done d { status := .badArg }
    else if 67108864 < c.f 4 4 + 2 * c.f 8 4 ∨ d.sch.acct.any (fun x => x.1 != c.hIdx && (decide (c.f 4 4 < x.2.base + 2 * x.2.n) &&
          decide (x.2.base < c.f 4 4 + 2 * c.f 8 4))) = true ∨
        (tget d.sch.acct c.hIdx = none ∧ d.ringFree (c.f 8 4) = none) then .done d { status := .noSpace }
    else .done (match tget d.sch.acct c.hIdx with
      | some a => d.putAcct c.hIdx { a with mins := c.f 0 1 }
      | none => d.putAcct c.hIdx { base := c.f 4 4, n := c.f 8 4, mins := c.f 0 1, start := d.utcSec, opened := d.now, flags := 8
                                   ringAt := (d.ringFree (c.f 8 4)).getD 0, ends := nextBoundary d.utcSec (c.f 0 1) }) {} := by
  have sets : bit 0 0 = false := rfl
  simp only [acctSet, hb, hz, hz', hfl, sets, check_cons, check_nil, Bool.or_eq_true, Bool.and_eq_true, Bool.not_eq_true', Bool.and_assoc,
    beq_iff_eq, decide_eq_true_eq, Option.isNone_iff_eq_none, or_assoc]
  cases tget d.sch.acct c.hIdx with
  | none => simp
  | some a => simp

theorem acctSet_deletes (hfl : c.f 1 1 = 1) : acctSet c d =
    if tget d.sch.acct c.hIdx = none then .done d { status := .badArg } else .done (acctDeleted c.hIdx d) {} := by
  have deletes : bit 1 0 = true := rfl
  simp only [acctSet, hb, hz, hz', hfl, deletes, check_cons, check_nil, Bool.or_eq_true, Option.isNone_iff_eq_none, if_true]
  simp [acctDeleted]

end

theorem acctGet_eq : acctGet c d =
    match tget d.sch.acct c.hIdx with
    | none => .done d { status := .badHandle }
    | some a =>
      if c.bad 0x13 then .done d { status := .badHandle }
      else if c.dirty 4 28 then .done d { status := .badArg }
      else .done d { record := some ((if c.f 0 4 = 0 then a.ring else a.ring.filter fun r => decide (r.seq ≤ c.f 0 4)).flatMap
        (acctBytes c.hIdx a.n)) } := by
  cases known : tget d.sch.acct c.hIdx with
  | none => simp only [acctGet, known, ite_self]
  | some a => simp only [acctGet, known, check_cons, check_nil]

end

end Dev
end Sys2Proof.Machine

namespace Sys2Proof
open Sys2Proof.Machine Sys2Proof.Machine.Dev

/-- Settles O27: what a sample, a sweep and a boundary do, what is exported, and what each handler answers, given above. -/
theorem observationRowsComplete : Obligations.ObservationRowsComplete := by
  refine ⟨?_, ?_, ?_, ?_, ?_, ?_, ?_, ?_, ?_, ?_, ?_⟩
  · intro s
    refine onDev_devStep rfl ?_
    split
    next early => exact watchedSample_of_early early
    next ended => exact ⟨watchedSample_watchAt ended, watchedSample_of_none_watched ended⟩
  · intro s
    refine onDev_devStep rfl ?_
    split
    next early => exact hotSweep_of_early early
    next ended => exact ⟨hotSweep_sweepAt ended, hotSweep_line ended⟩
  · intro s
    exact onDev_devStep (f := histogramAdd) rfl rfl
  · intro s k
    refine onDev_devStep rfl ?_
    split
    next absent => exact acctBoundary_of_none absent
    next a known =>
      have e := acctBoundary_of_some known
      split
      next reached =>
        rw [e, if_pos reached]
        exact acctClose_acct known 0 a.ends 0
      next early => exact e.trans (if_neg early)
  · intro s k
    refine onDev_devStep rfl ?_
    split
    next absent => exact acctExport_of_none absent
    next a known =>
      split
      next none_closed => exact acctExport_of_closed_nil known none_closed
      next b r rest closed => exact ⟨acctExport_acct known closed, fun w bank => acctExport_cnt known closed bank⟩
  · intro s src c h
    exact replies_of_handler (f := obsSetQueue) rfl h (obsSetQueue_eq c s.dev)
  · intro s src pl c h
    exact replies_of_handler (f := obsSetHistProfile pl) rfl h (obsSetHistProfile_eq c s.dev pl)
  · intro s src c h
    exact replies_of_handler (f := obsGetHist) rfl h (obsGetHist_eq c s.dev)
  · intro s src c h hb hfl hz hz'
    exact replies_of_handler (f := acctSet) rfl h (acctSet_sets c s.dev hb hz hz' hfl)
  · intro s src c h hb hfl hz hz'
    have reply := acctSet_deletes c s.dev hb hz hz' hfl
    split
    next absent => exact replies_of_handler (f := acctSet) rfl h (reply.trans (if_pos absent))
    next present =>
      exact ⟨acctDeleted c.hIdx s.dev, replies_of_handler (f := acctSet) rfl h (reply.trans (if_neg present)), tget_acctDeleted ..⟩
  · intro s src c h
    exact replies_of_handler (f := acctGet) rfl h (acctGet_eq c s.dev)

end Sys2Proof
end
section
/-! PROOFS. O50: a byte of HBM that the model holds as a byte. -/

namespace Sys2Proof.Machine
open Sys2Proof

namespace Dev

/-! ### Bytes outside the counter store and the histograms (R336) -/

section
variable {a : Nat} (h : ¬(0x397800000 ≤ a % 2 ^ 34 ∧ a % 2 ^ 34 < 0x3A4800000))
include h

/-- Such a byte is the entry of its address. -/
theorem hbmByte_of_bytes (d : Dev) : d.hbmByte a = tgetD d.hbm.mem 0 a := by
  dsimp only [hbmByte]; rw [if_neg (by omega), if_neg (by omega)]

theorem hbmPutByte_of_bytes (d : Dev) (v : Byte) : d.hbmPutByte a v = d.setHbm fun x => { x with mem := tset x.mem 0 a v } := by
  dsimp only [hbmPutByte]; rw [if_neg (by omega), if_neg (by omega)]

end

/-- A change of the entry at one address shows in no other byte: those of the counter store and the histograms are not read from the entries. -/
theorem hbmByte_setHbm_mem_other (d : Dev) {a b : Nat} (v : Byte) (h : b ≠ a) :
    (d.setHbm fun x => { x with mem := tset x.mem 0 a v }).hbmByte b = d.hbmByte b := by
  dsimp only [hbmByte, setHbm]; rw [tgetD_tset_other _ _ _ h]

end Dev
end Sys2Proof.Machine

namespace Sys2Proof
open Sys2Proof.Machine Sys2Proof.Machine.Dev

/-- Settles O50: outside the tables a write is one entry of the memory put, which keeps its form. -/
theorem hbmBytesReadBack : Obligations.HbmBytesReadBack := by
  intro d a v wf outside
  have put := hbmPutByte_of_bytes outside d v
  refine ⟨?_, hbmPutByte_wf wf a v, fun b other => ?_, ?_⟩
  · rw [put, hbmByte_of_bytes outside]; exact tgetD_tset_same ..
  · rw [put]; exact hbmByte_setHbm_mem_other d v other
  · rw [put]; rfl

end Sys2Proof
end
section
/-! PROOFS. O29: what each operation of HBM leaves of a channel, and a freeze. -/

namespace Sys2Proof.Machine
open Sys2Proof

/-- A channel without what degraded service notes of it: writes held and lost, units marked for rebuild, lost updates (R352, R354). -/
def HbmCh.core (c : HbmCh) : HbmCh := { c with held := [], heldLost := 0, marked := [], lost := 0 }

namespace Dev

/-! ### Channels after an operation -/

@[simp] theorem getCh_modCh_same (d : Dev) (k : Nat) (f : HbmCh → HbmCh) : (d.modCh k f).getCh k = f (d.getCh k) := tgetD_tset_same ..

theorem getCh_modCh_other (d : Dev) {k j : Nat} (f : HbmCh → HbmCh) (h : j ≠ k) : (d.modCh k f).getCh j = d.getCh j :=
  tgetD_tset_other _ _ _ h

theorem getCh_of_ch {d e : Dev} (h : e.hbm.ch = d.hbm.ch) : e.getCh = d.getCh := by funext k; rw [getCh, h, getCh]

theorem hbm_of_besideQueues {d e : Dev} (h : e.besideQueues false = d.besideQueues false) : e.hbm = d.hbm :=
  show (e.besideQueues false).hbm = (d.besideQueues false).hbm by rw [h]

theorem getCh_of_besideQueues {d e : Dev} (h : e.besideQueues false = d.besideQueues false) : e.getCh = d.getCh :=
  getCh_of_ch (congrArg Hbm.ch (hbm_of_besideQueues h))

@[simp] theorem raise_getCh (d type sev subject detail) : (raise d type sev subject detail).getCh = d.getCh :=
  getCh_of_besideQueues (raise_besideQueues ..)
@[simp] theorem raiseObj_getCh (d h o st bound n) : (raiseObj d h o st bound n).getCh = d.getCh := raise_getCh ..
@[simp] theorem thawEnds_getCh (k st d) : (thawEnds k st d).getCh = d.getCh := getCh_of_besideQueues (finish_besideQueues ..)
@[simp] theorem finish_getCh (d op h r) : (finish d op h r).getCh = d.getCh := getCh_of_besideQueues (finish_besideQueues ..)
@[simp] theorem raiseDouble_getCh (d c) : (raiseDouble d c).getCh = d.getCh := getCh_of_besideQueues (raiseDouble_besideQueues ..)
@[simp] theorem elsewhere_getCh (d u) : (elsewhere d u).2.getCh = d.getCh := getCh_of_besideQueues (elsewhere_besideQueues ..)

@[simp] theorem budgetWatch_getCh (d) : (budgetWatch d).getCh = d.getCh := by
  unfold budgetWatch; dsimp only; split
  · split
    · rfl
    · exact raise_getCh ..
  · rfl

@[simp] theorem setPoison_getCh (g on d) : (setPoison g on d).getCh = d.getCh := rfl

@[simp] theorem hbmPutByte_getCh (d a v) : (hbmPutByte d a v).getCh = d.getCh := by
  refine getCh_of_ch ?_
  unfold hbmPutByte; dsimp only; split
  · rfl
  · split
    · rfl
    · rfl

@[simp] theorem hbmWrite_getCh (a bs d) : (hbmWrite a bs d).getCh = d.getCh := foldl_keeps_part getCh _ (fun _ _ => hbmPutByte_getCh ..) _ _

@[simp] theorem hbmAnswer_getCh (w data ok d) : (hbmAnswer w data ok d).getCh = d.getCh := by
  unfold hbmAnswer; dsimp only; exact getCh_of_ch (by rw [emit_hbm]; rfl)

@[simp] theorem applyWrite_getCh (r shift d) : (applyWrite r shift d).getCh = d.getCh := by
  refine foldl_keeps_part getCh _ (fun x g => ?_) _ _
  have bytes := foldl_keeps_part getCh (fun (y : Dev) p => y.hbmPutByte (shift p.1) p.2) (fun _ _ => hbmPutByte_getCh ..) (granuleBytes r g) x
  dsimp only; split
  · exact bytes
  · exact bytes

/-! ### What degraded service leaves of a channel (R354, Table 10.4) -/

def chCore (d : Dev) (k : Nat) : HbmCh := (d.getCh k).core

theorem chCore_of_getCh {d e : Dev} (h : e.getCh = d.getCh) : e.chCore = d.chCore := by funext k; rw [chCore, h, chCore]

theorem modCh_chCore_of_same {d : Dev} {k : Nat} {f : HbmCh → HbmCh} (h : (f (d.getCh k)).core = d.chCore k) :
    (d.modCh k f).chCore = d.chCore := by
  funext j
  by_cases same : j = k
  · subst same; rw [chCore, getCh_modCh_same, h]
  · rw [chCore, getCh_modCh_other d f same, chCore]

theorem hbmAnswer_chCore (w data ok d) : (hbmAnswer w data ok d).chCore = d.chCore := chCore_of_getCh (hbmAnswer_getCh ..)
theorem markUnit_chCore (u d) : (markUnit u d).chCore = d.chCore := modCh_chCore_of_same rfl

theorem lostUpdate_chCore (k port d) : (lostUpdate k port d).chCore = d.chCore := by
  unfold lostUpdate; split
  · exact modCh_chCore_of_same rfl
  · rfl

theorem writeLost_chCore (k n d) : (writeLost k n d).chCore = d.chCore := by
  unfold writeLost; dsimp only; split
  · exact (chCore_of_getCh (raise_getCh ..)).trans (modCh_chCore_of_same rfl)
  · exact modCh_chCore_of_same rfl

theorem holdWrite_chCore (k h d) : (holdWrite k h d).2.chCore = d.chCore := by
  unfold holdWrite; split
  · exact modCh_chCore_of_same rfl
  · exact writeLost_chCore ..

theorem serveElsewhere_chCore (w d) : (serveElsewhere w d).chCore = d.chCore := by
  have read := chCore_of_getCh (elsewhere_getCh d (hbmUnit w.req.addr))
  unfold serveElsewhere; dsimp only; split
  · split
    next served => rw [served] at read; exact (hbmAnswer_chCore ..).trans read
    next failed => rw [failed] at read; exact (hbmAnswer_chCore ..).trans ((lostUpdate_chCore ..).trans read)
  · split
    · split
      · exact (hbmAnswer_chCore ..).trans ((markUnit_chCore ..).trans (chCore_of_getCh (applyWrite_getCh ..)))
      · exact hbmAnswer_chCore ..
    · exact (hbmAnswer_chCore ..).trans (holdWrite_chCore ..)
    · exact hbmAnswer_chCore ..

/-! ### A freeze (R353, Table 10.5) -/

/-- Channel `k` is FROZEN, with a snapshot of this cause. -/
def frozenBy (d : Dev) (k cause : Nat) : Prop := (d.getCh k).obj.st = .frozen ∧ ∃ n, (d.getCh k).snap = some n ∧ n.cause = cause

theorem frozenBy_of_chCore {d e : Dev} {k cause : Nat} (h : e.chCore = d.chCore) (frozen : d.frozenBy k cause) : e.frozenBy k cause := by
  have obj : (e.chCore k).obj = (d.chCore k).obj := by rw [h]
  have snap : (e.chCore k).snap = (d.chCore k).snap := by rw [h]
  obtain ⟨st, n, taken, caused⟩ := frozen
  exact ⟨(congrArg Obj.st obj).trans st, n, snap.trans taken, caused⟩

/-- A channel that is not FROZEN, STOPPED or RETIRED freezes: what follows its snapshot leaves state and snapshot as they were. -/
theorem freeze_frozenBy {k : Nat} {d : Dev} (h : (d.getCh k).obj.st ∉ [.frozen, .stopped, .retired]) (cause : Nat) (addr : Option Nat) :
    (freeze k cause addr d).frozenBy k cause := by
  have reserved (l : List HbmWait) {x : Dev} (frozen : x.frozenBy k cause) :
      (l.foldl (fun (x : Dev) w => serveElsewhere w x) x.budgetWatch).frozenBy k cause :=
    frozenBy_of_chCore
      ((foldl_keeps_part chCore _ (fun x w => serveElsewhere_chCore w x) l _).trans (chCore_of_getCh (budgetWatch_getCh x))) frozen
  have ended (b : Bool) {x : Dev} (frozen : x.frozenBy k cause) : (if b then thawEnds k .frozen x else x).frozenBy k cause := by
    cases b
    · exact frozen
    · exact frozenBy_of_chCore (chCore_of_getCh (thawEnds_getCh ..)) frozen
  have told {x : Dev} (frozen : x.frozenBy k cause) :
      (match x.otherDown k with | some j => x.raiseDouble (k, j) | none => x).frozenBy k cause := by
    split
    · exact frozenBy_of_chCore (chCore_of_getCh (raiseDouble_getCh ..)) frozen
    · exact frozen
  unfold freeze; dsimp only
  rw [if_neg (by simpa [or_assoc] using h)]
  refine told (reserved _ (ended _ ?_))
  simp [frozenBy]

end Dev
end Sys2Proof.Machine
end
section
/-! PROOFS. O29: the channels of HBM return to service, stop and retire, and the memory commands. -/

namespace Sys2Proof.Machine
open Sys2Proof

/-- A command row under `State.runs` leaves the device that its handler's reply leaves. -/
theorem runCmd_of_runs {s : State} {op : Nat} {src : Src} {c : Cmd} (h : s.runs op src c) (f : Cmd → Dev → Reply) :
    Dev.runCmd op src f s.dev = Dev.settle c (f c s.dev) := by
  obtain ⟨next, gate⟩ := h
  simp only [Dev.runCmd, next, gate]

namespace Dev

/-! ### THAW_TRAINING_DONE, REBUILD_DONE (R357, Table 10.6) -/

section
variable {k : Nat} {d : Dev}

theorem trainingDone_of_not_training {ok : Bool} (h : (d.getCh k).obj.st ≠ .starting ∨ (d.getCh k).thaw ≠ .training) :
    trainingDone k ok d = d := if_pos (by simpa using h)

section
variable (h : ¬((d.getCh k).obj.st ≠ .starting ∨ (d.getCh k).thaw ≠ .training))
include h

theorem trainingDone_of_trained : trainingDone k true d = ((d.getCh k).held.foldl applyHeld d).modCh k fun x => { x with
    thaw := .rebuild, held := [], heldLost := 0, written := [], retrainAt := d.now + secT 1 } := if_neg (by simpa using h)

theorem trainingDone_frozenBy : (trainingDone k false d).frozenBy k 4 := by
  have failed : trainingDone k false d = freeze k 4 none d := if_neg (by simpa using h)
  simp only [not_or, not_not] at h
  obtain ⟨starting, _⟩ := h
  rw [failed]
  exact freeze_frozenBy (by rw [starting]; decide) 4 none

end

theorem rebuildUnits_getCh (k d) : (rebuildUnits k d).getCh = d.getCh := by
  have cells := foldl_keeps_part getCh (fun (x : Dev) u => hbmWrite u (x.rebuilt u) x) (fun _ _ => hbmWrite_getCh ..) (rebuildCells k d) d
  refine Eq.trans (foldl_keeps_part getCh _ (fun x u => ?_) _ _) cells
  split
  · exact hbmWrite_getCh ..
  · rfl

theorem rebuildDone_of_not_rebuild {bad : List Nat} (h : (d.getCh k).obj.st ≠ .starting ∨ (d.getCh k).thaw ≠ .rebuild) :
    rebuildDone k bad d = d := if_pos (by simpa using h)

/-- The channel is RUNNING since its return began, without marks and without a spare slot. -/
theorem rebuildDone_getCh {bad : List Nat} (h : ¬((d.getCh k).obj.st ≠ .starting ∨ (d.getCh k).thaw ≠ .rebuild)) :
    (rebuildDone k bad d).getCh k = { d.getCh k with
      thaw := .none, marked := [], written := [], snap := none, slot := none, obj := (d.getCh k).obj.started (d.getCh k).obj.since } := by
  have poisoned (l : List Nat) (x : Dev) : (l.foldl (fun (x : Dev) g => setPoison (g / 32) true x) x).getCh = x.getCh :=
    foldl_keeps_part getCh _ (fun _ _ => setPoison_getCh ..) l x
  unfold rebuildDone; dsimp only
  rw [if_neg (by simpa using h)]
  simp only [thawEnds_getCh, budgetWatch_getCh, raiseObj_getCh, raise_getCh, getCh_modCh_same, poisoned, rebuildUnits_getCh]

/-! ### RETIRE_SALVAGE_DONE (R358) -/

/-- The spare slot that a salvage of channel `k` has filled, while firmware runs. -/
def salvageEnds (k : Nat) (d : Dev) : Option Nat := if d.fwHeld then none else (d.getCh k).salvage

theorem salvageEnds_isSome (k d) : (salvageEnds k d).isSome = ((d.getCh k).salvage.isSome && !d.fwHeld) := by
  unfold salvageEnds; cases d.fwHeld <;> simp

section
variable {trained : Bool} {bad : List Nat}

theorem salvageDone_of_none (h : salvageEnds k d = none) : salvageDone k trained bad d = d := by
  unfold salvageEnds at h; simp only [salvageDone, h]

/-- The channel is RETIRED into the slot. -/
theorem salvageDone_getCh {n : Nat} (h : salvageEnds k d = some n) : ∃ x : HbmCh, (salvageDone k trained bad d).getCh k = { x with
    salvage := none, slot := some n, held := [], heldLost := 0, marked := [], snap := none
    obj := { x.obj with st := .retired, prev := .retired, since := d.nowNs } } := by
  unfold salvageEnds at h
  simp only [salvageDone, h, budgetWatch_getCh, finish_getCh, raiseObj_getCh, raise_getCh, getCh_modCh_same]
  exact ⟨_, rfl⟩

end

end

/-! ### CHANNEL_STOP_DONE (Table 10.7) -/

theorem chStopDone_eq (k : Nat) (d : Dev) : chStopDone k d =
    let c := d.getCh k
    let o := c.obj.stopped d.nowNs
    if c.obj.st = .stopping ∧ (c.reqs = [] ∨ due d.now c.obj.due = true) then
      (d.raiseObj (chHandle k) c.obj .stopped (!c.reqs.isEmpty) 0).modCh k fun x => { x with
        obj := o, reqs := [], thaw := if o.st = .starting then .training else .none, group := 0 } else d := by
  by_cases ends : (d.getCh k).obj.st = .stopping ∧ ((d.getCh k).reqs = [] ∨ due d.now (d.getCh k).obj.due = true)
  · exact (if_neg (by simpa [or_iff_not_imp_left] using ends)).trans (if_pos ends).symm
  · exact (if_pos (by simpa [or_iff_not_imp_left] using ends)).trans (if_neg ends).symm

/-! ### MEM_CH_ENABLE, MEM_CH_DISABLE (Table 10.7, R355) -/

theorem memChEnable_eq (c : Cmd) (d : Dev) : memChEnable c d =
    let begun := d.modCh c.hIdx fun y => { y with thaw := .training, obj := { y.obj with st := .starting, since := d.nowNs, failed := false } }
    if c.bad 0x15 then .done d { status := .badHandle }
    else if c.dirty 0 32 then .done d { status := .badArg }
    else match (d.getCh c.hIdx).obj.st with
      | .running => .done d {}
      | .stopped => .done begun { status := .pending }
      | .retired => .done begun { status := .pending }
      | .stopping => .done (d.modCh c.hIdx fun y => { y with obj := { y.obj with held := true } }) { status := .deferred }
      | .starting => .done d { status := .refusedBusy }
      | .frozen => .done d { status := .refusedBusy } := by
  simp only [memChEnable, check_cons, check_nil]
  cases (d.getCh c.hIdx).obj.st <;> rfl

/-- A channel in service stops: its requests not yet issued are served elsewhere, and those in flight have 2 µs (R355). -/
def chStops (k : Nat) (d e : Dev) : Dev :=
  ((d.getCh k).reqs.filter fun w => !w.issued).foldl (fun (z : Dev) w => serveElsewhere w z)
    (e.modCh k fun y => { y with
      obj := y.obj.beginStop d.nowNs (d.now + usT 2) false, reqs := y.reqs.filter (·.issued), thaw := .none }).budgetWatch

section
variable (c : Cmd) (d : Dev)

theorem memChDisable_eq : memChDisable c d =
    let x := d.getCh c.hIdx
    if c.bad 0x15 then .done d { status := .badHandle }
    else if c.dirty 0 32 then .done d { status := .badArg }
    else match x.obj.st with
      | .running => if d.otherDown c.hIdx ≠ none then .done d { status := .refusedBusy } else .done (chStops c.hIdx d d) {}
      | .starting => .done (chStops c.hIdx d (thawEnds c.hIdx .cancelled d)) {}
      | .stopping => .done (d.modCh c.hIdx fun y => { y with obj := { y.obj with held := false, cancelled := y.obj.cancelled || y.obj.held } }) {}
      | .stopped => .done d {}
      | .frozen => if x.salvage ≠ none then .done d { status := .refusedBusy }
        else .done ((d.raiseObj (chHandle c.hIdx) { x.obj with prev := .frozen, since := d.nowNs } .stopped false 0).modCh c.hIdx
          fun y => { y with snap := none, obj := { y.obj with st := .stopped, prev := .stopped, since := d.nowNs } }) {}
      | .retired => .done d { status := .refusedBusy } := by
  simp only [memChDisable, check_cons, check_nil, chStops]
  cases (d.getCh c.hIdx).obj.st <;> simp [Option.isSome_iff_ne_none]

/-! ### MEM_GET_STATUS, MEM_SET_PORT, MEM_SET_POWER (R344, R360, R364, R514) -/

theorem memGetStatus_eq : memGetStatus c d =
    if (if c.hType = 0x15 then c.bad 0x15 else c.bad 0x00) then .done d { status := .badHandle }
    else if c.dirty 0 28 then .done d { status := .badArg }
    else statusReply c d (fArr ((if c.hType = 0x15 then [c.hIdx] else List.range 256).map fun k =>
          let x := d.getCh k
          [fByte x.obj.st.code, f8i (d.getStack (k / 32)).temp, fCnt x.forced, fCnt x.ce, fCnt x.ue, fCnt x.lost]) ++
        fArr ((List.range 8).map fun p =>
          let l := tgetD d.hbm.lat [] p
          [f8 (percentile l 50 100), f8 (percentile l 99 100), f8 (percentile l 9999 10000), fCnt (tgetD d.hbm.miss 0 p)]) ++
        [fByte d.hbm.level, f8 (5625 * d.hbmRunning)]) := by
  simp only [memGetStatus, check_cons, check_nil, beq_iff_eq]

theorem memSetPort_eq : memSetPort c d =
    let p := c.f 0 1; let t := c.f 4 4; let r := c.f 8 4
    let d1 := d.setHbm fun h => { h with port := h.port.zipIdx.map fun (x : HbmPort × Nat) =>
      if x.2 = p then { target := if t = 0 then x.1.target else t, reserve := if r = 0xFFFFFFFF then x.1.reserve else r } else x.1 }
    if c.bad 0x00 then .done d { status := .badHandle }
    else if 7 < p ∨ c.dirty 1 3 = true ∨ c.dirty 12 20 = true ∨ (t ≠ 0 ∧ (t < (hbmPortRange p).1 ∨ (hbmPortRange p).2.1 < t)) ∨
        (r ≠ 0xFFFFFFFF ∧ (p < 2 ∨ 14400 < r)) then .done d { status := .badArg }
    else if d1.hbmBudgetOk = false then .done d { status := .budgetExceeded }
    else .done d1.budgetWatch {} := by
  simp only [memSetPort, check_cons, check_nil, Bool.or_eq_true, Bool.and_eq_true, Bool.not_eq_true', beq_iff_eq, bne_iff_ne, beq_eq_false_iff_ne,
    decide_eq_true_eq, or_assoc]

theorem memSetPower_eq : memSetPower c d =
    if c.bad 0x00 then .done d { status := .badHandle }
    else if (c.f 0 4 ≠ 0 ∧ c.f 0 4 < 10) ∨ 1000000 < c.f 0 4 ∨ c.dirty 4 28 = true then .done d { status := .badArg }
    else .done { d with hbm := { d.hbm with idleUs := c.f 0 4 } } {} := by
  simp only [memSetPower, check_cons, check_nil, Bool.or_eq_true, Bool.and_eq_true, bne_iff_ne, decide_eq_true_eq, or_assoc]
  rfl

end

/-! ### MEM_SET_TRAINING (R348) -/

/-- Channel `k` is to take the training mode that the command names at its next pause, unless it has it. -/
def putTraining (c : Cmd) (b : Bytes) (d : Dev) (k : Nat) : Dev :=
  let want : Option Bytes := if c.f 0 1 = 1 then some (slice b (64 * k) 64) else none
  let new := if (d.getCh k).legacy = want then none else some want
  if (d.getCh k).pendMode = new then d
  else (d.noteWrite c.intake (.training k (d.getCh k).pendMode)).modCh k fun y => { y with pendMode := new }

theorem memSetTraining_eq (c : Cmd) (d : Dev) (pl : HostRead) : memSetTraining pl c d =
    let b := pl.getD []
    let d1 := (List.range 256).foldl (putTraining c b) (d.setHbm fun h => { h with mode := c.f 0 1 == 1 })
    if c.bad 0x00 then .done d { status := .badHandle }
    else if 1 < c.f 0 1 ∨ c.dirty 1 31 = true ∨
        (c.f 0 1 = 1 ∧ (pl = none ∨ (List.range 256).all (fun k => delayOk (slice b (64 * k) 64) k) = false)) then
      .done d { status := .badArg }
    else if (d.startedCmd 0x0505 fun _ => true) ≠ none then .done d { status := .refusedBusy }
    else if d1.hbm.ch.any (fun x => x.2.pendMode.isSome) then .pend d1 else .done d1 {} := by
  simp only [memSetTraining, check_cons, check_nil, Bool.or_eq_true, Bool.and_eq_true, Bool.not_eq_true', beq_iff_eq, decide_eq_true_eq,
    Option.isNone_iff_eq_none, Option.isSome_iff_ne_none, or_assoc]
  generalize List.range 256 = chans
  rfl

/-! ### MEM_GET_SNAPSHOT (R353, Table 10.5) -/

/-- The delays of channel `k` as a snapshot shows them: the record loaded in legacy mode; in native mode, but for the channel's number, open
values (log 4). -/
def delaysShown (k : Nat) (d : Dev) : Bytes :=
  match (d.getCh k).legacy with
  | some b => b
  | none => le 2 k ++ (d.openBytes 33).1.take 1 ++ [0] ++ (d.openBytes 33).1.drop 1 ++ List.replicate 28 0

def snapshotRecord (k : Nat) (d : Dev) (s : Snapshot) : Bytes :=
  le 2 k ++ le 1 s.cause ++ le 1 0 ++ le 4 s.discarded ++ le 8 (s.addr.getD 0xFFFFFFFFFFFFFFFF) ++ ts12 s.time ++ le 4 0 ++
    s.syndrome.flatMap (le 4) ++ slice (s.cmds.flatMap cmdBytes) 0 1024 ++ slice (delaysShown k d) 0 64 ++ le 8 (d.getCh k).retrained ++
    leInt 1 (d.getStack (k / 32)).temp ++ List.replicate 375 0

theorem snapshotRecord_fields (k : Nat) (d : Dev) (s : Snapshot) : field (snapshotRecord k d s) 0 2 = k % 65536 ∧
    field (snapshotRecord k d s) 2 1 = s.cause % 256 ∧ field (snapshotRecord k d s) 4 4 = s.discarded % 2 ^ 32 := by
  have first (w n : Nat) (r : Bytes) : field (le w n ++ r) 0 w = n % 256 ^ w := field_append (a := []) n rfl
  simp only [snapshotRecord, List.append_assoc]
  refine ⟨first .., ?_, ?_⟩
  · rw [field_le_skip _ _ _ (by decide)]; exact first ..
  · rw [field_le_skip _ _ _ (by decide), field_le_skip _ _ _ (by decide), field_le_skip _ _ _ (by decide)]; exact first ..

section
variable (c : Cmd) (d : Dev)

theorem memGetSnapshot_eq : memGetSnapshot c d =
    let x := d.getCh c.hIdx
    if c.bad 0x15 then .done d { status := .badHandle }
    else if c.dirty 0 32 then .done d { status := .badArg }
    else if x.obj.st ≠ .frozen ∨ x.snap = none then .done d { status := .notReady }
    else .done ((if x.legacy = none then { d with fresh := d.fresh + 1 } else d).modCh c.hIdx fun y => { y with snapRead := true })
      { record := some ((x.snap.map (snapshotRecord c.hIdx d)).getD []) } := by
  simp only [memGetSnapshot, check_cons, check_nil, Bool.or_eq_true, bne_iff_ne, Option.isNone_iff_eq_none]
  cases taken : (d.getCh c.hIdx).snap with
  | none => simp only [or_true, if_true]
  | some s =>
    simp only [Option.map_some, Option.getD_some, snapshotRecord, delaysShown]
    cases mode : (d.getCh c.hIdx).legacy with
    | none => rfl
    | some b => rfl

/-! ### MEM_THAW, MEM_RETIRE (R356-R358, Table 10.7) -/

/-- Past its test the force bit is 0 or 1. -/
theorem needSnapshot_iff (h : ¬(1 < c.f 0 1 ∨ c.dirty 1 31 = true)) (x : HbmCh) :
    needSnapshot x c = true ↔ c.f 0 1 = 0 ∧ x.snapRead = false := by
  have flag : bit (c.f 0 1) 0 = false ↔ c.f 0 1 = 0 := by simp only [bit, beq_eq_false_iff_ne]; omega
  simp only [needSnapshot, Bool.and_eq_true, Bool.not_eq_true', flag]

theorem memThaw_eq : memThaw c d =
    let x := d.getCh c.hIdx
    if c.bad 0x15 then .done d { status := .badHandle }
    else if 1 < c.f 0 1 ∨ c.dirty 1 31 = true then .done d { status := .badArg }
    else if x.obj.st = .frozen ∧ c.f 0 1 = 0 ∧ x.snapRead = false then .done d { status := .notReady }
    else if x.obj.st ≠ .frozen ∨ x.salvage ≠ none then .done d { status := .refusedBusy }
    else .pend ((d.noteWrite c.intake (.chan c.hIdx x)).modCh c.hIdx fun y => { y with
      thaw := .training, obj := { y.obj with st := .starting, since := d.nowNs, failed := false } }) := by
  simp only [memThaw, forceBad, check_cons, check_nil, Bool.or_eq_true, Bool.and_eq_true, beq_iff_eq, bne_iff_ne, decide_eq_true_eq,
    Option.isSome_iff_ne_none]
  split
  · rfl
  · split
    · rfl
    next plain => simp only [needSnapshot_iff c plain]; rfl

theorem memRetire_eq : memRetire c d =
    let x := d.getCh c.hIdx
    let free := x.slot.toList ++ (List.range 3).filter fun n => !(d.slotsUsed (c.hIdx / 32)).contains n
    if c.bad 0x15 then .done d { status := .badHandle }
    else if 1 < c.f 0 1 ∨ c.dirty 1 31 = true then .done d { status := .badArg }
    else if x.obj.st = .frozen ∧ c.f 0 1 = 0 ∧ x.snapRead = false then .done d { status := .notReady }
    else if x.obj.st ≠ .frozen ∨ x.salvage ≠ none then .done d { status := .refusedBusy }
    else if free = [] then .done d { status := .noSpace }
    else .pend ((d.noteWrite c.intake (.slot c.hIdx x.slot)).modCh c.hIdx fun y => { y with salvage := free.head?, slot := none }) := by
  simp only [memRetire, forceBad, check_cons, check_nil, Bool.or_eq_true, Bool.and_eq_true, beq_iff_eq, bne_iff_ne, decide_eq_true_eq,
    Option.isSome_iff_ne_none, List.isEmpty_iff]
  split
  · rfl
  · split
    · rfl
    next plain => simp only [needSnapshot_iff c plain]

end

end Dev

/-- MEM_SET_TRAINING puts its handler's reply into effect; the persisted configuration changes only with HBM (R594). -/
theorem exec_memSetTraining {s : State} {src : Src} {c : Cmd} (pl : HostRead) (h : s.runs 0x0505 src c) : ∃ n,
    exec (.memSetTraining src pl) s = .next { s with nv := n, dev := Dev.settle c (Dev.memSetTraining pl c s.dev) } ∧
      ((Dev.settle c (Dev.memSetTraining pl c s.dev)).hbm = s.dev.hbm → n = s.nv) := by
  rw [← runCmd_of_runs h]
  exact ⟨_, rfl, fun same => if_pos (beq_iff_eq.2 same)⟩

end Sys2Proof.Machine

namespace Sys2Proof
open Sys2Proof.Machine Sys2Proof.Machine.Dev

/-- Settles O29: what each row's operation leaves of its channel and what each handler answers, given above. -/
theorem hbmServiceRowsComplete : Obligations.HbmServiceRowsComplete := by
  refine ⟨?_, ?_, ?_, ?_, ?_, ?_, ?_, ?_, ?_, ?_, ?_, ?_, ?_⟩
  · intro s ch ok
    refine onDev_devStep rfl ?_
    dsimp only; split
    next rests => exact trainingDone_of_not_training rests
    next training =>
      cases ok with
      | true => exact trainingDone_of_trained training
      | false => exact trainingDone_frozenBy training
  · intro s st k bad
    refine ⟨_, _, rfl, ?_⟩
    dsimp only; split
    next rests =>
      refine ⟨rebuildDone_of_not_rebuild rests, if_neg ?_⟩
      simp only [Bool.and_eq_true, beq_iff_eq]
      exact fun ⟨⟨starting, rebuild⟩, _⟩ => rests.elim (· starting) (· rebuild)
    next rebuilds =>
      simp only [rebuildDone_getCh rebuilds, true_and]
      simp only [not_or, not_not] at rebuilds
      obtain ⟨starting, rebuild⟩ := rebuilds
      rw [starting, rebuild]
      cases (s.dev.getCh (32 * st.val + k.val)).slot <;> rfl
  · intro s ch bad
    refine ⟨_, _, rfl, ?_⟩
    rw [← salvageEnds_isSome]
    split
    next rests => exact ⟨salvageDone_of_none rests, if_neg (by rw [show salvageEnds ch s.dev = none from rests]; nofun)⟩
    next n filled =>
      obtain ⟨x, left⟩ := salvageDone_getCh (trained := bad.isSome) (bad := bad.getD []) filled
      simp only [left, true_and]
      exact if_pos (by rw [show salvageEnds ch s.dev = some n from filled]; rfl)
  · intro s ch
    exact onDev_devStep rfl (chStopDone_eq ch s.dev)
  · intro s src c h
    exact replies_of_handler (f := memChEnable) rfl h (memChEnable_eq c s.dev)
  · intro s src c h
    exact replies_of_handler (f := memChDisable) rfl h (memChDisable_eq c s.dev)
  · intro s src c h
    exact replies_of_handler (f := memGetStatus) rfl h (memGetStatus_eq c s.dev)
  · intro s src c h
    exact replies_of_handler (f := memSetPort) rfl h (memSetPort_eq c s.dev)
  · intro s src c h
    exact replies_of_handler (f := memSetPower) rfl h (memSetPower_eq c s.dev)
  · intro s src pl c h
    obtain ⟨n, run, kept⟩ := exec_memSetTraining pl h
    rw [memSetTraining_eq] at run kept
    generalize List.range 256 = chans at run kept ⊢
    refine ⟨n, run, fun other => kept ?_⟩
    simp only [other, if_true]
    exact hbm_of_besideQueues (complete_besideQueues ..)
  · intro s src c h
    refine ⟨_, replies_of_handler (f := memGetSnapshot) rfl h (memGetSnapshot_eq c s.dev), fun n taken => ?_⟩
    rw [taken]
    exact snapshotRecord_fields c.hIdx s.dev n
  · intro s src c h
    exact replies_of_handler (f := memThaw) rfl h (memThaw_eq c s.dev)
  · intro s src c h
    exact replies_of_handler (f := memRetire) rfl h (memRetire_eq c s.dev)

end Sys2Proof
end
section
/-! PROOFS. O48 and O49: fuses only burn, and the bounds of the state that survives a reset. What an operation on fuses and flash may do is one of
two relations: `Nv.flashStep` for the directory and the slots, which leave every fuse alone, and `Nv.fuseStep` for the operations that burn. -/

namespace Sys2Proof.Machine
open Sys2Proof

namespace Nv

/-- From `a` to `b` every fuse stays as it was, and the directory's generation stays a 32-bit number. -/
def flashStep (a b : Nv) : Prop :=
  b.revoked = a.revoked ∧ b.minVer = a.minVer ∧ b.tamperLog = a.tamperLog ∧ (a.generation < 2 ^ 32 → b.generation < 2 ^ 32)

/-- From `a` to `b` fuses only burn, and the bounds of the tamper log and of the directory's generation are kept. -/
def fuseStep (a b : Nv) : Prop :=
  a.burned b ∧ (a.tamperLog.length ≤ 32 → b.tamperLog.length ≤ 32) ∧ (a.generation < 2 ^ 32 → b.generation < 2 ^ 32)

theorem flashStep_refl (a : Nv) : a.flashStep a := ⟨rfl, rfl, rfl, id⟩

theorem flashStep.trans {a b c : Nv} (h : a.flashStep b) (k : b.flashStep c) : a.flashStep c := by
  obtain ⟨hr, hm, hl, hg⟩ := h
  obtain ⟨kr, km, kl, kg⟩ := k
  exact ⟨kr.trans hr, km.trans hm, kl.trans hl, kg ∘ hg⟩

theorem flashStep.fuseStep {a b : Nv} (h : a.flashStep b) : a.fuseStep b := by
  obtain ⟨hr, hm, hl, hg⟩ := h
  exact ⟨⟨by simp [hr], hm.ge, [], by simp [hl]⟩, fun k => hl ▸ k, hg⟩

theorem fuseStep_refl (a : Nv) : a.fuseStep a := (flashStep_refl a).fuseStep

theorem burned.trans {a b c : Nv} (h : a.burned b) (k : b.burned c) : a.burned c := by
  obtain ⟨hr, hm, l, hl⟩ := h
  obtain ⟨kr, km, l', kl⟩ := k
  refine ⟨?_, hm.trans km, l ++ l', by rw [kl, hl, List.append_assoc]⟩
  rw [← hr, BitVec.and_assoc, kr]

theorem fuseStep.trans {a b c : Nv} (h : a.fuseStep b) (k : b.fuseStep c) : a.fuseStep c :=
  ⟨h.1.trans k.1, k.2.1 ∘ h.2.1, k.2.2 ∘ h.2.2⟩

/-! ### The directory and the slots -/

theorem flashStep_dirUpdate (n : Nv) : n.flashStep (Dev.dirUpdate n) := ⟨rfl, rfl, rfl, fun _ => Nat.mod_lt _ (by decide)⟩

theorem flashStep_putSlot (n : Nv) (d : Dev) (b : Bool) (x : FwSlot) : n.flashStep (Dev.putSlot n d b x).1 := by
  unfold Dev.putSlot; split <;> exact flashStep_refl n

theorem flashStep_persist (n : Nv) (d : Dev) (f : Persist → Persist) : n.flashStep (d.persist n f) := flashStep_refl n

theorem flashStep_ite {p : Prop} [Decidable p] {n a b : Nv} (h : n.flashStep a) (k : n.flashStep b) : n.flashStep (if p then a else b) := by
  split
  · exact h
  · exact k

theorem flashStep_chooseSlot (count : Bool) (n : Nv) (d : Dev) : n.flashStep (Dev.chooseSlot count n d).1.1 := by
  unfold Dev.chooseSlot
  extract_lets +onlyGivenNames s0 n1 used bad src p1 s f1
  have h1 : n.flashStep n1 := flashStep_ite (flashStep_dirUpdate _) (flashStep_refl n)
  have hp : n.flashStep p1.1 := by
    unfold p1; split
    · exact h1.trans (flashStep_putSlot n1 ..)
    · exact h1
  split
  · exact hp
  · extract_lets +onlyGivenNames p2 src' p3 o st
    have h3 : n.flashStep p3.1 := (hp.trans (flashStep_putSlot p1.1 ..)).trans (flashStep_dirUpdate { p2.1 with trial := none })
    split <;> exact h3

theorem flashStep_writeSlot (b img relayed) (n : Nv) (d) : n.flashStep (Dev.writeSlot b img relayed n d).1 :=
  ((flashStep_dirUpdate n).trans (flashStep_dirUpdate _)).trans (flashStep_putSlot ..)

theorem flashStep_recoverSlotA (img) (n : Nv) (d) : n.flashStep (Dev.recoverSlotA img n d).1 := flashStep_dirUpdate n

/-- A handler that its tests may stop. -/
theorem flashStep_checkNv {n : Nv} {d : Dev} {tests : List (Bool × Status)} {go : Nv × Reply} (h : n.flashStep go.1) :
    n.flashStep (Dev.checkNv n d tests go).1 := by
  unfold Dev.checkNv; split
  · exact flashStep_refl n
  · exact h

theorem fuseStep_checkNv {n : Nv} {d : Dev} {tests : List (Bool × Status)} {go : Nv × Reply}
    (h : (∀ t ∈ tests, t.1 = false) → n.fuseStep go.1) : n.fuseStep (Dev.checkNv n d tests go).1 := by
  unfold Dev.checkNv; split
  · exact fuseStep_refl n
  · next none => exact h fun t ht => by simpa using List.find?_eq_none.1 none t ht

/-! ### Firmware commands and relayed images -/

theorem flashStep_fwWrite (pl ok1 ok2 c) (n : Nv) (d) : n.flashStep (Dev.fwWrite pl ok1 ok2 c n d).1 := by
  refine flashStep_checkNv ?_
  split
  · exact flashStep_writeSlot _ _ false ..
  · exact ((flashStep_dirUpdate n).trans (flashStep_dirUpdate _)).trans (flashStep_putSlot ..)

theorem flashStep_fwActivate (c) (n : Nv) (d) : n.flashStep (Dev.fwActivate c n d).1 :=
  flashStep_checkNv ((flashStep_dirUpdate { n with trial := _, tries := 0, confirmMin := _ }).trans (flashStep_putSlot ..))

theorem flashStep_fwConfirm (c) (n : Nv) (d) : n.flashStep (Dev.fwConfirm c n d).1 := by
  refine flashStep_checkNv ?_
  split
  · exact flashStep_refl n
  · next t _ => exact (flashStep_dirUpdate { n with current := t, trial := none }).trans (flashStep_putSlot ..)

theorem flashStep_fwRelay (pl c) (n : Nv) (d) : n.flashStep (Dev.fwRelay pl c n d).1 := by
  refine flashStep_checkNv ?_
  split
  · exact flashStep_writeSlot _ _ false ..
  · exact flashStep_refl n

theorem flashStep_relayChunk (dev image idx count crc b) (n : Nv) (d) : n.flashStep (Dev.relayChunk dev image idx count crc b n d).1 := by
  unfold Dev.relayChunk; split
  · exact flashStep_refl n
  · extract_lets +onlyGivenNames r0 r d1 d2 img
    split
    · extract_lets +onlyGivenNames d3
      split
      · exact flashStep_writeSlot _ _ true ..
      · exact flashStep_refl n
    · exact flashStep_refl n

/-! ### Recovery -/

theorem flashStep_recoveryWrite (chunk ok c) (n : Nv) (d) : n.flashStep (Dev.recoveryWrite chunk ok c n d).1 := by
  refine flashStep_checkNv ?_
  split
  · exact flashStep_refl n
  · exact flashStep_ite (flashStep_refl n) (flashStep_dirUpdate n)

theorem flashStep_smbBegin (len crc pec) (n : Nv) (d) : n.flashStep (Dev.smbBegin len crc pec n d).1 := by
  unfold Dev.smbBegin; dsimp only; split
  · exact flashStep_refl n
  · exact flashStep_dirUpdate n

theorem flashStep_smbData (b pec) (n : Nv) (d) : n.flashStep (Dev.smbData b pec n d).1 := by
  unfold Dev.smbData; dsimp only; split <;> exact flashStep_refl n

theorem flashStep_smbFinish (pec) (n : Nv) (d) : n.flashStep (Dev.smbFinish pec n d).1 := by
  unfold Dev.smbFinish; dsimp only; split
  · exact flashStep_refl n
  · split
    · exact flashStep_refl n
    · exact flashStep_recoverSlotA _ _ d

/-! ### Fuses, latch and tamper log -/

/-- A start-up tamper only adds to the log, and only while an entry is left (R637). -/
theorem fuseStep_burn (n : Nv) (src : BitVec 4) (phase : Nat) : n.fuseStep (n.burn src phase) := by
  unfold burn; dsimp only; split
  · next room => exact ⟨⟨BitVec.and_self, le_rfl, _, rfl⟩, fun _ => by simpa using room, id⟩
  · exact fuseStep_refl n

theorem fuseStep_secRevokeKey (pl c) (n : Nv) (d) : n.fuseStep (Dev.secRevokeKey pl c n d).1 :=
  fuseStep_checkNv fun _ => ⟨⟨by ext i; simp; tauto, le_rfl, [], by simp⟩, id, id⟩

/-- SEC_RAISE_MIN answers BAD_ARG for a version below the fused one (R627). -/
theorem fuseStep_secRaiseMin (c) (n : Nv) (d) : n.fuseStep (Dev.secRaiseMin c n d).1 := by
  refine fuseStep_checkNv fun passed => ?_
  have notBelow : n.minVer ≤ c.f 0 1 := by
    have := passed _ (List.mem_cons_of_mem _ List.mem_cons_self)
    simp only [Bool.or_eq_false_iff, decide_eq_false_iff_not, not_lt] at this
    exact this.1.1.2
  exact ⟨⟨BitVec.and_self, notBelow, [], by simp⟩, id, id⟩

theorem flashStep_secSetTamper (c) (n : Nv) (d) : n.flashStep (Dev.secSetTamper c n d).1 := flashStep_checkNv (flashStep_persist ..)

theorem flashStep_secTamperClear (c) (n : Nv) (d) : n.flashStep (Dev.secTamperClear c n d).1 := flashStep_checkNv (flashStep_refl n)

end Nv

/-! ### The whole machine -/

namespace State

theorem fuseStep_tamper (src : BitVec 4) (s : State) : s.nv.fuseStep (s.tamper src).nv := by
  unfold tamper; dsimp only; split
  · exact Nv.fuseStep_refl _
  · split
    · unfold tamperRun; dsimp only; split <;> exact Nv.fuseStep_refl _
    · exact Nv.fuseStep_burn ..

theorem fuseStep_tamperPulse (src : BitVec 4) (s : State) : s.nv.fuseStep (s.tamperPulse src).nv :=
  fuseStep_tamper _ { s with dev := { s.dev with sec := { s.dev.sec with firing := s.dev.sec.firing &&& ~~~src } } }

theorem flashStep_bootRest (e b fall) (s : State) : s.nv.flashStep (bootRest e b fall s).nv := by
  unfold bootRest; dsimp only; split
  · exact Nv.flashStep_refl _
  · exact Nv.flashStep_ite (Nv.flashStep_refl _) (Nv.flashStep_persist ..)

theorem fuseStep_boot (e) (s : State) : s.nv.fuseStep (boot e s).nv := by
  have noted : s.nv.flashStep { s.nv with ignoreSrc := false } := Nv.flashStep_refl _
  fun_cases boot
  case case1 | case5 | case6 => exact Nv.fuseStep_refl _
  case case2 => exact Nv.fuseStep_burn ..
  case case3 => exact (noted.trans ((Nv.flashStep_chooseSlot ..).trans (flashStep_bootRest ..))).fuseStep
  case case4 => exact (noted.trans (Nv.flashStep_chooseSlot ..)).fuseStep

theorem flashStep_deviceReset (s : State) : s.nv.flashStep (deviceReset s).nv := Nv.flashStep_refl _

theorem flashStep_returnInto (r pass swapOk b fall) (s : State) : s.nv.flashStep (returnInto r pass swapOk b fall s).nv := by
  fun_cases returnInto <;> exact Nv.flashStep_ite (Nv.flashStep_persist ..) (Nv.flashStep_refl _)

/-- The slot that a reverting restart leaves is written before the choice of R590. -/
theorem flashStep_leftSlot (n : Nv) (d : Dev) (k : RestartKind) :
    n.flashStep (match k, n.trial with
      | .revert c, some t =>
        (Dev.putSlot (Dev.dirUpdate { n with trial := none }) d (t == 1) { Dev.slot n d (t == 1) with st := .written }, [(t, c)])
      | _, _ => ((n, d), []) : (Nv × Dev) × List (Nat × Nat)).1.1 := by
  split
  · exact (Nv.flashStep_dirUpdate { n with trial := none }).trans (Nv.flashStep_putSlot ..)
  · exact Nv.flashStep_refl _

theorem flashStep_triadReturn (pass swapOk) (s : State) : s.nv.flashStep (triadReturn pass swapOk s).nv := by
  fun_cases triadReturn
  case case1 | case2 | case3 => exact Nv.flashStep_refl _
  case case4 r _ _ _ _ _ _ _ =>
    exact ((flashStep_leftSlot s.nv s.dev r.kind).trans (Nv.flashStep_chooseSlot ..)).trans (flashStep_returnInto ..)
  case case5 r _ _ _ _ _ _ _ => exact (flashStep_leftSlot s.nv s.dev r.kind).trans (Nv.flashStep_chooseSlot ..)

theorem flashStep_recoveryBoot (src) (s : State) : s.nv.flashStep (recoveryBoot src s).nv := by
  fun_cases recoveryBoot
  case case7 => exact Nv.flashStep_recoverSlotA _ _ s.dev
  case case10 s1 _ _ => exact flashStep_bootRest _ _ _ s1
  case case11 s1 _ _ => exact flashStep_bootRest _ _ _ s1
  all_goals exact Nv.flashStep_refl _

/-- What a row does to the state that survives a reset, where it answers. -/
def Burns (s : State) (o : Out) : Prop := ∃ t, o = .next t ∧ s.nv.fuseStep t.nv

theorem burns_of_flash {s t : State} (h : s.nv.flashStep t.nv) : s.Burns (.next t) := ⟨t, rfl, h.fuseStep⟩

theorem burns_runNv {s r : State} {op : Nat} {src : Src} {f : Cmd → Nv → Dev → Nv × Reply} (hr : s.nv.fuseStep r.nv)
    (h : ∀ c (n : Nv) d, n.fuseStep (f c n d).1) : s.Burns (r.runNv op src f) := by
  unfold runNv; split
  · exact ⟨_, rfl, hr⟩
  · split
    · exact ⟨_, rfl, hr⟩
    · exact ⟨_, rfl, hr.trans (h ..)⟩

theorem burns_command {s : State} {op : Nat} {src : Src} {f : Cmd → Nv → Dev → Nv × Reply} (h : ∀ c (n : Nv) d, n.flashStep (f c n d).1) :
    s.Burns (s.runNv op src f) := burns_runNv (Nv.fuseStep_refl _) fun c n d => (h c n d).fuseStep

end State

open State Nv in
/-- The rows that may change fuses, flash or the tamper latch, each by the lemma about its meaning. -/
theorem exec_burns_of_nvRow {i : Instr} (h : i.nvRow = true) (s : State) : s.Burns (exec i s) := by
  cases i with
  | bringUp e =>
    refine ⟨_, rfl, ?_⟩
    unfold bringUp; split
    · exact fuseStep_refl _
    · exact fuseStep_boot ..
  | deviceReset => exact burns_of_flash (flashStep_deviceReset s)
  | recoveryReset =>
    refine burns_of_flash ?_
    unfold recoveryReset; split <;> exact flashStep_refl _
  | triadReturn => exact burns_of_flash (flashStep_triadReturn ..)
  | smbRecoveryBegin => exact burns_of_flash (flashStep_smbBegin ..)
  | smbRecoveryData => exact burns_of_flash (flashStep_smbData ..)
  | smbRecoveryFinish => exact burns_of_flash (flashStep_smbFinish ..)
  | fwWrite => exact burns_command (flashStep_fwWrite _ _ _)
  | fwActivate => exact burns_command flashStep_fwActivate
  | fwConfirm => exact burns_command flashStep_fwConfirm
  | fwRelay => exact burns_command (flashStep_fwRelay _)
  | relayChunk => exact burns_of_flash (flashStep_relayChunk ..)
  | fwRecoveryWrite => exact burns_command (flashStep_recoveryWrite _ _)
  | fwRecoveryBoot => exact burns_of_flash (flashStep_recoveryBoot ..)
  | rebuildDone => exact burns_of_flash (flashStep_ite (flashStep_persist ..) (flashStep_refl _))
  | retireSalvageDone => exact burns_of_flash (flashStep_ite (flashStep_persist ..) (flashStep_refl _))
  | memSetTraining => exact burns_of_flash (flashStep_ite (flashStep_refl _) (flashStep_persist ..))
  | supplyGlitch rail mv =>
    change s.Burns (execSupplyGlitch rail mv s)
    unfold execSupplyGlitch; split
    · exact ⟨_, rfl, fuseStep_tamperPulse ..⟩
    · exact burns_of_flash (flashStep_refl _)
  | temperatureSample sites hbmTemps => exact ⟨_, rfl, fuseStep_tamper _ { s with dev := s.dev.temperatures sites hbmTemps }⟩
  | tamperDetect => exact ⟨_, rfl, fuseStep_tamper ..⟩
  | secRevokeKey => exact burns_runNv (fuseStep_refl _) (fuseStep_secRevokeKey _)
  | secRaiseMin => exact burns_runNv (fuseStep_refl _) fuseStep_secRaiseMin
  | secSetTamper => exact burns_command flashStep_secSetTamper
  | secTamperClear => exact burns_runNv (fuseStep_tamper ..) fun c n d => (flashStep_secTamperClear c n d).fuseStep
  | _ => cases h

theorem exec_burns (i : Instr) (s : State) : s.Burns (exec i s) := by
  obtain ⟨t, answers, -, -, same⟩ := exec_answers i s
  by_cases h : i.nvRow = true
  · exact exec_burns_of_nvRow h s
  · rw [answers]
    exact ⟨t, rfl, same (by simpa using h) ▸ Nv.fuseStep_refl _⟩

/-- A step runs a row or is the idle tick, which changes no fuse. -/
theorem step_burns {s t : State} (h : step s = .next t) : s.nv.fuseStep t.nv := by
  unfold step at h
  split at h
  · cases h
    unfold State.idle; split <;> exact Nv.fuseStep_refl _
  · next c r _ =>
    obtain ⟨u, ran, burns⟩ := exec_burns c { s with pending := r }
    cases ran.symm.trans h
    exact burns

end Sys2Proof.Machine

namespace Sys2Proof
open Sys2Proof.Machine

/-- Settles O48: `step_burns`, its first part. -/
theorem fusesOnlyBurn : Obligations.FusesOnlyBurn := fun _ _ h => (step_burns h).1

/-- Settles O49: `step_burns`, its bounds. -/
theorem everyStepKeepsInv : Obligations.EveryStepKeepsInv := by
  intro s t ⟨hlog, hgen⟩ h
  obtain ⟨-, log, gen⟩ := step_burns h
  exact ⟨log hlog, gen hgen⟩

end Sys2Proof
end
section
/-! PROOFS. O45, O46, O51, O52, O54 and O55: the step, the state after reset, the machine every object follows, and what a completion leaves as it
was. What a completion may write is blanked out by `Dev.besideCompletion`. -/

namespace Sys2Proof.Machine
open Sys2Proof

namespace Dev

/-- The device with all blanked out that a completion may change: the interface, the trace, the undo journal and the time of the last command. -/
def besideCompletion (d : Dev) : Dev :=
  { d with out := [], hif := {}, pwr := { d.pwr with busyAt := 0 }, tri := { d.tri with journal := [] } }

@[simp] theorem hif_besideCompletion (d : Dev) (h : Hif) : { d with hif := h }.besideCompletion = d.besideCompletion := rfl
@[simp] theorem dropCmd_besideCompletion (d k) : (dropCmd d k).besideCompletion = d.besideCompletion := rfl
@[simp] theorem startCmd_besideCompletion (d k) : (startCmd d k).besideCompletion = d.besideCompletion := rfl

@[simp] theorem emit_besideCompletion (d e) : (emit d e).besideCompletion = d.besideCompletion := by
  obtain ⟨_, h⟩ := emit_frame d e
  rw [h]; rfl

@[simp] theorem setCause_besideCompletion (d i) : (setCause d i).besideCompletion = d.besideCompletion := by
  obtain ⟨_, _, h⟩ := setCause_frame d i
  rw [h]; rfl

@[simp] theorem completeNow_besideCompletion (d c r) : (completeNow d c r).besideCompletion = d.besideCompletion := by
  fun_cases completeNow <;> grind [dropCmd_besideCompletion, emit_besideCompletion, setCause_besideCompletion, hif_besideCompletion]

@[simp] theorem complete_besideCompletion (d c r) : (complete d c r).besideCompletion = d.besideCompletion := by
  simp only [complete]; (repeat' split) <;> simp

@[simp] theorem settle_besideCompletion (c : Cmd) (r : Reply) : (settle c r).besideCompletion = r.dev.besideCompletion := by
  cases r <;> simp [Reply.dev]

/-! ### DMA_ENABLE and CSW_SET_CUT (R386, R537) -/

theorem dmaEnable_of_stopped {c : Cmd} {d : Dev} (bad : c.bad 0x18 = false) (host : c.hIdx < 14) (clean : c.dirty 0 32 = false)
    (stopped : (d.getDma c.hIdx).obj.st = .stopped) :
    dmaEnable c d = if (d.getDma c.hIdx).prog = [] then .done d { status := .notReady } else
      .done (d.putDma c.hIdx (dmaFresh { d.getDma c.hIdx with obj := ((d.getDma c.hIdx).obj.enable d.nowNs).obj })) {} := by
  have mine : ¬ 14 ≤ c.hIdx := by omega
  simp [dmaEnable, bad, host, clean, mine, Obj.enable, stopped]

@[simp] theorem getDma_putDma (d : Dev) (k : Nat) (x : DmaCh) : (d.putDma k x).getDma k = x := by simp [putDma, getDma, setDma]

end Dev
end Sys2Proof.Machine

namespace Sys2Proof
open Sys2Proof.Machine

/-- Settles O45: both halves are the definition of the step. -/
theorem stepRunsFrontCommand : Obligations.StepRunsFrontCommand := by
  refine ⟨fun s c r => rfl, fun s empty => ?_⟩
  have idles : step s = .next s.idle := by
    unfold step; split
    · rfl
    · simp_all
  rw [idles]; rfl

/-- Settles O46: each field of the state in device reset. -/
theorem resetLeaves : Obligations.ResetLeaves := by
  refine ⟨rfl, ?_, rfl, rfl, rfl, rfl, ?_, rfl, rfl, rfl, rfl, rfl, rfl, rfl, rfl, rfl, rfl, rfl, rfl, rfl, ⟨?_, ?_⟩, rfl⟩ <;> decide

/-- Settles O51: Table 16.5, state by state. -/
theorem objectsFollowTheCommonMachine : Obligations.ObjectsFollowTheCommonMachine := by
  intro o ns bound
  refine ⟨fun h => ?_, fun h => ?_, fun h => ?_, fun h => ?_⟩ <;>
    simp [Obj.enable, Obj.disable, Obj.beginStop, Obj.stopped, Obj.started, Obj.startFailed, h]

/-- Settles O52: `Dev.dmaEnable_of_stopped`, and what a fresh channel holds (R537). -/
theorem dmaEnableStartsAfresh : Obligations.DmaEnableStartsAfresh := by
  intro s src c h bad host clean stopped
  have replies := replies_of_handler (i := .dmaEnable src) rfl h (Dev.dmaEnable_of_stopped bad host clean stopped)
  split at replies
  next none => rwa [if_pos none]
  next program =>
    rw [if_neg program]
    refine ⟨_, replies, ?_⟩
    simp only [Dev.getDma_putDma]
    exact ⟨by simp [Dev.dmaFresh, Obj.enable, stopped], rfl, rfl, rfl, rfl, rfl, rfl, rfl⟩

/-- Settles O54: the handler with a port's handle, over its one test (Table 11.4). -/
theorem cutTakesItsPayload : Obligations.CutTakesItsPayload := by
  intro s src c h bad
  have answer : Dev.cswSetCut c s.dev = if c.dirty 1 31 = true then s.refusal .badArg else
      .done (s.dev.setCsw fun w => { w with cut := tset w.cut 0 c.hIdx (c.f 0 1) }) {} := by
    simp [Dev.cswSetCut, bad, State.refusal]
  have replies := replies_of_handler (i := .cswSetCut src) rfl h answer
  split at replies
  next dirty => rwa [if_pos dirty]
  next clean =>
    rw [if_neg clean]
    exact ⟨_, replies, rfl⟩

/-- Settles O55: `Dev.settle_besideCompletion`, read part by part. -/
theorem completionChangesOnlyTheInterface : Obligations.CompletionChangesOnlyTheInterface := by
  intro c d e r hr settled
  have kept : e.besideCompletion = d.besideCompletion := by
    rw [← settled, Dev.settle_besideCompletion]
    obtain rfl | ⟨_, rfl⟩ := hr <;> rfl
  have part {β : Type} (g : Dev → β) : g e.besideCompletion = g d.besideCompletion := congrArg g kept
  have pwr : { e.pwr with busyAt := 0 } = { d.pwr with busyAt := 0 } := part Dev.pwr
  have tri : { e.tri with journal := [] } = { d.tri with journal := [] } := part Dev.tri
  exact ⟨part Dev.now, part Dev.evt, part Dev.port, part Dev.lane, part Dev.pmSeq15, part Dev.pmSeqDay, part Dev.fwd, part Dev.pipe,
    part Dev.fids, part Dev.tx, part Dev.portDrops, part Dev.laneDrops, part Dev.cnt, part Dev.aclCnt, part Dev.nhCnt, part Dev.pe,
    part Dev.buf, part Dev.qs, part Dev.sch, part Dev.hbm, part Dev.csw, part Dev.fab, part Dev.time, part Dev.dma, part Dev.fresh,
    congrArg (fun x : Pwr => { x with busyAt := e.pwr.busyAt }) pwr, congrArg (fun x : Triad => { x with journal := e.tri.journal }) tri,
    part Dev.bridge, part Dev.fw, part Dev.sec, part Dev.jtag⟩

end Sys2Proof
end
section
/-! PROOFS. O56: a row of the host interface leaves everything outside the interface as it was. What it may write is blanked out by
`Dev.besideHost`: no operation of the interface changes the rest, so each has one lemma `f_besideHost`, in the order of the model's files. -/

namespace Sys2Proof.Machine
open Sys2Proof

namespace Dev

/-- The device with all blanked out that a row of the host interface may change: the open values used, the trace, the interface, the events, the
DMA channels, the triad and the times of the quiet state. -/
def besideHost (d : Dev) : Dev :=
  { d with fresh := 0, out := [], hif := {}, evt := {}, dma := {}, tri := {}, pwr := {} }

@[simp] theorem foldl_besideHost {α : Type} (f : Dev → α → Dev) (h : ∀ d x, (f d x).besideHost = d.besideHost) (l : List α)
    (d : Dev) : (l.foldl f d).besideHost = d.besideHost := foldl_keeps_part besideHost f h l d

@[simp] theorem ite_besideHost (p : Prop) [Decidable p] (x y : Dev) :
    (if p then x else y).besideHost = if p then x.besideHost else y.besideHost := apply_ite _ _ _ _

/-- A handler that starts with tests keeps what its work keeps. -/
theorem check_besideHost {d : Dev} {l : List (Bool × Status)} {go : Reply} (h : go.dev.besideHost = d.besideHost) :
    (d.check l go).dev.besideHost = d.besideHost := by
  unfold check; split
  · rfl
  · exact h

/-! ### Operations every part shares -/

theorem besideHost_hif (d : Dev) (h : Hif) : { d with hif := h }.besideHost = d.besideHost := rfl
theorem besideHost_evt (d : Dev) (v : Evt) : { d with evt := v }.besideHost = d.besideHost := rfl
theorem besideHost_tri (d : Dev) (t : Triad) : { d with tri := t }.besideHost = d.besideHost := rfl
theorem besideHost_pwr (d : Dev) (p : Pwr) : { d with pwr := p }.besideHost = d.besideHost := rfl
@[simp] theorem logIn_besideHost (k d) : (logIn k d).besideHost = d.besideHost := by unfold logIn; split <;> rfl
@[simp] theorem openVal_besideHost (d : Dev) : d.openVal.2.besideHost = d.besideHost := rfl

@[simp] theorem emit_besideHost (d e) : (emit d e).besideHost = d.besideHost := by
  obtain ⟨_, h⟩ := emit_frame d e
  rw [h]; rfl

@[simp] theorem vecSend_besideHost (d v) : (vecSend d v).besideHost = d.besideHost := by
  obtain ⟨_, _, h⟩ := vecSend_frame d v
  rw [h]; rfl

@[simp] theorem vecUpdate_besideHost (d v) : (vecUpdate d v).besideHost = d.besideHost := by
  obtain ⟨_, _, h⟩ := vecUpdate_frame d v
  rw [h]; rfl

@[simp] theorem vecUpdateAll_besideHost (d) : (vecUpdateAll d).besideHost = d.besideHost := foldl_besideHost _ vecUpdate_besideHost _ _

@[simp] theorem setCause_besideHost (d i) : (setCause d i).besideHost = d.besideHost := by
  obtain ⟨_, _, h⟩ := setCause_frame d i
  rw [h]; rfl

@[simp] theorem setAlarm_besideHost (d i) : (setAlarm d i).besideHost = d.besideHost := by
  obtain ⟨_, _, h⟩ := setAlarm_frame d i
  rw [h]; rfl

@[simp] theorem evPut_besideHost (d e) : (evPut d e).besideHost = d.besideHost := by
  obtain ⟨_, _, _, h⟩ := evPut_frame d e
  rw [h]; rfl

@[simp] theorem raise_besideHost (d type sev subject l) : (raise d type sev subject l).besideHost = d.besideHost := evPut_besideHost ..

@[simp] theorem raiseCounted_besideHost (d type sev key subject at_ l) :
    (raiseCounted d type sev key subject at_ l).besideHost = d.besideHost := by
  obtain ⟨_, _, _, h⟩ := raiseCounted_frame d type sev key subject at_ l
  rw [h]; rfl

/-- What a completion may write is among what a row of the interface may write. -/
theorem besideHost_of_besideCompletion {d e : Dev} (h : e.besideCompletion = d.besideCompletion) : e.besideHost = d.besideHost :=
  (congrArg besideHost h :)

@[simp] theorem complete_besideHost (d c r) : (complete d c r).besideHost = d.besideHost :=
  besideHost_of_besideCompletion (complete_besideCompletion ..)

@[simp] theorem settle_besideHost (c : Cmd) (r : Reply) : (settle c r).besideHost = r.dev.besideHost :=
  besideHost_of_besideCompletion (settle_besideCompletion ..)

theorem runCmd_besideHost (op : Nat) (src : Src) (h : Cmd → Dev → Reply) (k : ∀ c d, (h c d).dev.besideHost = d.besideHost) (d : Dev) :
    (runCmd op src h d).besideHost = d.besideHost := by
  unfold runCmd; split
  · rfl
  · split <;> simp [k]

theorem statusReply_besideHost (c : Cmd) (d : Dev) (l : List Fld) : (statusReply c d l).dev.besideHost = d.besideHost := by
  simp only [statusReply]; split <;> rfl

@[simp] theorem triTrace_besideHost (t i a k d) : (triTrace t i a k d).besideHost = d.besideHost := rfl
@[simp] theorem openWindow_besideHost (d type key n) : (openWindow d type key n).besideHost = d.besideHost := rfl
@[simp] theorem mapWindow_besideHost (d type key f) : (mapWindow d type key f).besideHost = d.besideHost := rfl

@[simp] theorem quietEvent_besideHost (d on) : (quietEvent d on).besideHost = d.besideHost := by
  unfold quietEvent; dsimp only; split <;> simp only [evPut_besideHost, openWindow_besideHost, mapWindow_besideHost]

@[simp] theorem quietExit_besideHost (d) : (quietExit d).besideHost = d.besideHost := by
  unfold quietExit; dsimp only; split
  · rw [besideHost_tri, quietEvent_besideHost, foldl_besideHost _ (fun _ _ => triTrace_besideHost ..)]; rfl
  · rfl

@[simp] theorem dmaHaltCh_besideHost (k d) : (dmaHaltCh k d).2.besideHost = d.besideHost := rfl

/-! ### The PCIe function and the interface reset -/

@[simp] theorem msixFlush_besideHost (d) : (msixFlush d).besideHost = d.besideHost := by
  refine foldl_besideHost _ (fun x v => ?_) _ _
  simp only [ite_besideHost, vecSend_besideHost, besideHost_hif, ite_self]

@[simp] theorem pcieConfigRequest_besideHost (q d) : (pcieConfigRequest q d).besideHost = d.besideHost := by
  unfold pcieConfigRequest; split
  · exact emit_besideHost ..
  · dsimp only; split <;> simp only [emit_besideHost, openVal_besideHost, msixFlush_besideHost, besideHost_hif]

@[simp] theorem ifaceReset_besideHost (t m d) : (ifaceReset t m d).besideHost = d.besideHost := by
  unfold ifaceReset; split
  · rfl
  · split
    · rfl
    · simp only [foldl_besideHost _ (fun _ _ => dmaHaltCh_besideHost ..), setCause_besideHost, besideHost_hif]

@[simp] theorem cfgReset_besideHost (d) : (cfgReset d).besideHost = d.besideHost := rfl
@[simp] theorem flr_besideHost (d) : (flr d).besideHost = d.besideHost := by simp [flr]
@[simp] theorem busMasterDisable_besideHost (d) : (busMasterDisable d).besideHost = d.besideHost := by
  simp only [busMasterDisable, ite_besideHost, ifaceReset_besideHost, besideHost_hif, ite_self]
@[simp] theorem d3hotEntry_besideHost (d) : (d3hotEntry d).besideHost = d.besideHost := by
  simp only [d3hotEntry, ite_besideHost, ifaceReset_besideHost, besideHost_hif, ite_self]
@[simp] theorem mboxCancel_besideHost (l d m) : (mboxCancel l d m).besideHost = d.besideHost := by
  simp only [mboxCancel, ite_besideHost, besideHost_hif, ite_self]

@[simp] theorem ifaceResetQuiesced_besideHost (d) : (ifaceResetQuiesced d).besideHost = d.besideHost := by
  unfold ifaceResetQuiesced; split
  · rfl
  · simp only [foldl_besideHost _ (fun _ _ => complete_besideHost ..), raise_besideHost, setCause_besideHost, besideHost_hif,
      foldl_besideHost _ (mboxCancel_besideHost _)]

/-! ### Doorbells, mailboxes and registers -/

@[simp] theorem ringFault_besideHost (d kind idx cause) : (ringFault d kind idx cause).besideHost = d.besideHost := by simp [ringFault]

@[simp] theorem sqTailWrite_besideHost (r v d) : (sqTailWrite r v d).besideHost = d.besideHost := by
  unfold sqTailWrite; split
  · rfl
  · dsimp only; split <;> simp only [ite_besideHost, ringFault_besideHost, besideHost_hif, quietExit_besideHost, ite_self]

@[simp] theorem cqHeadWrite_besideHost (r v d) : (cqHeadWrite r v d).besideHost = d.besideHost := by
  unfold cqHeadWrite; split
  · rfl
  · dsimp only; split <;> simp only [ite_besideHost, ringFault_besideHost, besideHost_hif, quietExit_besideHost, ite_self]

@[simp] theorem puntHeadWrite_besideHost (i v d) : (puntHeadWrite i v d).besideHost = d.besideHost := by
  unfold puntHeadWrite; split
  · rfl
  · dsimp only; split <;> simp only [ite_besideHost, ringFault_besideHost, besideHost_hif, quietExit_besideHost, ite_self]

@[simp] theorem injectTailWrite_besideHost (i v d) : (injectTailWrite i v d).besideHost = d.besideHost := by
  unfold injectTailWrite; split
  · rfl
  · dsimp only; split <;> simp only [ite_besideHost, ringFault_besideHost, besideHost_hif, quietExit_besideHost, ite_self]

@[simp] theorem eventHeadWrite_besideHost (v d) : (eventHeadWrite v d).besideHost = d.besideHost := by
  unfold eventHeadWrite; split
  · rfl
  · dsimp only; split <;> simp only [ite_besideHost, ringFault_besideHost, besideHost_hif, quietExit_besideHost, ite_self]

@[simp] theorem mbCtrlWrite_besideHost (m w d) : (mbCtrlWrite m w d).besideHost = d.besideHost := by
  unfold mbCtrlWrite; dsimp only; split
  · rfl
  · split
    · rfl
    · simp only [logIn_besideHost, ite_besideHost, complete_besideHost, besideHost_hif, quietExit_besideHost, ite_self]

@[simp] theorem mbDataWrite_besideHost (m off v d) : (mbDataWrite m off v d).besideHost = d.besideHost := by
  simp only [mbDataWrite, ite_besideHost, besideHost_hif, ite_self]
@[simp] theorem intCauseWrite_besideHost (v d) : (intCauseWrite v d).besideHost = d.besideHost := by
  simp only [intCauseWrite, ite_besideHost, vecUpdateAll_besideHost, besideHost_hif, ite_self]
@[simp] theorem intMaskWrite_besideHost (v d) : (intMaskWrite v d).besideHost = d.besideHost := by
  simp only [intMaskWrite, vecUpdateAll_besideHost, besideHost_hif]
@[simp] theorem msixGapExpiry_besideHost (v d) : (msixGapExpiry v d).besideHost = d.besideHost := by
  simp only [msixGapExpiry, ite_besideHost, vecSend_besideHost, besideHost_hif, ite_self]
@[simp] theorem msixVectorMask_besideHost (v a x m d) : (msixVectorMask v a x m d).besideHost = d.besideHost := by
  simp only [msixVectorMask, ite_besideHost, msixFlush_besideHost, besideHost_hif, ite_self]

@[simp] theorem bar0Word_besideHost (off w d) : (bar0Word off w d).besideHost = d.besideHost := by
  unfold bar0Word; dsimp only; split
  · split <;> simp
  · simp

@[simp] theorem bar0Narrow_besideHost (off en data size d) : (bar0Narrow off en data size d).besideHost = d.besideHost := by
  have stored {p : Prop} [Decidable p] (x : Dev) (h : Hif) : (if p then { x with hif := h } else x).besideHost = x.besideHost := by
    split <;> rfl
  simp only [bar0Narrow, ite_besideHost, vecUpdateAll_besideHost, foldl_besideHost _ (fun _ _ => stored ..), ite_self]

@[simp] theorem bar0Write_besideHost (off size be data d) : (bar0Write off size be data d).besideHost = d.besideHost := by
  simp [bar0Write]

@[simp] theorem alarmWrite_besideHost (nv v d) : (alarmWrite nv v d).besideHost = d.besideHost := by
  simp only [alarmWrite, ite_besideHost, foldl_besideHost _ setAlarm_besideHost, besideHost_hif, ite_self]
@[simp] theorem bar0Register_besideHost (nv off size be data d) : (bar0Register nv off size be data d).besideHost = d.besideHost := by
  simp [bar0Register]

/-! ### Submission entries and the commands of the rings -/

@[simp] theorem sqServed_besideHost (d r) : (sqServed d r).besideHost = d.besideHost := by unfold sqServed; split <;> rfl

@[simp] theorem submissionTake_besideHost (r e d) : (submissionTake r e d).besideHost = d.besideHost := by
  unfold submissionTake; split
  · rfl
  · split
    · rfl
    · split
      · simp only [ringFault_besideHost, besideHost_hif]
      · extract_lets +onlyGivenNames c held d1
        have taken : d1.besideHost = d.besideHost := by simp only [d1, logIn_besideHost, sqServed_besideHost, besideHost_hif]
        split
        · rw [raiseCounted_besideHost, taken]
        · split
          · exact taken
          · simp only [ite_besideHost, complete_besideHost, besideHost_hif, taken, ite_self]

theorem hifRingCreate_besideHost (c d) : (hifRingCreate c d).dev.besideHost = d.besideHost := check_besideHost rfl
theorem hifRingDelete_besideHost (c d) : (hifRingDelete c d).dev.besideHost = d.besideHost := check_besideHost (by split <;> rfl)
theorem hifIfaceReset_besideHost (c d) : (hifIfaceReset c d).dev.besideHost = d.besideHost := ifaceReset_besideHost ..
theorem hifSetPunt_besideHost (c d) : (hifSetPunt c d).dev.besideHost = d.besideHost := check_besideHost (by
  simp only [Reply.dev, ite_besideHost, besideHost_hif, ite_self])
theorem hifGetPktStatus_besideHost (c d) : (hifGetPktStatus c d).dev.besideHost = d.besideHost := check_besideHost (statusReply_besideHost ..)

/-! ### The event path -/

@[simp] theorem eventRecordWrite_besideHost (d) : (eventRecordWrite d).besideHost = d.besideHost := by
  unfold eventRecordWrite; split
  · rfl
  · simp only [ite_besideHost, besideHost_evt, ite_self]

@[simp] theorem coalesceClose_besideHost (d) : (coalesceClose d).besideHost = d.besideHost := by
  unfold coalesceClose; split
  · rfl
  · simp only [ite_besideHost, besideHost_evt, ite_self]

@[simp] theorem eventRingDeliver_besideHost (d) : (eventRingDeliver d).besideHost = d.besideHost := by
  unfold eventRingDeliver; split
  · rfl
  · dsimp only; split
    · rfl
    · rw [setCause_besideHost]; rfl

@[simp] theorem eventWindowEnd_besideHost (type key d) : (eventWindowEnd type key d).besideHost = d.besideHost := by
  unfold eventWindowEnd; split
  · rfl
  · split
    · split <;> simp only [evPut_besideHost, mapWindow_besideHost, besideHost_evt]
    · rfl

theorem evtSetFilter_besideHost (c d) : (evtSetFilter c d).dev.besideHost = d.besideHost := check_besideHost rfl
theorem evtGetStats_besideHost (c d) : (evtGetStats c d).dev.besideHost = d.besideHost := check_besideHost rfl
theorem evtTest_besideHost (pl c d) : (evtTest pl c d).dev.besideHost = d.besideHost := check_besideHost (by simp [Reply.dev])

end Dev

namespace State

/-- `o` answers a next state that differs from `s` only in what a row of the host interface may change. -/
def OnHost (s : State) (o : Out) : Prop := ∃ d, o = .next { s with dev := d } ∧ d.besideHost = s.dev.besideHost

theorem onHost_onDev {s : State} {f : Dev → Dev} (h : (f s.dev).besideHost = s.dev.besideHost) : s.OnHost (s.onDev f) := ⟨_, rfl, h⟩

theorem onHost_runCmd {s : State} {op : Nat} {src : Src} {f : Cmd → Dev → Reply} (h : ∀ c d, (f c d).dev.besideHost = d.besideHost) :
    s.OnHost (s.onDev (Dev.runCmd op src f)) := onHost_onDev (Dev.runCmd_besideHost op src f h s.dev)

end State

open State Dev in
/-- Row by row: a command changes what its handler changes, every other row what its operation on the device does. -/
theorem exec_onHost (s : State) (i : Instr) (h : i.hostRow = true) : s.OnHost (exec i s) := by
  cases i with
  | pcieConfigRequest => exact onHost_onDev (pcieConfigRequest_besideHost ..)
  | flr => exact onHost_onDev (flr_besideHost ..)
  | hotReset => exact onHost_onDev (ifaceReset_besideHost ..)
  | pcieLinkDown => exact onHost_onDev (ifaceReset_besideHost ..)
  | busMasterDisable => exact onHost_onDev (busMasterDisable_besideHost ..)
  | d3hotEntry => exact onHost_onDev (d3hotEntry_besideHost ..)
  | ifaceResetQuiesced => exact onHost_onDev (ifaceResetQuiesced_besideHost ..)
  | hifIfaceReset => exact onHost_runCmd hifIfaceReset_besideHost
  | sqTailWrite => exact onHost_onDev (sqTailWrite_besideHost ..)
  | cqHeadWrite => exact onHost_onDev (cqHeadWrite_besideHost ..)
  | puntHeadWrite => exact onHost_onDev (puntHeadWrite_besideHost ..)
  | injectTailWrite => exact onHost_onDev (injectTailWrite_besideHost ..)
  | eventHeadWrite => exact onHost_onDev (eventHeadWrite_besideHost ..)
  | mbCtrlWrite => exact onHost_onDev (mbCtrlWrite_besideHost ..)
  | hifIntCauseWrite => exact onHost_onDev (intCauseWrite_besideHost ..)
  | hifAlarmWrite => exact onHost_onDev (alarmWrite_besideHost ..)
  | bar0RegisterWrite => exact onHost_onDev (bar0Register_besideHost ..)
  | msixGapExpiry => exact onHost_onDev (msixGapExpiry_besideHost ..)
  | msixVectorMaskWrite => exact onHost_onDev (msixVectorMask_besideHost ..)
  | submissionTake => exact onHost_onDev (submissionTake_besideHost ..)
  | hifRingCreate => exact onHost_runCmd hifRingCreate_besideHost
  | hifRingDelete => exact onHost_runCmd hifRingDelete_besideHost
  | hifSetPunt => exact onHost_runCmd hifSetPunt_besideHost
  | hifGetPktStatus => exact onHost_runCmd hifGetPktStatus_besideHost
  | eventRecordWrite => exact onHost_onDev (eventRecordWrite_besideHost ..)
  | coalesceClose => exact onHost_onDev (coalesceClose_besideHost ..)
  | eventRingDeliver => exact onHost_onDev (eventRingDeliver_besideHost ..)
  | eventWindowEnd => exact onHost_onDev (eventWindowEnd_besideHost ..)
  | evtSetFilter => exact onHost_runCmd evtSetFilter_besideHost
  | evtGetStats => exact onHost_runCmd evtGetStats_besideHost
  | evtTest => exact onHost_runCmd (evtTest_besideHost _)
  | _ => cases h

end Sys2Proof.Machine

namespace Sys2Proof
open Sys2Proof.Machine

/-- Settles O56: `exec_onHost`, read part by part. -/
theorem hostRowsFrame : Obligations.HostRowsFrame := by
  intro s t i hi ht
  obtain ⟨d, ran, kept⟩ := exec_onHost s i hi
  cases ran.symm.trans ht
  have part {β : Type} (g : Dev → β) : g d.besideHost = g s.dev.besideHost := congrArg g kept
  exact ⟨rfl, rfl, part Dev.now, part Dev.port, part Dev.pipe, part Dev.buf, part Dev.time, part Dev.lane, part Dev.pmSeq15,
    part Dev.pmSeqDay, part Dev.fwd, part Dev.fids, part Dev.tx, part Dev.portDrops, part Dev.laneDrops, part Dev.cnt, part Dev.aclCnt,
    part Dev.nhCnt, part Dev.pe, part Dev.qs, part Dev.sch, part Dev.hbm, part Dev.csw, part Dev.fab, part Dev.bridge, part Dev.fw,
    part Dev.sec, part Dev.jtag⟩

end Sys2Proof
end
section
/-! PROOFS. O60: a row of the fabric links or the epochs leaves everything beside the fabric as it was. What it may write is blanked out by
`Dev.besideFabric`; no operation of the fabric changes the rest, so each has one lemma `f_besideFabric`, in the order of the model's files. -/

namespace Sys2Proof.Machine
open Sys2Proof

namespace Dev

/-- The device with all blanked out that a row of the fabric links or the epochs may change: the trace, the interface, the events, the forwarding
state, the pools, the queues, the fabric, the time, power, the input log and the undo journal. -/
def besideFabric (d : Dev) : Dev :=
  { d with
    out := [], hif := {}, evt := {}, fwd := {}, buf := {}, qs := {}, fab := {}, time := {}, pwr := {}
    tri := { d.tri with log := [], journal := [] } }

theorem foldl_besideFabric {α : Type} (f : Dev → α → Dev) (h : ∀ d x, (f d x).besideFabric = d.besideFabric) (l : List α)
    (d : Dev) : (l.foldl f d).besideFabric = d.besideFabric := foldl_keeps_part besideFabric f h l d

@[simp] theorem ite_besideFabric (p : Prop) [Decidable p] (x y : Dev) :
    (if p then x else y).besideFabric = if p then x.besideFabric else y.besideFabric := apply_ite _ _ _ _

/-- A handler that starts with tests keeps what its work keeps. -/
theorem check_besideFabric {d : Dev} {l : List (Bool × Status)} {go : Reply} (h : go.dev.besideFabric = d.besideFabric) :
    (d.check l go).dev.besideFabric = d.besideFabric := by
  unfold check; split
  · rfl
  · exact h

/-! ### Operations every part shares -/

@[simp] theorem setFab_besideFabric (d f) : (setFab d f).besideFabric = d.besideFabric := rfl
@[simp] theorem setQs_besideFabric (d f) : (setQs d f).besideFabric = d.besideFabric := rfl
@[simp] theorem setTime_besideFabric (d f) : (setTime d f).besideFabric = d.besideFabric := rfl
@[simp] theorem setQ_besideFabric (d q x) : (setQ d q x).besideFabric = d.besideFabric := rfl
theorem setFwd_besideFabric (d : Dev) (x : Fwd) : ({ d with fwd := x } : Dev).besideFabric = d.besideFabric := rfl
@[simp] theorem putLink_besideFabric (d l x) : (putLink d l x).besideFabric = d.besideFabric := rfl
@[simp] theorem modLink_besideFabric (d l f) : (modLink d l f).besideFabric = d.besideFabric := rfl
@[simp] theorem logIn_besideFabric (k d) : (logIn k d).besideFabric = d.besideFabric := by unfold logIn; split <;> rfl

@[simp] theorem emit_besideFabric (d e) : (emit d e).besideFabric = d.besideFabric := by
  obtain ⟨_, h⟩ := emit_frame d e
  rw [h]; rfl

@[simp] theorem raise_besideFabric (d type sev subject l) : (raise d type sev subject l).besideFabric = d.besideFabric := by
  obtain ⟨_, _, _, h⟩ := raise_frame d type sev subject l
  rw [h]; rfl

@[simp] theorem raiseObj_besideFabric (d k x st b n) : (raiseObj d k x st b n).besideFabric = d.besideFabric := raise_besideFabric ..

@[simp] theorem raiseCounted_besideFabric (d type sev key subject at_ l) :
    (raiseCounted d type sev key subject at_ l).besideFabric = d.besideFabric := by
  obtain ⟨_, _, _, h⟩ := raiseCounted_frame d type sev key subject at_ l
  rw [h]; rfl

@[simp] theorem sendFc_besideFabric (d k n b l) : (sendFc d k n b l).besideFabric = d.besideFabric := by
  obtain ⟨_, h⟩ := sendFc_frame d k n b l
  rw [h]; rfl

@[simp] theorem sendFcAll_besideFabric (d n b) : (sendFcAll d n b).besideFabric = d.besideFabric := by
  obtain ⟨_, h⟩ := sendFcAll_frame d n b
  rw [h]; rfl

/-- What a completion may write is among what a row of the fabric may write. -/
theorem besideFabric_of_besideCompletion {d e : Dev} (h : e.besideCompletion = d.besideCompletion) : e.besideFabric = d.besideFabric :=
  (congrArg besideFabric h :)

@[simp] theorem complete_besideFabric (d c r) : (complete d c r).besideFabric = d.besideFabric :=
  besideFabric_of_besideCompletion (complete_besideCompletion ..)

@[simp] theorem settle_besideFabric (c : Cmd) (r : Reply) : (settle c r).besideFabric = r.dev.besideFabric :=
  besideFabric_of_besideCompletion (settle_besideCompletion ..)

theorem runCmd_besideFabric (op : Nat) (src : Src) (h : Cmd → Dev → Reply) (k : ∀ c d, (h c d).dev.besideFabric = d.besideFabric) (d : Dev) :
    (runCmd op src h d).besideFabric = d.besideFabric := by
  unfold runCmd; split
  · rfl
  · split <;> simp [k]

theorem statusReply_besideFabric (c : Cmd) (d : Dev) (l : List Fld) : (statusReply c d l).dev.besideFabric = d.besideFabric := by
  simp only [statusReply]; split <;> rfl

/-! ### Next hops and credits -/

@[simp] theorem liveCheck_besideFabric (d) : (liveCheck d).besideFabric = d.besideFabric :=
  foldl_besideFabric _ (fun _ _ => raise_besideFabric ..) _ _

@[simp] theorem seqRestart_besideFabric (k d) : (seqRestart k d).besideFabric = d.besideFabric := by simp [seqRestart, modQ]
@[simp] theorem putFlow_besideFabric (d k f) : (putFlow d k f).besideFabric = d.besideFabric := by simp [putFlow]
@[simp] theorem modCredit_besideFabric (d p f) : (modCredit d p f).besideFabric = d.besideFabric := rfl
@[simp] theorem flowTouch_besideFabric (d k) : (flowTouch d k).besideFabric = d.besideFabric := rfl
@[simp] theorem unreserve_besideFabric (d p n) : (unreserve d p n).besideFabric = d.besideFabric := rfl

@[simp] theorem creditReqAt_besideFabric (src voq value seq d) : (creditReqAt src voq value seq d).besideFabric = d.besideFabric := by
  fun_cases creditReqAt <;> simp

@[simp] theorem creditReturnAt_besideFabric (src voq value d) : (creditReturnAt src voq value d).besideFabric = d.besideFabric := by
  fun_cases creditReturnAt <;> simp

@[simp] theorem sendReq_besideFabric (d v value seq) : (sendReq d v value seq).besideFabric = d.besideFabric := by simp [sendReq]
@[simp] theorem sendReturn_besideFabric (d v value seq) : (sendReturn d v value seq).besideFabric = d.besideFabric := by simp [sendReturn]
@[simp] theorem voqDemand_besideFabric (v d) : (voqDemand v d).besideFabric = d.besideFabric := by simp [voqDemand]
@[simp] theorem demandAll_besideFabric (d) : (demandAll d).besideFabric = d.besideFabric :=
  foldl_besideFabric _ (fun _ _ => voqDemand_besideFabric ..) _ _
@[simp] theorem creditReach_besideFabric (dev d) : (creditReach dev d).besideFabric = d.besideFabric := demandAll_besideFabric _
@[simp] theorem creditUnreach_besideFabric (dev d) : (creditUnreach dev d).besideFabric = d.besideFabric := rfl

/-! ### Links: sending and retry -/

theorem spray_besideFabric {d e : Dev} {s dst l : Nat} {ok : Nat → Bool} (h : d.spray s dst ok = some (l, e)) :
    e.besideFabric = d.besideFabric := by
  unfold spray at h
  dsimp only at h; split at h
  · cases h
  · cases h; rfl

@[simp] theorem stampCell_besideFabric (c d) : (stampCell c d).2.besideFabric = d.besideFabric := by fun_cases stampCell <;> rfl

@[simp] theorem linkSend_besideFabric (d l c) : (linkSend d l c).besideFabric = d.besideFabric := by
  simp only [linkSend, emit_besideFabric, putLink_besideFabric, stampCell_besideFabric]

@[simp] theorem resendCells_besideFabric (l cs d) : (resendCells l cs d).besideFabric = d.besideFabric := by
  refine foldl_besideFabric _ (fun x r => ?_) cs d
  dsimp only; split
  next sprayed => rw [modLink_besideFabric, linkSend_besideFabric, spray_besideFabric sprayed]
  next => rfl

/-! ### Fault reports, reachability and link states -/

@[simp] theorem obsTake_besideFabric (m d) : (obsTake m d).besideFabric = d.besideFabric := by
  simp only [obsTake]; (repeat' split) <;> rfl

@[simp] theorem observe_besideFabric (subjKind kind subj d) : (observe subjKind kind subj d).besideFabric = d.besideFabric := by
  simp only [observe]; (repeat' split)
  · rfl
  · exact obsTake_besideFabric ..
  · exact sendFc_besideFabric ..

@[simp] theorem reachRefresh_besideFabric (d) : (reachRefresh d).besideFabric = d.besideFabric := by
  unfold reachRefresh; dsimp only
  rw [foldl_besideFabric _ (fun _ _ => by simp only [observe_besideFabric, raise_besideFabric, creditReach_besideFabric]),
    foldl_besideFabric _ (fun _ _ => by simp only [observe_besideFabric, raise_besideFabric, creditUnreach_besideFabric]),
    liveCheck_besideFabric, setFwd_besideFabric]

@[simp] theorem sendDiscover_besideFabric (l d) : (sendDiscover l d).besideFabric = d.besideFabric := emit_besideFabric ..
@[simp] theorem linkDrop_besideFabric (l c d) : (linkDrop l c d).besideFabric = d.besideFabric := by
  unfold linkDrop; dsimp only; split
  · rfl
  · rw [observe_besideFabric, raise_besideFabric, sendDiscover_besideFabric, resendCells_besideFabric, reachRefresh_besideFabric,
      putLink_besideFabric]
@[simp] theorem discoverMsg_besideFabric (l m d) : (discoverMsg l m d).besideFabric = d.besideFabric := by simp [discoverMsg]

@[simp] theorem qualifyEnd_besideFabric (l fec hcs d) : (qualifyEnd l fec hcs d).besideFabric = d.besideFabric := by
  simp only [qualifyEnd]; (repeat' split) <;> simp

@[simp] theorem qualifyRetry_besideFabric (l d) : (qualifyRetry l d).besideFabric = d.besideFabric := by simp [qualifyRetry]

@[simp] theorem reachMap_besideFabric (l m d) : (reachMap l m d).besideFabric = d.besideFabric := by
  unfold reachMap; dsimp only; split <;> simp

@[simp] theorem reachDelta_besideFabric (l dev on d) : (reachDelta l dev on d).besideFabric = d.besideFabric := reachMap_besideFabric ..
@[simp] theorem delayMeasure_besideFabric (l d) : (delayMeasure l d).besideFabric = d.besideFabric := by simp [delayMeasure]
@[simp] theorem delayReqMsg_besideFabric (l seq held d) : (delayReqMsg l seq held d).besideFabric = d.besideFabric := emit_besideFabric ..

@[simp] theorem delayRespMsg_besideFabric (l seq rx tx held d) : (delayRespMsg l seq rx tx held d).besideFabric = d.besideFabric := by
  unfold delayRespMsg; dsimp only; split <;> simp

@[simp] theorem linkStopDone_besideFabric (l d) : (linkStopDone l d).besideFabric = d.besideFabric := by simp [linkStopDone]

@[simp] theorem laserInput_besideFabric (oe m lost d) : (laserInput oe m lost d).besideFabric = d.besideFabric := by
  unfold laserInput; dsimp only; split <;> exact foldl_besideFabric _ (fun _ _ => by simp) _ _

/-! ### Port states, the meridian and the epochs -/

@[simp] theorem portStateMsg_besideFabric (dev p down d) : (portStateMsg dev p down d).besideFabric = d.besideFabric := by
  unfold portStateMsg; dsimp only; split
  · rfl
  · rw [liveCheck_besideFabric]; rfl

@[simp] theorem portVectorMsg_besideFabric (dev v d) : (portVectorMsg dev v d).besideFabric = d.besideFabric := by
  unfold portVectorMsg; split
  · rfl
  · rw [liveCheck_besideFabric]; rfl

@[simp] theorem portVectorOut_besideFabric (d) : (portVectorOut d).besideFabric = d.besideFabric := by simp [portVectorOut]
@[simp] theorem heartbeatOut_besideFabric (d) : (heartbeatOut d).besideFabric = d.besideFabric := by simp [heartbeatOut]

@[simp] theorem relayStop_besideFabric (d) : (relayStop d).besideFabric = d.besideFabric := by
  unfold relayStop; split
  · rfl
  · dsimp only; split
    · rfl
    · split <;> simp

@[simp] theorem roleTo_besideFabric (dev term d) : (roleTo dev term d).besideFabric = d.besideFabric := by simp [roleTo]
@[simp] theorem switchEpoch_besideFabric (t d) : (switchEpoch t d).besideFabric = d.besideFabric := by simp [switchEpoch]

@[simp] theorem memberPrepare_besideFabric (m d) : (memberPrepare m d).2.besideFabric = d.besideFabric := by
  fun_cases memberPrepare <;> rfl

@[simp] theorem epochPrepareMsg_besideFabric (m d) : (epochPrepareMsg m d).besideFabric = d.besideFabric := by simp [epochPrepareMsg]
@[simp] theorem epochAckMsg_besideFabric (dev epoch r d) : (epochAckMsg dev epoch r d).besideFabric = d.besideFabric := by simp [epochAckMsg]

@[simp] theorem cancelEpoch_besideFabric (n d) : (cancelEpoch n d).besideFabric = d.besideFabric := by
  unfold cancelEpoch; dsimp only; split
  · split <;> simp
  · rfl

@[simp] theorem coordDone_besideFabric (st d) : (coordDone st d).besideFabric = d.besideFabric := by
  unfold coordDone; split
  · rfl
  · dsimp only; split
    · rfl
    · split <;> simp

@[simp] theorem cancelMsgs_besideFabric (l n d) : (cancelMsgs l n d).besideFabric = d.besideFabric :=
  foldl_besideFabric _ (fun _ _ => sendFc_besideFabric ..) _ _

@[simp] theorem cancelAgain_besideFabric (d) : (cancelAgain d).besideFabric = d.besideFabric := by
  unfold cancelAgain; split
  · rfl
  · split <;> simp

@[simp] theorem coordCancel_besideFabric (c d) : (coordCancel c d).besideFabric = d.besideFabric := by simp [coordCancel]

@[simp] theorem epochDecision_besideFabric (d) : (epochDecision d).besideFabric = d.besideFabric := by
  unfold epochDecision; dsimp only; split <;> simp

@[simp] theorem epochActivate_besideFabric (d) : (epochActivate d).besideFabric = d.besideFabric := by
  unfold epochActivate; split <;> simp

@[simp] theorem retentionEnd_besideFabric (d) : (retentionEnd d).besideFabric = d.besideFabric := by
  fun_cases retentionEnd
  case case1 => rw [raise_besideFabric, coordDone_besideFabric]; rfl
  case case2 => exact coordDone_besideFabric ..
  all_goals rfl

@[simp] theorem epochCancelMsg_besideFabric (dev n d) : (epochCancelMsg dev n d).besideFabric = d.besideFabric := by
  unfold epochCancelMsg; split
  · rfl
  · dsimp only; split <;> simp

@[simp] theorem heartbeatMsg_besideFabric (dev term n d) : (heartbeatMsg dev term n d).besideFabric = d.besideFabric := by
  have followed : (if d.fab.holder = dev then d.setFab fun f => { f with term := term, hbSeen := d.now } else roleTo dev term d).besideFabric
      = d.besideFabric := by split <;> simp
  fun_cases heartbeatMsg
  case case1 => rfl
  case case4 => exact (switchEpoch_besideFabric ..).trans followed
  case case6 => exact (raise_besideFabric ..).trans followed
  all_goals exact followed

@[simp] theorem heartbeatIn_besideFabric (dev term n pending d) : (heartbeatIn dev term n pending d).besideFabric = d.besideFabric := by
  unfold heartbeatIn; dsimp only; split
  · exact heartbeatMsg_besideFabric ..
  · exact heartbeatMsg_besideFabric ..

@[simp] theorem heartbeatLost_besideFabric (d) : (heartbeatLost d).besideFabric = d.besideFabric := by
  unfold heartbeatLost; split
  · rfl
  · dsimp only; split <;> simp

@[simp] theorem meridianClaim_besideFabric (dev term d) : (meridianClaim dev term d).besideFabric = d.besideFabric := by simp [meridianClaim]

/-! ### Commands -/

theorem fabLinkEnable_besideFabric (c d) : (fabLinkEnable c d).dev.besideFabric = d.besideFabric := check_besideFabric (by simp [Reply.dev])
theorem fabLinkDisable_besideFabric (c d) : (fabLinkDisable c d).dev.besideFabric = d.besideFabric := check_besideFabric (by simp [Reply.dev])
theorem fabGetLink_besideFabric (c d) : (fabGetLink c d).dev.besideFabric = d.besideFabric := check_besideFabric (statusReply_besideFabric ..)
theorem fabSetSystem_besideFabric (c d) : (fabSetSystem c d).dev.besideFabric = d.besideFabric := check_besideFabric (by simp [Reply.dev])
theorem fabStage_besideFabric (pl c d) : (fabStage pl c d).dev.besideFabric = d.besideFabric := check_besideFabric rfl
theorem fabEpochPrepare_besideFabric (c d) : (fabEpochPrepare c d).dev.besideFabric = d.besideFabric := check_besideFabric (by simp [Reply.dev])
theorem fabGetStatus_besideFabric (c d) : (fabGetStatus c d).dev.besideFabric = d.besideFabric := check_besideFabric (statusReply_besideFabric ..)

end Dev

namespace State

/-- `o` answers a next state that differs from `s` only in what a row of the fabric links or the epochs may change. -/
def OnFabric (s : State) (o : Out) : Prop := ∃ d, o = .next { s with dev := d } ∧ d.besideFabric = s.dev.besideFabric

theorem onFabric_onDev {s : State} {f : Dev → Dev} (h : (f s.dev).besideFabric = s.dev.besideFabric) : s.OnFabric (s.onDev f) := ⟨_, rfl, h⟩

/-- A message that the triad's journal notes as an input. -/
theorem onFabric_logIn {s : State} {f : Dev → Dev} {k : LogKind} (h : (f s.dev).besideFabric = s.dev.besideFabric) :
    s.OnFabric (s.onDev fun d => (f d).logIn k) := onFabric_onDev ((Dev.logIn_besideFabric ..).trans h)

theorem onFabric_runCmd {s : State} {op : Nat} {src : Src} {f : Cmd → Dev → Reply} (h : ∀ c d, (f c d).dev.besideFabric = d.besideFabric) :
    s.OnFabric (s.onDev (Dev.runCmd op src f)) := onFabric_onDev (Dev.runCmd_besideFabric op src f h s.dev)

end State

open State Dev in
/-- Row by row: a command changes what its handler changes, every other row what its operation on the device does. -/
theorem exec_onFabric (s : State) (i : Instr) (h : i.fabricRow = true) : s.OnFabric (exec i s) := by
  cases i with
  | discover => exact onFabric_onDev (discoverMsg_besideFabric ..)
  | qualificationEnd => exact onFabric_onDev (qualifyEnd_besideFabric ..)
  | reach => exact onFabric_onDev (reachMap_besideFabric ..)
  | qualificationRetry => exact onFabric_onDev (qualifyRetry_besideFabric ..)
  | reachDelta => exact onFabric_onDev (reachDelta_besideFabric ..)
  | linkDelayMeasure => exact onFabric_onDev (delayMeasure_besideFabric ..)
  | delayReq => exact onFabric_onDev (delayReqMsg_besideFabric ..)
  | delayResp => exact onFabric_onDev (delayRespMsg_besideFabric ..)
  | fabricLinkStopDone => exact onFabric_onDev (linkStopDone_besideFabric ..)
  | laserInputChange => exact onFabric_onDev (laserInput_besideFabric ..)
  | portState => exact onFabric_onDev (portStateMsg_besideFabric ..)
  | portVector => exact onFabric_onDev (portVectorMsg_besideFabric ..)
  | portVectorSend => exact onFabric_onDev (portVectorOut_besideFabric ..)
  | fabLinkEnable => exact onFabric_runCmd fabLinkEnable_besideFabric
  | fabLinkDisable => exact onFabric_runCmd fabLinkDisable_besideFabric
  | fabGetLink => exact onFabric_runCmd fabGetLink_besideFabric
  | heartbeatSend => exact onFabric_onDev (heartbeatOut_besideFabric ..)
  | heartbeat => exact onFabric_logIn (heartbeatIn_besideFabric ..)
  | heartbeatLoss => exact onFabric_onDev (heartbeatLost_besideFabric ..)
  | meridianClaim => exact onFabric_logIn (meridianClaim_besideFabric ..)
  | epochPrepare => exact onFabric_logIn (epochPrepareMsg_besideFabric ..)
  | epochAck => exact onFabric_logIn (epochAckMsg_besideFabric ..)
  | epochDecision => exact onFabric_onDev (epochDecision_besideFabric ..)
  | epochActivate => exact onFabric_onDev (epochActivate_besideFabric ..)
  | epochRetentionEnd => exact onFabric_onDev (retentionEnd_besideFabric ..)
  | epochCancel => exact onFabric_logIn (epochCancelMsg_besideFabric ..)
  | fabSetSystem => exact onFabric_runCmd fabSetSystem_besideFabric
  | fabStage => exact onFabric_runCmd (fabStage_besideFabric _)
  | fabEpochPrepare => exact onFabric_runCmd fabEpochPrepare_besideFabric
  | fabGetStatus => exact onFabric_runCmd fabGetStatus_besideFabric
  | _ => cases h

end Sys2Proof.Machine

namespace Sys2Proof
open Sys2Proof.Machine

/-- Settles O60: `exec_onFabric`, read part by part. -/
theorem fabricRowsFrame : Obligations.FabricRowsFrame := by
  intro s t i hi ht
  obtain ⟨d, ran, kept⟩ := exec_onFabric s i hi
  cases ran.symm.trans ht
  have part {β : Type} (g : Dev → β) : g d.besideFabric = g s.dev.besideFabric := congrArg g kept
  have tri : { d.tri with log := [], journal := [] } = { s.dev.tri with log := [], journal := [] } := part Dev.tri
  exact ⟨rfl, rfl, part Dev.port, part Dev.lane, part Dev.pmSeq15, part Dev.pmSeqDay, part Dev.pipe, part Dev.fids, part Dev.tx,
    part Dev.portDrops, part Dev.laneDrops, part Dev.cnt, part Dev.aclCnt, part Dev.nhCnt, part Dev.pe, part Dev.sch, part Dev.hbm,
    part Dev.csw, part Dev.now, part Dev.fresh, part Dev.dma,
    congrArg (fun x : Triad => { x with log := d.tri.log, journal := d.tri.journal }) tri, part Dev.bridge, part Dev.fw, part Dev.sec,
    part Dev.jtag⟩

end Sys2Proof
end
section
/-! PROOFS. O1 to O6: the rows of the host interface. Interrupts go on behind them: what an interrupt may write is blanked out by
`Hif.besideMsix` (a vector) and `Hif.besideIrq` (a cause or alarm bit too), and no operation that signals one changes the rest. -/

namespace Sys2Proof.Machine
open Sys2Proof

namespace Hif

/-- The interface beside the state of the vectors. -/
def besideMsix (h : Hif) : Hif := { h with active := [], gapHeld := [], msixPending := [], lastMsg := [] }

/-- The interface beside the state of the vectors and the cause and alarm bits. -/
def besideIrq (h : Hif) : Hif := { h.besideMsix with cause := 0, alarm := 0 }

theorem besideIrq_of_besideMsix {g h : Hif} (e : g.besideMsix = h.besideMsix) : g.besideIrq = h.besideIrq :=
  congrArg (fun x : Hif => { x with cause := 0, alarm := 0 }) e

end Hif

namespace Dev

/-! ### Vectors, causes and alarms (R482, R494) -/

/-- Vector `v` sends its message at once: nothing masks it. -/
def vecOpen (d : Dev) (v : Nat) : Bool := d.hif.msixEnable && !d.hif.msixFuncMask && d.hif.msixUnmasked.contains v

theorem vecSend_open {d : Dev} {v : Nat} (h : d.vecOpen v = true) : d.vecSend v =
    { d with hif := { d.hif with lastMsg := tput d.hif.lastMsg v d.now }
             out := .msix v (tgetD d.hif.msixEntry (0, 0) v).1 (tgetD d.hif.msixEntry (0, 0) v).2 :: d.out } := if_pos h

theorem vecSend_masked {d : Dev} {v : Nat} (h : ¬ d.vecOpen v = true) : d.vecSend v =
    { d with hif := { d.hif with msixPending := if d.hif.msixPending.contains v then d.hif.msixPending else v :: d.hif.msixPending } } := if_neg h

@[simp] theorem vecSend_besideMsix (d v) : (vecSend d v).hif.besideMsix = d.hif.besideMsix := by
  by_cases h : d.vecOpen v = true
  · rw [vecSend_open h]; rfl
  · rw [vecSend_masked h]; rfl

@[simp] theorem vecSend_gapHeld (d v) : (vecSend d v).hif.gapHeld = d.hif.gapHeld := by
  by_cases h : d.vecOpen v = true
  · rw [vecSend_open h]
  · rw [vecSend_masked h]

@[simp] theorem vecUpdate_besideMsix (d v) : (vecUpdate d v).hif.besideMsix = d.hif.besideMsix := by
  unfold vecUpdate; split
  · split
    · rfl
    · dsimp only; split
      · rfl
      · rw [vecSend_besideMsix]; rfl
  · rfl

@[simp] theorem vecUpdateAll_besideMsix (d) : (vecUpdateAll d).hif.besideMsix = d.hif.besideMsix :=
  foldl_keeps_part (fun d => d.hif.besideMsix) vecUpdate vecUpdate_besideMsix _ _

@[simp] theorem msixFlush_besideMsix (d) : (msixFlush d).hif.besideMsix = d.hif.besideMsix := by
  refine foldl_keeps_part (fun d => d.hif.besideMsix) _ (fun x v => ?_) _ _
  dsimp only; split
  · rw [vecSend_besideMsix]; rfl
  · rfl

theorem setCause_besideMsix (d i) : (setCause d i).hif.besideMsix =
    { d.hif.besideMsix with cause := d.hif.cause ||| BitVec.ofNat 43 (2 ^ i) } := vecUpdate_besideMsix ..

theorem setCause_cause (d i) : (setCause d i).hif.cause = d.hif.cause ||| BitVec.ofNat 43 (2 ^ i) := congrArg Hif.cause (setCause_besideMsix d i)

@[simp] theorem setCause_besideIrq (d i) : (setCause d i).hif.besideIrq = d.hif.besideIrq :=
  congrArg (fun x : Hif => { x with cause := 0, alarm := 0 }) (setCause_besideMsix d i)

theorem setCause_getLsbD {i : Nat} (d) (h : i < 43) : (setCause d i).hif.cause.getLsbD i = true := by
  rw [setCause_cause, BitVec.getLsbD_or, BitVec.getLsbD_ofNat]; simp [h]

@[simp] theorem setAlarm_besideIrq (d i) : (setAlarm d i).hif.besideIrq = d.hif.besideIrq := by
  unfold setAlarm; split
  · rfl
  · rw [setCause_besideIrq]; rfl

/-! ### Events and the quiet state (R523, R621, R622) -/

@[simp] theorem evCoalesce_besideIrq (d e) : (evCoalesce d e).hif.besideIrq = d.hif.besideIrq := by
  unfold evCoalesce; dsimp only; split
  · rw [setAlarm_besideIrq]
  · rfl

@[simp] theorem evPut_besideIrq (d e) : (evPut d e).hif.besideIrq = d.hif.besideIrq := by
  unfold evPut; dsimp only; split
  · rfl
  · split
    · rw [evCoalesce_besideIrq]
    · rfl

@[simp] theorem raise_besideIrq (d type sev subject l) : (raise d type sev subject l).hif.besideIrq = d.hif.besideIrq := evPut_besideIrq ..

@[simp] theorem raiseCounted_besideIrq (d type sev key subject at_ l) :
    (raiseCounted d type sev key subject at_ l).hif.besideIrq = d.hif.besideIrq := by
  unfold raiseCounted; dsimp only; split
  · exact evPut_besideIrq ..
  · rfl

@[simp] theorem ringFault_besideIrq (d kind idx cause) : (ringFault d kind idx cause).hif.besideIrq = d.hif.besideIrq := raise_besideIrq ..

@[simp] theorem logIn_hif (k d) : (logIn k d).hif = d.hif := by unfold logIn; split <;> rfl

@[simp] theorem quietEvent_besideIrq (d on) : (quietEvent d on).hif.besideIrq = d.hif.besideIrq := by
  unfold quietEvent; dsimp only; split
  · exact evPut_besideIrq ..
  · rfl

@[simp] theorem quietExit_besideIrq (d) : (quietExit d).hif.besideIrq = d.hif.besideIrq := by
  unfold quietExit; dsimp only; split
  · refine (quietEvent_besideIrq ..).trans ?_
    exact foldl_keeps_part (fun d => d.hif.besideIrq) (fun x k => triTrace 2 0 0 k x) (fun _ _ => rfl) ..
  · rfl

/-! ### Completions (R483, R489) -/

end Dev

namespace Hif

/-- The interface beside what the completion of a mailbox command may change. -/
def besideMbox (h : Hif) : Hif := { h.besideIrq with mbox := [], cmds := [], heldDone := [] }

theorem besideMbox_of_besideIrq {g h : Hif} (e : g.besideIrq = h.besideIrq) : g.besideMbox = h.besideMbox :=
  congrArg (fun x : Hif => { x with mbox := [], cmds := [], heldDone := [] }) e

end Hif

namespace Dev

/-- The completion of a mailbox command writes its mailbox, the command list and the cause bit. -/
theorem completeNow_besideMbox {c : Cmd} {m : Fin 8} (h : c.src = .mbox m) (d r) : (completeNow d c r).hif.besideMbox = d.hif.besideMbox := by
  fun_cases completeNow
  case case1 => rfl
  case case2 d0 _ _ _ _ _ d1 _ =>
    have sent : d1.hif = d0.hif := by
      unfold d1; split
      · split
        · rfl
        · exact emit_hif ..
      · rfl
    refine (Hif.besideMbox_of_besideIrq (setCause_besideIrq ..)).trans ?_
    exact (congrArg Hif.besideMbox sent :)
  all_goals exact nomatch h.symm.trans ‹c.src = .ring _›

theorem complete_besideMbox {c : Cmd} {m : Fin 8} (h : c.src = .mbox m) (d r) : (complete d c r).hif.besideMbox = d.hif.besideMbox := by
  unfold complete; split
  · split <;> rfl
  · exact completeNow_besideMbox h d r

end Dev

/-- A command of `l` that came through a mailbox: completed in turn, such commands leave the rest of the interface as it was. -/
theorem completeAll_besideMbox {l : List Cmd} (h : ∀ c ∈ l, ∃ m, c.src = .mbox m) (r : Resp) (d : Dev) :
    (l.foldl (fun x c => x.complete c r) d).hif.besideMbox = d.hif.besideMbox :=
  List.foldlRecOn (motive := fun x : Dev => x.hif.besideMbox = d.hif.besideMbox) l _ rfl fun x kept c mem => by
    obtain ⟨m, viaMbox⟩ := h c mem
    rw [Dev.complete_besideMbox viaMbox, kept]

end Sys2Proof.Machine

namespace Sys2Proof.Machine
open Sys2Proof

namespace Dev

/-! ### Configuration requests and the interface reset (R477, R501) -/

@[simp] theorem emit_cfgReply (d : Dev) (retry : Bool) (v : Option (BitVec 32)) :
    d.emit (.cfgReply retry v) = { d with out := .cfgReply retry v :: d.out } := by simp [emit, onLane, txOff, onPort]

/-- An interface reset starts at its trigger, or goes on as it is. -/
theorem ifaceReset_hif {d : Dev} (answers : d.hif.answers = true) (t : ResetTrigger) :
    (d.ifaceReset t none).hif.besideIrq = ({ d.hif with reset := d.hif.reset <|> some { trigger := t, mboxes := [], lost := 0 } } : Hif).besideIrq := by
  unfold ifaceReset; rw [if_neg (by simp [answers])]; split
  next i running => simp [running]
  next idle =>
    dsimp only
    rw [foldl_keeps_part (fun d => d.hif.besideIrq) (fun x k => (dmaHaltCh k x).2) (fun _ _ => rfl), setCause_besideIrq, idle]; rfl

theorem ifaceReset_of_mute {d : Dev} (mute : ¬ d.hif.answers = true) (t : ResetTrigger) (m : Option (Fin 8)) : d.ifaceReset t m = d := by
  unfold ifaceReset; rw [if_pos (by simpa using mute)]

theorem cmdMbox_src {c : Cmd} (h : (cmdMbox c).isSome = true) : ∃ m, c.src = .mbox m := by
  unfold cmdMbox at h; split at h
  next m hm => exact ⟨m, hm⟩
  next => cases h

@[simp] theorem mboxCancel_resets (l d m) : (mboxCancel l d m).hif.resets = d.hif.resets := by
  unfold mboxCancel; dsimp only; split <;> rfl

/-- Step 4 of Table 15.17 clears the interface; the completions behind it are of mailbox commands. -/
theorem ifaceResetQuiesced_hif {d : Dev} {i : IfaceReset} (running : d.hif.reset = some i) :
    ∃ h : Hif, (ifaceResetQuiesced d).hif.besideMbox = h.besideMbox ∧ h.sq = [] ∧ h.cq = [] ∧ h.ev = none ∧ h.punt = [] ∧ h.inj = [] ∧
      h.mask = BitVec.allOnes 43 ∧ h.vector = (List.range 43).map (BitVec.ofNat 6) ∧ h.gap = [] ∧ h.resets = (d.hif.resets + 1) % 256 ∧
      h.reset = none := by
  simp only [ifaceResetQuiesced, running]
  have resets : ((List.finRange 8).foldl (mboxCancel i.mboxes) d).hif.resets = d.hif.resets :=
    foldl_keeps_part (fun d => d.hif.resets) _ (mboxCancel_resets _) _ _
  refine ⟨_, Eq.trans (completeAll_besideMbox (fun c mem => ?_) _ _)
    (Hif.besideMbox_of_besideIrq ((raise_besideIrq ..).trans (setCause_besideIrq ..))), rfl, rfl, rfl, rfl, rfl, rfl, rfl, rfl, by rw [resets], rfl⟩
  simp only [List.mem_filter, Bool.and_eq_true] at mem
  obtain ⟨-, -, kept⟩ := mem
  exact cmdMbox_src (by revert kept; split <;> simp [*])

/-! ### Doorbells (R481) -/

theorem headOk_iff {size head tail v : Nat} :
    headOk size head tail v = true ↔ v < size ∧ (v + size - head) % size ≤ (tail + size - head) % size := by simp [headOk]

end Dev
end Sys2Proof.Machine

namespace Sys2Proof
open Sys2Proof.Machine

/-- Settles O1: request by request, and for each trigger `Dev.ifaceReset_hif`. -/
theorem pcieRowsComplete : Obligations.PcieRowsComplete := by
  refine ⟨fun s q => onDev_devStep rfl ?_, fun s => onDev_devStep rfl ?_, fun s => onDev_devStep rfl ?_, fun s => onDev_devStep rfl ?_,
    fun s => onDev_devStep rfl ?_, fun s => onDev_devStep rfl ?_⟩
  · unfold Dev.pcieConfigRequest
    split
    next answers =>
      rw [if_neg (by simp [answers])]
      cases q with
      | read r =>
        cases r with
        | other => exact ⟨by simp [Dev.openVal], _, by simp [Dev.openVal]; rfl⟩
        | _ => exact Dev.emit_cfgReply ..
      | bar two b => cases two <;> simp
      | sizes p r => exact ⟨by simp, by simp, by simp⟩
      | msixControl e f =>
        have kept := Dev.msixFlush_besideMsix ({ s.dev with
          out := .cfgReply false none :: s.dev.out, hif := { s.dev.hif with msixEnable := e, msixFuncMask := f } })
        simp only [Dev.emit_cfgReply]
        exact ⟨(congrArg Hif.msixEnable kept :), (congrArg Hif.msixFuncMask kept :), (congrArg Hif.cause kept :)⟩
      | _ => simp
    next mute => rw [if_pos (by simpa using mute), Dev.emit_cfgReply]
  · unfold Dev.flr
    split
    next answers => exact ⟨(congrArg Hif.reset (Dev.ifaceReset_hif answers .flr) :), rfl, rfl, rfl, rfl, rfl, rfl, rfl⟩
    next mute => rfl
  · split
    next answers => exact (congrArg Hif.reset (Dev.ifaceReset_hif answers .hotReset) :)
    next mute => exact Dev.ifaceReset_of_mute mute ..
  · split
    next answers => exact (congrArg Hif.reset (Dev.ifaceReset_hif answers .linkDown) :)
    next mute => exact Dev.ifaceReset_of_mute mute ..
  · unfold Dev.busMasterDisable
    split
    next on =>
      rw [if_pos (by simpa using on)]
      have started := Dev.ifaceReset_hif (d := { s.dev with hif := { s.dev.hif with busMaster := false } }) on.1 .busMaster
      exact ⟨(congrArg Hif.busMaster started :), (congrArg Hif.reset started :)⟩
    next off => rw [if_neg (by simpa using off)]
  · unfold Dev.d3hotEntry
    split
    next answers =>
      have started := Dev.ifaceReset_hif (d := { s.dev with hif := { s.dev.hif with d3hot := true } }) answers .d3hot
      exact ⟨(congrArg Hif.d3hot started :), (congrArg Hif.reset started :)⟩
    next mute => rfl

/-- Settles O2: the interface as step 4 of Table 15.17 sets it, which no interrupt, event or completion behind it changes. -/
theorem ifaceResetRowsComplete : Obligations.IfaceResetRowsComplete := by
  refine ⟨fun s => onDev_devStep rfl ?_, fun s src c h => replies_of_handler rfl h rfl⟩
  rcases running : s.dev.hif.reset with _ | i
  · simp [Dev.ifaceResetQuiesced, running]
  · obtain ⟨h, kept, sq, cq, ev, punt, inj, mask, vector, gap, resets, reset⟩ := Dev.ifaceResetQuiesced_hif running
    have part {β : Type} (g : Hif → β) (eq : ∀ x, g x = g x.besideMbox) : g (Dev.ifaceResetQuiesced s.dev).hif = g h := by
      rw [eq, kept, ← eq]
    exact ⟨(part Hif.sq fun _ => rfl).trans sq, (part Hif.cq fun _ => rfl).trans cq, (part Hif.ev fun _ => rfl).trans ev,
      (part Hif.punt fun _ => rfl).trans punt, (part Hif.inj fun _ => rfl).trans inj, (part Hif.mask fun _ => rfl).trans mask,
      (part Hif.vector fun _ => rfl).trans vector, (part Hif.gap fun _ => rfl).trans gap,
      (part Hif.resets fun _ => rfl).trans resets, (part Hif.reset fun _ => rfl).trans reset⟩

/-- Settles O3: doorbell by doorbell, over the ring it names and the value it writes. -/
theorem doorbellRowsComplete : Obligations.DoorbellRowsComplete := by
  refine ⟨fun s r v => onDev_devStep rfl ?_, fun s r v => onDev_devStep rfl ?_, fun s r v => onDev_devStep rfl ?_,
    fun s r v => onDev_devStep rfl ?_, fun s v => onDev_devStep rfl ?_⟩
  · by_cases opened : s.dev.dbOpen = true
    · simp only [Dev.sqTailWrite, opened, if_true, Bool.not_true, Bool.false_eq_true, if_false]
      rcases tget s.dev.quietExit.hif.sq r with _ | q
      · rfl
      · by_cases stopped : q.stopped = true <;> by_cases fits : v.toNat < q.size <;> simp [stopped, fits]
    · simp [Dev.sqTailWrite, opened]
  · by_cases opened : s.dev.dbOpen = true
    · simp only [Dev.cqHeadWrite, opened, if_true, Bool.not_true, Bool.false_eq_true, if_false, Dev.headOk_iff]
      rcases tget s.dev.quietExit.hif.cq r with _ | q
      · rfl
      · dsimp only; split <;> simp [*]
    · simp [Dev.cqHeadWrite, opened]
  · by_cases opened : s.dev.dbOpen = true
    · simp only [Dev.puntHeadWrite, opened, if_true, Bool.not_true, Bool.false_eq_true, if_false, Dev.headOk_iff]
      rcases tget s.dev.quietExit.hif.punt r with _ | q
      · rfl
      · dsimp only; split <;> simp [*]
    · simp [Dev.puntHeadWrite, opened]
  · by_cases opened : s.dev.dbOpen = true
    · simp only [Dev.injectTailWrite, opened, if_true, Bool.not_true, Bool.false_eq_true, if_false]
      rcases tget s.dev.quietExit.hif.inj r with _ | q
      · rfl
      · dsimp only; split <;> simp [*]
    · simp [Dev.injectTailWrite, opened]
  · by_cases opened : s.dev.dbOpen = true
    · simp only [Dev.eventHeadWrite, opened, if_true, Bool.not_true, Bool.false_eq_true, if_false, Dev.headOk_iff]
      rcases s.dev.quietExit.hif.ev with _ | q
      · rfl
      · dsimp only; split <;> simp [*]
    · simp [Dev.eventHeadWrite, opened]

end Sys2Proof
end
section
/-! PROOFS. O4: the registers of BAR0, the mailboxes and the vectors. -/

namespace Sys2Proof.Machine
open Sys2Proof

namespace Dev

/-! ### Mailboxes and vectors (R483, R494) -/

@[simp] theorem quietExit_cmds (d) : (quietExit d).hif.cmds = d.hif.cmds := (congrArg Hif.cmds (quietExit_besideIrq d) :)
@[simp] theorem quietExit_intake (d) : (quietExit d).hif.intake = d.hif.intake := (congrArg Hif.intake (quietExit_besideIrq d) :)
@[simp] theorem quietExit_mbox (d) : (quietExit d).hif.mbox = d.hif.mbox := (congrArg Hif.mbox (quietExit_besideIrq d) :)

/-- A write with GO of a listed opcode is taken in (R463, R483). -/
theorem mbCtrlWrite_taken {m : Fin 8} {w : BitVec 32} {d : Dev} (answers : d.hif.answers = true) (idle : (tgetD d.hif.mbox {} m).go = false)
    (go : w.getLsbD 31 = true) (listed : isOpcode (w.toNat % 65536) = true) :
    (mbCtrlWrite m w d).hif.cmds = d.hif.cmds ++ [mboxCmd m (tgetD d.hif.mbox {} m) (w.toNat % 65536) d.hif.intake] ∧
    (mbCtrlWrite m w d).hif.intake = d.hif.intake + 1 ∧
    (mbCtrlWrite m w d).hif.mbox =
      tset d.hif.mbox {} m { tgetD d.hif.mbox {} m with opcode := w.toNat % 65536, go := true, attached := true } := by
  unfold mbCtrlWrite; dsimp only
  rw [if_neg (by rw [answers, idle]; decide), go, if_neg (by decide), logIn_hif, if_pos listed]
  exact ⟨congrArg (· ++ _) (quietExit_cmds _), congrArg (· + 1) (quietExit_intake _), quietExit_mbox _⟩

theorem mbCtrlWrite_idle {m : Fin 8} {w : BitVec 32} {d : Dev} (go : w.getLsbD 31 = false) : (mbCtrlWrite m w d).hif.cmds = d.hif.cmds := by
  unfold mbCtrlWrite; dsimp only; split
  · rfl
  · rw [go]; rfl

theorem vecUpdateAll_cause (d) : (vecUpdateAll d).hif.cause = d.hif.cause := (congrArg Hif.cause (vecUpdateAll_besideMsix d) :)
theorem vecUpdateAll_alarm (d) : (vecUpdateAll d).hif.alarm = d.hif.alarm := (congrArg Hif.alarm (vecUpdateAll_besideMsix d) :)
theorem vecUpdateAll_mask (d) : (vecUpdateAll d).hif.mask = d.hif.mask := (congrArg Hif.mask (vecUpdateAll_besideMsix d) :)

/-! ### HIF_ALARM (R482) -/

theorem setAlarms_alarm (l : List Nat) (d : Dev) {i : Nat} (h : i < 9) :
    (l.foldl setAlarm d).hif.alarm.getLsbD i = (d.hif.alarm.getLsbD i || l.contains i) := by
  induction l generalizing d with
  | nil => simp
  | cons a l ih => rw [List.foldl_cons, ih, setAlarm_alarm, List.contains_cons]; simp [h, Bool.or_assoc, beq_eq_decide]

/-! ### BAR0 (R480) -/

/-- An access with no effect: before the endpoint answers, or not a naturally aligned one of 4 or 8 bytes. -/
def bar0Closed (d : Dev) (off size : Nat) : Prop := d.hif.answers = false ∨ (size ≠ 4 ∧ size ≠ 8) ∨ off % size ≠ 0

theorem bar0Write_of_closed {off size : Nat} {be : BitVec 8} {data : BitVec 64} {d : Dev} (h : d.bar0Closed off size) :
    bar0Write off size be data d = d := by
  unfold bar0Write; dsimp only
  refine if_pos ?_
  rcases h with h | ⟨h4, h8⟩ | h <;> simp [*]

theorem bar0Register_of_closed {nv : Nv} {off size : Nat} {be : BitVec 8} {data : BitVec 64} {d : Dev} (h : d.bar0Closed off size) :
    bar0Register nv off size be data d = d := by
  unfold bar0Register; split
  next alarm =>
    have mute : d.hif.answers = false := by
      rcases h with h | ⟨h4, h8⟩ | h
      · exact h
      · simp [h4, h8] at alarm
      · simp only [Bool.and_eq_true, Bool.or_eq_true, decide_eq_true_eq, beq_iff_eq] at alarm
        obtain ⟨rfl, ⟨rfl, -⟩ | ⟨rfl, -⟩⟩ := alarm <;> cases h rfl
    simp [alarmWrite, mute]
  next => exact bar0Write_of_closed h

theorem bar0Write_intCause (data : BitVec 64) {d : Dev} (answers : d.hif.answers = true) :
    bar0Write 0x2000 8 0xFF#8 data d = d.intCauseWrite data := by
  simp [bar0Write, answers, List.range_succ]

theorem bar0Write_intMask (data : BitVec 64) {d : Dev} (answers : d.hif.answers = true) :
    bar0Write 0x2008 8 0xFF#8 data d = d.intMaskWrite data := by
  simp [bar0Write, answers, List.range_succ]

/-- A 4-byte access writes the half of HIF_INT_MASK that it names (log 57). -/
theorem bar0Write_intMaskHigh (data : BitVec 64) {d : Dev} (answers : d.hif.answers = true) :
    bar0Write 0x200C 4 0x0F#8 data d = d.intMaskWrite ((data <<< 32) ||| (d.hif.mask.setWidth 64 &&& 0xFFFFFFFF#64)) := by
  simp [bar0Write, answers, List.range_succ]

theorem getLsbD_low32 (k : Nat) : (0xFFFFFFFF#64).getLsbD k = decide (k < 32) := by
  rw [BitVec.getLsbD_ofNat, show 0xFFFFFFFF = 2 ^ 32 - 1 from rfl, Nat.testBit_two_pow_sub_one]
  simp only [← Bool.decide_and, decide_eq_decide]; omega

/-- The word with a new upper half keeps the lower half of the old one. -/
theorem halves_low (data : BitVec 64) (m : BitVec 43) :
    (((data <<< 32) ||| (m.setWidth 64 &&& 0xFFFFFFFF#64)).setWidth 43).setWidth 32 = m.setWidth 32 :=
  BitVec.eq_of_getLsbD_eq fun k hk => by
    simp only [BitVec.getLsbD_setWidth, BitVec.getLsbD_or, BitVec.getLsbD_and, BitVec.getLsbD_shiftLeft, getLsbD_low32]
    simp [hk, show k < 43 by omega, show k < 64 by omega]

theorem halves_high (data : BitVec 64) (m : BitVec 43) :
    ((((data <<< 32) ||| (m.setWidth 64 &&& 0xFFFFFFFF#64)).setWidth 43) >>> 32).setWidth 11 = data.setWidth 11 :=
  BitVec.eq_of_getLsbD_eq fun k hk => by
    simp only [BitVec.getLsbD_setWidth, BitVec.getLsbD_ushiftRight, BitVec.getLsbD_or, BitVec.getLsbD_and, BitVec.getLsbD_shiftLeft, getLsbD_low32]
    simp [hk, show 32 + k < 43 by omega, show 32 + k < 64 by omega]

theorem bar0Write_mbCtrl (m : Fin 8) (data : BitVec 64) {d : Dev} (answers : d.hif.answers = true) :
    bar0Write (0x1000 + 256 * m) 4 0x0F#8 data d = d.mbCtrlWrite m (data.setWidth 32) := by
  fin_cases m <;> simp [bar0Write, bar0Word, answers, List.range_succ]
  rfl

theorem bar0Write_sqTail (r : Fin 16) (data : BitVec 64) {d : Dev} (answers : d.hif.answers = true) :
    bar0Write (0x100 + 16 * r) 4 0x0F#8 data d = d.sqTailWrite r (data.setWidth 16).toNat := by
  fin_cases r <;> simp [bar0Write, bar0Word, answers, List.range_succ]

end Dev
end Sys2Proof.Machine

namespace Sys2Proof
open Sys2Proof.Machine

/-- Settles O4: register by register. -/
theorem registerRowsComplete : Obligations.RegisterRowsComplete := by
  refine ⟨fun s m w => onDev_devStep rfl ?_, fun s v => onDev_devStep rfl ?_, fun s v => onDev_devStep rfl ?_,
    fun s off size be data => onDev_devStep rfl ?_, fun s v => onDev_devStep rfl ?_, fun s v a x b => onDev_devStep rfl ?_,
    fun d off size bad => ?_, fun d => ⟨?_, ?_, ?_⟩⟩
  · dsimp only
    split
    next opened =>
      refine ⟨fun go => Dev.mbCtrlWrite_idle go, fun go listed => ?_⟩
      obtain ⟨cmds, intake, mbox⟩ := Dev.mbCtrlWrite_taken (m := m) opened.1 opened.2 go listed
      exact ⟨cmds, intake, by rw [mbox, tgetD_tset_same]⟩
    next closed =>
      unfold Dev.mbCtrlWrite
      exact if_pos (by grind)
  · unfold Dev.intCauseWrite
    split
    · exact ⟨Dev.vecUpdateAll_cause _, Dev.vecUpdateAll_alarm _⟩
    · rfl
  · unfold Dev.alarmWrite
    split
    next answers =>
      rw [if_neg (by simp [answers])]
      exact ⟨_, rfl, fun i hi => Dev.setAlarms_alarm _ _ hi⟩
    next mute => exact if_pos (by simpa using mute)
  · have register (hoff : off ≠ 0x3000) : Dev.bar0Register s.nv off size be data s.dev = Dev.bar0Write off size be data s.dev := by
      simp [Dev.bar0Register, hoff]
    refine ⟨fun closed => Dev.bar0Register_of_closed closed, ?_, ?_, ?_, ?_, ?_, ?_⟩
    · rintro rfl rfl rfl
      rw [register (by decide)]
      show s.onDev _ = _
      by_cases answers : s.dev.hif.answers = true
      · rw [Dev.bar0Write_intCause data answers]; rfl
      · rw [Dev.bar0Write_of_closed (.inl (by simpa using answers))]
        simp [State.onDev, Dev.intCauseWrite, answers]
    · rintro rfl rfl rfl; rfl
    · rintro rfl rfl rfl answers
      rw [register (by decide), Dev.bar0Write_intMask data answers]
      have mask : (Dev.intMaskWrite data s.dev).hif.mask = data.setWidth 43 := Dev.vecUpdateAll_mask _
      refine ⟨mask, ?_⟩
      rw [← mask]; simp [Dev.bar0Read, Dev.bar0Reg]
    · rintro rfl rfl rfl answers
      rw [register (by decide), Dev.bar0Write_intMaskHigh data answers, Dev.intMaskWrite, Dev.vecUpdateAll_mask]
      exact ⟨Dev.halves_low .., Dev.halves_high ..⟩
    · rintro m rfl rfl rfl answers
      rw [register (by omega), Dev.bar0Write_mbCtrl m data answers]; rfl
    · rintro r rfl rfl rfl answers
      rw [register (by omega), Dev.bar0Write_sqTail r data answers]; rfl
  · dsimp only [Dev.msixGapExpiry]
    split
    next ended =>
      rw [if_pos (by simpa using ended)]
      refine ⟨Dev.vecSend_gapHeld .., fun enabled unmasked vector => ?_⟩
      rw [Dev.vecSend_open]
      simp only [Dev.vecOpen, enabled, unmasked, vector]; rfl
    next held => exact if_neg (by simpa using held)
  · dsimp only [Dev.msixVectorMask]
    split
    next answers =>
      rw [if_neg (by simp [answers])]
      have kept := Dev.msixFlush_besideMsix ({ s.dev with hif := { s.dev.hif with
        msixUnmasked := if b then s.dev.hif.msixUnmasked.filter (· != v.val) else v.val :: s.dev.hif.msixUnmasked.filter (· != v.val)
        msixEntry := tset s.dev.hif.msixEntry (0, 0) v.val (a, x) } })
      refine ⟨?_, (congrArg Hif.cause kept :), ?_⟩
      · refine (congrArg (fun h : Hif => h.msixUnmasked.contains v.val) kept :).trans ?_
        cases b <;> simp [Hif.besideMsix]
      · exact (congrArg (fun h : Hif => tgetD h.msixEntry (0, 0) v.val) kept :).trans (tgetD_tset_same ..)
    next mute => exact if_pos (by simpa using mute)
  · rcases bad with ⟨h4, h8⟩ | h <;> simp [Dev.bar0Read, *]
  · rfl
  · simp [Dev.bar0Read, Dev.bar0Reg]
  · simp [Dev.bar0Read, Dev.bar0Reg]

end Sys2Proof
end
section
/-! PROOFS. O5 and O6: the rings and their commands, the inject slots and the health set. -/

namespace Sys2Proof.Machine
open Sys2Proof

namespace Dev

/-! ### Intake of submission entries (R489, R490) -/

@[simp] theorem sqServed_sq (d r) : (sqServed d r).hif.sq = d.hif.sq := by unfold sqServed; split <;> rfl
@[simp] theorem sqServed_cq (d r) : (sqServed d r).hif.cq = d.hif.cq := by unfold sqServed; split <;> rfl
@[simp] theorem sqServed_cmds (d r) : (sqServed d r).hif.cmds = d.hif.cmds := by unfold sqServed; split <;> rfl

/-- Ring `r` has its turn, and the device takes entries in. -/
def takesFrom (d : Dev) (r : Nat) : Prop :=
  d.hif.up = true ∧ d.hif.chrysalis = false ∧ d.hif.reset = none ∧ d.hif.headless = false ∧ d.sqTurn = some r

theorem takesFrom_iff {d : Dev} {r : Nat} : d.takesFrom r ↔
    ¬ (!d.hif.up || d.hif.chrysalis || d.hif.reset.isSome || d.hif.headless || d.sqTurn != some r) = true := by
  simp [takesFrom, and_assoc]

theorem submissionTake_waits {r : Nat} {e : HostRead} {d : Dev} (h : ¬ d.takesFrom r) : submissionTake r e d = d :=
  if_pos (by_contra fun turn => h (takesFrom_iff.2 turn))

section
variable {r : Nat} {d : Dev} {q : Sq} (turn : d.takesFrom r) (ring : tget d.hif.sq r = some q)
include turn ring

theorem submissionTake_failed : (submissionTake r none d).hif.sq = tput d.hif.sq r { q with stopped := true } := by
  unfold submissionTake
  rw [if_neg (takesFrom_iff.1 turn), ring]
  exact (congrArg Hif.sq (ringFault_besideIrq ..) :)

theorem submissionTake_taken {b : Bytes} (tag : d.tagFault r (field b 4 2) = none) (good : entryBad b r = false)
    (cq : (tget d.hif.cq q.cq).isSome = true) :
    (submissionTake r (some b) d).hif.cmds = d.hif.cmds ++ [entryCmd b r d.hif.intake] ∧
    (submissionTake r (some b) d).hif.sq = tput d.hif.sq r { q with head := (q.head + 1) % q.size } := by
  obtain ⟨k, hk⟩ := Option.isSome_iff_exists.1 cq
  unfold submissionTake
  rw [if_neg (takesFrom_iff.1 turn), ring]
  simp [tag, good, hk]

end

/-! ### Ring commands (R486, R497) -/

theorem ringExists_completion (d : Dev) (idx : Nat) : d.ringExists 1 idx = (tget d.hif.cq idx).isSome := rfl

/-- The device with the ring that the parameters `b` of HIF_RING_CREATE describe (Table 15.9). -/
def withRing (d : Dev) (b : Bytes) : Dev :=
  let idx := field b 1 1; let size := 2 ^ field b 2 1; let base := field b 8 8
  let h := d.hif
  { d with hif := (match field b 0 1 with
      | 0 => { h with sq := tput h.sq idx { size := size, cq := field b 3 1, base := base } }
      | 1 => { h with cq := tput h.cq idx { size := size, base := base } }
      | 2 => { h with ev := some { size := size, base := base, wb := field b 16 8 } }
      | 3 => { h with punt := tput h.punt idx { size := size, slot := 2 ^ field b 4 1, base := base } }
      | _ => { h with inj := tput h.inj idx { size := size, slot := 2 ^ field b 4 1, pipeline := field b 5 1, base := base, wb := field b 16 8 } }) }

theorem ringExists_withRing (d : Dev) (b : Bytes) : (d.withRing b).ringExists (field b 0 1) (field b 1 1) = true := by
  unfold ringExists withRing; split <;> simp [*]

/-! ### Inject slots (R498, R500) -/

theorem injectTakes_iff {d : Dev} {r : Nat} : (d.injTurn = some r ∧ d.hif.reset = none ∧ d.hif.injPace ≤ d.now) ↔
    ¬ (d.injTurn != some r || d.hif.reset.isSome || decide (d.now < d.hif.injPace)) = true := by
  simp [and_assoc]

section
variable {r : Nat} {hdr : HostRead} {f : RxFrame} {d : Dev} {q : InjRing} (ring : tget d.hif.inj r = some q)
include ring

theorem injectSlot_waits (h : ¬ (d.injTurn = some r ∧ d.hif.reset = none ∧ d.hif.injPace ≤ d.now)) : injectSlot r hdr f d = d := by
  unfold injectSlot; rw [ring]
  exact if_pos (by_contra fun turn => h (injectTakes_iff.2 turn))

/-- A slot that is taken moves the head on, passes the turn and sets its cause, whether or not its frame is good. -/
theorem injectSlot_taken (h : d.injTurn = some r ∧ d.hif.reset = none ∧ d.hif.injPace ≤ d.now) :
    (injectSlot r hdr f d).hif.inj = tput d.hif.inj r { q with head := if q.head + 1 = q.size then 0 else q.head + 1 } ∧
    (injectSlot r hdr f d).hif.injLast = r ∧ (25 + r < 43 → (injectSlot r hdr f d).hif.cause.getLsbD (25 + r) = true) := by
  unfold injectSlot; rw [ring]; dsimp only; rw [if_neg (injectTakes_iff.1 h)]
  refine ⟨?_, ?_, setCause_getLsbD _⟩
  · refine (congrArg Hif.inj (setCause_besideIrq ..) :).trans ?_
    rw [emit_hif]; split <;> rfl
  · refine (congrArg Hif.injLast (setCause_besideIrq ..) :).trans ?_
    rw [emit_hif]; split <;> rfl

end

/-! ### The SMBus health set (R502) -/

@[simp] theorem emit_smbus (d : Dev) (a : Option Bytes) (nack : Bool) : d.emit (.smbus a nack) = { d with out := .smbus a nack :: d.out } := by
  simp [emit, onLane, txOff, onPort]

/-- What a read of `code` under protocol `p` answers. -/
def healthAnswer (d : Dev) (p : SmbProto) (code : Nat) : Option Bytes :=
  match d.healthCode code with
  | some (q, b) => if q = p then some b else none
  | none => none

theorem smbusHealth_answers {d : Dev} (p : SmbProto) (code : Nat) (answers : d.hif.answers = true) :
    (smbusHealth p code d).hif = d.hif ∧ (smbusHealth p code d).out = .smbus (d.healthAnswer p code) false :: d.out := by
  have sent : smbusHealth p code d = (if code = 0x30 then { d with fresh := d.fresh + 1 } else d).emit (.smbus (d.healthAnswer p code) false) := by
    unfold smbusHealth healthAnswer
    rw [if_neg (by simp [answers])]
    rcases d.healthCode code with _ | ⟨q, b⟩ <;> rfl
  rw [sent, emit_smbus]
  split <;> exact ⟨rfl, rfl⟩

end Dev
end Sys2Proof.Machine

namespace Sys2Proof
open Sys2Proof.Machine

/-- Settles O5: the intake, and command by command its answer. -/
theorem ringRowsComplete : Obligations.RingRowsComplete := by
  refine ⟨fun s r e => onDev_devStep rfl ?_, fun s src c h => ?_, fun s src c h => ?_, fun s src c h => ?_, fun s src c h => ?_⟩
  · split
    next turn =>
      rcases ring : tget s.dev.hif.sq r with _ | q
      · unfold Dev.submissionTake
        rw [if_neg (Dev.takesFrom_iff.1 turn), ring]
      · refine ⟨?_, ?_⟩
        · rintro rfl
          rw [Dev.submissionTake_failed turn ring, tget_tput_same]
        · rintro b rfl tag good cq
          obtain ⟨cmds, sq⟩ := Dev.submissionTake_taken turn ring tag good cq
          exact ⟨cmds, by rw [sq, tget_tput_same]⟩
    next waits => exact Dev.submissionTake_waits waits
  · have handled : Dev.hifRingCreate c s.dev =
        if Dev.ringArgsOk c.inl = false ∨ (field c.inl 0 1 = 0 ∧ tget s.dev.hif.cq (field c.inl 3 1) = none) then s.refusal .badArg
        else if s.dev.ringExists (field c.inl 0 1) (field c.inl 1 1) then s.refusal .refusedBusy
        else .done (s.dev.withRing c.inl) {} := by
      have checks : Dev.hifRingCreate c s.dev = s.dev.check
          [(!Dev.ringArgsOk c.inl || (field c.inl 0 1 == 0 && !s.dev.ringExists 1 (field c.inl 3 1)), .badArg),
            (s.dev.ringExists (field c.inl 0 1) (field c.inl 1 1), .refusedBusy)] (.done (s.dev.withRing c.inl) {}) := rfl
      simp [checks, State.refusal, Dev.ringExists_completion]
    have replies := replies_of_handler (i := .hifRingCreate src) rfl h handled
    split at replies
    next bad => rwa [if_pos bad]
    next good =>
      rw [if_neg good]
      split at replies
      next present => rwa [if_pos present]
      next absent =>
        rw [if_neg absent]
        exact ⟨_, replies, Dev.ringExists_withRing .., fun kind => by simp [Dev.withRing, kind], fun kind => by simp [Dev.withRing, kind]⟩
  · refine replies_of_handler rfl h ?_
    simp [Dev.hifRingDelete, State.refusal]
  · intro bad clean flags cbs cbs' cir cir' p
    have fits : ¬ (2 ≤ c.f 3 1 ∨ c.f 4 4 < 64 ∨ 4194304 < c.f 4 4 ∨ c.f 8 8 = 0 ∨ 200000000 < c.f 8 8) := by omega
    simp only [not_or] at fits
    obtain ⟨h1, h2, h3, h4, h5⟩ := fits
    refine ⟨fun kind ring => replies_of_handler rfl h ?_, fun kind ring => replies_of_handler rfl h ?_,
      fun kind idx ring => replies_of_handler rfl h ?_⟩
    · have other : c.f 2 1 ≠ 0xFF := by omega
      simp [Dev.hifSetPunt, bad, clean, kind, h1, h2, h3, h4, h5, other, p, Nat.not_le.2 ring]
    · simp [Dev.hifSetPunt, bad, clean, kind, h1, h2, h3, h4, h5, ring, p]
    · simp [Dev.hifSetPunt, bad, clean, kind, h1, h2, h3, h4, h5, ring, p, State.refusal, Nat.not_le.2 idx]
  · refine replies_of_handler rfl h ?_
    simp [Dev.hifGetPktStatus, State.refusal, State.report, Dev.statusReply]

/-- Settles O6: command by command, and the inject slot and the health set. -/
theorem informationRowsComplete : Obligations.InformationRowsComplete := by
  refine ⟨fun s src c h good clean => ?_, fun s src c h clean good queue => ?_, fun s r hdr f => onDev_devStep rfl ?_,
    fun s p code => onDev_devStep rfl ?_⟩
  · refine ⟨_, replies_of_handler rfl h (by simp only [Dev.devGetInfo, good, clean, Dev.check_cons, Dev.check_nil]; rfl), ?_⟩
    simp [pack, packFrom, padTo, le, field, slice, unLe]
  · refine replies_of_handler rfl h ?_
    unfold Dev.objGetState
    rcases s.dev.objOf c.hType c.hIdx with _ | o
    · rfl
    · by_cases kind : c.hType = 0x0F <;> simp_all
  · rcases ring : tget s.dev.hif.inj r with _ | q
    · simp [Dev.injectSlot, ring]
    · dsimp only
      split
      next turn =>
        obtain ⟨inj, last, cause⟩ := Dev.injectSlot_taken (hdr := hdr) (f := f) ring turn
        exact ⟨by rw [inj, tget_tput_same], last, cause (by omega)⟩
      next waits => exact Dev.injectSlot_waits ring waits
  · split
    next answers =>
      obtain ⟨hif, out⟩ := Dev.smbusHealth_answers p code.toNat answers
      refine ⟨hif, _, out, fun zero => ?_, fun two => ?_, fun four => ?_⟩ <;> simp [Dev.healthAnswer, Dev.healthCode, *, eq_comm]
    next mute => simp [Dev.smbusHealth, mute]

end Sys2Proof
end
section
/-! PROOFS. O13 and O14: the event path. `Dev.evPut` has three outcomes, each with its equation. -/

namespace Sys2Proof.Machine
open Sys2Proof

namespace Dev

/-! ### The three places of an event (R523, R525, R531) -/

/-- The filter suppresses the event. -/
def evSuppressed (d : Dev) (e : Event) : Prop := (e.sev != 3 && d.evt.suppress.contains e.type) = true

/-- The counter of its type takes the event: it is open, or the FIFO has no entry for it. -/
def evCounted (d : Dev) (e : Event) : Prop := (d.evt.coal.any (·.1 == e.type) || !evFits d.evt.fifo e) = true

/-- `d` with the event counted for its type (R532). -/
def evTally (d : Dev) (e : Event) : Dev :=
  { d with evt := { d.evt with counts := tset d.evt.counts 0 e.type (sat32 (tgetD d.evt.counts 0 e.type + 1)) } }

theorem evPut_suppressed {d : Dev} {e : Event} (h : d.evSuppressed e) :
    (evPut d e).evt = { (d.evTally e).evt with suppressed := d.evt.suppressed + 1 } := by
  unfold evSuppressed at h; unfold evPut; dsimp only; rw [if_pos h]; rfl

theorem evPut_counted {d : Dev} {e : Event} (h : ¬ d.evSuppressed e) (k : d.evCounted e) : evPut d e = (d.evTally e).evCoalesce e := by
  unfold evSuppressed at h; unfold evCounted at k; unfold evPut; dsimp only; rw [if_neg h, if_pos k]; rfl

theorem evPut_queued {d : Dev} {e : Event} (h : ¬ d.evSuppressed e) (k : ¬ d.evCounted e) :
    (evPut d e).evt = { (d.evTally e).evt with fifo := d.evt.fifo ++ [e], hiFifo := max d.evt.hiFifo (d.evt.fifo.length + 1) } := by
  unfold evSuppressed at h; unfold evCounted at k; unfold evPut; dsimp only; rw [if_neg h, if_neg k]; rfl

theorem evCoalesce_evt (d : Dev) (e : Event) : ∃ l, (evCoalesce d e).evt = { d.evt with coal := l, coalesced := d.evt.coalesced + 1 } := by
  unfold evCoalesce; dsimp only; split
  · rw [setAlarm_evt]; exact ⟨_, rfl⟩
  · exact ⟨_, rfl⟩

/-- The first event to be coalesced sets EVT_FLOOD (R525). -/
theorem evCoalesce_flood {d : Dev} (e : Event) (h : d.evt.coal = []) : (evCoalesce d e).hif.alarm.getLsbD 6 = true := by
  simp [evCoalesce, h, setAlarm_alarm]

theorem evPut_counts (d : Dev) (e : Event) : (evPut d e).evt.counts = (d.evTally e).evt.counts := by
  by_cases h : d.evSuppressed e
  · rw [evPut_suppressed h]
  · by_cases k : d.evCounted e
    · obtain ⟨_, evt⟩ := evCoalesce_evt (d.evTally e) e
      rw [evPut_counted h k, evt]
    · rw [evPut_queued h k]

/-- A critical event is never suppressed (R531). -/
theorem evPut_critical {d : Dev} {e : Event} (critical : e.sev = 3) : (evPut d e).evt.suppressed = d.evt.suppressed := by
  have h : ¬ d.evSuppressed e := by simp [evSuppressed, critical]
  by_cases k : d.evCounted e
  · obtain ⟨_, evt⟩ := evCoalesce_evt (d.evTally e) e
    rw [evPut_counted h k, evt]; rfl
  · rw [evPut_queued h k]; rfl

/-! ### Records and summaries (R525, R527) -/

theorem evRecords_length (e : Event) (n : Nat) : (evRecords e n).length = if e.detail.length ≤ 32 then 1 else 2 := by
  unfold evRecords; dsimp only; split <;> rfl

/-- The detail of EV_SUMMARY for the counter `c` of type `t` (Table 16.7). -/
def summaryDetail (t : Nat) (c : Coal) : List Fld := [.u 2 t, .u 1 c.maxSev, .u 1 0, .u 4 c.count, .u 8 c.first, .u 8 c.last, .u 8 0]

theorem summary_type (t : Nat) (c : Coal) : field ((pack (summaryDetail t c)).take 64) 0 2 = t % 65536 := by
  have bytes : (pack (summaryDetail t c)).take 64 = [] ++ (le 2 t ++ (le 1 c.maxSev ++ le 1 0 ++ le 4 c.count ++ le 8 c.first ++ le 8 c.last ++ le 8 0)) := by
    simp [pack, packFrom, summaryDetail, padTo]
  rw [bytes]; exact field_append _ rfl

theorem summary_count (t : Nat) (c : Coal) : field ((pack (summaryDetail t c)).take 64) 4 4 = c.count % 2 ^ 32 := by
  have bytes : (pack (summaryDetail t c)).take 64 = (le 2 t ++ le 1 c.maxSev ++ le 1 0) ++ (le 4 c.count ++ (le 8 c.first ++ le 8 c.last ++ le 8 0)) := by
    simp [pack, packFrom, summaryDetail, padTo]
  rw [bytes]; exact field_append _ (by simp)

/-! ### Statistics and tests (R532, R533) -/

/-- The record of EVT_GET_STATS: the 64-byte header, then a count for each type. -/
def evStats (d : Dev) : Bytes :=
  let v := d.evt
  (le 8 v.written ++ le 8 v.coalesced ++ le 8 v.suppressed ++ le 8 v.summaries ++ le 4 v.store.length ++ le 2 v.hiFifo ++ le 2 0 ++
    le 4 v.nextSeq ++ List.replicate 20 0) ++ ((List.range 3328).map fun t => le 4 (tgetD v.counts 0 t)).flatten

theorem evStats_length (d : Dev) : d.evStats.length = 64 + 13 * 256 * 4 := by
  have counts : ((List.range 3328).map fun t => le 4 (tgetD d.evt.counts 0 t)).flatten.length = 3328 * 4 := by
    simp only [List.length_flatten, List.map_map, Function.comp_def, le_length, List.map_const', List.length_range, List.sum_replicate, smul_eq_mul]
  simp only [evStats, List.length_append, le_length, List.length_replicate, counts]

theorem evStats_written (d : Dev) : field d.evStats 0 8 = d.evt.written % 2 ^ 64 := by
  simp only [evStats, List.append_assoc]
  exact field_append (a := []) _ rfl

theorem evStats_nextSeq (d : Dev) : field d.evStats 40 4 = d.evt.nextSeq % 2 ^ 32 := by
  have place : (le 8 d.evt.written ++ le 8 d.evt.coalesced ++ le 8 d.evt.suppressed ++ le 8 d.evt.summaries ++ le 4 d.evt.store.length ++
    le 2 d.evt.hiFifo ++ le 2 0).length = 40 := by simp
  show _ = d.evt.nextSeq % 256 ^ 4
  simpa only [evStats, List.append_assoc] using field_append d.evt.nextSeq place

/-- The detail that EVT_TEST carries (R533). -/
def evtDetail (pl : HostRead) (c : Cmd) : Bytes := if c.payload = 0 then List.replicate 32 0 else slice (pl.getD []) 0 32

end Dev
end Sys2Proof.Machine

namespace Sys2Proof
open Sys2Proof.Machine

/-- Settles O14: the three places of an event, each by its equation. -/
theorem eventGoesToOnePlace : Obligations.EventGoesToOnePlace := by
  intro d e
  refine ⟨by rw [Dev.evPut_counts]; exact tgetD_tset_same .., ?_, ?_, Dev.evPut_critical, ?_⟩
  · by_cases h : d.evSuppressed e
    · rw [Dev.evPut_suppressed h]; simp only [Dev.evTally]; omega
    · by_cases k : d.evCounted e
      · obtain ⟨_, evt⟩ := Dev.evCoalesce_evt (d.evTally e) e
        rw [Dev.evPut_counted h k, evt]; simp only [Dev.evTally]; omega
      · rw [Dev.evPut_queued h k]; simp only [Dev.evTally, List.length_append, List.length_singleton]; omega
  · by_cases h : d.evSuppressed e
    · rw [Dev.evPut_suppressed h]; exact .inl rfl
    · by_cases k : d.evCounted e
      · obtain ⟨_, evt⟩ := Dev.evCoalesce_evt (d.evTally e) e
        rw [Dev.evPut_counted h k, evt]; exact .inl rfl
      · rw [Dev.evPut_queued h k]
        simp only [Dev.evCounted, Bool.or_eq_true, not_or, Bool.not_eq_true', Bool.not_eq_false] at k
        exact .inr ⟨rfl, k.2⟩
  · intro more empty
    by_cases h : d.evSuppressed e
    · rw [Dev.evPut_suppressed h] at more; exact absurd more (lt_irrefl _)
    · by_cases k : d.evCounted e
      · rw [Dev.evPut_counted h k]; exact Dev.evCoalesce_flood e empty
      · rw [Dev.evPut_queued h k] at more; exact absurd more (lt_irrefl _)

/-- Settles O13: row by row and command by command. -/
theorem eventRowsComplete : Obligations.EventRowsComplete := by
  refine ⟨fun s => onDev_devStep rfl ?_, fun s => onDev_devStep rfl ?_, fun s => onDev_devStep rfl ?_,
    fun s type key => onDev_devStep rfl ?_, fun s src c h => ?_, fun s src c h good => ?_, fun s src pl c h => ?_⟩
  · unfold Dev.eventRecordWrite
    rcases s.dev.evt.fifo with _ | ⟨e, rest⟩
    · rfl
    · dsimp only; split
      next room => exact ⟨rfl, rfl, rfl, rfl, Dev.evRecords_length ..⟩
      next full => rfl
  · unfold Dev.coalesceClose
    rcases s.dev.evt.coal with _ | ⟨⟨t, c⟩, rest⟩
    · rfl
    · dsimp only; split
      next shallow => exact ⟨rfl, _, rfl, rfl, rfl, Dev.summary_type .., Dev.summary_count ..⟩
      next deep => rfl
  · unfold Dev.eventRingDeliver
    rcases s.dev.hif.ev with _ | q
    · rfl
    · dsimp only; split
      next fits =>
        rw [if_neg (by simp [fits])]
        exact ⟨by simp, (congrArg Hif.ev (Dev.setCause_besideIrq ..) :), Dev.setCause_getLsbD _ (by decide)⟩
      next waits => exact if_pos (by by_contra open_; simp at open_; exact waits open_)
  · simp only [Dev.eventWindowEnd]
    rcases s.dev.evWindow type.toNat key.toNat with _ | w
    · rfl
    · by_cases ended : w.ends ≤ s.dev.now
      · simp only [ended, if_true]
        rcases w.first with _ | e <;> rfl
      · simp only [ended, if_false]
  · refine replies_of_handler rfl h ?_
    by_cases on : bit (c.f 2 1) 0 = true <;> simp [Dev.evtSetFilter, State.refusal, on, or_assoc]
  · exact ⟨_, Dev.evStats_length s.dev, Dev.evStats_written s.dev, Dev.evStats_nextSeq s.dev,
      replies_of_handler rfl h (by simp [Dev.evtGetStats, good, Dev.evStats])⟩
  · refine ⟨s.dev.evPut { s.dev.mkEvent 7 (c.f 0 1) c.handle [.raw 1 (Dev.evtDetail pl c)] with flags := (s.dev.mkEvent 7 (c.f 0 1) c.handle [.raw 1 (Dev.evtDetail pl c)]).flags + 8 }, ⟨_, rfl, rfl, rfl⟩,
      replies_of_handler rfl h ?_, fun critical => Dev.evPut_critical critical, ?_⟩
    · simp [Dev.evtTest, State.refusal, Dev.evtDetail, or_assoc]
    · rw [Dev.evPut_counts]; exact tgetD_tset_same ..

end Sys2Proof
end
section
/-! PROOFS. O8: enabling, disabling, starting and stopping a port. What a row of the queues leaves as it was of the ports and the lanes is read off
`Dev.besideQueues`. -/

namespace Sys2Proof.Machine
open Sys2Proof

namespace Dev

/-! ### PORT_ENABLE and PORT_DISABLE (Table 16.5) -/

theorem portEnable_of_stopped {c : Cmd} {d : Dev} (good : c.bad 1 = false) (defined : (d.getPort c.hIdx).width ≠ 0)
    (stopped : (d.getPort c.hIdx).obj.st = .stopped) : portEnable c d =
    .done ((d.setPort c.hIdx { d.getPort c.hIdx with obj := { (d.getPort c.hIdx).obj with
      st := .starting, prev := .stopped, since := d.nowNs, failed := false, cancelled := false } }).portStarting c.hIdx) {} := by
  simp [portEnable, good, defined, Obj.enable, stopped]

theorem enable_begins {o : Obj} (ns : Nat) (h : o.st ≠ .stopped) : (o.enable ns).begins = false := by
  unfold Obj.enable; split <;> first | rfl | exact absurd ‹_› h

theorem disable_running {o : Obj} (ns bound : Nat) (h : o.st = .running) : (o.disable ns bound).status = .ok := by
  simp [Obj.disable, h]

/-! ### The detection cycle of a port that enters RUNNING (R46, R49) -/

@[simp] theorem outOfFrame_obj (t q) : (outOfFrame t q).obj = q.obj := by unfold outOfFrame; split <;> rfl
@[simp] theorem outOfFrame_stepDue (t q) : (outOfFrame t q).stepDue = q.stepDue := by unfold outOfFrame; split <;> rfl

theorem getPort_startAbility (d : Dev) (p : Nat) : (d.startAbility p).getPort p = outOfFrame d.now { d.getPort p with
    cycle := .ability, trained := false, anyAbility := false, loopRaised := false, stepDue := some (d.now + msT 20) } := by
  simp only [startAbility]
  rw [foldl_keeps_part (·.getPort p) _ fun x l => getPort_emit ..]
  simp

theorem getPort_startAutoneg (d : Dev) (p : Nat) : (d.startAutoneg p).getPort p = outOfFrame d.now { d.getPort p with
    cycle := .autoneg, trained := false, resolved := none, stepDue := some (d.now + msT 500) } := by
  simp [startAutoneg]

theorem Released.obj {a b : Port} (h : Released a b) : b.obj = a.obj := by obtain ⟨_, _, _, _, _, rfl⟩ := h; rfl
theorem Released.trained {a b : Port} (h : Released a b) : b.trained = a.trained := by obtain ⟨_, _, _, _, _, rfl⟩ := h; rfl
theorem Released.resolved {a b : Port} (h : Released a b) : b.resolved = a.resolved := by obtain ⟨_, _, _, _, _, rfl⟩ := h; rfl

section
variable {d : Dev} {p : Nat} (running : (d.getPort p).obj.st = .running)
include running

theorem startCycle_trained (off : (d.getPort p).negotiate = false) (mode : (d.getPort p).laneMode = 2) :
    d.startCycle p = (d.setPort p { d.getPort p with resolved := some 2 }).startAbility p := by
  simp [startCycle, running, off, mode]

theorem startCycle_direct (off : (d.getPort p).negotiate = false) (mode : (d.getPort p).laneMode ≠ 2) :
    d.startCycle p = (d.setPort p { d.getPort p with
      cycle := .none, trained := true, resolved := some (d.getPort p).laneMode, stepDue := none }).tryLinkUp p := by
  simp [startCycle, running, off, mode]

theorem startCycle_ability (on : (d.getPort p).negotiate = true) (able : bit (d.getPort p).allowed 2 = true) : d.startCycle p = d.startAbility p := by
  simp [startCycle, running, on, able]

theorem startCycle_autoneg (on : (d.getPort p).negotiate = true) (able : bit (d.getPort p).allowed 2 = false) :
    d.startCycle p = d.startAutoneg p := by
  simp [startCycle, running, on, able]

end

theorem startCycle_obj (d : Dev) (p : Nat) : ((d.startCycle p).getPort p).obj = (d.getPort p).obj := by
  unfold startCycle; dsimp only; (repeat' split)
  · rfl
  · rw [getPort_startAbility]; simp
  · rw [(tryLinkUp_released ..).obj]; simp
  · rw [getPort_startAbility]; simp
  · rw [getPort_startAutoneg]; simp

/-! ### What the queues leave of the ports and the lanes -/

/-- The ports and the lanes. -/
def lines (d : Dev) : Tab Port × Tab Lane := (d.port, d.lane)

theorem lines_of_besideQueues {d e : Dev} (h : e.besideQueues true = d.besideQueues true) : e.lines = d.lines := (congrArg lines h :)
theorem getPort_of_lines {d e : Dev} (h : e.lines = d.lines) (p : Nat) : e.getPort p = d.getPort p := by
  simp only [getPort, show e.port = d.port from congrArg Prod.fst h]
theorem getLane_of_lines {d e : Dev} (h : e.lines = d.lines) (l : Nat) : e.getLane l = d.getLane l := by
  simp only [getLane, show e.lane = d.lane from congrArg Prod.snd h]

theorem pinBases_lines (p : Nat) (d : Dev) : (pinBases p d).lines = d.lines := by
  unfold pinBases; split
  · rfl
  · refine foldl_keeps_part lines _ (fun x c => ?_) _ _
    dsimp only; split
    · rfl
    · split
      next taken => exact lines_of_besideQueues ((modQ_besideQueues ..).trans (takeEntry_besideQueues taken))
      next => rfl

theorem dropPort_lines (d : Dev) (p code len : Nat) : (d.dropPort p code len).lines = d.lines := rfl
theorem dropPort_tx (d : Dev) (p code len : Nat) : (d.dropPort p code len).tx = d.tx := rfl
theorem setPipeTx_lines (d : Dev) (i : Nat) (x : Pipe) (t : Tab (List Flight)) : ({ d.setPipe i x with tx := t } : Dev).lines = d.lines := rfl
theorem modPort_tx (d : Dev) (p : Nat) (f : Port → Port) : (d.modPort p f).tx = d.tx := rfl
theorem modLane_tx (d : Dev) (l : Nat) (f : Lane → Lane) : (d.modLane l f).tx = d.tx := rfl

theorem flushPort_lines (p : Nat) (d : Dev) : (flushPort p d).1.lines = d.lines := by
  have drop (q : Nat) (y : Dev) (e : QEntry) : (match tget y.buf.frame e.ptr with
      | some f => (releaseFrame (p / 8) q e.ptr y).dropPort p 37 f.fl.len
      | none => y).lines = y.lines := by
    split
    · exact (dropPort_lines ..).trans (lines_of_besideQueues (releaseFrame_besideQueues ..))
    · rfl
  simp only [flushPort]
  rw [foldl_keeps_part lines _ fun y f => dropPort_lines ..]
  refine (setPipeTx_lines ..).trans ?_
  refine foldl_keeps_part lines _ (fun y q => ?_) _ d
  exact foldl_keeps_part lines _ (drop q) _ _

theorem flushPort_tx (p : Nat) (d : Dev) : tgetD (flushPort p d).1.tx [] p = [] := by
  simp only [flushPort]
  rw [foldl_keeps_part Dev.tx _ fun y f => dropPort_tx ..]
  simp [tgetD]

/-! ### The end of a stop (R520) -/

theorem raiseObj_lines (d : Dev) (k : Nat) (x : Obj) (st : ObjSt) (b : Bool) (n : Nat) : (d.raiseObj k x st b n).lines = d.lines := by simp [lines]

theorem modLanes_tx (d : Dev) (p : Nat) (f : Lane → Lane) : (d.modLanes p f).tx = d.tx :=
  foldl_keeps_part Dev.tx _ (fun x l => modLane_tx x l f) _ _

theorem drive_lines (l : List Nat) (on : Bool) (d : Dev) : (l.foldl (fun (x : Dev) k => x.emit (.laneDrive k on)) d).lines = d.lines :=
  foldl_keeps_part lines _ (fun _ _ => by simp [lines]) _ _

theorem drive_tx (l : List Nat) (on : Bool) (d : Dev) : (l.foldl (fun (x : Dev) k => x.emit (.laneDrive k on)) d).tx = d.tx :=
  foldl_keeps_part Dev.tx _ (fun _ _ => by simp) _ _

/-- A start-up changes of its port the identity alone, and powers its lanes. -/
theorem portStarting_port (p : Nat) (d : Dev) :
    ∃ n, (d.portStarting p).getPort p = { d.getPort p with identity := n } := by
  refine ⟨d.openVal.1.toNat % 2 ^ 31, ?_⟩
  simp only [portStarting]
  rw [getPort_of_lines (drive_lines ..), getPort_modLanes, getPort_modPort_same]; rfl

theorem portStarting_power {p l : Nat} {d : Dev} (h : l ∈ d.lanesOf p) : ((d.portStarting p).getLane l).power = true := by
  simp only [portStarting]
  rw [getLane_of_lines (drive_lines ..), getLane_modLanes, if_pos]
  rwa [lanesOf_of_width (d := d) (by rw [getPort_modPort_same]; rfl)]

theorem portStarting_tx (p : Nat) (d : Dev) : (d.portStarting p).tx = d.tx := by
  simp only [portStarting]
  rw [drive_tx, modLanes_tx]; rfl

/-- A STOPPING port whose queues are drained, or whose bound has elapsed. -/
def stopEnds (d : Dev) (p : Nat) : Prop :=
  (d.getPort p).obj.st = .stopping ∧ (d.portQueued p = false ∨ due d.now (d.getPort p).obj.due = true)

/-- The device with the port stopped and its lanes powered down. -/
def portOff (p : Nat) (d : Dev) : Dev :=
  let d1 := (flushPort p d).1.raiseObj (portHandle p) (d.getPort p).obj .stopped (d.portQueued p) (flushPort p d).2
  (d.lanesOf p).foldl (fun (x : Dev) l => x.emit (.laneDrive l false))
    ((d1.modLanes p fun _ => {}).modPort p fun r => { r with obj := r.obj.stopped d.nowNs, link := .down })

theorem portStopDone_ends {p : Nat} {d : Dev} (h : d.stopEnds p) : portStopDone flushPort p d =
    if (d.getPort p).obj.held then (d.portOff p).portStarting p else d.portOff p := by
  obtain ⟨stopping, ended⟩ := h
  unfold portStopDone; exact if_pos (by simpa [stopping] using ended)

theorem portStopDone_waits {p : Nat} {d : Dev} (h : ¬ d.stopEnds p) : portStopDone flushPort p d = d := by
  unfold portStopDone; exact if_neg (by simpa [stopEnds] using h)

theorem portOff_port (p : Nat) (d : Dev) :
    (d.portOff p).getPort p = { d.getPort p with obj := (d.getPort p).obj.stopped d.nowNs, link := .down } := by
  simp only [portOff]
  rw [getPort_of_lines (drive_lines ..), getPort_modPort_same, getPort_modLanes, getPort_of_lines ((raiseObj_lines ..).trans (flushPort_lines ..))]

theorem portOff_lane {p l : Nat} {d : Dev} (h : l ∈ d.lanesOf p) : (d.portOff p).getLane l = {} := by
  simp only [portOff]
  rw [getLane_of_lines (drive_lines ..), getLane_modPort, getLane_modLanes, if_pos]
  rwa [lanesOf_of_width (d := d) (by rw [getPort_of_lines ((raiseObj_lines ..).trans (flushPort_lines ..))])]

theorem portOff_tx (p : Nat) (d : Dev) : tgetD (d.portOff p).tx [] p = [] := by
  have off : (d.portOff p).tx = (flushPort p d).1.tx := by
    simp only [portOff]
    rw [drive_tx, modPort_tx, modLanes_tx, raiseObj_tx]
  rw [off, flushPort_tx]

/-! ### The end of a start-up (R46) -/

/-- The device with the port RUNNING and its detection cycle not yet begun. -/
def portRunning (p : Nat) (d : Dev) : Dev :=
  (d.raiseObj (portHandle p) (d.getPort p).obj .running false 0).setPort p { d.getPort p with
    obj := (d.getPort p).obj.started d.nowNs, firstUp := true, link := .down, oof := (d.getPort p).otucn, oofSince := d.now, oomSince := d.now }

theorem lanesReady_starting {p : Nat} {d : Dev} (h : (d.getPort p).obj.st = .starting) : lanesReady p d = (d.portRunning p).startCycle p := by
  unfold lanesReady; exact if_pos h

theorem portRunning_port (p : Nat) (d : Dev) : (d.portRunning p).getPort p = { d.getPort p with
    obj := (d.getPort p).obj.started d.nowNs, firstUp := true, link := .down, oof := (d.getPort p).otucn, oofSince := d.now
    oomSince := d.now } := getPort_setPort_same ..

theorem portRunning_now (p : Nat) (d : Dev) : (d.portRunning p).now = d.now := raiseObj_now ..

end Dev
end Sys2Proof.Machine

namespace Sys2Proof
open Sys2Proof.Machine

/-- Settles O8: command by command by the state of the port's object, then the two rows by `Dev.startCycle` and `Dev.portOff`. -/
theorem portObjectRowsComplete : Obligations.PortObjectRowsComplete := by
  refine ⟨fun s src c h => replies_of_handler rfl h ?_, fun s src c h => replies_of_handler rfl h ?_, fun s p => onDev_devStep rfl ?_,
    fun s p => onDev_devStep rfl ?_⟩
  · dsimp only
    by_cases good : c.bad 1 = true
    · simp [Dev.portEnable, good, State.refusal]
    · by_cases defined : (s.dev.getPort c.hIdx).width = 0
      · simp [Dev.portEnable, good, defined, State.refusal]
      · by_cases stopped : (s.dev.getPort c.hIdx).obj.st = .stopped
        · rw [Dev.portEnable_of_stopped (by simpa using good) defined stopped]
          simp [good, defined, stopped]
        · simp [Dev.portEnable, good, defined, stopped, Dev.enable_begins]
  · dsimp only
    by_cases running : (s.dev.getPort c.hIdx).obj.st = .running <;>
      simp [Dev.portDisable, State.refusal, running, Dev.disable_running]
  · dsimp only
    by_cases starting : (s.dev.getPort p).obj.st = .starting
    · rw [if_pos starting, if_pos starting]
      have lines := Dev.pinBases_lines p (Dev.lanesReady p s.dev)
      rw [Dev.lanesReady_starting starting] at lines ⊢
      have run : ((s.dev.portRunning p).getPort p).obj.st = .running := by rw [Dev.portRunning_port]; rfl
      simp only [Dev.getPort_of_lines lines, Dev.getLane_of_lines lines]
      refine ⟨by rw [Dev.startCycle_obj, Dev.portRunning_port], fun off mode => ?_, fun off mode => ?_, fun on able => ?_⟩
      · rw [Dev.startCycle_trained run (by rwa [Dev.portRunning_port]) (by rwa [Dev.portRunning_port]), Dev.getPort_startAbility]
        refine ⟨by simp, by simp [Dev.portRunning_now], fun l hl => ?_⟩
        rw [Dev.startAbility_lane, if_pos]
        · rfl
        · rwa [Dev.lanesOf_of_width (d := s.dev) (by rw [Dev.getPort_setPort_same, Dev.portRunning_port])]
      · rw [Dev.startCycle_direct run (by rwa [Dev.portRunning_port]) (by rwa [Dev.portRunning_port])]
        rw [(Dev.tryLinkUp_released ..).trained, (Dev.tryLinkUp_released ..).resolved, Dev.getPort_setPort_same, Dev.portRunning_port]
        exact ⟨rfl, rfl⟩
      · rw [Dev.startCycle_autoneg run (by rwa [Dev.portRunning_port]) (by rwa [Dev.portRunning_port]), Dev.getPort_startAutoneg]
        simp
    · rw [if_neg starting, if_neg starting]
  · dsimp only
    split
    next ends =>
      rw [Dev.portStopDone_ends ends]
      by_cases held : (s.dev.getPort p).obj.held = true
      · rw [if_pos held]
        obtain ⟨n, port⟩ := Dev.portStarting_port p (s.dev.portOff p)
        rw [port, Dev.portOff_port, Dev.portStarting_tx]
        refine ⟨rfl, rfl, Dev.portOff_tx .., fun no => absurd held (by simp [no]), fun _ l hl => Dev.portStarting_power ?_⟩
        rwa [Dev.lanesOf_of_width (d := s.dev) (by rw [Dev.portOff_port])]
      · rw [if_neg held, Dev.portOff_port]
        exact ⟨rfl, rfl, Dev.portOff_tx .., fun _ l hl => Dev.portOff_lane hl, fun yes => absurd yes held⟩
    next waits => exact Dev.portStopDone_waits waits

end Sys2Proof
end
section
/-! PROOFS. O35 and O53: the settings of the servo, which nothing but their command changes, and a device that names itself the time root while it
takes a TIME_SYNC. -/

namespace Sys2Proof.Machine
open Sys2Proof

namespace Dev

/-! ### What a step of UTC leaves of the time state (R92, R324) -/

@[simp] theorem raisePort_time (d p type sev detail) : (raisePort d p type sev detail).time = d.time := by simp [raisePort]
@[simp] theorem modPort_time (d p f) : (modPort d p f).time = d.time := rfl

@[simp] theorem tcaCheck_time (p day d) : (tcaCheck p day d).time = d.time := by
  unfold tcaCheck; dsimp only; split
  · rfl
  · exact foldl_keeps_part Dev.time _ (fun _ _ => raisePort_time ..) _ _

@[simp] theorem closeSecond_time (p d) : (closeSecond p d).time = d.time := by
  unfold closeSecond; dsimp only; split
  · rfl
  · rw [tcaCheck_time, tcaCheck_time]; rfl

@[simp] theorem setPmSeq_time (d day n) : (setPmSeq d day n).time = d.time := by cases day <;> rfl

@[simp] theorem pmStepType_time (old new day d) : (pmStepType old new day d).time = d.time := by
  have all (f : Port → Port) (x : Dev) : ((List.range 256).foldl (fun y p => y.modPort p f) x).time = x.time :=
    foldl_keeps_part Dev.time _ (fun y p => modPort_time y p f) _ _
  unfold pmStepType; dsimp only; split
  · exact all ..
  · split <;> exact (all ..).trans (setPmSeq_time ..)

@[simp] theorem pmTimeStep_time (old back sizeNs d) : (pmTimeStep old back sizeNs d).time = d.time := by
  unfold pmTimeStep; dsimp only
  rw [foldl_keeps_part Dev.time _ fun x p => ?_, pmStepType_time, pmStepType_time, foldl_keeps_part Dev.time _ fun x p => ?_] <;>
    split <;> simp

theorem acctBoundary_time (s d) : (acctBoundary s d).time = d.time := (congrArg Dev.time (acctBoundary_besideQueues (b := false) s d) :)
theorem acctClose_time (s more start flags d) : (acctClose s more start flags d).time = d.time :=
  (congrArg Dev.time (acctClose_besideQueues (b := false) s more start flags d) :)

@[simp] theorem acctAll_time (d) : (acctAll d).time = d.time := foldl_keeps_part Dev.time _ (fun _ _ => acctBoundary_time ..) _ _

@[simp] theorem acctStepSet_time (old back sizeNs s d) : (acctStepSet old back sizeNs s d).time = d.time := by
  unfold acctStepSet; split
  · rfl
  · dsimp only; split
    · exact raise_time ..
    · split
      · exact (raise_time ..).trans (acctClose_time ..)
      · refine (raise_time ..).trans ?_
        split
        · exact acctClose_time ..
        · exact acctClose_time ..

@[simp] theorem utcStepped_time (old back sizeNs d) : (utcStepped old back sizeNs d).time = d.time :=
  (foldl_keeps_part Dev.time _ (fun _ _ => acctStepSet_time ..) _ _).trans (pmTimeStep_time ..)

/-! ### The settings of the servo (Table 13.7) -/

/-- The priorities, the clock classes, the flags, the bandwidth, the slew rate, the holdover limit and the window. -/
def settings (d : Dev) : Nat × Nat × Nat × Bool × Bool × Nat × Nat × Nat × Nat × Nat × Nat :=
  let t := d.time
  (t.prioPtp, t.prioPps, t.classPps, t.autoStep, t.useFreq, t.bw, t.slew, t.holdNs, t.window, t.classHold, t.classExp)

theorem settings_of_time {d e : Dev} (h : e.time = d.time) : e.settings = d.settings := by unfold settings; rw [h]

@[simp] theorem raise_settings (d type sev subject l) : (raise d type sev subject l).settings = d.settings := settings_of_time (raise_time ..)
@[simp] theorem sendFc_settings (d k n b l) : (sendFc d k n b l).settings = d.settings := settings_of_time (sendFc_time ..)
@[simp] theorem sendFcAll_settings (d n b) : (sendFcAll d n b).settings = d.settings := settings_of_time (sendFcAll_time ..)

@[simp] theorem applyStep_settings (size seq late d) : (applyStep size seq late d).settings = d.settings := by
  unfold applyStep; split
  · rfl
  · dsimp only
    refine (settings_of_time ((raise_time ..).trans (utcStepped_time ..))).trans ?_
    simp [settings]

@[simp] theorem autoStep_settings (off d) : (autoStep off d).settings = d.settings := by
  unfold autoStep; split
  · rfl
  · split
    · exact applyStep_settings ..
    · split <;> rfl

theorem toServo_settings (s d) : (toServo s d).settings = d.settings := (raise_settings ..).trans rfl
theorem toSource_settings (s d) : (toSource s d).settings = d.settings := (raise_settings ..).trans rfl

@[simp] theorem servoSelect_settings (d) : (servoSelect d).settings = d.settings := by
  have unsourced (lost : Bool) : (if lost then toSource d.bestSource d else d.setTime fun t => { t with source := d.bestSource }).settings =
      d.settings := by
    split
    · exact toSource_settings ..
    · rfl
  fun_cases servoSelect
  case case3 | case5 => exact autoStep_settings ..
  case case8 | case10 => exact (toServo_settings ..).trans (unsourced _)
  case case7 | case9 | case11 => exact toSource_settings d.bestSource d
  all_goals rfl

@[simp] theorem learnRoot_settings (root seq d) : (learnRoot root seq d).settings = d.settings := by
  unfold learnRoot; dsimp only; split
  · rfl
  · exact (servoSelect_settings _).trans ((raise_settings ..).trans rfl)

@[simp] theorem candTake_settings (c d) : (candTake c d).settings = d.settings := by
  fun_cases candTake
  case case4 => exact (learnRoot_settings ..).trans (sendFcAll_settings ..)
  all_goals rfl

@[simp] theorem tellCandidate_settings (d) : (tellCandidate d).settings = d.settings := by
  unfold tellCandidate; dsimp only; split
  · rfl
  · split
    · exact candTake_settings ..
    · exact (sendFc_settings ..).trans rfl

theorem sourcesChanged_settings (d) : (sourcesChanged d).settings = d.settings := (tellCandidate_settings _).trans (servoSelect_settings _)

end Dev
end Sys2Proof.Machine

namespace Sys2Proof
open Sys2Proof.Machine

/-- Settles O53: the handler stores the payload, and the change of sources it goes on to keeps the settings. -/
theorem timeSourceTakesItsPayload : Obligations.TimeSourceTakesItsPayload := by
  intro s src c h good flags bw bw' slew slew' hold hold' window window' clean
  have answer : Dev.timeSetSource c s.dev = .done (Dev.sourcesChanged (s.dev.setTime fun t => { t with
      prioPtp := c.f 0 1, prioPps := c.f 1 1, classPps := c.f 2 1, autoStep := bit (c.f 3 1) 0, useFreq := bit (c.f 3 1) 1, bw := c.f 4 2
      slew := c.f 6 2, holdNs := c.f 8 4, window := c.f 12 2, classHold := c.f 14 1, classExp := c.f 15 1 })) {} := by
    have slew0 : c.f 6 2 ≠ 0 := by omega
    have window0 : c.f 12 2 ≠ 0 := by omega
    simp [Dev.timeSetSource, Nat.not_lt.2, *]
  refine ⟨_, replies_of_handler rfl h answer, ?_⟩
  have kept := Dev.sourcesChanged_settings (s.dev.setTime fun t => { t with
      prioPtp := c.f 0 1, prioPps := c.f 1 1, classPps := c.f 2 1, autoStep := bit (c.f 3 1) 0, useFreq := bit (c.f 3 1) 1, bw := c.f 4 2
      slew := c.f 6 2, holdNs := c.f 8 4, window := c.f 12 2, classHold := c.f 14 1, classExp := c.f 15 1 })
  simp only [Dev.settings, Prod.mk.injEq] at kept
  exact kept

/-- A device of a system whose root is device 5: it is the meridian, has a valid 1PPS input that it has not told of, and has taken three
TIME_SYNC messages in a row. -/
def newRoot : State :=
  { dev := { fab := { configured := true, id := 1, holder := 1 }
             time := { root := 5, valid := [.pps], rLink := some 0, rRun := 3, rDelay := some 0 } } }

/-- The fourth TIME_SYNC. -/
def fourthSync : TimeSyncMsg :=
  { root := 5, seq := 1, link := 0, resent := false, origin := 0, corr := 0, utc := 0, leap61 := false, leap59 := false
    timeTraceable := true, freqTraceable := true, clockClass := 6 }

/-- Refutes O35: the fourth TIME_SYNC makes the relay a valid source, at which the meridian tells its own candidate, takes it and names itself
the root; the link of the relay, which the statement has as the message's, is given up at once (R451). -/
theorem not_timeRowsComplete : ¬ Obligations.TimeRowsComplete := by
  rintro ⟨-, -, -, -, -, -, -, -, -, -, -, -, sync, -⟩
  obtain ⟨d, ran, clause⟩ := sync newRoot fourthSync
  cases ran
  rw [if_neg (by decide)] at clause
  obtain ⟨-, -, -, -, link, -⟩ := clause
  exact absurd link (by decide)

end Sys2Proof
end
section
/-! PROOFS. O34: PTP and ESMC messages and the PTP commands. -/

namespace Sys2Proof.Machine
open Sys2Proof

namespace Dev

@[simp] theorem getT_putT_same (d : Dev) (p : Nat) (t : TPort) : (d.putT p t).getT p = t := by simp [getT, putT]

/-- Whether the unicast sessions of a port admit message `msg`. -/
def unicastAdmits (d : Dev) (p msg : Nat) : Bool :=
  match d.bcPort p with | some x => x.profile != 3 || d.sessionOn x p msg | none => false

theorem unicastAdmits_iff (d : Dev) (p msg : Nat) :
    d.unicastAdmits p msg = true ↔ ∃ x ∈ d.bcPort p, x.profile ≠ 3 ∨ d.sessionOn x p msg = true := by
  rcases port : d.bcPort p with _ | x <;> simp [unicastAdmits, port]

/-- Whether message `k` of PTP_MESSAGE_SEND leaves port `p` (R433, R448, R450). -/
def messageLeaves (d : Dev) (p : Nat) (k : Fin 4) : Bool :=
  let t := d.getT p
  match k with
  | 0 => t.st = .master && d.unicastAdmits p 0
  | 1 => (match d.bcPort p with | some x => x.profile != 1 | none => false) &&
      (t.st = .slave || t.st = .passive || (t.st = .master && t.t12.isSome))
  | 2 => d.peerDelay p
  | 3 => t.st = .master && d.unicastAdmits p 11

theorem messageLeaves_iff (d : Dev) (p : Nat) (k : Fin 4) :
    d.messageLeaves p k = true ↔
      (k = 0 ∧ (d.getT p).st = .master ∧ ∃ x ∈ d.bcPort p, x.profile ≠ 3 ∨ d.sessionOn x p 0 = true) ∨
      (k = 1 ∧ (∃ x ∈ d.bcPort p, x.profile ≠ 1) ∧
        ((d.getT p).st = .slave ∨ (d.getT p).st = .passive ∨ ((d.getT p).st = .master ∧ (d.getT p).t12 ≠ none))) ∨
      (k = 2 ∧ d.peerDelay p = true) ∨
      (k = 3 ∧ (d.getT p).st = .master ∧ ∃ x ∈ d.bcPort p, x.profile ≠ 3 ∨ d.sessionOn x p 11 = true) := by
  rw [← unicastAdmits_iff, ← unicastAdmits_iff]
  fin_cases k
  · simp [messageLeaves]
  · rcases port : d.bcPort p with _ | x <;> simp [messageLeaves, port, or_assoc, Option.isSome_iff_ne_none]
  · simp [messageLeaves]
  · simp [messageLeaves]

/-- Port `t` with message `k` numbered and its next time set (R433). -/
def messageNumbered (d : Dev) (t x : TPort) (k : Fin 4) : TPort :=
  { x with
    seq := t.seq.set k.val ((t.seq.getD k.val 0 + 1) % 65536)
    dueAt := t.dueAt.set k.val (d.now + ivl (if k = 0 then t.logSync else if k = 3 then t.logAnn else t.logDelay)) }

theorem ptpSend_of_due (d : Dev) (p : Nat) (k : Fin 4) (due : ¬ d.now < (d.getT p).dueAt.getD k 0) :
    d.ptpSend p k = 
      let y := if k = 3 then bmca ((d.getT p).inst.getD 4) d else d
      let t := y.getT p
      if y.messageLeaves p k = true then (ptpOut p k (y.bcPort p) y).putT p (messageNumbered y t ((ptpOut p k (y.bcPort p) y).getT p) k)
      else if ((y.bcPort p).isSome || y.peerDelay p) = true then y.putT p (messageNumbered y t t k) else y := by
  unfold ptpSend
  simp only [if_neg due, getT_putT_same]
  fin_cases k <;> rfl

end Dev
end Sys2Proof.Machine

namespace Sys2Proof
open Sys2Proof.Machine

/-- Settles O34: message by message and command by command. -/
theorem ptpRowsComplete : Obligations.PtpRowsComplete := by
  refine ⟨fun s p m => onDev_devStep rfl ?sync, fun s p m => onDev_devStep rfl ?followUp, fun s p m => onDev_devStep rfl ?delayReq,
    fun s p m rid rport => onDev_devStep rfl ?delayResp, fun s p k m => onDev_devStep rfl ?pdelay, fun s p n m => onDev_devStep rfl ?announce,
    fun s p k => onDev_devStep rfl ?send, fun s p peer msg grant dur => onDev_devStep rfl ?unicast, fun s p id => onDev_devStep rfl ?manage,
    fun s p => onDev_devStep rfl ?esmcSend, fun s p ql => onDev_devStep rfl ?esmcIn, fun s src c h => ?setInstance, fun s src c h => ?setPort,
    fun s src c h => ?getPort⟩
  case sync => simp [Dev.ptpSync]
  case followUp =>
    rcases two : (s.dev.getT p).two with _ | ⟨n, rx, corr, id, q⟩
    · simp [Dev.ptpFollowUp, two]
    · by_cases takes : s.dev.bcTakes p m.domain = true <;> simp [Dev.ptpFollowUp, two, takes, and_assoc]
  case delayReq =>
    rcases port : s.dev.bcPort p with _ | i
    · simp [Dev.ptpDelayReq, port]
    · by_cases takes : s.dev.bcTakes p m.domain = true
      · by_cases uni : i.profile = 3 <;> simp [Dev.ptpDelayReq, port, takes, uni]
      · simp [Dev.ptpDelayReq, takes]
  case delayResp =>
    rcases port : s.dev.bcPort p with _ | i
    · simp [Dev.ptpDelayResp, port]
    · rcases req : (s.dev.getT p).dreq with _ | ⟨n, t3⟩
      · by_cases takes : s.dev.bcTakes p m.domain = true <;> simp [Dev.ptpDelayResp, port, req, takes]
      · rcases off : (s.dev.getT p).t12 with _ | t12
        · by_cases takes : s.dev.bcTakes p m.domain = true <;> simp [Dev.ptpDelayResp, port, req, off, takes]
        · by_cases takes : s.dev.bcTakes p m.domain = true <;> simp [Dev.ptpDelayResp, port, req, off, takes, and_assoc]
  case pdelay =>
    refine ⟨fun closed => ?_, fun peer mine => ?_⟩
    · unfold Dev.ptpPdelay; dsimp only
      exact if_pos (by rcases closed with h | ⟨h, k⟩ <;> simp [*])
    · have opened : ¬ (!s.dev.peerDelay p || ((s.dev.getT p).role != 4 && !s.dev.bcTakes p m.domain)) = true := by
        rcases mine with h | h <;> simp [*]
      simp only [Dev.ptpPdelay, if_neg opened]
      refine ⟨?_, fun answer unfit => ?_, fun q req fits => ⟨?_, ?_⟩⟩
      · rintro rfl; rfl
      · rcases req : (s.dev.getT p).preq with _ | ⟨n, t1⟩
        · cases k with
          | req => exact absurd rfl answer
          | resp => rfl
          | respFollowUp => rfl
        · have other : n ≠ m.seq := by simpa [req] using unfit
          cases k with
          | req => exact absurd rfl answer
          | resp => simp [other]
          | respFollowUp => rcases (s.dev.getT p).presp with _ | ⟨k, t2, t4⟩ <;> simp [other]
      · rintro rfl
        simp [req, fits]
      · rintro rfl
        rcases (s.dev.getT p).presp with _ | ⟨k, t2, t4⟩ <;> simp [req, fits]
  case announce => simp [Dev.ptpAnnounce]
  case send =>
    dsimp only
    by_cases early : s.dev.now < (s.dev.getT p).dueAt.getD k 0
    · rw [if_pos early]
      exact if_pos early
    · rw [if_neg early, Dev.ptpSend_of_due _ _ _ early]
      dsimp only
      generalize (if k = 3 then Dev.bmca ((s.dev.getT p).inst.getD 4) s.dev else s.dev) = y
      refine ⟨fun go => if_pos ((Dev.messageLeaves_iff y p k).mpr go), fun stay => ?_⟩
      rw [if_neg (mt (Dev.messageLeaves_iff y p k).mp stay)]
      simp only [Bool.or_eq_true, Option.isSome_iff_ne_none]
      rfl
  case unicast =>
    refine ⟨fun closed => ?_, fun i k up port inst => ?_⟩
    · rcases closed with h | h <;> simp [Dev.unicast, h]
    · by_cases profile : i.profile = 3
      · cases grant <;> simp [Dev.unicast, up, port, inst, profile] <;> rfl
      · simp [Dev.unicast, up, port, inst, profile]
  case manage =>
    rcases port : s.dev.bcPort p with _ | i
    · simp [Dev.ptpManage, port]
    · by_cases held : s.dev.hif.headless = true
      · simp [Dev.ptpManage, held]
      · simp only [Dev.ptpManage, port, held, if_neg Bool.false_ne_true]
        split
        case h_6 h0 h1 h2 h3 h4 => rw [if_neg h0, if_neg h1, if_neg h2, if_neg h3, if_neg h4]
        all_goals rfl
  case esmcSend => simp [Dev.esmcSend]
  case esmcIn => simp [Dev.esmcIn]
  case setInstance =>
    refine replies_of_handler rfl h ?_
    dsimp only
    by_cases off : c.f 0 1 = 0xFF
    · simp [Dev.timeSetInstance, State.refusal, Dev.setTime, off, or_assoc]
    · simp [Dev.timeSetInstance, State.refusal, off, or_assoc]
  case setPort =>
    refine replies_of_handler rfl h ?_
    dsimp only
    unfold Dev.timeSetPort
    simp only [Dev.check_cons, Dev.check_nil]
    refine if_congr Iff.rfl rfl (if_congr ?_ rfl ?_)
    · rcases tget s.dev.time.inst (c.f 0 1) with _ | x <;> by_cases off : c.f 0 1 = 0xFF <;> simp [off, or_assoc, and_assoc]
    · simp only [Bool.and_eq_true, Bool.or_eq_true, decide_eq_true_eq, bne_iff_ne]
  case getPort =>
    refine replies_of_handler rfl h ?_
    simp [Dev.timeGetPort, State.refusal, State.report, Dev.statusReply]

end Sys2Proof
end
section
/-! PROOFS. O36: the DMA channels. -/

namespace Sys2Proof.Machine
open Sys2Proof

namespace Dev

/-! ### A channel with the engine (R464) -/

@[simp] theorem getDma_setDma_holder (d : Dev) (k : Nat) (h : Option Nat) : (d.setDma fun x => { x with holder := h }).getDma k = d.getDma k := rfl

theorem getDma_setDma_lines (d : Dev) (k : Nat) (f : DmaSt → Tab Nat) :
    (d.setDma fun x => { x with lines := f x }).getDma k = d.getDma k := rfl

theorem getDma_dmaTake (d : Dev) (k : Nat) :
    (d.dmaTake k).getDma k = if d.dma.holder = some k then d.getDma k else { d.getDma k with turns := (d.getDma k).turns + 1 } := by
  unfold dmaTake
  split
  · rfl
  · exact getDma_putDma ..

@[simp] theorem dmaTake_pc (d : Dev) (k : Nat) : ((d.dmaTake k).getDma k).pc = (d.getDma k).pc := by
  rw [getDma_dmaTake]; split <;> rfl

@[simp] theorem dmaTake_holder (d : Dev) (k : Nat) : (d.dmaTake k).dma.holder = some k := by
  unfold dmaTake
  split
  next held => exact held
  next => rfl

@[simp] theorem dmaTake_lines (d : Dev) (k : Nat) : (d.dmaTake k).dma.lines = d.dma.lines := by
  unfold dmaTake; split <;> rfl

@[simp] theorem putDma_holder (d : Dev) (k : Nat) (x : DmaCh) : (d.putDma k x).dma.holder = d.dma.holder := rfl
@[simp] theorem putDma_lines (d : Dev) (k : Nat) (x : DmaCh) : (d.putDma k x).dma.lines = d.dma.lines := rfl

@[simp] theorem getDma_dmaRelease (d : Dev) (k j : Nat) : (d.dmaRelease k).getDma j = d.getDma j := by
  unfold dmaRelease; split <;> rfl

@[simp] theorem dmaRelease_lines (d : Dev) (k : Nat) : (d.dmaRelease k).dma.lines = d.dma.lines := by
  unfold dmaRelease; split <;> rfl

theorem dmaRelease_holder_ne (d : Dev) (k : Nat) : (d.dmaRelease k).dma.holder ≠ some k := by
  unfold dmaRelease
  split
  · exact nofun
  · assumption

theorem dmaRelease_holder_of_held {d : Dev} {k : Nat} (held : d.dma.holder = some k) : (d.dmaRelease k).dma.holder = none := by
  unfold dmaRelease; rw [if_pos held]; rfl

/-- The channels are read from the DMA state alone. -/
theorem getDma_congr {d e : Dev} (same : d.dma = e.dma) (k : Nat) : d.getDma k = e.getDma k := by unfold getDma; rw [same]

theorem getDma_pwr (d : Dev) (w : Pwr) (k : Nat) : { d with pwr := w }.getDma k = d.getDma k := rfl

@[simp] theorem dmaStopEvent_dma (d : Dev) (k : Nat) : (d.dmaStopEvent k).dma = d.dma := raise_dma ..

@[simp] theorem getDma_dmaFail (d : Dev) (k : Nat) (st : Status) (a : Nat) :
    (dmaFail k st a d).getDma k = { d.getDma k with
      obj := (d.getDma k).obj.beginStop d.nowNs (d.now + usT 2) true, last := st, lastPc := (d.getDma k).pc, fault := a } := by
  unfold dmaFail
  rw [getDma_dmaRelease]
  exact getDma_putDma ..

theorem dmaFail_holder_of_held {d : Dev} {k : Nat} (st : Status) (a : Nat) (held : d.dma.holder = some k) : (dmaFail k st a d).dma.holder = none :=
  dmaRelease_holder_of_held held

/-- The channel after END (R549). -/
theorem getDma_dmaEnd {d : Dev} {k : Nat} {i : Bytes} (due : d.dmaNow k 0 = some i) :
    (d.dmaEnd k).getDma k = { (d.dmaTake k).getDma k with
      last := .ok, lastPc := ((d.dmaTake k).getDma k).pc, fault := 0
      obj := { ((d.dmaTake k).getDma k).obj with st := .stopped, prev := .stopped, since := d.nowNs, failed := false } } := by
  unfold dmaEnd
  rw [due]
  dsimp only
  rw [getDma_dmaRelease]
  rw [getDma_pwr, getDma_putDma, getDma_congr (raiseObj_dma ..), getDma_congr (dmaStopEvent_dma ..), getDma_putDma]

theorem dmaEnd_holder {d : Dev} {k : Nat} {i : Bytes} (due : d.dmaNow k 0 = some i) : (d.dmaEnd k).dma.holder = none := by
  unfold dmaEnd
  rw [due]
  refine dmaRelease_holder_of_held ?_
  dsimp only
  rw [putDma_holder, raiseObj_dma, dmaStopEvent_dma, putDma_holder, dmaTake_holder]

/-- DMA_CHANNEL_STOP_DONE of a STOPPING channel. -/
theorem dmaStopped_of_stopping {d : Dev} {k : Nat} (stopping : (d.getDma k).obj.st = .stopping) :
    (d.dmaStopped k).dma.holder = (d.dmaRelease k).dma.holder ∧
    (d.dmaStopped k).getDma k = if (d.getDma k).obj.held then dmaFresh { d.getDma k with obj := (d.getDma k).obj.stopped d.nowNs }
      else { d.getDma k with obj := (d.getDma k).obj.stopped d.nowNs } := by
  unfold dmaStopped
  dsimp only
  rw [if_pos (by simp [stopping])]
  refine ⟨?_, ?_⟩
  · dsimp only
    rw [putDma_holder, raiseObj_dma, dmaStopEvent_dma]
  · rw [getDma_pwr, getDma_putDma]
    rcases held : (d.getDma k).obj.held <;> simp [Obj.stopped, held]

end Dev
end Sys2Proof.Machine

namespace Sys2Proof
open Sys2Proof.Machine

/-- Settles O36: instruction by instruction, timer by timer and command by command. -/
theorem dmaProgramRowsComplete : Obligations.DmaProgramRowsComplete := by
  refine ⟨fun s e t m => onDev_devStep rfl ?post, fun s k => onDev_devStep rfl ?stop, fun s k host => onDev_devStep rfl ?move,
    fun s k => onDev_devStep rfl ?loop, fun s k => onDev_devStep rfl ?wait, fun s k => onDev_devStep rfl ?signal, fun s k => onDev_devStep rfl ?shuffle,
    fun s k => onDev_devStep rfl ?budget, fun s k => onDev_devStep rfl ?started, fun s k => onDev_devStep rfl ?stopped,
    fun s src pl c h => ?load, fun s src c h => ?enable, fun s src c h => ?halt, fun s src c h => ?status⟩
  case post => rcases acts : s.dev.acts e t with _ | x <;> simp [Dev.mailboxPost, acts]
  case stop =>
    rcases due : s.dev.dmaNow k 0 with _ | i
    · simp [Dev.dmaEnd, due]
    · rw [if_neg nofun, Dev.getDma_dmaEnd due]
      exact ⟨rfl, rfl, Dev.dmaTake_pc .., Dev.dmaEnd_holder due⟩
  case move =>
    rcases due : s.dev.dmaNow k 1 with _ | i
    · simp [Dev.dmaMove, due]
    · simp only [Dev.dmaMove, due]
      by_cases empty : field i 4 4 = 0
      · rw [if_pos empty, if_pos empty]
      · rw [if_neg empty, if_neg empty]
        split
        · rfl
        · split <;> rfl
  case loop =>
    rcases due : s.dev.dmaNow k 2 with _ | i
    · simp [Dev.dmaLoop, due]
    · simp only [Dev.dmaLoop, due]
      split
      · rfl
      · rcases left : (tget ((s.dev.dmaTake k).getDma k).loops ((s.dev.dmaTake k).getDma k).pc).getD (field i 4 4 - 1) with _ | v
        · rfl
        · simp
  case wait =>
    rcases due : s.dev.dmaNow k 3 with _ | i
    · simp [Dev.dmaWait, due]
    · simp only [Dev.dmaWait, due, Dev.dmaTake_lines]
      split
      next some =>
        rw [Dev.getDma_setDma_lines, Dev.getDma_putDma]
        exact ⟨congrArg (· + 1) (Dev.dmaTake_pc ..), rfl, Dev.dmaTake_holder .., congrArg (tset · 0 _ _) (Dev.dmaTake_lines ..)⟩
      next none =>
        rw [Dev.getDma_dmaRelease, Dev.getDma_putDma, Dev.dmaRelease_lines, Dev.putDma_lines]
        exact ⟨rfl, Dev.dmaTake_pc .., Dev.dmaRelease_holder_of_held (Dev.dmaTake_holder ..), Dev.dmaTake_lines ..⟩
  case signal =>
    rcases due : s.dev.dmaNow k 4 with _ | i
    · simp [Dev.dmaSignal, due]
    · simp only [Dev.dmaSignal, due, Dev.dmaTake_pc]
      rfl
  case shuffle =>
    rcases due : s.dev.dmaNow k 5 with _ | i
    · simp [Dev.dmaShuffle, due]
    · simp only [Dev.dmaShuffle, due, Dev.getDma_putDma, Dev.dmaTake_pc, and_self]
  case budget =>
    by_cases spent : s.dev.dma.holder = some k.val ∧ (s.dev.getDma k).obj.st = .running ∧ s.dev.dma.turnAt + usT (s.dev.getDma k).budget ≤ s.dev.now
    · have fails : Dev.dmaBudget k s.dev = Dev.dmaFail k .timeout 0 s.dev := if_pos (by simp [spent])
      dsimp only
      rw [if_pos spent, fails, Dev.getDma_dmaFail]
      exact ⟨rfl, rfl, rfl, Dev.dmaFail_holder_of_held _ _ spent.1⟩
    · exact (if_neg spent).mpr (if_neg (by simpa [and_assoc] using spent))
  case started =>
    by_cases starting : (s.dev.getDma k).obj.st = .starting
    · rw [if_pos starting, show Dev.dmaStarted k s.dev = _ from if_pos (by simp [starting]), Dev.getDma_putDma]
      exact ⟨rfl, rfl⟩
    · rw [if_neg starting]
      exact if_neg (by simp [starting])
  case stopped =>
    by_cases stopping : (s.dev.getDma k).obj.st = .stopping
    · dsimp only
      obtain ⟨given, channel⟩ := Dev.dmaStopped_of_stopping stopping
      rw [if_neg (not_not_intro stopping), channel, given]
      rcases held : (s.dev.getDma k).obj.held
      · exact ⟨Dev.dmaRelease_holder_ne _ _, by simp [Obj.stopped, held], rfl⟩
      · exact ⟨by simp [Dev.dmaFresh, Obj.stopped, held], rfl, rfl, rfl⟩
    · exact (if_pos stopping).mpr (if_neg (by simp [stopping]))
  case load =>
    refine replies_of_handler rfl h ?_
    by_cases firmware : 14 ≤ c.hIdx
    · have other : ¬ c.hIdx < 14 := by omega
      simp [Dev.dmaLoad, State.refusal, firmware, other]
    · have mine : c.hIdx < 14 := by omega
      simp [Dev.dmaLoad, State.refusal, firmware, mine, or_assoc]
  case enable =>
    refine replies_of_handler rfl h ?_
    by_cases firmware : 14 ≤ c.hIdx
    · have other : ¬ c.hIdx < 14 := by omega
      simp [Dev.dmaEnable, State.refusal, firmware, other]
    · have mine : c.hIdx < 14 := by omega
      rcases state : (s.dev.getDma c.hIdx).obj.st <;> simp [Dev.dmaEnable, State.refusal, firmware, mine, state, Obj.enable, Dev.dmaFresh]
  case halt =>
    refine replies_of_handler rfl h ?_
    by_cases firmware : 14 ≤ c.hIdx
    · have other : ¬ c.hIdx < 14 := by omega
      simp [Dev.dmaHalt, State.refusal, firmware, other]
    · have mine : c.hIdx < 14 := by omega
      simp [Dev.dmaHalt, State.refusal, firmware, mine]
  case status =>
    refine replies_of_handler rfl h ?_
    simp [Dev.dmaGetStatus, State.refusal, State.report, Dev.statusReply]

end Sys2Proof
end
section
/-! PROOFS. O37: the exporters and the check-value units. -/

namespace Sys2Proof.Machine
open Sys2Proof

theorem cvInit_toNat (p : Nat) : (cvInit p).toNat = if p < 2 then 0xFFFFFFFF else 0 := by
  unfold cvInit; split <;> rfl

namespace Dev

/-! ### What a scrub leaves (R551, R570) -/

@[simp] theorem shadowNeed_dma (i : ShadowItem) (d : Dev) : (d.shadowNeed i).dma = d.dma := rfl

theorem scrubCe_dma (a n : Nat) (d : Dev) : (d.scrubCe a n).dma = d.dma :=
  foldl_keeps_part dma _ (fun x w => raise_dma x 0x0900 sevInfo 0 [f8 w]) _ _

theorem scrubCe_ce (a n : Nat) (d : Dev) :
    (d.scrubCe a n).fwd.ce = d.fwd.ce.filter fun w => !(decide (a ≤ w) && decide (w < a + n)) :=
  foldl_keeps_part (fun x : Dev => x.fwd.ce) _ (fun x w => congrArg Fwd.ce (raise_fwd x 0x0900 sevInfo 0 [f8 w])) _ _

theorem scrubCe_of_clean (a n : Nat) {d : Dev} (clean : d.fwd.ce = []) : d.scrubCe a n = d := by
  simp only [scrubCe, clean, List.filter_nil, List.foldl_nil]
  rw [← clean]

theorem scrubUe_dma (w : Nat) (d : Dev) : (d.scrubUe w).dma = d.dma := by
  simp only [scrubUe, raise_dma]
  repeat' split
  all_goals rfl

theorem scrubUe_ce (w : Nat) (d : Dev) : (d.scrubUe w).fwd.ce = d.fwd.ce := by
  simp only [scrubUe, raise_fwd]
  repeat' split
  all_goals rfl

end Dev
end Sys2Proof.Machine

namespace Sys2Proof
open Sys2Proof.Machine

/-- Settles O37: exporter by exporter, unit by unit. -/
theorem exportRowsComplete : Obligations.ExportRowsComplete := by
  refine ⟨fun s src c h => ?setExport, fun s k => onDev_devStep rfl ?counters, fun s => onDev_devStep rfl ?telemetry,
    fun s u host => onDev_devStep rfl ?segment, fun s => onDev_devStep rfl ?block, fun s a => onDev_devStep rfl ?word,
    fun s src c h => ?scan, fun s src c h => ?status⟩
  case setExport =>
    refine replies_of_handler rfl h ?_
    by_cases telemetry : c.f 0 1 = 4 <;> simp [Dev.dmaSetExport, State.refusal, Dev.setDma, telemetry, or_assoc]
  case counters =>
    rcases stream : tget s.dev.dma.exp k with _ | x
    · simp [Dev.counterExport, stream]
    · by_cases early : s.dev.now < x.next
      · simp [Dev.counterExport, stream, early]
      · simp only [Dev.counterExport, stream, if_neg early]
  case telemetry =>
    rcases stream : tget s.dev.dma.exp 4 with _ | x
    · simp [Dev.telemetryExport, stream]
    · by_cases early : s.dev.now < x.next
      · simp [Dev.telemetryExport, stream, early]
      · simp only [Dev.telemetryExport, stream, if_neg early]
  case segment =>
    refine ⟨fun idle => ?_, fun x mine scan => ⟨fun lost => ?_, fun mapped served => ?_⟩⟩
    · have none : (if u.val = 0 then none else (s.dev.getCv u).scan) = none := by
        rcases idle with rfl | idle
        · rfl
        · rw [idle, ite_self]
      simp only [Dev.cvSegmentEnd, none]
    · have own : (if u.val = 0 then none else (s.dev.getCv u).scan) = some x := by
        rw [if_neg (show ¬ u.val = 0 from fun zero => mine (Fin.ext zero)), scan]
      simp only [Dev.cvSegmentEnd, own]
      rw [if_pos]
      · simp only [Bool.and_eq_true, Bool.not_eq_true', decide_eq_false_iff_not, Nat.not_le]
      · simpa only [Bool.or_eq_true, Bool.and_eq_true, Bool.not_eq_true', decide_eq_false_iff_not, decide_eq_true_eq, Nat.not_le, Option.isNone_iff_eq_none]
          using lost
    · have own : (if u.val = 0 then none else (s.dev.getCv u).scan) = some x := by
        rw [if_neg (show ¬ u.val = 0 from fun zero => mine (Fin.ext zero)), scan]
      simp only [Dev.cvSegmentEnd, own]
      rw [if_neg]
      · simp only [decide_eq_true_eq, List.isEmpty_iff]
        by_cases ends : x.len ≤ x.done + min (16 * 2 ^ 20) (x.len - x.done)
        · rw [if_pos ends, if_neg (Nat.not_lt.mpr ends)]
        · rw [if_neg ends, if_pos (Nat.not_le.mp ends)]
      · simp only [Bool.or_eq_true, Bool.and_eq_true, Bool.not_eq_true', decide_eq_false_iff_not, decide_eq_true_eq, Nat.not_le, Option.isNone_iff_eq_none]
        exact fun bad => bad.elim mapped fun ⟨far, unserved⟩ => served far unserved
  case block =>
    by_cases quiet : s.dev.pwr.quiet = true
    · simp [Dev.scrubBlock, quiet]
    · simp only [Dev.scrubBlock, if_neg quiet]
      refine ⟨?_, ?_, fun whole right => ?_⟩
      · rw [Dev.setDma_dma, Dev.foldl_keeps_part Dev.dma _ (fun x w => Dev.scrubUe_dma w x), Dev.scrubCe_dma]
      · rw [Dev.setDma_fwd, Dev.foldl_keeps_part (fun x : Dev => x.fwd.ce) _ (fun x w => Dev.scrubUe_ce w x), Dev.scrubCe_ce]
      · simp [whole, Dev.scrubCe_of_clean _ _ right]
  case word =>
    rcases window : sramWindow a with _ | ⟨base, size, forwarding⟩
    · simp [Dev.sramScrub, window]
    · cases forwarding <;> simp [Dev.sramScrub, window, Dev.scrubCe_ce]
  case scan =>
    refine replies_of_handler rfl h ?_
    simp [Dev.cvScan, State.refusal, cvInit_toNat, or_assoc]
  case status =>
    refine replies_of_handler rfl h ?_
    simp [Dev.cvGetStatus, State.refusal, State.report, Dev.statusReply]

end Sys2Proof
end
section
/-! PROOFS. O30: the cell switch and the cells of a fabric link. -/

namespace Sys2Proof.Machine
open Sys2Proof

namespace Dev

/-! ### A link's cells (R392-R394) -/

@[simp] theorem quietExit_links (d : Dev) : d.quietExit.links = d.links := links_of_fab (congrArg fab (quietExit_besideHost d) :)

/-- An acknowledgement takes cells from the retry buffer of its link and changes nothing else of it. -/
theorem takeAck_getLink (l : Nat) (c : FabCell) (d : Dev) : ∃ r, (takeAck l c d).getLink l = { d.getLink l with retry := r } := by
  unfold takeAck
  split
  · exact ⟨_, getLink_putLink_same ..⟩
  · exact ⟨_, rfl⟩

theorem askRetry_getLink (l : Nat) (d : Dev) : (askRetry l d).getLink l = { d.getLink l with gap := true } := by
  unfold askRetry
  dsimp only
  split
  next gap => rw [← gap]
  next => rw [getLink_of_links (emit_links ..), getLink_putLink_same]

/-- A cell that a RUNNING link takes, before its number is looked at. -/
def cellGood (l : Nat) (c : FabCell) (d : Dev) : Dev := takeAck l c (d.putLink l { d.getLink l with goodAt := d.now })

theorem cellGood_getLink (l : Nat) (c : FabCell) (d : Dev) :
    ∃ r, (cellGood l c d).getLink l = { d.getLink l with goodAt := d.now, retry := r } := by
  obtain ⟨r, kept⟩ := takeAck_getLink l c (d.putLink l { d.getLink l with goodAt := d.now })
  exact ⟨r, by rw [cellGood, kept, getLink_putLink_same]⟩

section
variable {l : Nat} {c : FabCell} {d : Dev} (running : (d.getLink l).obj.st = .running) (fec : c.fecOk = true) (hcs : hcsOk c = true)
include running fec hcs

theorem cellReceive_other (kind : ¬ (c.kind = 1 ∨ c.kind = 2)) : cellReceive l c d = cellGood l c d := by
  unfold cellReceive
  dsimp only
  rw [if_neg (by simp [running]), if_neg (by simp [fec]), if_neg (by simp [hcs]), if_pos (by simpa using not_or.mp kind)]
  rfl

theorem cellReceive_outOfSequence (kind : c.kind = 1 ∨ c.kind = 2) (gap : c.linkSeq ≠ ((cellGood l c d).getLink l).rxSeq) :
    cellReceive l c d = if seqDiff c.linkSeq ((cellGood l c d).getLink l).rxSeq < 32768 then askRetry l (cellGood l c d) else cellGood l c d := by
  unfold cellReceive
  dsimp only
  rw [if_neg (by simp [running]), if_neg (by simp [fec]), if_neg (by simp [hcs]), if_neg (by rcases kind with h | h <;> simp [h]),
    if_pos (by simpa [cellGood] using gap)]
  rfl

theorem cellReceive_inSequence (kind : c.kind = 1 ∨ c.kind = 2) (next : c.linkSeq = ((cellGood l c d).getLink l).rxSeq) :
    (cellReceive l c d).getLink l =
      { (cellGood l c d).getLink l with rxSeq := (((cellGood l c d).getLink l).rxSeq + 1) % 65536, gap := false } := by
  unfold cellReceive
  dsimp only
  rw [if_neg (by simp [running]), if_neg (by simp [fec]), if_neg (by simp [hcs]), if_neg (by rcases kind with h | h <;> simp [h]),
    if_neg (by simpa [cellGood] using next)]
  refine (getLink_of_links ?_ l).trans (getLink_putLink_same (cellGood l c d) l _)
  have stored (e : Dev) : (fabricIn l c e).links = e.links := rfl
  have counted (e : Dev) : (e.setFab fun f => { f with staleCells := f.staleCells + 1 }).links = e.links := rfl
  have noted (e : Dev) : (e.setFab fun f => { f with stale := (c.srcDev, f.cur.epoch) :: f.stale }).links = e.links := rfl
  simp only [ite_links, stored, counted, noted, quietExit_links, observe_links, ite_self]
  rfl

end

/-! ### A link that goes down (R396) -/

/-- What each link reaches. -/
def linkReach (d : Dev) (l : Nat) : List Nat := (d.getLink l).reach

theorem linkReach_of_links {d e : Dev} (h : e.links = d.links) : e.linkReach = d.linkReach := funext fun l => congrArg FLink.reach (getLink_of_links h l)

theorem putLink_linkReach {d : Dev} {l : Nat} {x : FLink} (kept : x.reach = (d.getLink l).reach) : (d.putLink l x).linkReach = d.linkReach := by
  funext k
  by_cases same : k = l
  · rw [same, linkReach, getLink_putLink_same, kept, linkReach]
  · rw [linkReach, getLink_putLink_other d x same, linkReach]

theorem modLink_linkReach {d : Dev} {l : Nat} {f : FLink → FLink} (kept : ∀ x, (f x).reach = x.reach) : (d.modLink l f).linkReach = d.linkReach :=
  putLink_linkReach (kept _)

theorem linkSend_linkReach (d : Dev) (l : Nat) (c : FabCell) : (d.linkSend l c).linkReach = d.linkReach := by
  simp only [linkSend]
  refine (linkReach_of_links (emit_links ..)).trans ((putLink_linkReach ?_).trans (linkReach_of_links (stampCell_links c d)))
  rfl

theorem resendCells_linkReach (l : Nat) (cs : List RetryCell) (d : Dev) : (resendCells l cs d).linkReach = d.linkReach := by
  refine foldl_keeps_part linkReach _ (fun x r => ?_) cs d
  dsimp only
  split
  next k y h =>
    refine (modLink_linkReach fun _ => ?_).trans ((linkSend_linkReach ..).trans (linkReach_of_links (spray_links h)))
    rfl
  next => exact modLink_linkReach fun _ => rfl

/-- A RUNNING link that goes down reaches nothing. -/
theorem linkDrop_reach {l : Nat} {d : Dev} (c : LinkCause) (running : (d.getLink l).obj.st = .running) : ((linkDrop l c d).getLink l).reach = [] := by
  change (linkDrop l c d).linkReach l = []
  simp only [linkDrop, running, bne_self_eq_false, Bool.false_eq_true, if_false]
  rw [linkReach_of_links (observe_links ..), linkReach_of_links (raise_links ..), sendDiscover, linkReach_of_links (emit_links ..),
    resendCells_linkReach, linkReach_of_links (reachRefresh_links _), linkReach, getLink_putLink_same]

/-- The state and the phase of a RUNNING link that goes down. -/
theorem linkDrop_state {l : Nat} {d : Dev} (c : LinkCause) (running : (d.getLink l).obj.st = .running) :
    ((linkDrop l c d).getLink l).obj.st = .starting ∧ ((linkDrop l c d).getLink l).phase = .discover := by
  have state : (((linkDrop l c d).getLink l).obj.st, ((linkDrop l c d).getLink l).phase) = _ := congrArg (fun p => p.1 l) (linkDrop_states l c d)
  exact Prod.mk.inj (state.trans (if_pos ⟨rfl, running⟩))

end Dev
end Sys2Proof.Machine

namespace Sys2Proof
open Sys2Proof.Machine

/-- Settles O30: the switch and the links, row by row. -/
theorem switchRowsComplete : Obligations.SwitchRowsComplete := by
  refine ⟨fun s => onDev_devStep rfl ?phase, fun s m j => onDev_devStep rfl ?place, fun s j => onDev_devStep rfl ?held,
    fun s sl fid => onDev_devStep rfl ?start, fun s src c h => ?cut, fun s src c h => ?status, fun s l c => onDev_devStep rfl ?cell,
    fun s l n => onDev_devStep rfl ?retry, fun s l => onDev_devStep rfl ?idle, fun s l => onDev_devStep rfl ?late,
    fun s l => onDev_devStep rfl ?silent, fun s l => onDev_devStep rfl ?notice, fun s sl dev cls => onDev_devStep rfl ?skip,
    fun s src c h => ?reseq⟩
  case phase => rfl
  case place => rfl
  case held =>
    simp only [Dev.outputHeld]
    split <;> simp_all
  case start => simp [Dev.egressStart]
  case cut =>
    refine replies_of_handler rfl h ?_
    simp [Dev.cswSetCut, State.refusal, Dev.setCsw]
  case status =>
    refine replies_of_handler rfl h ?_
    simp only [Dev.cswGetStatus, Dev.check_cons, Dev.check_nil]
    rfl
  case cell =>
    by_cases running : (s.dev.getLink l).obj.st = .running
    · rcases fec : c.fecOk
      · simp [Dev.cellReceive, running, fec]
      · rcases hcs : hcsOk c
        · simp [Dev.cellReceive, running, fec, hcs]
        · obtain ⟨r, good⟩ := Dev.cellGood_getLink l c s.dev
          simp only [running, ne_eq, not_true_eq_false, if_false, Bool.true_eq_false]
          by_cases kind : c.kind = 1 ∨ c.kind = 2
          · by_cases next : c.linkSeq = (s.dev.getLink l).rxSeq
            · have taken := Dev.cellReceive_inSequence running fec hcs kind (by rw [good]; exact next)
              rw [taken, good]
              exact ⟨rfl, fun _ => ⟨fun _ => ⟨rfl, rfl⟩, fun other => absurd next other⟩⟩
            · rw [Dev.cellReceive_outOfSequence running fec hcs kind (by rw [good]; exact next), good]
              by_cases behind : seqDiff c.linkSeq (s.dev.getLink l).rxSeq < 32768
              · rw [if_pos behind, Dev.askRetry_getLink, good]
                exact ⟨rfl, fun _ => ⟨fun same => absurd same next, fun _ => ⟨rfl, by simp [behind]⟩⟩⟩
              · rw [if_neg behind, good]
                exact ⟨rfl, fun _ => ⟨fun same => absurd same next, fun _ => ⟨rfl, by simp [behind]⟩⟩⟩
          · rw [Dev.cellReceive_other running fec hcs kind, good]
            exact ⟨rfl, fun k => absurd k kind⟩
    · simp [Dev.cellReceive, running]
  case retry =>
    simp [Dev.linkRetry]
  case idle => simp [Dev.ackIdle]
  case late => rfl
  case silent =>
    by_cases quiet : (s.dev.getLink l).obj.st = .running ∧ (s.dev.getLink l).goodAt + nsT 500 ≤ s.dev.now
    · dsimp only
      rw [if_pos quiet, show Dev.linkSilent l s.dev = Dev.linkDrop l .signal s.dev from if_pos (by simp [quiet])]
      exact ⟨(Dev.linkDrop_state _ quiet.1).1, Dev.linkDrop_reach _ quiet.1⟩
    · exact (if_neg quiet).mpr (if_neg (by simpa using quiet))
  case notice =>
    by_cases running : (s.dev.getLink l).obj.st = .running
    · rw [if_pos running]
      obtain ⟨state, phase⟩ := Dev.linkDrop_state .notice running
      exact ⟨state, phase, Dev.linkDrop_reach _ running⟩
    · rw [if_neg running]
      exact if_pos (by simpa using running)
  case skip =>
    dsimp only
    by_cases held : ∃ h ∈ (tgetD s.dev.fab.reseq {} ((sl.val * 2048 + dev) * 16 + cls)).held, h.1 + s.dev.holdTime ≤ s.dev.now
    · rw [if_pos held]
      exact if_pos (by simpa using held)
    · rw [if_neg held]
      exact if_neg (by simpa using held)
  case reseq =>
    refine replies_of_handler rfl h ?_
    simp [Dev.fabSetReseq, State.refusal, Dev.setFab]

end Sys2Proof
end
section
/-! PROOFS. For O42 and O43: what the answer to a tamper source keeps of the device, and what it leaves of the keys (R636-R639). -/

namespace Sys2Proof.Machine
open Sys2Proof

namespace Dev

/-! ### The temperatures and the sources -/

/-- The temperatures, the trip, and the tamper sources with their responses. -/
def watch (d : Dev) : List Int × Bool × BitVec 4 × BitVec 4 := (d.pwr.sites, d.pwr.trip, d.sec.firing, d.sec.alarmOnly)

theorem watch_of_parts {d e : Dev} (pwr : e.pwr = d.pwr) (sec : e.sec = d.sec) : e.watch = d.watch := by simp only [watch, pwr, sec]

@[simp] theorem ite_watch (p : Prop) [Decidable p] (a b : Dev) : (if p then a else b).watch = if p then a.watch else b.watch := apply_ite _ _ _ _
@[simp] theorem emit_watch (d e) : (emit d e).watch = d.watch := watch_of_parts (emit_pwr ..) (emit_sec ..)
@[simp] theorem raise_watch (d type sev subject l) : (raise d type sev subject l).watch = d.watch := watch_of_parts (raise_pwr ..) (raise_sec ..)
@[simp] theorem evPut_watch (d e) : (evPut d e).watch = d.watch := watch_of_parts (evPut_pwr ..) (evPut_sec ..)
@[simp] theorem setAlarm_watch (d i) : (setAlarm d i).watch = d.watch := watch_of_parts (setAlarm_pwr ..) (setAlarm_sec ..)
@[simp] theorem setPort_watch (d p q) : (setPort d p q).watch = d.watch := rfl
@[simp] theorem putMac_watch (d p m) : (putMac d p m).watch = d.watch := rfl
@[simp] theorem putT_watch (d p t) : (putT d p t).watch = d.watch := rfl
@[simp] theorem dropPort_watch (d p code len) : (dropPort d p code len).watch = d.watch := rfl
@[simp] theorem zeroise_watch (d) : (zeroise d).watch = d.watch := rfl
@[simp] theorem sendFcAll_watch (d kind body) : (sendFcAll d kind body).watch = d.watch := by
  obtain ⟨_, same⟩ := sendFcAll_frame d kind body
  rw [same]; rfl
@[simp] theorem announcePort_watch (d p down) : (announcePort d p down).watch = d.watch := sendFcAll_watch ..

theorem foldl_watch {α : Type} {f : Dev → α → Dev} (h : ∀ d x, (f d x).watch = d.watch) (l : List α) (d : Dev) :
    (l.foldl f d).watch = d.watch := foldl_keeps_part watch f h l d

@[simp] theorem liveCheck_watch (d) : (liveCheck d).watch = d.watch := foldl_watch (fun _ _ => raise_watch ..) _ _
@[simp] theorem raisePort_watch (d p type sev l) : (raisePort d p type sev l).watch = d.watch := raise_watch ..
@[simp] theorem protect_watch (d p cause) : (protect d p cause).watch = d.watch := by simp [protect]
@[simp] theorem unprotect_watch (d p) : (unprotect d p).watch = d.watch := by simp [unprotect]
@[simp] theorem macEval_watch (d p cause) : (macEval d p cause).watch = d.watch := by simp [macEval]
@[simp] theorem macEvalAll_watch (d) : (macEvalAll d).watch = d.watch := foldl_watch (fun _ _ => macEval_watch ..) _ _
@[simp] theorem tamperEvent_watch (src alarm st n d) : (tamperEvent src alarm st n d).watch = d.watch := raise_watch ..
@[simp] theorem enterChrysalis_watch (cause d) : (enterChrysalis cause d).watch = d.watch := emit_watch ..

theorem watch_of_besideCompletion {d e : Dev} (h : e.besideCompletion = d.besideCompletion) : e.watch = d.watch := (congrArg watch h :)

@[simp] theorem keyOpAbort_watch (c d) : (keyOpAbort c d).watch = d.watch := watch_of_besideCompletion (complete_besideCompletion ..)

@[simp] theorem quietEvent_watch (d entered) : (quietEvent d entered).watch = d.watch := by
  unfold quietEvent
  dsimp only
  split
  · exact evPut_watch ..
  · rfl

@[simp] theorem quietExit_watch (d) : (quietExit d).watch = d.watch := by
  unfold quietExit
  dsimp only
  split
  · refine (watch_of_parts rfl rfl).trans ((quietEvent_watch ..).trans ?_)
    exact foldl_watch (f := fun x k => triTrace 2 0 0 k x) (fun _ _ => rfl) _ _
  · rfl

@[simp] theorem tcStage_watch (p f d) : (tcStage p f d).2.watch = d.watch := by
  fun_cases tcStage <;> rfl

@[simp] theorem macsecSend_watch (d p inverted f) : (macsecSend d p inverted f).2.watch = d.watch := by
  simp only [macsecSend]
  repeat' split
  all_goals simp

@[simp] theorem cutFrame_watch (p d) : (cutFrame p d).watch = d.watch := by
  fun_cases cutFrame
  case case2 m f r queue st on g b e sent =>
    have sealed : e.watch = g.2.watch := by rw [← macsecSend_watch g.2 p true g.1, sent]
    rw [dropPort_watch, emit_watch, ← tcStage_watch p f d]
    exact sealed
  all_goals rfl

/-! ### The alarms -/

/-- The alarm bits, EVT_FLOOD set: raising an event may set it. -/
def alarms (d : Dev) : BitVec 9 := d.hif.alarm ||| 0x40#9

theorem alarms_getLsbD (d : Dev) {k : Nat} (h : k ≠ 6) : d.alarms.getLsbD k = d.hif.alarm.getLsbD k := by
  have other : (0x40#9).getLsbD k = false := by
    rw [show (0x40#9) = BitVec.ofNat 9 (2 ^ 6) from rfl, BitVec.getLsbD_ofNat, Nat.testBit_two_pow_of_ne (Ne.symm h), Bool.and_false]
  rw [alarms, BitVec.getLsbD_or, other, Bool.or_false]

theorem alarms_of_hif {d e : Dev} (h : e.hif = d.hif) : e.alarms = d.alarms := by rw [alarms, h, alarms]

@[simp] theorem ite_alarms (p : Prop) [Decidable p] (a b : Dev) : (if p then a else b).alarms = if p then a.alarms else b.alarms := apply_ite _ _ _ _
@[simp] theorem emit_alarms (d e) : (emit d e).alarms = d.alarms := alarms_of_hif (emit_hif ..)
@[simp] theorem setPort_alarms (d p q) : (setPort d p q).alarms = d.alarms := rfl
@[simp] theorem putMac_alarms (d p m) : (putMac d p m).alarms = d.alarms := rfl
@[simp] theorem dropPort_alarms (d p code len) : (dropPort d p code len).alarms = d.alarms := rfl
@[simp] theorem zeroise_alarms (d) : (zeroise d).alarms = d.alarms := rfl
@[simp] theorem announcePort_alarms (d p down) : (announcePort d p down).alarms = d.alarms := alarms_of_hif (announcePort_hif ..)

/-- An alarm that is raised stands with those that stood. -/
theorem setAlarm_alarms (d : Dev) (i : Nat) : (d.setAlarm i).alarms = d.alarms ||| BitVec.ofNat 9 (2 ^ i) := by
  have raised : (d.setAlarm i).hif.alarm = d.hif.alarm ||| BitVec.ofNat 9 (2 ^ i) := by
    refine BitVec.eq_of_getLsbD_eq fun k h => ?_
    rw [setAlarm_alarm, BitVec.getLsbD_or, BitVec.getLsbD_ofNat, Nat.testBit_two_pow]
    simp only [eq_comm]
  rw [alarms, raised, BitVec.or_assoc, BitVec.or_comm (BitVec.ofNat 9 (2 ^ i)), ← BitVec.or_assoc, alarms]

theorem setFlood_alarms (d : Dev) : (d.setAlarm 6).alarms = d.alarms := by
  rw [setAlarm_alarms, alarms, BitVec.or_assoc]; rfl

@[simp] theorem evCoalesce_alarms (d e) : (evCoalesce d e).alarms = d.alarms := by
  simp only [evCoalesce, ite_alarms, setFlood_alarms, ite_self]
  rfl

@[simp] theorem evPut_alarms (d e) : (evPut d e).alarms = d.alarms := by
  simp only [evPut, ite_alarms, evCoalesce_alarms]
  exact (congrArg (ite _ _) (ite_self _)).trans (ite_self _)

@[simp] theorem raise_alarms (d type sev subject l) : (raise d type sev subject l).alarms = d.alarms := evPut_alarms ..

theorem foldl_alarms {α : Type} {f : Dev → α → Dev} (h : ∀ d x, (f d x).alarms = d.alarms) (l : List α) (d : Dev) :
    (l.foldl f d).alarms = d.alarms := foldl_keeps_part alarms f h l d

@[simp] theorem liveCheck_alarms (d) : (liveCheck d).alarms = d.alarms := foldl_alarms (fun _ _ => raise_alarms ..) _ _
@[simp] theorem raisePort_alarms (d p type sev l) : (raisePort d p type sev l).alarms = d.alarms := raise_alarms ..
@[simp] theorem protect_alarms (d p cause) : (protect d p cause).alarms = d.alarms := by simp [protect]
@[simp] theorem unprotect_alarms (d p) : (unprotect d p).alarms = d.alarms := by simp [unprotect]
@[simp] theorem macEval_alarms (d p cause) : (macEval d p cause).alarms = d.alarms := by simp [macEval]
@[simp] theorem macEvalAll_alarms (d) : (macEvalAll d).alarms = d.alarms := foldl_alarms (fun _ _ => macEval_alarms ..) _ _

@[simp] theorem complete_alarms (d c r) : (complete d c r).alarms = d.alarms := by
  have sent (x : Dev) (e : Emission) : (x.emit e).hif = x.hif := emit_hif ..
  have same : (complete d c r).hif.alarm = d.hif.alarm := by
    unfold complete
    split
    · split <;> rfl
    · fun_cases completeNow <;> grind [setCause_alarm, dropCmd]
  rw [alarms, same, alarms]

@[simp] theorem keyOpAbort_alarms (c d) : (keyOpAbort c d).alarms = d.alarms := complete_alarms ..

@[simp] theorem quietEvent_alarms (d entered) : (quietEvent d entered).alarms = d.alarms := by
  unfold quietEvent
  dsimp only
  split
  · exact evPut_alarms ..
  · rfl

@[simp] theorem quietExit_alarms (d) : (quietExit d).alarms = d.alarms := by
  unfold quietExit
  dsimp only
  split
  · refine (quietEvent_alarms ..).trans ?_
    exact foldl_alarms (f := fun x k => triTrace 2 0 0 k x) (fun _ _ => rfl) _ _
  · rfl

@[simp] theorem tcStage_alarms (p f d) : (tcStage p f d).2.alarms = d.alarms := by
  fun_cases tcStage <;> rfl

@[simp] theorem macsecSend_alarms (d p inverted f) : (macsecSend d p inverted f).2.alarms = d.alarms := by
  simp only [macsecSend]
  repeat' split
  all_goals simp

@[simp] theorem cutFrame_alarms (p d) : (cutFrame p d).alarms = d.alarms := by
  fun_cases cutFrame
  case case2 m f r queue st on g b e sent =>
    have sealed : e.alarms = g.2.alarms := by rw [← macsecSend_alarms g.2 p true g.1, sent]
    rw [dropPort_alarms, emit_alarms, ← tcStage_alarms p f d]
    exact sealed
  all_goals rfl

/-! ### The keys -/

/-- The KEK and every port's SAs. -/
def keys (d : Dev) : Option Bytes × (Nat → Tab Sa) := (d.sec.kek, fun p => (d.getMac p).sa)

theorem keys_of_sec {d e : Dev} (h : e.sec = d.sec) : e.keys = d.keys := by simp only [keys, getMac, h]

@[simp] theorem ite_keys (p : Prop) [Decidable p] (a b : Dev) : (if p then a else b).keys = if p then a.keys else b.keys := apply_ite _ _ _ _
@[simp] theorem raise_keys (d type sev subject l) : (raise d type sev subject l).keys = d.keys := keys_of_sec (raise_sec ..)
@[simp] theorem raisePort_keys (d p type sev l) : (raisePort d p type sev l).keys = d.keys := raise_keys ..
@[simp] theorem setAlarm_keys (d i) : (setAlarm d i).keys = d.keys := keys_of_sec (setAlarm_sec ..)
@[simp] theorem protect_keys (d p cause) : (protect d p cause).keys = d.keys := keys_of_sec (congrArg sec (protect_beyondLine d p cause) :)
@[simp] theorem unprotect_keys (d p) : (unprotect d p).keys = d.keys := keys_of_sec (congrArg sec (unprotect_beyondLine d p) :)
@[simp] theorem keyOpAbort_keys (c d) : (keyOpAbort c d).keys = d.keys := keys_of_sec (congrArg sec (complete_besideCompletion _ c _) :)

theorem getMac_putMac (d : Dev) (p q : Nat) (m : Mac) : (d.putMac p m).getMac q = if q = p then m else d.getMac q := by
  unfold getMac putMac
  split
  next same => rw [same]; exact tgetD_tset_same ..
  next other => exact tgetD_tset_other _ _ _ other

/-- A port's settings written without its SAs. -/
theorem putMac_keys {d : Dev} {p : Nat} {m : Mac} (kept : m.sa = (d.getMac p).sa) : (d.putMac p m).keys = d.keys := by
  refine Prod.ext rfl (funext fun q => ?_)
  dsimp only [keys]
  rw [getMac_putMac]
  split
  next same => rw [same, kept]
  next => rfl

@[simp] theorem macEval_keys (d p cause) : (macEval d p cause).keys = d.keys := by
  have closed : (d.putMac p { d.getMac p with closed := (d.getMac p).on && !macHolds (d.getMac p) }).keys = d.keys := putMac_keys rfl
  simp [macEval, closed]

@[simp] theorem macEvalAll_keys (d) : (macEvalAll d).keys = d.keys := foldl_keeps_part keys _ (fun x p => macEval_keys x p 1) _ _

/-- An entry of a table whose every value has gone through `f`. -/
theorem tget_mapValues {α β : Type} (f : α → β) (t : Tab α) (k : Nat) : tget (t.map fun x => (x.1, f x.2)) k = (tget t k).map f := by
  induction t with
  | nil => rfl
  | cons x r ih =>
    obtain ⟨j, v⟩ := x
    rw [List.map_cons, tget_cons, tget_cons, ih]
    split <;> rfl

/-- After a zeroisation no port holds an SA (R636). -/
theorem zeroise_keys (d : Dev) : (zeroise d).keys = (none, fun _ => []) := by
  refine Prod.ext rfl (funext fun p => ?_)
  refine (congrArg (fun m : Option Mac => (m.getD {}).sa) (tget_mapValues (fun m : Mac => { m with sa := [], peer := [], txAn := none }) d.sec.mac p)).trans ?_
  rcases tget d.sec.mac p with _ | m <;> rfl

@[simp] theorem tamperEvent_keys (src alarm st n d) : (tamperEvent src alarm st n d).keys = d.keys := raise_keys ..

end Dev

/-! ### The answer to a source (R635-R639) -/

namespace Dev

/-- What a zeroisation makes of a device on which key operations run (R636, R639). -/
def zeroised (src : BitVec 4) (st n : Nat) (ops : List Cmd) (d : Dev) : Dev :=
  ops.foldl (fun (x : Dev) c => x.keyOpAbort c)
    ((((List.range 256).foldl (fun (x : Dev) p => x.cutFrame p) (if d.pwr.quiet then d.quietExit else d)).zeroise.tamperEvent src false st n).setAlarm 1).macEvalAll

theorem cutAll_watch (d : Dev) : ((List.range 256).foldl (fun (x : Dev) p => x.cutFrame p) d).watch = d.watch := foldl_watch (fun x p => cutFrame_watch p x) _ _
theorem cutAll_alarms (d : Dev) : ((List.range 256).foldl (fun (x : Dev) p => x.cutFrame p) d).alarms = d.alarms := foldl_alarms (fun x p => cutFrame_alarms p x) _ _

theorem zeroised_watch (src : BitVec 4) (st n : Nat) (ops : List Cmd) (d : Dev) : (zeroised src st n ops d).watch = d.watch := by
  unfold zeroised
  rw [foldl_watch fun x c => keyOpAbort_watch c x, macEvalAll_watch, setAlarm_watch, tamperEvent_watch, zeroise_watch, cutAll_watch, ite_watch,
    quietExit_watch, ite_self]

theorem zeroised_alarms (src : BitVec 4) (st n : Nat) (ops : List Cmd) (d : Dev) : (zeroised src st n ops d).alarms = d.alarms ||| 2#9 := by
  unfold zeroised
  rw [foldl_alarms fun x c => keyOpAbort_alarms c x, macEvalAll_alarms, setAlarm_alarms, tamperEvent, raise_alarms,
    zeroise_alarms, cutAll_alarms, ite_alarms, quietExit_alarms, ite_self]
  rfl

theorem zeroised_keys (src : BitVec 4) (st n : Nat) (ops : List Cmd) (d : Dev) : (zeroised src st n ops d).keys = (none, fun _ => []) := by
  unfold zeroised
  rw [foldl_keeps_part keys _ fun x c => keyOpAbort_keys c x, macEvalAll_keys, setAlarm_keys, tamperEvent_keys, zeroise_keys]

end Dev

namespace State

theorem tamperRun_zeroising {src : BitVec 4} {s : State} (h : s.dev.zeroising src = true) :
    ∃ st n ops latch, s.tamperRun src = { s with nv := { s.nv with latch := s.nv.latch ||| src.setWidth 32 ||| latch }, dev := s.dev.zeroised src st n ops } :=
  ⟨_, _, _, _, if_pos h⟩

theorem tamperRun_alarming {src : BitVec 4} {s : State} (h : s.dev.zeroising src = false) :
    ∃ st, s.tamperRun src = { s with nv := { s.nv with latch := s.nv.latch ||| src.setWidth 32 }, dev := (s.dev.tamperEvent src true st 0).setAlarm 1 } :=
  ⟨_, if_neg (by simp [h])⟩

theorem tamperStart_watch (src : BitVec 4) (s : State) : (s.tamperStart src).dev.watch = s.dev.watch := by
  simp only [tamperStart, Dev.ite_watch, Dev.enterChrysalis_watch, Dev.setAlarm_watch, Dev.tamperEvent_watch, Dev.zeroise_watch, ite_self]
  rfl

theorem tamperRun_watch (src : BitVec 4) (s : State) : (s.tamperRun src).dev.watch = s.dev.watch := by
  rcases h : s.dev.zeroising src
  · obtain ⟨st, run⟩ := tamperRun_alarming h
    rw [run, Dev.setAlarm_watch, Dev.tamperEvent_watch]
  · obtain ⟨st, n, ops, latch, run⟩ := tamperRun_zeroising h
    rw [run, Dev.zeroised_watch]

theorem tamperStart_alarms (src : BitVec 4) (s : State) : (s.tamperStart src).dev.alarms = s.dev.alarms ||| 2#9 := by
  have entered (d : Dev) : (d.enterChrysalis 2).alarms = d.alarms := Dev.emit_alarms ..
  simp only [tamperStart, Dev.ite_alarms, entered, Dev.setAlarm_alarms, Dev.tamperEvent, Dev.raise_alarms, ite_self]
  rfl

theorem tamperRun_alarms (src : BitVec 4) (s : State) : (s.tamperRun src).dev.alarms = s.dev.alarms ||| 2#9 := by
  rcases h : s.dev.zeroising src
  · obtain ⟨st, run⟩ := tamperRun_alarming h
    rw [run, Dev.setAlarm_alarms, Dev.tamperEvent, Dev.raise_alarms]
    rfl
  · obtain ⟨st, n, ops, latch, run⟩ := tamperRun_zeroising h
    rw [run, Dev.zeroised_alarms]

theorem tamperStart_keys (src : BitVec 4) (s : State) : (s.tamperStart src).dev.keys = (none, fun _ => []) := by
  have entered {d : Dev} (h : d.keys = (none, fun _ => [])) : (d.enterChrysalis 2).keys = (none, fun _ => []) :=
    (Dev.keys_of_sec (Dev.emit_sec ..)).trans (Prod.ext rfl (congrArg Prod.snd h :))
  have cleared (d : Dev) : ((d.zeroise.tamperEvent src false 0 s.dev.closing).setAlarm 1).keys = (none, fun _ => []) := by
    rw [Dev.setAlarm_keys, Dev.tamperEvent_keys, Dev.zeroise_keys]
  simp only [tamperStart, Dev.ite_keys, cleared, entered (cleared _), ite_self]

/-- The state whose sources fire as given, before they are answered. -/
def firing (s : State) (src : BitVec 4) : State := { s with dev := { s.dev with sec := { s.dev.sec with firing := src } } }

theorem tamper_eq (src : BitVec 4) (s : State) : s.tamper src =
    if src &&& ~~~s.dev.sec.firing = 0#4 then s.firing src
    else if s.dev.hif.up then (s.firing src).tamperRun (src &&& ~~~s.dev.sec.firing) else (s.firing src).tamperStart (src &&& ~~~s.dev.sec.firing) := rfl

theorem tamper_watch (src : BitVec 4) (s : State) : (s.tamper src).dev.watch = (s.dev.pwr.sites, s.dev.pwr.trip, src, s.dev.sec.alarmOnly) := by
  rw [tamper_eq]
  split
  · rfl
  · split
    · exact tamperRun_watch ..
    · exact tamperStart_watch ..

theorem tamper_alarms (src : BitVec 4) (s : State) :
    (s.tamper src).dev.alarms = if src &&& ~~~s.dev.sec.firing = 0#4 then s.dev.alarms else s.dev.alarms ||| 2#9 := by
  rw [tamper_eq]
  split
  · rfl
  · split
    · exact tamperRun_alarms ..
    · exact tamperStart_alarms ..

/-- A source that fires leaves every alarm that stood, but for what the event flood does to its own. -/
theorem tamper_keepsAlarm {src : BitVec 4} {s : State} {k : Nat} (h : k ≠ 6) (stood : s.dev.hif.alarm.getLsbD k = true) :
    (s.tamper src).dev.hif.alarm.getLsbD k = true := by
  rw [← Dev.alarms_getLsbD _ h, tamper_alarms]
  rw [← Dev.alarms_getLsbD _ h] at stood
  split
  · exact stood
  · rw [BitVec.getLsbD_or, stood]; rfl

end State

end Sys2Proof.Machine
end
section
/-! PROOFS. O43, O44: tamper, the security commands, and MACsec's commands. -/

namespace Sys2Proof.Machine
open Sys2Proof

/-! ### The latch (R636, R637) -/

/-- Bits that were put into a word are in it. -/
theorem or_or_and_self (a x b : BitVec 32) : (a ||| x ||| b) &&& x = x := by
  refine BitVec.eq_of_getLsbD_eq fun k _ => ?_
  simp only [BitVec.getLsbD_and, BitVec.getLsbD_or]
  cases a.getLsbD k <;> cases x.getLsbD k <;> cases b.getLsbD k <;> rfl

theorem burn_latch (n : Nv) (src : BitVec 4) (phase : Nat) : (n.burn src phase).latch &&& src.setWidth 32 = src.setWidth 32 := by
  unfold Nv.burn
  dsimp only
  split
  · exact or_or_and_self ..
  · dsimp only
    rw [BitVec.or_assoc _ _ (0x8000#32)]
    exact or_or_and_self ..

theorem tamperRun_latch (src : BitVec 4) (s : State) : (s.tamperRun src).nv.latch &&& src.setWidth 32 = src.setWidth 32 := by
  rcases h : s.dev.zeroising src
  · obtain ⟨st, run⟩ := State.tamperRun_alarming h
    rw [run]
    exact (BitVec.or_zero (x := s.nv.latch ||| src.setWidth 32)) ▸ or_or_and_self s.nv.latch (src.setWidth 32) 0#32
  · obtain ⟨st, n, ops, latch, run⟩ := State.tamperRun_zeroising h
    rw [run]
    exact or_or_and_self ..

namespace State

/-- The machine after a command whose handler may change what survives reset. -/
def settleNv (s : State) (c : Cmd) (r : Nv × Reply) : State := { s with nv := r.1, dev := Dev.settle c r.2 }

theorem settleNv_ite (s : State) (c : Cmd) (p : Prop) [Decidable p] (x y : Nv × Reply) :
    s.settleNv c (if p then x else y) = if p then s.settleNv c x else s.settleNv c y := apply_ite _ _ _ _

/-- Such a command under `State.runs` gives the reply of its handler. -/
theorem runNv_of_runs {s : State} {op : Nat} {src : Src} {c : Cmd} {f : Cmd → Nv → Dev → Nv × Reply} (h : s.runs op src c) :
    s.runNv op src f = .next (s.settleNv c (f c s.nv s.dev)) := by
  obtain ⟨next, gate⟩ := h
  simp only [runNv, next, gate, settleNv]

end State

namespace Dev

@[simp] theorem checkNv_nil (nv : Nv) (d : Dev) (go : Nv × Reply) : checkNv nv d [] go = go := rfl

@[simp] theorem checkNv_cons (nv : Nv) (d : Dev) (b : Bool) (st : Status) (l : List (Bool × Status)) (go : Nv × Reply) :
    checkNv nv d ((b, st) :: l) go = if b = true then (nv, .done d { status := st }) else checkNv nv d l go := by
  cases b <;> rfl

end Dev
end Sys2Proof.Machine

namespace Sys2Proof
open Sys2Proof.Machine

/-- Settles O43: the sources, then the commands. -/
theorem securityRowsComplete : Obligations.SecurityRowsComplete := by
  refine ⟨fun s src => ?detect, fun s src c h => ?identity, fun s src c h => ?attest, fun s src pl c h => ?revoke, fun s src c h => ?raiseMin,
    fun s src c h => ?setTamper, fun s src c h => ?getTamper, fun s src firing c h => ?clear, fun s i => onDev_devStep rfl ?jtag⟩
  case detect =>
    refine ⟨s.tamper src, rfl, State.tamper_pending .., congrArg (fun w => w.2.2.1) (State.tamper_watch src s), ?_⟩
    dsimp only
    have answered := State.tamper_eq src s
    have sounded := State.tamper_alarms src s
    by_cases known : src &&& ~~~s.dev.sec.firing = 0#4
    · rw [if_pos known]
      exact answered.trans (if_pos known)
    · rw [if_neg known]
      rw [if_neg known] at answered sounded
      have alarm : (s.tamper src).dev.hif.alarm.getLsbD 1 = true := by
        rw [← Dev.alarms_getLsbD _ (by decide), sounded, BitVec.getLsbD_or]
        exact Bool.or_true _
      refine ⟨alarm, ?_⟩
      rcases up : s.dev.hif.up
      · rw [if_neg (by simp [up])] at answered
        rw [if_pos rfl, answered]
        have keys := State.tamperStart_keys (src &&& ~~~s.dev.sec.firing) (s.firing src)
        exact ⟨burn_latch .., rfl, congrArg Prod.fst keys, congrFun (congrArg Prod.snd keys)⟩
      · rw [if_pos up] at answered
        rw [if_neg (by simp), answered]
        refine ⟨tamperRun_latch .., ?_⟩
        by_cases quiet : (src &&& ~~~s.dev.sec.firing) &&& ~~~s.dev.sec.alarmOnly = 0#4
        · rw [if_pos quiet]
          obtain ⟨st, run⟩ := State.tamperRun_alarming (s := s.firing src) (src := src &&& ~~~s.dev.sec.firing)
            (by simpa [Dev.zeroising, State.firing] using quiet)
          rw [run, Dev.setAlarm_sec, Dev.tamperEvent, Dev.raise_sec]
          exact ⟨rfl, rfl⟩
        · rw [if_neg quiet]
          obtain ⟨st, n, ops, latch, run⟩ := State.tamperRun_zeroising (s := s.firing src) (src := src &&& ~~~s.dev.sec.firing)
            (by simpa [Dev.zeroising, State.firing] using quiet)
          have keys := Dev.zeroised_keys (src &&& ~~~s.dev.sec.firing) st n ops (s.firing src).dev
          rw [run]
          exact ⟨congrArg Prod.fst keys, congrFun (congrArg Prod.snd keys)⟩
  case identity =>
    refine replies_of_handler rfl h ?_
    simp [Dev.secGetIdentity, State.refusal, State.report, Dev.statusReply]
  case attest =>
    refine replies_of_handler rfl h ?_
    simp [Dev.secAttest, State.refusal]
  case revoke =>
    refine (State.runNv_of_runs h).trans (congrArg Host.Outcome.next ?_)
    simp only [Dev.secRevokeKey, Dev.checkNv_cons, Dev.checkNv_nil, State.settleNv_ite]
    refine if_congr Iff.rfl rfl (if_congr (by simp [or_assoc]) rfl (if_congr Iff.rfl rfl (if_congr (by simp) rfl rfl)))
  case raiseMin =>
    refine (State.runNv_of_runs h).trans (congrArg Host.Outcome.next ?_)
    simp only [Dev.secRaiseMin, Dev.checkNv_cons, Dev.checkNv_nil, State.settleNv_ite]
    refine if_congr Iff.rfl rfl (if_congr (by simp [or_assoc]) rfl (if_congr (by simp [and_assoc, Option.isSome_iff_ne_none]) rfl rfl))
  case setTamper =>
    refine (State.runNv_of_runs h).trans (congrArg Host.Outcome.next ?_)
    simp only [Dev.secSetTamper, Dev.checkNv_cons, Dev.checkNv_nil, State.settleNv_ite]
    refine if_congr Iff.rfl rfl (if_congr (by simp [List.range_succ, or_assoc]) rfl rfl)
  case getTamper =>
    refine replies_of_handler rfl h ?_
    simp [Dev.secGetTamper, State.refusal, State.report, Dev.statusReply]
    rfl
  case clear =>
    refine (State.runNv_of_runs h).trans (congrArg Host.Outcome.next ?_)
    have fires : (s.tamper firing).dev.sec.firing = firing := congrArg (fun w => w.2.2.1) (State.tamper_watch firing s)
    simp only [Dev.secTamperClear, Dev.checkNv_cons, Dev.checkNv_nil, State.settleNv_ite, fires]
    rfl
  case jtag =>
    simp [Dev.loadIr]

/-- Settles O44: the six MACsec commands. -/
theorem macsecRowsComplete : Obligations.MacsecRowsComplete := by
  refine ⟨fun s src c h => ?setPort, fun s src pl c h => ?agree, fun s src pl c h => ?install, fun s src c h => ?delete, fun s src c h => ?select,
    fun s src c h => ?status⟩
  case setPort =>
    refine replies_of_handler rfl h ?_
    simp [Dev.macsecSetPort, State.refusal, or_assoc, and_assoc]
    rfl
  case agree =>
    refine replies_of_handler rfl h ?_
    simp [Dev.macsecKekAgree, State.refusal]
  case install =>
    refine replies_of_handler rfl h ?_
    by_cases wrapped : field (pl.getD []) 1 1 = 1
    case' pos => rcases kek : s.dev.sec.kek with _ | k
    case' pos.some => rcases unwrapped : Config.keyUnwrap k (slice (pl.getD []) 32 40) with _ | key
    all_goals
      rcases other : tget (s.dev.getMac (c.hIdx / 4)).peer (c.hIdx % 4) with _ | x <;>
        simp [Dev.macsecSaInstall, State.refusal, or_assoc, beq_eq_decide, *]
  case delete =>
    refine replies_of_handler rfl h ?_
    simp [Dev.macsecSaDelete, State.refusal]
  case select =>
    refine replies_of_handler rfl h ?_
    simp [Dev.macsecTxSelect, State.refusal, or_assoc]
  case status =>
    refine replies_of_handler rfl h ?_
    simp [Dev.macsecGetStatus, State.refusal, State.report, Dev.statusReply]
    rfl

end Sys2Proof
end
section
/-! PROOFS. O42: the governor, the rails, the temperatures and the quiet state. -/

namespace Sys2Proof.Machine
open Sys2Proof

namespace Dev

@[simp] theorem getLoop_putLoop (d : Dev) (fwd : Bool) (l : Loop) : (d.putLoop fwd l).getLoop fwd = l := by cases fwd <;> rfl

theorem getLoop_congr {d e : Dev} (h : e.pwr = d.pwr) (fwd : Bool) : e.getLoop fwd = d.getLoop fwd := by simp only [getLoop, h]

@[simp] theorem getLoop_raise (d : Dev) (type sev subject : Nat) (l : List Fld) (fwd : Bool) : (d.raise type sev subject l).getLoop fwd = d.getLoop fwd :=
  getLoop_congr (raise_pwr ..) fwd
@[simp] theorem getLoop_emit (d : Dev) (e : Emission) (fwd : Bool) : (d.emit e).getLoop fwd = d.getLoop fwd := getLoop_congr (emit_pwr ..) fwd
@[simp] theorem getLoop_setAlarm (d : Dev) (i : Nat) (fwd : Bool) : (d.setAlarm i).getLoop fwd = d.getLoop fwd := getLoop_congr (setAlarm_pwr ..) fwd

/-! ### The governor (R609-R612) -/

/-- The device that a sample of a loop reads: the crickets as given, the inboxes looked at for the forwarding die. -/
def sampled (fwd : Bool) (rates : List Nat) (d : Dev) : Dev := (if fwd then d.noteBacklog else d).readCrickets fwd rates

theorem sampled_getLoop (fwd : Bool) (rates : List Nat) (d : Dev) : (sampled fwd rates d).getLoop fwd = d.getLoop fwd := by cases fwd <;> rfl
theorem sampled_now (fwd : Bool) (rates : List Nat) (d : Dev) : (sampled fwd rates d).now = d.now := by cases fwd <;> rfl
theorem sampled_backlogged (fwd : Bool) (rates : List Nat) (d : Dev) :
    (sampled fwd rates d).backlogged = (if fwd then d.noteBacklog else d).backlogged := rfl

/-- What a loop's setpoint is worked out from beside the sample. -/
theorem sampled_settings (fwd : Bool) (rates : List Nat) (d : Dev) :
    (sampled fwd rates d).pwr.margin = d.pwr.margin ∧ (sampled fwd rates d).pwr.boost = d.pwr.boost ∧
    ∀ l rate target high, nextV (sampled fwd rates d).pwr l rate target high = nextV d.pwr l rate target high := by
  cases fwd <;> exact ⟨rfl, rfl, fun _ _ _ _ => rfl⟩

/-- The need a loop works with: the highest offered, and with a backlog the boost (R612). -/
def needOf (fwd : Bool) (offered : List Nat) (x : Dev) : Nat :=
  if fwd && x.pwr.boost != 100 && x.backlogged then max (offered.foldl max 0) (100 * x.pwr.boost) else offered.foldl max 0

/-- Since when the rate is above the target with its margin. -/
def highSince (l : Loop) (now rate target : Nat) : Option Nat :=
  if decide (target + 30000 < 100 * rate) then some (l.highAt.getD now) else none

/-- It has been above for 100 µs. -/
def highFor (l : Loop) (now rate target : Nat) : Bool :=
  match highSince l now rate target with | some t => decide (t + usT 100 ≤ now) | none => false

theorem highFor_iff (l : Loop) (now rate target : Nat) :
    highFor l now rate target = true ↔ target + 30000 < 100 * rate ∧ l.highAt.getD now + usT 100 ≤ now := by
  by_cases above : target + 30000 < 100 * rate <;> simp [highFor, highSince, above]

/-- The setpoint of a loop after a sample (R611, R613). -/
def setpoint (p : Pwr) (l : Loop) (now rate target : Nat) : Nat :=
  if l.faulted then l.acked else nextV p l rate target (highFor l now rate target)

/-- A loop after a sample, but for its setpoint being sent. -/
def loopAfter (p : Pwr) (l : Loop) (now rate need target : Nat) : Loop :=
  { l with
    v := setpoint p l now rate target, rate := rate, need := need, target := target / 100
    highAt := if highFor l now rate target then some now else highSince l now rate target
    lowAt := if decide (100 * rate < target) && setpoint p l now rate target == 800 then some (l.lowAt.getD now) else none
    okAt := if decide (target ≤ 100 * rate) then some (l.okAt.getD now) else none }

/-- A sample of a loop (R611, R613). -/
theorem governorLoop_eq {fwd : Bool} {rates offered : List Nat} {d : Dev} (up : d.hif.up = true) :
    governorLoop fwd rates offered d =
      let x := sampled fwd rates d
      let l := x.getLoop fwd
      let m := loopAfter x.pwr l x.now (x.lowestRate fwd) (needOf fwd offered x) (needOf fwd offered x * (100 + x.pwr.margin))
      if m.v = l.sent then x.putLoop fwd m else (x.putLoop fwd { m with sent := m.v, setAt := x.now, lower := min l.sent m.v }).emit (.avs fwd m.v) := by
  unfold governorLoop
  rw [if_neg (by simp [up])]
  rfl

theorem putLoop_crickets (d : Dev) (fwd : Bool) (l : Loop) : (d.putLoop fwd l).pwr.crickets = d.pwr.crickets := by cases fwd <;> rfl

/-- What a sample leaves of a loop. -/
theorem governorLoop_sample {fwd : Bool} {rates offered : List Nat} {d : Dev} (up : d.hif.up = true) :
    let x := sampled fwd rates d
    let l := d.getLoop fwd
    let need := needOf fwd offered x
    let m := (governorLoop fwd rates offered d).getLoop fwd
    m.rate = x.lowestRate fwd ∧ m.need = need ∧ m.target = need * (100 + d.pwr.margin) / 100 ∧ m.sent = m.v ∧
    m.v = setpoint d.pwr l d.now (x.lowestRate fwd) (need * (100 + d.pwr.margin)) ∧
    (governorLoop fwd rates offered d).pwr.crickets = x.pwr.crickets := by
  obtain ⟨margin, boost, next⟩ := sampled_settings fwd rates d
  dsimp only
  rw [governorLoop_eq up]
  dsimp only
  rw [sampled_getLoop, sampled_now, margin]
  split
  next held =>
    rw [getLoop_putLoop, putLoop_crickets]
    refine ⟨rfl, rfl, rfl, held.symm, ?_, rfl⟩
    simp only [loopAfter, setpoint, next]
  next moved =>
    rw [getLoop_emit, getLoop_putLoop, emit_pwr, putLoop_crickets]
    refine ⟨rfl, rfl, rfl, rfl, ?_, rfl⟩
    simp only [loopAfter, setpoint, next]

/-! ### The crickets -/

theorem readCrickets_crickets (fwd : Bool) (rates : List Nat) (d : Dev) (h : d.pwr.crickets.length = 128) :
    ((d.readCrickets fwd rates).pwr.crickets.drop (if fwd then 0 else 64)).take 64 = (List.range 64).map fun k => rates.getD k 0 := by
  cases fwd <;> simp [readCrickets, setPwr, List.drop_append, h]

theorem readCrickets_read (fwd : Bool) (rates : List Nat) (d : Dev) (h : d.pwr.crickets.length = 128) (k : Fin 64) :
    (d.readCrickets fwd rates).pwr.crickets[(if fwd then 0 else 64) + k.val]? = some (rates.getD k 0) := by
  have read := congrArg (·[k.val]?) (readCrickets_crickets fwd rates d h)
  simpa [List.getElem?_take, List.getElem?_drop] using read

/-- The lowest of a die's 64 readings. -/
theorem readCrickets_lowestRate (fwd : Bool) (rates : List Nat) (d : Dev) (h : d.pwr.crickets.length = 128) :
    (d.readCrickets fwd rates).lowestRate fwd = ((List.range 64).map fun k => rates.getD k 0).foldl min (rates.getD 0 0) := by
  simp only [lowestRate, readCrickets_crickets fwd rates d h]
  rw [List.range_succ_eq_map]
  simp

theorem needOf_sampled (fwd : Bool) (rates offered : List Nat) (d : Dev) : needOf fwd offered (sampled fwd rates d) =
    if fwd = true ∧ d.pwr.boost ≠ 100 ∧ (if fwd then d.noteBacklog else d).backlogged = true then max (offered.foldl max 0) (100 * d.pwr.boost)
    else offered.foldl max 0 := by
  obtain ⟨-, boost, -⟩ := sampled_settings fwd rates d
  simp only [needOf, boost, sampled_backlogged, Bool.and_eq_true, bne_iff_ne, and_assoc]

/-! ### The temperatures (R618, R619) -/

@[simp] theorem modStack_watch (d s f) : (modStack d s f).watch = d.watch := rfl
@[simp] theorem modStack_alarms (d s f) : (modStack d s f).alarms = d.alarms := rfl

@[simp] theorem stackTemp_watch (s t d) : (stackTemp s t d).watch = d.watch := by simp [stackTemp]
@[simp] theorem stackTemp_alarms (s t d) : (stackTemp s t d).alarms = d.alarms := by simp [stackTemp]

theorem setPwr_alarms (d : Dev) (f : Pwr → Pwr) : (d.setPwr f).alarms = d.alarms := rfl

@[simp] theorem thermalWarn_watch (d) : (thermalWarn d).watch = d.watch := by
  unfold thermalWarn
  dsimp only
  repeat' split
  all_goals simp [setPwr, watch]

@[simp] theorem thermalWarn_alarms (d) : (thermalWarn d).alarms = d.alarms := by
  unfold thermalWarn
  dsimp only
  repeat' split
  all_goals simp [setPwr_alarms]

theorem setTrip_watch (d : Dev) : (d.setPwr fun p => { p with trip := true }).watch = (d.watch.1, true, d.watch.2.2) := rfl

/-- The device with the trip pin asserted and no lane driven any more (R619). -/
def lanesOff (d : Dev) : Dev := (List.range 768).foldl (fun (x : Dev) l => x.emit (.laneDrive l false)) (d.emit (.pin 1 true))

theorem lanesOff_watch (d : Dev) : (lanesOff d).watch = d.watch := (foldl_watch (fun _ _ => emit_watch ..) _ _).trans (emit_watch ..)
theorem lanesOff_alarms (d : Dev) : (lanesOff d).alarms = d.alarms := (foldl_alarms (fun _ _ => emit_alarms ..) _ _).trans (emit_alarms ..)

theorem thermTrip_eq (d : Dev) : thermTrip d =
    (List.range 8).foldl (fun (x : Dev) s => x.modStack s fun y => { y with sr := .asleep }) ((lanesOff d).setPwr fun p => { p with trip := true }) := by
  unfold thermTrip lanesOff; rfl

theorem thermTrip_watch (d : Dev) : (thermTrip d).watch = (d.pwr.sites, true, d.sec.firing, d.sec.alarmOnly) := by
  rw [thermTrip_eq, foldl_watch fun _ _ => modStack_watch .., setTrip_watch, lanesOff_watch, watch]

theorem thermTrip_alarms (d : Dev) : (thermTrip d).alarms = d.alarms := by
  rw [thermTrip_eq, foldl_alarms fun _ _ => modStack_alarms .., setPwr_alarms, lanesOff_alarms]

/-- The junction sites after a sample: a value that is not given stays. -/
def sitesAfter (sites : List Int) (d : Dev) : List Int := (List.range 64).map fun k => sites.getD k (d.pwr.sites.getD k 0)

/-- The device once a sample's values are stored and the warning threshold has been looked at. -/
def sampleWarned (sites hbm : List Int) (d : Dev) : Dev :=
  ((List.range 8).foldl (fun (x : Dev) s => match hbm[s]? with | some t => x.stackTemp s t | none => x)
    (d.setPwr fun p => { p with sites := sitesAfter sites d })).thermalWarn

theorem sampleStacks_watch (hbm : List Int) (d : Dev) :
    ((List.range 8).foldl (fun (x : Dev) s => match hbm[s]? with | some t => x.stackTemp s t | none => x) d).watch = d.watch :=
  foldl_watch (fun x s => by split <;> simp) _ _

theorem sampleWarned_watch (sites hbm : List Int) (d : Dev) :
    (sampleWarned sites hbm d).watch = (sitesAfter sites d, d.pwr.trip, d.sec.firing, d.sec.alarmOnly) := by
  unfold sampleWarned
  rw [thermalWarn_watch, sampleStacks_watch]
  rfl

theorem sampleWarned_alarms (sites hbm : List Int) (d : Dev) : (sampleWarned sites hbm d).alarms = d.alarms := by
  unfold sampleWarned
  rw [thermalWarn_alarms, foldl_alarms fun x s => by split <;> simp, setPwr_alarms]

/-- What the alarm and the trip threshold make of a device whose sites are `l` (R619). -/
def heated (l : List Int) (x : Dev) : Dev :=
  let e := if l.any fun t => decide (420 ≤ t) then x.setAlarm 2 else x
  if (l.any fun t => decide (460 ≤ t)) && !e.pwr.trip then e.thermTrip else e

theorem temperatures_eq (sites hbm : List Int) (d : Dev) : temperatures sites hbm d = heated (sitesAfter sites d) (sampleWarned sites hbm d) := by
  have sampled : (((List.range 8).foldl (fun (x : Dev) s => match hbm[s]? with | some t => x.stackTemp s t | none => x)
      (d.setPwr fun p => { p with sites := sitesAfter sites d })).pwr.sites) = sitesAfter sites d := congrArg Prod.fst (sampleStacks_watch ..)
  exact congrArg (fun l => heated l (sampleWarned sites hbm d)) sampled

theorem heated_watch (l : List Int) (x : Dev) : (heated l x).watch =
    (x.pwr.sites, x.pwr.trip || (l.any fun t => decide (460 ≤ t)), x.sec.firing, x.sec.alarmOnly) := by
  have alarmed : (if l.any fun t => decide (420 ≤ t) then x.setAlarm 2 else x).watch = x.watch := by rw [ite_watch, setAlarm_watch, ite_self]
  unfold heated
  generalize (if l.any fun t => decide (420 ≤ t) then x.setAlarm 2 else x) = e at alarmed ⊢
  obtain ⟨sites, trip, firing, responses⟩ : e.pwr.sites = x.pwr.sites ∧ e.pwr.trip = x.pwr.trip ∧ e.sec.firing = x.sec.firing ∧
      e.sec.alarmOnly = x.sec.alarmOnly := by simpa [watch] using alarmed
  rcases hot : l.any fun t => decide (460 ≤ t)
  · simp [watch, sites, trip, firing, responses]
  · rcases before : x.pwr.trip
    · rw [if_pos (by simp [trip, before]), thermTrip_watch, sites, firing, responses]; rfl
    · simp [watch, sites, trip, firing, responses, before]

theorem heated_alarms (l : List Int) (x : Dev) : (heated l x).alarms = if l.any (fun t => decide (420 ≤ t)) then x.alarms ||| 4#9 else x.alarms := by
  unfold heated
  simp only [ite_alarms, thermTrip_alarms, setAlarm_alarms, ite_self]
  rfl

theorem temperatures_alarms (sites hbm : List Int) (d : Dev) :
    (temperatures sites hbm d).alarms = if (sitesAfter sites d).any (fun t => decide (420 ≤ t)) then d.alarms ||| 4#9 else d.alarms := by
  rw [temperatures_eq, heated_alarms, sampleWarned_alarms]

theorem temperatures_watch (sites hbm : List Int) (d : Dev) : (temperatures sites hbm d).watch =
    (sitesAfter sites d, d.pwr.trip || ((sitesAfter sites d).any fun t => decide (460 ≤ t)), d.sec.firing, d.sec.alarmOnly) := by
  obtain ⟨kept, trip, firing, responses⟩ : (sampleWarned sites hbm d).pwr.sites = sitesAfter sites d ∧ (sampleWarned sites hbm d).pwr.trip = d.pwr.trip ∧
      (sampleWarned sites hbm d).sec.firing = d.sec.firing ∧ (sampleWarned sites hbm d).sec.alarmOnly = d.sec.alarmOnly := by
    simpa [watch] using sampleWarned_watch sites hbm d
  rw [temperatures_eq, heated_watch, kept, trip, firing, responses]

/-! ### The quiet state (R621) -/

@[simp] theorem traceRec_pwr (d e type thread fn data) : (traceRec d e type thread fn data).pwr = d.pwr := by
  unfold traceRec
  dsimp only
  split
  · exact raise_pwr ..
  · rfl

@[simp] theorem gateEngine_pwr (e d) : (gateEngine e d).pwr = d.pwr := by
  unfold gateEngine
  dsimp only
  split
  · exact traceRec_pwr ..
  · rfl

@[simp] theorem quietEvent_pwr (d entered) : (quietEvent d entered).pwr = d.pwr := by
  unfold quietEvent
  dsimp only
  split
  · exact evPut_pwr ..
  · rfl

theorem quietEntry_pwr {d : Dev} (enters : ¬ (d.pwr.quietMs = 0 || !d.quietOk || decide (d.now < d.pwr.busyAt + msT d.pwr.quietMs)) = true) :
    (quietEntry d).pwr = { d.pwr with
      quiet := true, quietAt := d.now, loopF := { d.pwr.loopF with v := d.pwr.floor }, loopQ := { d.pwr.loopQ with v := d.pwr.floor } } := by
  unfold quietEntry
  rw [if_neg enters]
  dsimp only
  rw [quietEvent_pwr, foldl_keeps_part pwr (fun x k => triTrace 1 0 0 k x) fun _ _ => rfl]
  have gated (x : Dev) : ((List.range 64).foldl (fun (x : Dev) e => x.gateEngine e) x).pwr = x.pwr :=
    foldl_keeps_part pwr _ (fun x e => gateEngine_pwr e x) _ _
  split
  · rw [gated]; rfl
  · rw [foldl_keeps_part pwr _ fun x s => by split <;> rfl, gated]; rfl

end Dev
end Sys2Proof.Machine

namespace Sys2Proof
open Sys2Proof.Machine

/-- Settles O42: loop by loop, rail by rail, sample by sample. -/
theorem powerRowsComplete : Obligations.PowerRowsComplete := by
  refine ⟨fun s fwd rates offered => onDev_devStep rfl ?governor, fun s fwd ack mv ma => onDev_devStep rfl ?telemetry,
    fun s fwd => onDev_devStep rfl ?shortStart, fun s fwd => onDev_devStep rfl ?shortEnd, fun s k mv => onDev_devStep rfl ?rail,
    fun s k mv steady => ?glitch, fun s k mv slewing => ?slewed, fun s sites hbm => ?temperature, fun s => onDev_devStep rfl ?quiet,
    fun s src c h => ?status, fun s src c h => ?govSet, fun s src c h => ?thermal⟩
  case governor =>
    by_cases up : s.dev.hif.up = true
    · obtain ⟨rate, need, target, sent, v, crickets⟩ := Dev.governorLoop_sample (fwd := fwd) (rates := rates) (offered := offered) up
      rw [Dev.needOf_sampled] at need target v
      unfold Dev.sampled at rate v crickets
      have backlog : s.dev.pwr.crickets = (if fwd = true then s.dev.noteBacklog else s.dev).pwr.crickets := by cases fwd <;> rfl
      dsimp only
      rw [if_neg (by simp [up])]
      refine ⟨rate, need, target, sent, fun whole => ⟨?_, fun k => ?_⟩, fun faulted => ?_, fun sound floor => ?_, fun sound fixed quiet short => ?_,
        fun sound fixed quiet short low => ?_, fun sound fixed quiet short reached => ?_⟩
      · rw [Dev.readCrickets_lowestRate _ _ _ (backlog ▸ whole)]
      · rw [crickets, Dev.readCrickets_read _ _ _ (backlog ▸ whole)]
      · rw [v, Dev.setpoint, if_pos faulted]
      · rw [v, Dev.setpoint, if_neg (by simp [sound]), Dev.nextV, if_pos (by simpa using floor)]
      · rw [v, Dev.setpoint, if_neg (by simp [sound]), Dev.nextV, if_neg (by simp [fixed, quiet]), if_pos short]
      · rw [v, Dev.setpoint, if_neg (by simp [sound]), Dev.nextV, if_neg (by simp [fixed, quiet]), if_neg (by simp [short]), if_pos low]
      · rw [v, Dev.setpoint, if_neg (by simp [sound]), Dev.nextV, if_neg (by simp [fixed, quiet]), if_neg (by simp [short]),
          if_neg (Nat.not_lt.mpr reached)]
        simp only [Dev.highFor_iff]
    · simp [Dev.governorLoop, up]
  case telemetry =>
    by_cases up : s.dev.hif.up = true
    · cases ack
      · by_cases third : 2 ≤ (s.dev.getLoop fwd).nacks
        · rcases told : (s.dev.getLoop fwd).faulted <;> simp [Dev.avsTelemetry, up, third, told]
        · simp [Dev.avsTelemetry, up, third]
      · simp [Dev.avsTelemetry, up]
    · simp [Dev.avsTelemetry, up]
  case shortStart =>
    rcases low : (s.dev.getLoop fwd).lowAt with _ | t
    · simp [Dev.shortfallStart, low]
    · by_cases begins : (s.dev.getLoop fwd).short = false ∧ t + usT 100 ≤ s.dev.now
      · have starts : Dev.shortfallStart fwd s.dev =
            ((s.dev.putLoop fwd { s.dev.getLoop fwd with short := true }).setAlarm 3).shortfallEvent fwd false := by
          simp only [Dev.shortfallStart, low]
          exact if_pos (by simpa using begins)
        dsimp only
        rw [if_pos begins, starts]
        refine ⟨?_, Dev.raise_kept _ _ _ _ _ 3 (by rw [Dev.setAlarm_alarm]; simp)⟩
        rw [Dev.shortfallEvent, Dev.getLoop_raise, Dev.getLoop_setAlarm, Dev.getLoop_putLoop]
      · have stays : Dev.shortfallStart fwd s.dev = s.dev := by
          simp only [Dev.shortfallStart, low]
          exact if_neg (by simpa using begins)
        simp [begins, stays]
  case shortEnd =>
    rcases reached : (s.dev.getLoop fwd).okAt with _ | t
    · simp [Dev.shortfallEnd, reached]
    · by_cases ends : (s.dev.getLoop fwd).short = true ∧ t + msT 100 ≤ s.dev.now
      · have stops : Dev.shortfallEnd fwd s.dev = Dev.shortfallEvent fwd true
            { s.dev.putLoop fwd { s.dev.getLoop fwd with short := false } with hbm := { s.dev.hbm with calmAt := s.dev.now } } := by
          simp only [Dev.shortfallEnd, reached]
          exact if_pos (by simpa using ends)
        dsimp only
        rw [if_pos ends, stops, Dev.shortfallEvent, Dev.getLoop_raise, Dev.raise_hbm]
        exact ⟨congrArg Loop.short (Dev.getLoop_putLoop ..), rfl⟩
      · have stays : Dev.shortfallEnd fwd s.dev = s.dev := by
          simp only [Dev.shortfallEnd, reached]
          exact if_neg (by simpa using ends)
        simp [ends, stays]
  case rail =>
    by_cases slewing : s.dev.railSlewing k = true
    · simp [Dev.railSample, slewing, Dev.setPwr]
    · by_cases outside : Dev.railTol k (s.dev.nominalNow k) < 10 * (max mv (s.dev.nominalNow k) - min mv (s.dev.nominalNow k))
      · rcases raised : (s.dev.pwr.rail.getD k {}).raised <;>
          by_cases due : (s.dev.pwr.rail.getD k {}).outAt.getD s.dev.now + usT 100 ≤ s.dev.now <;>
            simp [Dev.railSample, slewing, outside, raised, due, Dev.setPwr, -List.getD_eq_getElem?_getD]
      · rcases raised : (s.dev.pwr.rail.getD k {}).raised <;>
          by_cases due : (s.dev.pwr.rail.getD k {}).inAt.getD s.dev.now + msT 1 ≤ s.dev.now <;>
            simp [Dev.railSample, slewing, outside, raised, due, Dev.setPwr, -List.getD_eq_getElem?_getD]
  case glitch =>
    refine (apply_ite Host.Outcome.next _ _ _).symm.trans (congrArg Host.Outcome.next (if_congr ?_ rfl rfl))
    simp [Dev.glitches, steady]
  case slewed =>
    refine (apply_ite Host.Outcome.next _ _ _).symm.trans (congrArg Host.Outcome.next (if_congr ?_ rfl rfl))
    by_cases forwarding : k = 0
    · subst forwarding
      have now : s.dev.railSlewing 0 = true := slewing
      simp [Dev.glitches, now]
    · rcases k with ⟨_ | k, bound⟩
      · exact absurd rfl forwarding
      · simp [Dev.glitches, slewing, forwarding]
  case temperature =>
    refine ⟨_, rfl, State.tamper_pending .., ?_⟩
    obtain ⟨sampled, trip, firing, responses⟩ : (Dev.temperatures sites hbm s.dev).pwr.sites = Dev.sitesAfter sites s.dev ∧
        (Dev.temperatures sites hbm s.dev).pwr.trip = (s.dev.pwr.trip || ((Dev.sitesAfter sites s.dev).any fun t => decide (460 ≤ t))) ∧
        (Dev.temperatures sites hbm s.dev).sec.firing = s.dev.sec.firing ∧
        (Dev.temperatures sites hbm s.dev).sec.alarmOnly = s.dev.sec.alarmOnly := by
      simpa [Dev.watch] using Dev.temperatures_watch sites hbm s.dev
    have answered := State.tamper_watch ((s.dev.sec.firing &&& 0x7#4) ||| (if (Dev.temperatures sites hbm s.dev).tempTamper then 0x8#4 else 0#4))
      { s with dev := Dev.temperatures sites hbm s.dev }
    rw [firing]
    refine ⟨?_, fun hot => ?_, fun hot => ?_, ?_⟩
    · exact (congrArg Prod.fst answered).trans sampled
    · refine State.tamper_keepsAlarm (by decide) ?_
      have stands := Dev.temperatures_alarms sites hbm s.dev
      rw [if_pos (by simpa [Dev.sitesAfter] using hot)] at stands
      rw [← Dev.alarms_getLsbD _ (by decide), stands, BitVec.getLsbD_or]
      exact Bool.or_true _
    · refine (congrArg (fun w => w.2.1) answered).trans (trip.trans ?_)
      rw [show ((Dev.sitesAfter sites s.dev).any fun t => decide (460 ≤ t)) = true by simpa [Dev.sitesAfter] using hot, Bool.or_true]
    · refine (congrArg (fun w => w.2.2.1) answered).trans ?_
      rw [Dev.tempTamper, sampled]
      rfl
  case quiet =>
    by_cases stays : s.dev.pwr.quietMs = 0 ∨ s.dev.quietOk = false ∨ s.dev.now < s.dev.pwr.busyAt + msT s.dev.pwr.quietMs
    · exact (if_pos stays).mpr (if_pos (by simpa [or_assoc] using stays))
    · rw [if_neg stays, Dev.quietEntry_pwr (by simpa [or_assoc] using stays)]
      exact ⟨rfl, rfl, rfl, rfl⟩
  case status =>
    refine replies_of_handler rfl h ?_
    simp only [Dev.pwrGetStatus, Dev.check_cons, Dev.check_nil, Dev.statusReply]
    rfl
  case govSet =>
    refine replies_of_handler rfl h ?_
    simp [Dev.govSet, State.refusal, Dev.setPwr, or_assoc]
  case thermal =>
    refine replies_of_handler rfl h ?_
    simp [Dev.pwrSetThermal, State.refusal, Dev.setPwr, or_assoc]

end Sys2Proof
end
section
/-! PROOFS. O41: the confirmation time, the parser banks and the firmware commands. -/

namespace Sys2Proof.Machine
open Sys2Proof

namespace Dev

/-! ### The restart of the triad (R565, R599) -/

@[simp] theorem triTrace_tri_restart (type before after k d) : (triTrace type before after k d).tri.restart = d.tri.restart := by
  rfl

/-- A restart that begins while none runs is the one that was asked for, and the outputs wait for it. -/
theorem beginRestart_begins {cause : RestartCause} {kind : RestartKind} {intake : Option Nat} {d : Dev} (idle : d.tri.restart = none) :
    (beginRestart cause kind intake d).hif.headless = true ∧ ∃ r, (beginRestart cause kind intake d).tri.restart = some r ∧ r.kind = kind ∧
      r.cause = cause ∧ r.intake = intake := by
  have told (x : Dev) : ((x.triRunning.foldl (fun (x : Dev) k => x.triTrace 0x13 1 0 k) x).setCause 42).hif.headless = x.hif.headless :=
    (congrArg Hif.headless (setCause_besideIrq _ 42) :).trans
      (foldl_keeps_part (fun y => y.hif.headless) (fun (x : Dev) k => x.triTrace 0x13 1 0 k) (fun _ _ => rfl) _ x)
  have kept (x : Dev) : ((x.triRunning.foldl (fun (x : Dev) k => x.triTrace 0x13 1 0 k) x).setCause 42).tri.restart = x.tri.restart := by
    rw [setCause_tri]
    exact foldl_keeps_part (fun y => y.tri.restart) _ (fun _ _ => triTrace_tri_restart ..) _ x
  unfold beginRestart
  rw [if_neg (by simp [idle])]
  exact ⟨told _, _, kept _, rfl, rfl, rfl⟩

/-! ### The command that waits (R518) -/

theorem answer_besideCompletion (k r d) : (answer k r d).besideCompletion = d.besideCompletion := by
  unfold answer
  split
  · exact complete_besideCompletion ..
  · rfl

theorem answer_fw (k r d) : (answer k r d).fw = d.fw := (congrArg fw (answer_besideCompletion k r d) :)
theorem answer_fab (k r d) : (answer k r d).fab = d.fab := (congrArg fab (answer_besideCompletion k r d) :)

/-! ### Relayed images (R602) -/

/-- What the relay at the meridian keeps while chunks leave: the image, its length, the command that waits, the flag and the successor. -/
def relayOrder (d : Dev) : Option (Nat × Nat × Option Nat × Bool × Option Nat) := d.fab.relay.map fun r => (r.image, r.count, r.intake, r.keep, r.succ)

theorem sendFc_relay (d k n b l) : (sendFc d k n b l).fab.relay = d.fab.relay := by
  unfold sendFc
  split <;> rfl

theorem relayPump_order (n : Nat) (d : Dev) : (relayPump n d).relayOrder = d.relayOrder := by
  induction n generalizing d with
  | zero => rfl
  | succ n ih =>
    unfold relayPump
    split
    · rfl
    next r here =>
      split
      · split
        · rw [ih]
          simp [relayOrder, here, setRelay, setFab]
        · rfl
      · rfl

/-- A relay with a successor goes on. -/
theorem relayTail_goesOn {d : Dev} {r : Relay} {x : Nat} (here : d.fab.relay = some r) (next : r.succ = some x) : relayTail d = d := by
  simp [relayTail, here, next]

/-- A relay at the meridian with no successor has ended. -/
theorem relayTail_ends {d : Dev} {r : Relay} {k : Nat} (here : d.fab.relay = some r) (last : r.succ = none) (mine : r.intake = some k) :
    (relayTail d).fab.relay = none := by
  simp [relayTail, here, last, mine, relayDone, answer_fab, setRelay, setFab]

/-- The relay that FW_RELAY begins with a staged image. -/
def stagedRelay (img : Bytes) (c : Cmd) (d : Dev) : Relay :=
  { image := (imgHeader img).id, count := (c.f 0 4 + 4095) / 4096, intake := some c.intake, keep := c.f 8 1 == 1
    chunks := (List.range ((c.f 0 4 + 4095) / 4096)).map (fun k => (k, (img.drop (4096 * k)).take 4096))
    succ := d.relayNext d.fab.holder, heard := d.now }

/-- A relay that the meridian begins: it goes on where a successor is reachable and ends at once otherwise. -/
theorem relay_begins {r : Relay} {k : Nat} {d : Dev} (mine : r.intake = some k) :
    (r.succ = none → (relayTail (relayPump 8 (d.setRelay (some r)))).fab.relay = none) ∧
    ∀ x, r.succ = some x → (relayTail (relayPump 8 (d.setRelay (some r)))).relayOrder = some (r.image, r.count, r.intake, r.keep, r.succ) := by
  have order : (relayPump 8 (d.setRelay (some r))).relayOrder = some (r.image, r.count, r.intake, r.keep, r.succ) := relayPump_order ..
  obtain ⟨r', here, same⟩ := Option.map_eq_some_iff.mp order
  obtain ⟨-, -, intake, -, succ⟩ : r'.image = r.image ∧ r'.count = r.count ∧ r'.intake = r.intake ∧ r'.keep = r.keep ∧ r'.succ = r.succ := by
    simpa using same
  refine ⟨fun last => relayTail_ends here (succ.trans last) (intake.trans mine), fun x next => ?_⟩
  rw [relayTail_goesOn here (succ.trans next), order]

end Dev

namespace State

/-- What FW_RELAY leaves once its image is staged, stored locally or not. -/
theorem fwRelay_staged (s : State) (c : Cmd) (p : Nv × Dev) (r : Relay) (mine : r.intake = some c.intake) :
    let t := s.settleNv c (match Dev.settle c (.pend (p.2.setRelay (some r))) with | d1 => (p.1, .pend (Dev.relayTail (Dev.relayPump 8 d1))))
    t.pending = s.pending ∧ t.nv = p.1 ∧ (r.succ = none → t.dev.fab.relay = none) ∧
      ∀ x, r.succ = some x → ∃ r', t.dev.fab.relay = some r' ∧ r'.image = r.image ∧ r'.count = r.count ∧ r'.intake = r.intake ∧ r'.keep = r.keep ∧
        r'.succ = r.succ := by
  have begins := Dev.relay_begins (d := p.2.startCmd c.intake) mine
  refine ⟨rfl, rfl, fun last => begins.1 last, fun x next => ?_⟩
  obtain ⟨r', here, same⟩ := Option.map_eq_some_iff.mp (begins.2 x next)
  exact ⟨r', here, by simpa using same⟩

end State
end Sys2Proof.Machine

namespace Sys2Proof
open Sys2Proof.Machine

/-- One test of a handler against one line of its statement: where the test holds it refuses, and otherwise the rest decides. -/
theorem ite_refuses {p q : Prop} [Decidable p] [Decidable q] {x y z t : State} {Q : Prop} (told : (if p then x else y) = t) (same : q ↔ p) (refused : x = z)
    (rest : y = t → Q) : if q then t = z else Q := by
  by_cases h : p
  · rw [if_pos (same.mpr h), ← told, if_pos h, refused]
  · rw [if_neg (mt same.mp h)]
    exact rest ((if_neg h).symm.trans told)

/-- Settles O41: the confirmation time, the bank swap and the seven firmware commands. -/
theorem firmwareRowsComplete : Obligations.FirmwareRowsComplete := by
  refine ⟨fun s => ?timeout, fun s => ?swap, fun s src c h => ?getStatus, fun s src pl ok1 ok2 c h => ?write, fun s src c h => ?activate,
    fun s src c h => ?confirm, fun s src c h => ?revert, fun s src pl c h => ?relay, fun s src pl c h => ?patch⟩
  case timeout =>
    refine onDev_devStep rfl ?_
    unfold Dev.confirmTimeout
    cases at_ : s.dev.fw.confirmDue with
    | none => simp [due]
    | some t =>
      by_cases waits : s.dev.fwHeld = true ∨ s.dev.now < t
      · refine (if_pos waits).mpr (if_pos ?_)
        simpa [due] using waits
      · refine (if_neg waits).mpr ?_
        rw [if_neg (by simpa [due] using waits)]
        exact ⟨rfl, fun idle => Dev.beginRestart_begins idle⟩
  case swap =>
    refine onDev_devStep rfl ?_
    unfold Dev.parserSwap
    cases s.dev.fw.patch with
    | none => rfl
    | some p =>
      by_cases early : s.dev.now < p.at_ + usT 100
      · exact (if_pos early).mpr (if_pos early)
      · refine (if_neg early).mpr ?_
        simp [if_neg early, Dev.answer_fw]
  case getStatus =>
    refine replies_of_handler rfl h ?_
    simp only [Dev.fwGetStatus, Dev.check_cons, Dev.check_nil, Dev.statusReply]
    rfl
  case write =>
    refine (State.runNv_of_runs h).trans (congrArg Host.Outcome.next ?_)
    simp only [Dev.fwWrite, Dev.checkNv_cons, Dev.checkNv_nil, State.settleNv_ite]
    refine if_congr Iff.rfl rfl (if_congr (by simp) rfl (if_congr (by simp [Option.isSome_iff_ne_none]) rfl (if_congr (by simp) rfl
      (if_congr (by simp) rfl (if_congr (by simp) rfl (if_congr (by simp) rfl rfl))))))
  case activate =>
    refine (State.runNv_of_runs h).trans (congrArg Host.Outcome.next ?_)
    simp only [Dev.fwActivate, Dev.checkNv_cons, Dev.checkNv_nil, State.settleNv_ite]
    refine if_congr Iff.rfl rfl (if_congr (by simp [or_assoc, and_assoc]) rfl (if_congr (by simp) rfl
      (if_congr (by simp [or_assoc, Option.isSome_iff_ne_none]) rfl rfl)))
  case confirm =>
    refine (State.runNv_of_runs h).trans (congrArg Host.Outcome.next ?_)
    simp only [Dev.fwConfirm, Dev.checkNv_cons, Dev.checkNv_nil, State.settleNv_ite]
    refine if_congr Iff.rfl rfl (if_congr Iff.rfl rfl ?_)
    cases s.nv.trial <;> rfl
  case revert =>
    refine replies_of_handler rfl h ?_
    simp [Dev.fwRevert, State.refusal]
  case relay =>
    refine ⟨_, State.runNv_of_runs h, ?_⟩
    generalize told : s.settleNv c (Dev.fwRelay pl c s.nv s.dev) = t
    simp only [Dev.fwRelay, Dev.checkNv_cons, Dev.checkNv_nil, State.settleNv_ite] at told
    refine ite_refuses told Iff.rfl rfl fun told => ite_refuses told (by simp [or_assoc]) rfl fun told => ite_refuses told (by simp) rfl fun told =>
      ite_refuses told (by simp [Option.isSome_iff_ne_none]) rfl fun told => ite_refuses told (by simp) rfl fun told =>
      ite_refuses told (by simp) rfl fun told => ite_refuses told (by simp) rfl fun told => ?_
    subst told
    obtain ⟨pending, nv, ends, goesOn⟩ := State.fwRelay_staged s c
      (if c.f 8 1 = 1 then Dev.writeSlot (!s.dev.hif.fwSlot) (slice (pl.getD []) 0 (c.f 0 4)) false s.nv s.dev else (s.nv, s.dev))
      (Dev.stagedRelay (slice (pl.getD []) 0 (c.f 0 4)) c s.dev) rfl
    refine ⟨pending, nv.trans (apply_ite Prod.fst _ _ _), ends, fun x next => ?_⟩
    obtain ⟨r, here, image, count, intake, keep, succ⟩ := goesOn x next
    exact ⟨r, here, image, count, intake, keep, succ.trans next⟩
  case patch =>
    refine replies_of_handler rfl h ?_
    unfold Dev.parserPatch
    simp only [Option.isNone_iff_eq_none, Dev.check_cons, Dev.check_nil]
    generalize (if verifyImg s.nv (slice (pl.getD []) 0 (c.f 0 4)) = none then oneComp (slice (pl.getD []) 0 (c.f 0 4)) 9 else none) = found
    have malformed_iff : (c.dirty 4 28 || pl.isNone) = true ↔ c.dirty 4 28 = true ∨ pl = none := by simp
    cases found with
    | none =>
      refine if_congr Iff.rfl rfl (if_congr ?_ rfl rfl)
      rw [Bool.or_false, malformed_iff]
    | some x =>
      obtain ⟨i, p⟩ := x
      refine if_congr Iff.rfl rfl ?_
      by_cases malformed : c.dirty 4 28 = true ∨ pl = none
      · rw [if_pos (by rw [malformed_iff.mpr malformed, Bool.true_or]), if_pos malformed]
        rfl
      · rw [if_neg malformed, Bool.eq_false_iff.mpr (mt malformed_iff.mp malformed), Bool.false_or]
        exact if_congr (by simp [or_assoc]) rfl rfl

end Sys2Proof
end
section
/-! PROOFS. O40: bring-up, device reset and the recovery commands. -/

namespace Sys2Proof.Machine
open Sys2Proof

namespace Dev

/-! ### The BOOT_PHASE balls (R591) -/

@[simp] theorem phases_fw (l : List Nat) (d : Dev) : (phases l d).fw = d.fw := by
  induction l generalizing d with
  | nil => rfl
  | cons v l ih => exact (ih _).trans (emit_fw ..)

/-- The balls show the last value they took. -/
@[simp] theorem phases_hif (l : List Nat) (d : Dev) : (phases l d).hif = { d.hif with bootPhase := l.getLastD d.hif.bootPhase } := by
  induction l generalizing d with
  | nil => rfl
  | cons v l ih =>
    refine (ih _).trans ?_
    rw [emit_hif, List.getLastD_cons]

@[simp] theorem flashPhase_fw (on d) : (flashPhase on d).fw = d.fw := by
  unfold flashPhase
  dsimp only
  generalize (if on = true then _ else _ : Nat) = v
  split
  · rfl
  · exact phases_fw ..

/-! ### What bring-up settles before its last phase (R589) -/

/-- The host interface without its interrupts, and the firmware: what the phases after the choice of a slot keep. -/
def bootView (d : Dev) : Hif × FwSt := (d.hif.besideIrq, d.fw)

theorem bootView_of_parts {d e : Dev} (hif : e.hif.besideIrq = d.hif.besideIrq) (fw : e.fw = d.fw) : e.bootView = d.bootView := by
  simp only [bootView, hif, fw]

theorem foldl_bootView {α : Type} {f : Dev → α → Dev} (h : ∀ d x, (f d x).bootView = d.bootView) (l : List α) (d : Dev) :
    (l.foldl f d).bootView = d.bootView := foldl_keeps_part bootView f h l d

@[simp] theorem raise_bootView (d type sev subject l) : (raise d type sev subject l).bootView = d.bootView :=
  bootView_of_parts (raise_besideIrq ..) (raise_fw ..)
@[simp] theorem setCause_bootView (d i) : (setCause d i).bootView = d.bootView := bootView_of_parts (setCause_besideIrq ..) (setCause_fw ..)
@[simp] theorem setAlarm_bootView (d i) : (setAlarm d i).bootView = d.bootView := bootView_of_parts (setAlarm_besideIrq ..) (setAlarm_fw ..)
@[simp] theorem emit_bootView (d e) : (emit d e).bootView = d.bootView := bootView_of_parts (congrArg Hif.besideIrq (emit_hif ..)) (emit_fw ..)
@[simp] theorem sendDiscover_bootView (l d) : (sendDiscover l d).bootView = d.bootView := emit_bootView ..
@[simp] theorem setPipe_bootView (d i x) : (setPipe d i x).bootView = d.bootView := rfl
@[simp] theorem dropPipe_bootView (d pl code len) : (dropPipe d pl code len).bootView = d.bootView := rfl
@[simp] theorem egressFlush_bootView (pl d) : (egressFlush pl d).bootView = d.bootView := rfl

@[simp] theorem announcePort_bootView (d p down) : (announcePort d p down).bootView = d.bootView :=
  bootView_of_parts (congrArg Hif.besideIrq (sendFcAll_hif ..)) (sendFcAll_fw ..)

@[simp] theorem liveCheck_bootView (d) : (liveCheck d).bootView = d.bootView := foldl_bootView (fun _ _ => raise_bootView ..) _ _

@[simp] theorem protect_bootView (d p cause) : (protect d p cause).bootView = d.bootView := by
  unfold protect
  dsimp only
  split
  · rfl
  · rw [liveCheck_bootView, announcePort_bootView]
    exact raise_bootView ..

theorem flushOne_bootView (pl code p len d) : (flushOne pl code p len d).bootView = d.bootView := by
  unfold flushOne
  (repeat' split) <;> rfl

@[simp] theorem flushPipe_bootView (pl d) : (flushPipe pl 24 d).bootView = d.bootView := by
  rw [flushPipe_keeps bootView pl 24 (flushOne_bootView pl 24), setPipe_bootView]

@[simp] theorem pipeFailed_bootView (pl cause d) : (pipeFailed pl cause d).bootView = d.bootView := by
  unfold pipeFailed protectPorts
  rw [foldl_bootView (fun _ _ => protect_bootView ..), setAlarm_bootView, raise_bootView, setPipe_bootView]

@[simp] theorem failPipe_bootView (pl cause d) : (failPipe pl cause d).bootView = d.bootView := by
  rw [failPipe_eq]
  split
  · rw [flushPipe_bootView, pipeFailed_bootView]
  · rfl

@[simp] theorem traceRec_bootView (d e type thread fn data) : (traceRec d e type thread fn data).bootView = d.bootView := by
  unfold traceRec
  dsimp only
  split
  · exact raise_bootView ..
  · rfl

@[simp] theorem wake_bootView (d e) : (wake d e).bootView = d.bootView := by
  unfold wake
  dsimp only
  split
  · exact traceRec_bootView ..
  · rfl

@[simp] theorem modEng_bootView (d e f) : (modEng d e f).bootView = d.bootView := by
  unfold modEng modeRec
  dsimp only
  split
  · rfl
  · exact traceRec_bootView ..

@[simp] theorem dropFlight_bootView (d pl fid code egress) : (dropFlight d pl fid code egress).bootView = d.bootView := by
  unfold dropFlight
  dsimp only
  split
  · rfl
  · rw [egressFlush_bootView, dropPipe_bootView, setPipe_bootView]

@[simp] theorem modFn_bootView (d i f) : (modFn d i f).bootView = d.bootView := by
  unfold modFn
  split <;> rfl

@[simp] theorem dropWork_bootView (d fn w) : (dropWork d fn w).bootView = d.bootView := by
  cases w <;> simp [dropWork]

@[simp] theorem discardHeld_bootView (e d) : (discardHeld e d).bootView = d.bootView :=
  (foldl_bootView (fun _ _ => dropWork_bootView ..) _ _).trans (modEng_bootView ..)

@[simp] theorem engineFailure_bootView (e c d) : (engineFailure e c d).bootView = d.bootView := by
  unfold engineFailure
  split
  · rfl
  · refine (discardHeld_bootView ..).trans ((raise_bootView ..).trans ?_)
    exact wake_bootView ..

@[simp] theorem budgetWatch_bootView (d) : (budgetWatch d).bootView = d.bootView := by
  unfold budgetWatch
  dsimp only
  split
  · split
    · rfl
    · exact raise_bootView ..
  · rfl

@[simp] theorem bringHbm_bootView (e p new d) : (bringHbm e p new d).bootView = d.bootView := by
  unfold bringHbm
  dsimp only
  refine (budgetWatch_bootView _).trans ((foldl_bootView (fun _ _ => raise_bootView ..) _ _).trans ?_)
  split
  · rfl
  · refine (raise_bootView ..).trans ?_
    refine List.foldlRecOn (motive := fun r : List Fld × Dev => r.2.bootView = d.bootView) _ _ rfl fun r same k _ => ?_
    split <;> exact same

@[simp] theorem bringObjects_bootView (e d) : (bringObjects e d).bootView = d.bootView := by
  unfold bringObjects
  dsimp only
  rw [foldl_bootView (fun _ _ => sendDiscover_bootView ..)]
  rfl

@[simp] theorem defaultsEvent_bootView (c d) : (defaultsEvent c d).bootView = d.bootView := by
  cases c
  · rfl
  · exact raise_bootView ..

/-- Bring-up at its end, before the events and the failures of phase 0xA. -/
def readied (e : BootEnv) (nv : Nv) (d : Dev) : Dev :=
  { d with
    hif := { d.hif with up := true, answers := true, chrysalis := false, readyMs := e.readyMs, readyAt := d.now }
    fw := { d.fw with causes := 0, env := none, buffer := [], confirmDue := confirmAt nv d } }

theorem becomeReady_bootView (e nv fall d) : (becomeReady e nv fall d).bootView = (readied e nv d).bootView := by
  unfold becomeReady
  refine (foldl_bootView (fun _ _ => engineFailure_bootView ..) _ _).trans ?_
  refine (foldl_bootView (fun _ _ => failPipe_bootView ..) _ _).trans ?_
  exact raise_bootView ..

end Dev

namespace State

/-- Two of the three control channels pass phase 0x3. -/
theorem two_channels {a b c : Bool} (h : (a && b || a && c || b && c) = true) : ¬ ([a, b, c].filter id).length < 2 := by
  revert a b c
  decide

/-- Phases 0x3 to 0xB choose no slot. -/
theorem bootRest_choice (e : BootEnv) (b : Bool) (fall : List (Nat × Nat)) (s : State) :
    (s.bootRest e b fall).nv.current = s.nv.current ∧ (s.bootRest e b fall).nv.trial = s.nv.trial := by
  unfold bootRest
  dsimp only
  split
  · exact ⟨rfl, rfl⟩
  · dsimp only
    split <;> exact ⟨rfl, rfl⟩

/-- A tamper latched before bring-up is shown again at its end. -/
theorem shown_bootView (p : Prop) [Decidable p] (x : Dev) (sec : Sec) :
    Dev.bootView (if p then { x with sec := sec } else Dev.setAlarm { x with sec := sec } 1) = x.bootView := by
  split
  · rfl
  · exact Dev.setAlarm_bootView ..

/-- The control firmware of the slot runs, after the BOOT_PHASE of every phase. -/
def firmwareRuns (e : BootEnv) (b : Bool) (s : State) : Dev :=
  let d := (s.dev.phases [3, 4, 5, 6, 7, 8, 9, 0xA, 0xB]).runSlot s.nv b
  { d with
    time := { d.time with off := msT e.timeMs.val - d.now }
    fw := { d.fw with bankVer := List.replicate 8 (tgetD d.fw.comps 0 6) } }

/-- What phases 0x6 to 0xA do keeps the interface and the firmware as the slot left them. -/
theorem bootRest_bootView {e : BootEnv} (b : Bool) (s : State) (pass : ¬ ([e.chanPass.1, e.chanPass.2.1, e.chanPass.2.2].filter id).length < 2) :
    ∃ nv d, (s.bootRest e b []).dev.bootView = (Dev.readied e nv d).bootView ∧ d.bootView = (firmwareRuns e b s).bootView := by
  unfold bootRest
  dsimp only
  rw [if_neg pass]
  refine ⟨_, _, Dev.becomeReady_bootView .., ?_⟩
  refine (shown_bootView _ _ _).trans ?_
  rw [Dev.defaultsEvent_bootView, Dev.bringObjects_bootView, Dev.bringHbm_bootView]
  rfl

theorem firmwareRuns_hif (e : BootEnv) (b : Bool) (s : State) : (firmwareRuns e b s).hif = { s.dev.hif with bootPhase := 0xB, fwSlot := b } := by
  simp [firmwareRuns, Dev.runSlot]

theorem firmwareRuns_image (e : BootEnv) (b : Bool) (s : State) : (firmwareRuns e b s).fw.image = (Dev.slot s.nv s.dev b).image := by
  have same : Dev.slot s.nv (s.dev.phases [3, 4, 5, 6, 7, 8, 9, 0xA, 0xB]) b = Dev.slot s.nv s.dev b := by simp only [Dev.slot, Dev.phases_fw]
  rw [← same]
  rfl

/-- With two control channels bring-up reaches READY, and the slot that was chosen runs. -/
theorem bootRest_ready {e : BootEnv} (b : Bool) (s : State) (pass : ¬ ([e.chanPass.1, e.chanPass.2.1, e.chanPass.2.2].filter id).length < 2) :
    (s.bootRest e b []).dev.hif.up = true ∧ (s.bootRest e b []).dev.hif.bootPhase = 0xB ∧ (s.bootRest e b []).dev.hif.readyMs = e.readyMs ∧
      (s.bootRest e b []).dev.hif.fwSlot = b ∧ (s.bootRest e b []).dev.fw.image = (Dev.slot s.nv s.dev b).image := by
  obtain ⟨nv, d, view, kept⟩ := bootRest_bootView b s pass
  have phase : d.hif.bootPhase = 0xB := (congrArg (fun v => v.1.bootPhase) kept :).trans (congrArg Hif.bootPhase (firmwareRuns_hif e b s))
  have slot : d.hif.fwSlot = b := (congrArg (fun v => v.1.fwSlot) kept :).trans (congrArg Hif.fwSlot (firmwareRuns_hif e b s))
  have image : d.fw.image = _ := (congrArg (fun v => v.2.image) kept :).trans (firmwareRuns_image e b s)
  exact ⟨(congrArg (fun v => v.1.up) view :), (congrArg (fun v => v.1.bootPhase) view :).trans phase, (congrArg (fun v => v.1.readyMs) view :),
    (congrArg (fun v => v.1.fwSlot) view :).trans slot, (congrArg (fun v => v.2.image) view :).trans image⟩

/-- The ROM runs with the straps it sampled. -/
def romRuns (e : BootEnv) (d : Dev) : Dev := { d.phases [1] with fw := { d.fw with bootSrc := e.bootSrc.val, smbAddr := e.smbAddr.val } }

/-- The boot source that counts: BOOT_SRC 0b11 may be ignored once (R604). -/
def sourceOf (e : BootEnv) (s : State) : Nat := if e.bootSrc = 3 ∧ s.nv.ignoreSrc then 0 else e.bootSrc.val

theorem boot_romFails {e : BootEnv} (s : State) (fails : e.romOk = false) : s.boot e = { s with dev := (romRuns e s.dev).halt 1 } := by
  simp only [boot, fails]
  rfl

/-- Bring-up where the ROM works and no tamper source fires, by its boot source. -/
theorem boot_untampered {e : BootEnv} {s : State} (works : e.romOk = true) (quiet : e.tamper = none) (still : s.dev.sec.firing = 0#4) :
    s.boot e =
      if sourceOf e s = 0 then
        let c := ((romRuns e s.dev).phases [2]).chooseSlot true { s.nv with ignoreSrc := false }
        match c.2.1 with
        | some b => bootRest e b c.2.2 { s with nv := c.1.1, dev := c.1.2 }
        | none => { s with nv := c.1.1, dev := Dev.enterChrysalis 1 { c.1.2 with hif := { c.1.2.hif with readyMs := e.readyMs } } }
      else if sourceOf e s = 1 then
        let d := (romRuns e s.dev).phases [0xC]
        { s with dev := { d with
            hif := { d.hif with chrysalis := true, answers := true }
            fw := { d.fw with hostBoot := true, causes := 8, env := some e }
            sec := { d.sec with idKey := true } } }
      else { s with dev := Dev.enterChrysalis 0 { romRuns e s.dev with hif := { (romRuns e s.dev).hif with readyMs := e.readyMs } } } := by
  unfold boot
  dsimp only
  rw [if_neg (by simp [works]), quiet]
  dsimp only
  rw [if_pos still]
  rfl

/-- With no trial and a current slot that verifies, that slot boots. -/
theorem chooseSlot_current (count : Bool) {nv : Nv} {d : Dev} (trial : nv.trial = none) (boots : Dev.slotVerify nv d (nv.current == 1) = none) :
    Dev.chooseSlot count nv d = ((nv, d), some (nv.current == 1), []) := by
  unfold Dev.chooseSlot
  simp only [trial, Option.isSome_none, Bool.and_false, Bool.false_and, Bool.false_eq_true, if_false, Option.getD_none]
  rw [boots]

/-- What a slot's image is worth does not depend on the boot source nor on the BOOT_PHASE. -/
theorem slotVerify_romRuns (e : BootEnv) (nv : Nv) (d : Dev) (b : Bool) :
    Dev.slotVerify { nv with ignoreSrc := false } ((romRuns e d).phases [2]) b = Dev.slotVerify nv d b := by
  have same : Dev.slot { nv with ignoreSrc := false } ((romRuns e d).phases [2]) b = Dev.slot nv d b := by simp only [Dev.slot, Dev.phases_fw, romRuns]
  rw [Dev.slotVerify, same]
  rfl

/-- Flash boot of the current slot. -/
theorem boot_flash {e : BootEnv} {s : State} (works : e.romOk = true) (quiet : e.tamper = none) (still : s.dev.sec.firing = 0#4) (source : sourceOf e s = 0)
    (trial : s.nv.trial = none) (boots : Dev.slotVerify s.nv s.dev (s.nv.current == 1) = none) :
    s.boot e = bootRest e (s.nv.current == 1) [] { s with nv := { s.nv with ignoreSrc := false }, dev := (romRuns e s.dev).phases [2] } := by
  rw [boot_untampered works quiet still, if_pos source,
    chooseSlot_current (nv := { s.nv with ignoreSrc := false }) true trial ((slotVerify_romRuns ..).trans boots)]

/-! ### The host's image (R593, R604) -/

/-- The verified image of the host stands as slot A, and bring-up goes on from phase 0x2. -/
def imageStands (c : Cmd) (s : State) : State :=
  let img := slice s.dev.fw.buffer 0 (c.f 0 4)
  let d := (s.dev.complete c {}).phases [2]
  { s with
    nv := { s.nv with current := 0, trial := none, ignoreSrc := false }
    dev := { d with fw := { d.fw with
      hbA := { st := .good, fmt := Dev.imgFmt img, len := c.f 0 4, crc := c.f 4 4, image := img }, hbB := {}, buffer := [] } } }

theorem imageStands_slot {c : Cmd} {s : State} (host : s.dev.fw.hostBoot = true) :
    (Dev.slot (imageStands c s).nv (imageStands c s).dev false).image = slice s.dev.fw.buffer 0 (c.f 0 4) := by
  have completed : (s.dev.complete c {}).fw = s.dev.fw := (congrArg Dev.fw (Dev.complete_besideCompletion ..) :)
  simp [Dev.slot, imageStands, completed, host]

/-- FW_RECOVERY_BOOT, test by test. -/
theorem recoveryBoot_of_runs {s : State} {src : Src} {c : Cmd} (h : s.runs 0x0A12 src c) :
    let no (st : Status) : State := { s with dev := Dev.settle c (s.refusal st) }
    let a := slice s.nv.slotA.image 0 (c.f 0 4)
    let img := slice s.dev.fw.buffer 0 (c.f 0 4)
    s.recoveryBoot src =
      if s.dev.hif.chrysalis = false then no .notReady
      else if 1 < c.f 8 1 ∨ (c.f 8 1 = 1 ∧ s.dev.fw.hostBoot = false) then no .badArg
      else if c.f 8 1 = 0 then
        if s.dev.fw.recov.busy = true ∧ s.dev.fw.recov.smbus = true then no .refusedBusy
        else if s.nv.slotA.image.length < c.f 0 4 ∨ crc32c 0xFFFFFFFF a ≠ c.f 4 4 then no .verifyFailed
        else
          let p := Dev.recoverSlotA a s.nv s.dev
          { s with nv := p.1, dev := Dev.settle c (.done (p.2.flashPhase false) {}) }
      else if s.dev.fw.buffer.length < c.f 0 4 ∨ crc32c 0xFFFFFFFF img ≠ c.f 4 4 ∨ verifyImg s.nv img ≠ none ∨ slotShape (imgHeader img) = false then
        no .verifyFailed
      else match s.dev.fw.env with
        | none => no .notReady
        | some e =>
          let t := bootRest e false [] (imageStands c s)
          if t.dev.hif.up then { t with dev := t.dev.setCause 42 } else t := by
  obtain ⟨next, gate⟩ := h
  unfold recoveryBoot
  rw [next]
  dsimp only
  rw [gate]
  refine if_congr (by simp) rfl (if_congr (by simp) rfl (if_congr Iff.rfl rfl (if_congr (by simp [Option.isSome_iff_ne_none]) rfl ?_)))
  cases s.dev.fw.env <;> rfl

/-- The host's image in place of slot A: it is the current slot, and with two control channels it runs. -/
theorem imageStands_boots (e : BootEnv) (c : Cmd) {s : State} (host : s.dev.fw.hostBoot = true) :
    let t := bootRest e false [] (imageStands c s)
    let u : State := if t.dev.hif.up then { t with dev := t.dev.setCause 42 } else t
    u.nv.current = 0 ∧ u.nv.trial = none ∧
      ((e.chanPass.1 && e.chanPass.2.1 || e.chanPass.1 && e.chanPass.2.2 || e.chanPass.2.1 && e.chanPass.2.2) = true →
        u.dev.hif.up = true ∧ u.dev.hif.bootPhase = 0xB ∧ u.dev.hif.fwSlot = false ∧ u.dev.fw.image = slice s.dev.fw.buffer 0 (c.f 0 4)) := by
  intro t u
  obtain ⟨current, trial⟩ := bootRest_choice e false [] (imageStands c s)
  have nv : u.nv = t.nv := by dsimp only [u]; split <;> rfl
  have view : u.dev.bootView = t.dev.bootView := by
    dsimp only [u]
    split
    · exact Dev.setCause_bootView ..
    · rfl
  refine ⟨(congrArg Nv.current nv).trans current, (congrArg Nv.trial nv).trans trial, fun pass => ?_⟩
  obtain ⟨up, phase, -, slot, image⟩ := bootRest_ready false (imageStands c s) (two_channels pass)
  exact ⟨(congrArg (fun v => v.1.up) view :).trans up, (congrArg (fun v => v.1.bootPhase) view :).trans phase,
    (congrArg (fun v => v.1.fwSlot) view :).trans slot, (congrArg (fun v => v.2.image) view :).trans (image.trans (imageStands_slot host))⟩

end State
end Sys2Proof.Machine

namespace Sys2Proof
open Sys2Proof.Machine

/-- Settles O40: bring-up, the two resets and the recovery over the mailboxes and the SMBus. -/
theorem bootRowsComplete : Obligations.BootRowsComplete := by
  refine ⟨fun s e => ?bringUp, fun s => rfl, fun s => ?recoveryReset, fun s src chunk ok c h => ?write, fun s src c h => ?status,
    fun s src c h => ?boot, fun s len crc pec => ?smbBegin, fun s b pec => ?smbData, fun s pec => ?smbFinish, fun s => ?smbStatus⟩
  case bringUp =>
    refine ⟨_, rfl, State.bringUp_pending .., ?_⟩
    by_cases stays : e.railsValid = false ∨ s.dev.hif.up = true ∨ s.dev.hif.answers = true ∨ s.dev.hif.bootPhase ≠ 0
    · refine (if_pos stays).mpr ?_
      rw [State.bringUp, if_pos (by simpa [or_assoc] using stays)]
    · refine (if_neg stays).mpr ?_
      rw [State.bringUp, if_neg (by simpa [or_assoc] using stays)]
      have recovers (q : e.romOk = true ∧ e.tamper = none ∧ s.dev.sec.firing = 0#4) (other : State.sourceOf e s ≠ 0 ∧ State.sourceOf e s ≠ 1) :
          (s.boot e).nv = s.nv ∧ (s.boot e).dev.hif.chrysalis = true ∧ (s.boot e).dev.fw.hostBoot = false ∧ (s.boot e).dev.hif.bootPhase = 0xD := by
        obtain ⟨works, quiet, still⟩ := q
        rw [State.boot_untampered works quiet still, if_neg other.1, if_neg other.2]
        simp [Dev.enterChrysalis]
      refine ⟨fun fails => ?_, fun q host => ?_, fun q source => recovers q ?_, fun q source heeded => recovers q ?_, fun q source trial boots pass => ?_⟩
      · rw [State.boot_romFails s fails]
        obtain ⟨-, down, -⟩ := not_or.mp stays |>.imp_right not_or.mp
        simpa [Dev.halt, State.romRuns] using down
      · obtain ⟨works, quiet, still⟩ := q
        have source : State.sourceOf e s = 1 := by simp [State.sourceOf, host]
        rw [State.boot_untampered works quiet still, if_neg (by simp [source]), if_pos source]
        simp
      · simp [State.sourceOf, source]
      · simp [State.sourceOf, source, heeded]
      · obtain ⟨works, quiet, still⟩ := q
        have flash : State.sourceOf e s = 0 := by
          rcases source with source | ⟨source, ignored⟩
          · simp [State.sourceOf, source]
          · simp [State.sourceOf, source, ignored]
        rw [State.boot_flash works quiet still flash trial boots]
        obtain ⟨up, phase, ready, slot, -⟩ := State.bootRest_ready (e := e) (s.nv.current == 1) _ (State.two_channels pass)
        exact ⟨up, phase, ready, slot⟩
  case recoveryReset =>
    refine (congrArg Host.Outcome.next (show s.recoveryReset = if s.dev.fw.resetDue = none then s else s.deviceReset from ?_)).trans (apply_ite _ _ _ _)
    unfold State.recoveryReset
    cases s.dev.fw.resetDue <;> rfl
  case write =>
    refine (State.runNv_of_runs h).trans (congrArg Host.Outcome.next ?_)
    simp only [Dev.recoveryWrite, Dev.checkNv_cons, Dev.checkNv_nil, State.settleNv_ite]
    refine if_congr (by simp) rfl (if_congr (by simp [or_assoc]) rfl (if_congr (by simp [and_assoc]) rfl (if_congr (by simp) rfl (if_congr Iff.rfl rfl rfl))))
  case status =>
    refine replies_of_handler rfl h ?_
    simp [Dev.recoveryStatus, State.refusal]
  case boot =>
    have run : exec (.fwRecoveryBoot src) s = .next (s.recoveryBoot src) := rfl
    rw [run, State.recoveryBoot_of_runs h]
    refine ⟨fun running => ?_, fun chrysalis bad => ?_, fun chrysalis mode => ?_, fun chrysalis mode host absent => ?_, fun e chrysalis mode host image => ?_⟩
    · rw [if_pos running]
    · rw [if_neg (by simp [chrysalis]), if_pos bad]
    · rw [if_neg (by simp [chrysalis]), if_neg (by simp [mode]), if_pos mode]
      rfl
    · rw [if_neg (by simp [chrysalis]), if_neg (by simp [mode, host]), if_neg (by simp [mode]), absent]
      exact congrArg Host.Outcome.next (apply_ite (fun st => ({ s with dev := Dev.settle c (s.refusal st) } : State)) _ _ _).symm
    · have taken : ¬ (1 < c.f 8 1 ∨ (c.f 8 1 = 1 ∧ s.dev.fw.hostBoot = false)) := by simp [mode, host]
      have image1 : ¬ c.f 8 1 = 0 := by simp [mode]
      have answers : ¬ s.dev.hif.chrysalis = false := by simp [chrysalis]
      dsimp only
      rw [if_neg answers, if_neg taken, if_neg image1, image]
      dsimp only
      by_cases broken : s.dev.fw.buffer.length < c.f 0 4 ∨ crc32c 0xFFFFFFFF (slice s.dev.fw.buffer 0 (c.f 0 4)) ≠ c.f 4 4 ∨
          verifyImg s.nv (slice s.dev.fw.buffer 0 (c.f 0 4)) ≠ none ∨ slotShape (imgHeader (slice s.dev.fw.buffer 0 (c.f 0 4))) = false
      · rw [if_pos broken, if_pos broken]
      · rw [if_neg broken, if_neg broken]
        exact ⟨_, rfl, State.imageStands_boots e c host⟩
  case smbBegin =>
    refine congrArg Host.Outcome.next ?_
    dsimp only
    by_cases refused : s.dev.inChrysalis = false ∨ pec = false ∨ (s.dev.fw.recov.busy = true ∧ s.dev.fw.recov.smbus = false) ∨
        (Config.flashBytes - 8388608) / 2 < len
    · rw [if_pos refused, Dev.smbBegin, if_pos (by simpa [or_assoc] using refused)]
    · rw [if_neg refused, Dev.smbBegin, if_neg (by simpa [or_assoc] using refused)]
  case smbData =>
    refine congrArg Host.Outcome.next ?_
    dsimp only
    by_cases refused : s.dev.inChrysalis = false ∨ pec = false ∨ s.dev.fw.recov.busy = false ∨ s.dev.fw.recov.smbus = false ∨ b.length ≠ 32
    · rw [if_pos refused, Dev.smbData, if_pos (by simpa [or_assoc] using refused)]
    · rw [if_neg refused, Dev.smbData, if_neg (by simpa [or_assoc] using refused)]
  case smbFinish =>
    refine ⟨_, rfl, ?_⟩
    by_cases refused : s.dev.inChrysalis = false ∨ pec = false ∨ s.dev.fw.recov.busy = false ∨ s.dev.fw.recov.smbus = false
    · refine (if_pos refused).mpr ?_
      rw [Dev.smbFinish, if_pos (by simpa [or_assoc] using refused)]
    · refine (if_neg refused).mpr ?_
      by_cases broken : s.nv.slotA.image.length < s.dev.fw.recov.len ∨
          crc32c 0xFFFFFFFF (slice s.nv.slotA.image 0 s.dev.fw.recov.len) ≠ s.dev.fw.recov.crc
      · refine (if_pos broken).mpr ?_
        rw [Dev.smbFinish, if_neg (by simpa [or_assoc] using refused), if_pos broken]
        simp [Dev.setRecov]
      · refine (if_neg broken).mpr ?_
        rw [Dev.smbFinish, if_neg (by simpa [or_assoc] using refused), if_neg broken]
        simp [Dev.setRecov, Dev.recoverSlotA]
  case smbStatus =>
    exact onDev_devStep rfl rfl

end Sys2Proof
end
